-- ==== Sys2Proof/Word.lean ====
section
/-! DEFINITION. The plainest arithmetic of the model: bytes, bit fields of a register value held as a
natural number, two's complement, little-endian byte strings, and lists kept in one canonical form. -/

namespace Sys2Proof

/-- A byte of a buffer, a frame or a record. -/
abbrev Byte := BitVec 8

/-- A 32-bit word of the sequencers, the hash engine and the cipher key schedule. -/
abbrev Word32 := BitVec 32

/-- Sparse data by key: a list of (key, value) pairs with strictly rising keys. -/
abbrev Keyed (α : Type) := List (Nat × α)

/-- Bit `i` of a register value, as 0 or 1 (R11: `NAME[n]`). -/
def bitOf (v i : Nat) : Bool := v.testBit i

/-- The field `NAME[hi:lo]` of a register value (R11). -/
def fieldOf (v hi lo : Nat) : Nat := (v >>> lo) % 2 ^ (hi + 1 - lo)

/-- Round to nearest, ties away from zero. -/
def roundRat (q : Rat) : Int := if q < 0 then -((-q + 1 / 2).floor) else (q + 1 / 2).floor

/-- A truth value as a register bit. -/
def b2n (b : Bool) : Nat := if b then 1 else 0

/-- Set or clear bit `i` of a register value. -/
def putBit (v i : Nat) (b : Bool) : Nat :=
  if v.testBit i == b then v else if b then v + 2 ^ i else v - 2 ^ i

/-- Replace the field `[hi:lo]` of a register value. -/
def putField (v hi lo x : Nat) : Nat :=
  (v >>> (hi + 1)) <<< (hi + 1) + (x % 2 ^ (hi + 1 - lo)) <<< lo + v % 2 ^ lo

/-- The signed value of a `w`-bit two's-complement pattern (R12: I16, I32, I64). -/
def toInt (w v : Nat) : Int :=
  let m := v % 2 ^ w
  if m < 2 ^ (w - 1) then (m : Int) else (m : Int) - (2 ^ w : Nat)

/-- The `w`-bit two's-complement pattern of an integer. -/
def ofInt (w : Nat) (i : Int) : Nat := (i % ((2 ^ w : Nat) : Int)).toNat

/-- An integer held between two bounds. -/
def clampInt (lo hi x : Int) : Int := if x < lo then lo else if hi < x then hi else x

/-- `n` bytes of a value, least significant byte first (R50). -/
def leBytes : Nat → Nat → List Byte
  | 0, _ => []
  | n + 1, v => BitVec.ofNat 8 v :: leBytes n (v / 256)

/-- The value of a little-endian byte string (R50). -/
def ofLe : List Byte → Nat
  | [] => 0
  | b :: bs => b.toNat + 256 * ofLe bs

/-- `n` bytes of a value, most significant byte first. -/
def beBytes (n v : Nat) : List Byte := (leBytes n v).reverse

/-- The value of a big-endian byte string. -/
def ofBe (bs : List Byte) : Nat := ofLe bs.reverse

/-- A byte string cut or padded with zero bytes to `n` bytes. -/
def padTo (n : Nat) (bs : List Byte) : List Byte := bs.take n ++ List.replicate (n - bs.length) 0

/-- The ASCII bytes of a short text. -/
def asciiBytes (t : String) : List Byte := t.toList.map fun c => BitVec.ofNat 8 c.toNat

/-- Bytes `[lo, lo + n)` of a byte string. -/
def slice (lo n : Nat) (bs : List Byte) : List Byte := (bs.drop lo).take n

/-- Sequence number `a` is newer than `b` (R707). -/
def newerSeq (a b : Nat) : Bool :=
  let d := (a + 2 ^ 32 - b % 2 ^ 32) % 2 ^ 32
  1 ≤ d && d < 2 ^ 31

namespace Keyed

variable {α : Type}

/-- The value listed under a key, if any. -/
def find? (m : Keyed α) (k : Nat) : Option α :=
  match m with
  | [] => none
  | (j, v) :: t => if j = k then some v else find? t k

/-- List a value under a key, replacing what was listed and keeping the keys rising. -/
def insert (m : Keyed α) (k : Nat) (v : α) : Keyed α :=
  match m with
  | [] => [(k, v)]
  | (j, w) :: t =>
    if k < j then (k, v) :: (j, w) :: t
    else if j = k then (k, v) :: t
    else (j, w) :: insert t k v

/-- Take every entry of a key off the list. -/
def erase (m : Keyed α) (k : Nat) : Keyed α :=
  match m with
  | [] => []
  | (j, w) :: t => if j = k then erase t k else (j, w) :: erase t k

/-- The value under a key, `d` when none is listed. -/
def getD (m : Keyed α) (k : Nat) (d : α) : α := (find? m k).getD d

/-- Put a value under a key in canonical form: the value an unlisted key reads as is not listed. -/
def put [DecidableEq α] (m : Keyed α) (k : Nat) (v d : α) : Keyed α :=
  if v = d then erase m k else insert m k v

/-- The keys rise strictly and every key is at least `lo`. -/
def risingFrom (lo : Nat) (m : Keyed α) : Bool :=
  match m with
  | [] => true
  | (j, _) :: t => decide (lo ≤ j) && risingFrom (j + 1) t

/-- Canonical form: keys strictly rising, and no entry equal to what an unlisted key reads as. -/
def canonical [DecidableEq α] (m : Keyed α) (d : α) : Bool :=
  risingFrom 0 m && m.all fun p => decide (p.2 ≠ d)

end Keyed

/-- Replace element `i` of a list by its image; a list too short is left alone. -/
def modifyAt {α : Type} (l : List α) (i : Nat) (f : α → α) : List α :=
  match l, i with
  | [], _ => []
  | x :: t, 0 => f x :: t
  | x :: t, i + 1 => x :: modifyAt t i f

/-- Set `n`-element vectors at an index through a function. -/
def vmod {α : Type} {n : Nat} (v : Vector α n) (i : Fin n) (f : α → α) : Vector α n :=
  v.set i (f v[i])

/-- The elements of a list below `n` for which a test holds. -/
def below (n : Nat) (p : Nat → Bool) : List Nat := (List.range n).filter p

end Sys2Proof
end

