-- ==== Sys2Proof/Syntax.lean ====
section
/-! DEFINITION. The commands of the KRY-C48 set, one constructor for each row of the operation table, with the
operands that say what the host, a peer, a part or the environment presents at that step. -/

namespace Sys2Proof

/-- A crib: 0 the operator, 1 to 32 the tenants; also the number of a function, 0 the PF (R143). -/
abbrev Crib := Fin 33

/-- A drive or front end (R16). -/
abbrev Drive := Fin 16

/-- A stage (R16). -/
abbrev Stage := Fin 5

/-- A stepper or carousel axis (R357). -/
abbrev Axis := Fin 20

/-- A spindle, or the carousel as motor 16. -/
abbrev Motor := Fin 17

/-- Where a command comes from: submission queue `qid` of function `fn` (0 the admin queue), or an NVMe/TCP
connection (R416, R460). -/
inductive IoQueue where
  | sq (fn : Crib) (qid : Nat)
  | conn (k : Nat)
  deriving DecidableEq, Repr

/-- The fields of a submission-queue entry or capsule that every command has: command identifier, namespace,
FUSE, PSDT, PRINFO, whether a reserved field is set, and whether a PRP entry has an offset that R440 refuses. -/
structure IoHdr where
  cid : Nat
  nsid : Nat
  fuse : Nat
  psdt : Nat
  prinfo : Nat
  reserved : Bool
  prpBad : Bool
  deriving DecidableEq, Repr

/-- One range of a Dataset Management command (R431): sequential-read attribute, access frequency, first block
and number of blocks. -/
structure DsmRange where
  sr : Bool
  freq : Nat
  slba : Nat
  nlb : Nat
  deriving DecidableEq, Repr

/-- The I/O commands of R413 with what each carries. Block counts are numbers of blocks, from 1. `data` is what
the host's memory holds for a write or a job; none where the data comes later, in H2CData PDUs. `rest0` says that NSID
and CDW11 to CDW15 are 0 (R550). -/
inductive IoOp where
  | flush
  | write (slba nlb : Nat) (data : Option (List Byte))
  | read (slba nlb : Nat) (lr : Bool)
  | dsm (ad : Bool) (ranges : List DsmRange)
  | zoneClose (slba : Nat) (all : Bool)
  | zoneFinish (slba : Nat) (all : Bool)
  | zoneOpen (slba : Nat) (all : Bool)
  | zoneReset (slba : Nat) (all : Bool)
  | zoneReceive (slba action option_ : Nat) (partial_ : Bool) (bytes : Nat)
  | append (zslba nlb : Nat) (data : Option (List Byte))
  | job (cdw10 : Nat) (rest0 : Bool) (data : Option (List Byte))
  | warm (lba state : Nat)
  | release (lba : Nat)
  | locate (lba : Nat)
  | invalid (opcode : Nat)
  deriving DecidableEq, Repr

/-- What the front end finds in one slot that the controller reads for itself: nothing recorded, a sheaf that
does not decode, or a sheaf with its 128 metadata bytes and its user area (R318, R322, R324). -/
inductive SlotRead where
  | blank
  | undecodable
  | sheaf (metadata user : List Byte)
  deriving DecidableEq, Repr

/-- One copy of a Class-A cell as received, with its A_CRC (R185, R362). -/
structure CellCopy where
  bytes : List Byte
  crc : Nat
  deriving DecidableEq, Repr

/-- What holds the line or word in which a memory error is found (R533): a Shelf slot, a Hayloft position, the staging or
Sideboard entry of a command's queue and identifier, a landing buffer of a drive's read, a Granary address, nothing, the
controller's own DRAM region with whether its other copy is lost too, or another SRAM word with its owner. -/
inductive MemPlace where
  | shelf (slot : Nat)
  | hay (line : Nat)
  | staging (q : IoQueue) (cid : Nat)
  | landing (n : Drive)
  | granary (addr : Nat)
  | unallocated
  | own (both : Bool)
  | sram (owner : Option (IoQueue × Nat))
  deriving DecidableEq, Repr

/-- One line as it is read from DRAM, or one SRAM word: the bytes with their check bytes, whether the reread after the correction
shows the same error again, whether another write came between, its address, and what holds it (R526, R531, R533, R537, R538). -/
structure MemRead where
  bytes : List Byte
  again : Bool
  overtaken : Bool
  addr : Nat
  place : MemPlace
  deriving DecidableEq, Repr

/-- A demand access to DRAM: the crib of the access, rank, bank, row and first column of the pair. -/
structure DemandAt where
  crib : Nat
  rank : Fin 2
  bank : Fin 32
  row : Nat
  col : Nat
  deriving DecidableEq, Repr

/-- A frame of the Mehrup Object Protocol as a CAN FD controller receives it: the bus, the fields of its identifier but SERVICE, the
fields of its control byte but KIND, and the bytes after the control byte (R90, R92 to R94). -/
structure MopFrame where
  bus : Fin 2
  prio : Fin 32
  source : Nat
  dest : Nat
  session : Fin 16
  toggle : Bool
  last : Bool
  body : List Byte
  deriving DecidableEq, Repr

/-- The commands of the block: one constructor for each row of the operation table, in the table's order. -/
inductive Instr where
  /-- COLD_START (R108): Logic power is applied and everything restarts from the boot ROM, with every part held in reset. -/
  | coldStart (flash : List (Fin 2 × List Byte)) (torn : List Nat) (lifeTorn : Bool)
  /-- LOGIC_POWER_LOSS (R107): Loss of the logic supply takes the device to Off from any state. -/
  | logicPowerLoss
  /-- FIRMWARE_START (R114): The boot ROM starts the VALID slot with the higher IMAGE_SEQ; firmware scans the Chest and trains DRAM. -/
  | firmwareStart (trained : Bool) (chestBad : Bool)
  /-- BOOT_TIMEOUT (R115): Firmware has not ended Booting within 10 s, so the boot ROM marks the slot and restarts from step 2. -/
  | bootTimeout
  /-- BOOT_NOIMG_LINE (R116): With no VALID slot, SP0 transmits the line KRY-C48 BOOT NOIMG once per second. -/
  | bootNoimgLine
  /-- BOOTING_END (R109): Configuration validated and applied, Booting ends and the device enters Starting or Held. -/
  | bootingEnd
  /-- STARTING_END (R110): Every declared axis is positioned, Starting ends and the device enters Serving. -/
  | startingEnd
  /-- PART_IDENTITY_WORD (R28): A front end or stage released from reset sends its identity word, which is checked against its expected value. -/
  | partIdentityWord (part : Fin 21) (word : Nat)
  /-- PART_IDENTITY_TIMEOUT (R28): No identity word arrived within 50 ms of reset release, so the part is treated as absent. -/
  | partIdentityTimeout (part : Fin 21)
  /-- PFW_N_LOW (R685): PFW_N is accepted low and the power-fail sequence starts. -/
  | pfwNLow
  /-- PFW_N_HIGH (R688): PFW_N is accepted high and the controller resumes once the sequence step 9 has ended. -/
  | pfwNHigh
  /-- PF_SEQUENCE_END (R685): Step 9 of the power-fail sequence ends at 8 ms and PF_STATE becomes DONE. -/
  | pfSequenceEnd
  /-- ESTOP_N_LOW (R42): ESTOP_N is accepted low; every axis goes on its stop ramp and INTERLOCK_STATE[8] is latched. -/
  | estopNLow
  /-- ESTOP_N_HIGH (R40): ESTOP_N is accepted high and INTERLOCK_STATE[1] clears while the latch stays. -/
  | estopNHigh
  /-- DOOR_CLOSED_LOW (R43): DOOR_CLOSED is accepted low; the picker axes stop and INTERLOCK_STATE[9] is latched. -/
  | doorClosedLow
  /-- DOOR_CLOSED_HIGH (R40): DOOR_CLOSED is accepted high after 10 ms of stability and INTERLOCK_STATE[2] clears. -/
  | doorClosedHigh
  /-- INTERLOCK_ACK (R45): A write clears the ESTOP or door latch when its release condition holds. -/
  | interlockAck (who : Crib) (v : Nat)
  /-- WINDOW_READ (R80): A window slot READ returns the object value and sets DONE. -/
  | windowRead (k : Fin 8) (addr : Nat) (offset : Nat) (view : Bool) (rsv : Bool)
  /-- WINDOW_WRITE (R55): A window slot WRITE writes an object under its access code. -/
  | windowWrite (k : Fin 8) (addr : Nat) (offset : Nat) (length : Nat) (data : List Byte) (rsv : Bool) (rxBusy : BitVec 4)
  /-- WINDOW_DESCRIBE (R52): A window slot DESCRIBE returns the 32-byte descriptor of an object. -/
  | windowDescribe (k : Fin 8) (addr : Nat) (rsv : Bool)
  /-- WINDOW_NEXT (R53): A window slot NEXT returns the next visible object address word. -/
  | windowNext (k : Fin 8) (addr : Nat) (rsv : Bool)
  /-- WINDOW_UNKNOWN_OP (R78): A slot request with an undefined OP is answered UNKNOWN_SERVICE. -/
  | windowUnknownOp (k : Fin 8) (op : Fin 4) (rsv : Bool)
  /-- SLOT_WRITE_WHILE_BUSY (R81): A write to a running slot is ignored and counted in ODW_VIOL_CNT. -/
  | slotWriteWhileBusy (k : Fin 8) (data : List Byte)
  /-- OBJECT_READ (R60): Admin command 0xC1 reads an object as the crib of the function. -/
  | objectRead (q : IoQueue) (hdr : IoHdr) (addr : Nat) (offset : Nat) (length : Nat) (view : Bool)
  /-- OBJECT_WRITE (R60): Admin command 0xC2 writes an object as the crib of the function. -/
  | objectWrite (q : IoQueue) (hdr : IoHdr) (addr : Nat) (offset : Nat) (length : Nat) (data : List Byte) (rxBusy : BitVec 4)
  /-- PLAIN_OBJECT_WRITE (R55): A write to an object with no behaviour of its own takes effect or is refused by its access code. -/
  | plainObjectWrite (who : Crib) (addr : Nat) (data : List Byte) (rxBusy : BitVec 4)
  /-- PENDING_CLEAR (R65): A write of 1 empties the pending set. -/
  | pendingClear (who : Crib) (v : Nat)
  /-- COMMIT (R69): A write of the pending-set CRC starts a commit that validates the set. -/
  | commit (who : Crib) (crc : Nat)
  /-- COMMIT_STORE_DONE (R71): The merged image has been stored and read back; the pointer record is written and the image applied. -/
  | commitStoreDone (same : Bool) (rxBusy : BitVec 4)
  /-- MOP_READ_INITIATE (R98): A MOP READ initiate is answered expedited or opens a segmented read. -/
  | mopReadInitiate (f : MopFrame)
  /-- MOP_WRITE_INITIATE (R97): A MOP WRITE initiate writes an expedited value or opens a segmented write. -/
  | mopWriteInitiate (f : MopFrame) (rxBusy : BitVec 4)
  /-- MOP_DESCRIBE (R96): A MOP DESCRIBE initiate returns an object descriptor. -/
  | mopDescribe (f : MopFrame)
  /-- MOP_NEXT (R96): A MOP NEXT initiate returns the next visible address word. -/
  | mopNext (f : MopFrame)
  /-- MOP_UNKNOWN_SERVICE (R95): A frame with an unlisted SERVICE is answered UNKNOWN_SERVICE and counted. -/
  | mopUnknownService (f : MopFrame) (kind : Fin 4) (service : Nat)
  /-- MOP_WRITE_SEGMENT (R97): A write segment is accepted, echoed, and on LAST checked and applied. -/
  | mopWriteSegment (f : MopFrame) (rxBusy : BitVec 4)
  /-- MOP_READ_SEGMENT_REQUEST (R98): A read-segment request is answered with the next segment of the value. -/
  | mopReadSegmentRequest (f : MopFrame)
  /-- MOP_CLIENT_ABORT (R104): An abort frame from the client closes its session without answer. -/
  | mopClientAbort (f : MopFrame) (service : Fin 4)
  /-- MOP_SEG_TIMEOUT (R103): MOP_SEG_TIMEOUT passes without a client frame; the session is aborted and closed. -/
  | mopSegTimeout (bus : Fin 2) (source : Nat) (session : Fin 16)
  /-- MOP_CLASSIC_FRAME (R86): A classic CAN frame addressed to the node is ignored and counted. -/
  | mopClassicFrame (bus : Fin 2) (source : Nat) (dest : Nat) (data : List Byte)
  /-- MOP_BUS_OFF (R89): A CAN FD controller goes bus-off, recovers by itself and counts the event. -/
  | mopBusOff (bus : Fin 2)
  /-- FW_LOAD_ERASE (R117): FW_LOAD_CTRL ERASE erases the load slot and resets FW_LOAD_ADDR. -/
  | fwLoadErase (who : Crib)
  /-- FW_ERASE_DONE (R119): The load slot is fully erased and FW_LOAD_STATE becomes WRITING. -/
  | fwEraseDone
  /-- FW_LOAD_DATA (R118): A write programs its bytes at FW_LOAD_ADDR and advances it. -/
  | fwLoadData (who : Crib) (data : List Byte)
  /-- FW_LOAD_CHECK (R117): FW_LOAD_CTRL CHECK runs the slot checks on the load slot. -/
  | fwLoadCheck (who : Crib)
  /-- FW_CHECK_DONE (R117): The load-slot checks end and FW_LOAD_STATE becomes VALID or INVALID. -/
  | fwCheckDone
  /-- FW_FLOOR_RAISE (R120): A write of the key value raises FW_FLOOR to the running SEC_VER. -/
  | fwFloorRaise (who : Crib) (v : Nat)
  /-- HOLD_REQUEST (R129): A write sets HOLD_REASON[5] and starts Draining from Serving. -/
  | holdRequest (who : Crib) (v : Nat)
  /-- DRAIN_START_DEFERRED (R130): A held-back drain starts once the running commit leaves VALIDATING, STORING and APPLYING. -/
  | drainStartDeferred
  /-- DRAIN_COMPLETE (R131): Every admitted command has completed, so Draining ends in Held or Booting. -/
  | drainComplete
  /-- DRAIN_TIMEOUT (R132): DRAIN_TIMEOUT expires with commands outstanding; they complete with Command Interrupted. -/
  | drainTimeout
  /-- HOLD_RELEASE (R134): A write clears HOLD_REASON[5], revalidates if needed and may enter Starting. -/
  | holdRelease (who : Crib) (v : Nat)
  /-- WARM_RESTART (R136): A write of the key value orders a Warm restart, draining first from Serving. -/
  | warmRestart (who : Crib) (v : Nat)
  /-- CRIB_RESET (R173): A write of 1 by crib 0 starts a Crib reset. -/
  | cribReset (who : Crib) (c : Crib)
  /-- VF_FUNCTION_LEVEL_RESET (R404): A function-level reset of VF k starts a Crib reset of crib k. -/
  | vfFunctionLevelReset (f : Crib)
  /-- PF_FUNCTION_LEVEL_RESET (R404): A PF function-level reset resets the PF NVMe controller and clears the window slots. -/
  | pfFunctionLevelReset
  /-- CRIB_RESET_COMPLETE (R174): Sheaf operations have finished; keys, lines, window and queues are cleared and the reset ends. -/
  | cribResetComplete (c : Crib)
  /-- GENERATE (R154): NS_KEY_CTRL GENERATE draws a new namespace secret and writes its record. -/
  | generate (who : Crib) (n : Fin 256)
  /-- LOAD (R154): NS_KEY_CTRL LOAD takes the secret from NS_KEY_DATA and writes its record. -/
  | load (who : Crib) (n : Fin 256)
  /-- DESTROY (R154): NS_KEY_CTRL DESTROY writes the record as DESTROYED with zeroed key. -/
  | destroy (who : Crib) (n : Fin 256)
  /-- KEY_RECORD_READ_BACK (R155): The key record reads back correctly and the key operation takes effect. -/
  | keyRecordReadBack (n : Fin 256) (ok : Bool)
  /-- SUPERFRAME_SEND (R184): The controller starts downstream superframe k of every Giperlink with loop outputs and events. -/
  | superframeSend
  /-- UPSTREAM_A_CELL (R188): An upstream A-cell is received and the loops of that drive are computed from it. -/
  | upstreamACell (n : Drive) (status : Nat) (ack : Nat) (first : CellCopy) (second : CellCopy)
  /-- UPSTREAM_A_CELL_MISSED (R221): An upstream A-cell is missed; loops are held and retrain triggers are checked. -/
  | upstreamACellMissed (n : Drive)
  /-- BULK_CELL (R189): A bulk cell arrives; its CRC is checked, acknowledged and its payload used. -/
  | bulkCell (link : Fin 21) (down : Bool) (slot : Fin 8) (cell : List Byte)
  /-- BULK_CELL_RESEND_EXHAUSTED (R190): A cell unacknowledged after three resends abandons the read or postpones the write. -/
  | bulkCellResendExhausted (n : Drive) (readData : Bool)
  /-- WOBBLE_LOCK (R192): Focus and tracking closed with the wobble PLL locked, the angle becomes WOBBLE. -/
  | wobbleLock (n : Drive)
  /-- ANGLE_EVENT_EXECUTE (R195): A front end executes an angle event when its counter reaches EVT_SAU in EVT_REV. -/
  | angleEventExecute (n : Drive) (id : Nat)
  /-- EVT_LATE (R196): A late event is discarded and the operation is rescheduled one revolution later. -/
  | evtLate (n : Drive) (id : Nat)
  /-- FOCUS_ACQUISITION (R199): Once the spindle meets its speed condition, a focus sweep starts toward the target layer. -/
  | focusAcquisition (n : Drive)
  /-- LAYER_JUMP (R200): Focus moves by one layer with a kick, coast and brake. -/
  | layerJump (n : Drive)
  /-- LAYER_JUMP_TIMEOUT (R200): Focus has not closed within LAYER_JUMP_WINDOW, so full acquisition runs. -/
  | layerJumpTimeout (n : Drive)
  /-- TRACKING_PULL_IN (R202): The tracking loop closes at a zero crossing when the crossing rate is low enough. -/
  | trackingPullIn (n : Drive)
  /-- TRACK_PULL_IN_TIMEOUT (R202): Pull-in has not succeeded within 4 revolutions, so tracking loss of lock is declared. -/
  | trackPullInTimeout (n : Drive)
  /-- LAND_GROOVE_SWITCH (R203): At the switching angle the tracking sign is inverted and the loop held briefly. -/
  | landGrooveSwitch (n : Drive)
  /-- FINE_SEEK (R205): A short seek counts track crossings to the target and checks the address. -/
  | fineSeek (n : Drive)
  /-- LONG_SEEK (R206): A long seek moves the sled by a profile and finishes with a fine seek. -/
  | longSeek (n : Drive)
  /-- SEEK_END (R207): The address after a seek is checked; another fine seek or seek loss follows on mismatch. -/
  | seekEnd (n : Drive) (word : Nat)
  /-- DEFECT_HOLD_MAX_EXPIRY (R212): A hold reaches DEFECT_HOLD_MAX and tracking loss of lock is declared. -/
  | defectHoldMaxExpiry (n : Drive)
  /-- DRIVE_RESET (R218): A write of 1 starts a Drive reset and clears DRIVE_FAULT. -/
  | driveReset (n : Drive)
  /-- DRIVE_FAULT_TIMEOUT (R219): Operations waiting for a faulted drive fail after DRIVE_FAULT_TIMEOUT. -/
  | driveFaultTimeout (who : Option Drive)
  /-- SELF_SAFE (R220): A front end misses six downstream A-cells and enters SELF_SAFE. -/
  | selfSafe (n : Drive)
  /-- GIPERLINK_ALIGNED (R222): A retrain restores alignment in both directions. -/
  | giperlinkAligned (n : Drive)
  /-- GIPERLINK_RETRAIN_TIMEOUT (R222): A retrain fails after 20 ms and a Front-end reset follows. -/
  | giperlinkRetrainTimeout (n : Drive)
  /-- FE_RESET (R222): A write of 1 starts a Front-end reset, holding FE_RST_N low. -/
  | feReset (n : Drive)
  /-- FE_RESET_RELEASE (R222): After 1 ms FE_RST_N is released and the link trained. -/
  | feResetRelease (n : Drive)
  /-- MOTION_TICK_SEND (R224): The controller sends downstream tick k of every stage link with bridge commands. -/
  | motionTickSend
  /-- STAGE_UPSTREAM_TICK (R225): A stage's upstream A-cell is received with currents, voltages, positions and latches. -/
  | stageUpstreamTick (g : Stage) (status : Nat) (ack : Nat) (cell : CellCopy)
  /-- HFI_ALIGN_DONE (R231): After HFI_SETTLE ticks of ALIGN, the SIGN pulses begin. -/
  | hfiAlignDone (n : Drive)
  /-- HFI_SIGN_DECISION (R231): The sign ratio is judged; the spindle enters INJECT_RUN, repeats, or faults. -/
  | hfiSignDecision (n : Drive) (plus : Nat) (minus : Nat)
  /-- VOLTAGE_LIMIT_SET (R243): MOD_INDEX at the limit for VLIM_TICKS sets VLIM and raises the event. -/
  | voltageLimitSet (m : Motor)
  /-- VOLTAGE_LIMIT_CLEAR (R243): MOD_INDEX below 980 for VLIM_TICKS clears VLIM. -/
  | voltageLimitClear (m : Motor)
  /-- SPIN_SETTLED (R244): VLIM held 100 ms with steady speed sets SPIN_TARGET to the measured speed. -/
  | spinSettled (n : Drive)
  /-- SPIN_BRAKE (R245): To stop a spindle the controller enters BRAKING and lowers the target. -/
  | spinBrake (n : Drive)
  /-- SPIN_STOPPED (R246): Below 20 rpm for 200 ms the spindle enters STOPPED and the drive D3. -/
  | spinStopped (n : Drive)
  /-- SPIN_STOP_TIMEOUT (R247): The spindle has not stopped within SPIN_STOP_TIMEOUT and is faulted. -/
  | spinStopTimeout (n : Drive)
  /-- SPIN_START_TIMEOUT (R256): 240 rpm not reached within SPIN_START_TIMEOUT, the spindle faults. -/
  | spinStartTimeout (n : Drive)
  /-- BRAKE_REVERSE (R248): Work given while braking reverses the braking in the next tick. -/
  | brakeReverse (n : Drive)
  /-- OVERCURRENT (R227): A phase current exceeds its trip, the bridge goes high-impedance and the spindle faults. -/
  | overcurrent (m : Motor)
  /-- RESOLVER_FAULT (R254): RES_AMPL out of range for 3 ticks stops the carousel open-loop and faults it. -/
  | resolverFault
  /-- ACQ_FAIL (R271): No lock by bit 1,280 closes the gate and sends an ACQ_FAIL summary. -/
  | acqFail (n : Drive)
  /-- READ_FIFO_OVERRUN (R282): The read FIFO would overflow, demodulation stops and OVERRUN is reported. -/
  | readFifoOverrun (n : Drive)
  /-- READ_DATA_CELL (R280): A READ_DATA cell with coded bytes and chaff flags is received. -/
  | readDataCell (n : Drive) (payload : List Byte)
  /-- READ_SUMMARY (R291): A read summary message is received and the read-channel counters updated. -/
  | readSummary (n : Drive) (payload : List Byte)
  /-- READ_GATE_ABORT (R293): EVT_FLUSH or SELF_SAFE closes an open read gate with STATUS ABORTED. -/
  | readGateAbort (n : Drive)
  /-- LASER_FAULT (R263): The front end detects a laser fault, turns the laser off and reports it. -/
  | laserFault (n : Drive)
  /-- SHEAF_DECODE (R318): A read sheaf is decoded by the inner and outer codes and judged correctable or not. -/
  | sheafDecode (n : Drive)
  /-- STOOK_SOLVE (R335): Once k members have decoded, the lost user area is rebuilt on the field engines. -/
  | stookSolve (f : Nat) (z : Nat) (q : Nat) (disc : Nat)
  /-- STOOK_REBUILD_FAIL (R335): Ranked members run out before k decode and the read fails. -/
  | stookRebuildFail (f : Nat) (z : Nat) (q : Nat) (disc : Nat)
  /-- STOOK_PARITY_WRITE (R334): Every data member's sheaf is ready, so the stook parity is written as class-D work. -/
  | stookParityWrite (f : Nat) (z : Nat) (q : Nat)
  /-- DISC_RECOGNITION (R322): After a load the disc information copies are read and MEDIA_STATE set. -/
  | discRecognition (n : Drive) (disc : List (Nat × SlotRead))
  /-- SHEAF_VERIFY (R326): A written sheaf is read on the next revolution and judged verified or not. -/
  | sheafVerify (n : Drive)
  /-- DARK_OFFSET_DONE (R339): After 1.1 ms with the laser off the front end stores its ADC dark offsets. -/
  | darkOffsetDone (n : Drive) (fe : Int) (te : Int) (sum : Int)
  /-- CAL_SWEEP (R342): A calibration sweep drives focus through the layers without closing. -/
  | calSweep (n : Drive)
  /-- CAL_SWEEP_DONE (R343): The sweep ends and per-layer focus offsets and trims are stored. -/
  | calSweepDone (n : Drive)
  /-- TRACKING_BALANCE (R344): Tracking is held open for CAL_TE_REVS revolutions to record TE peaks. -/
  | trackingBalance (n : Drive)
  /-- TRACKING_BALANCE_DONE (R345): The tracking offset and trim are computed and stored. -/
  | trackingBalanceDone (n : Drive)
  /-- EQ_CALIBRATION (R346): The equaliser calibration starts reading disc information slots. -/
  | eqCalibration (n : Drive)
  /-- EQ_CALIBRATION_DONE (R346): The last gate ends and EQ_TAPS_INIT is updated or CAL_FLAGS[2] set. -/
  | eqCalibrationDone (n : Drive)
  /-- SERVO (R354): CAL_REQUEST bit SERVO requests a calibration sweep and tracking balance. -/
  | servo (n : Drive)
  /-- EQ (R354): CAL_REQUEST bit EQ requests the equaliser calibration. -/
  | eq (n : Drive)
  /-- WPWR (R354): CAL_REQUEST bit WPWR returns write power to WRITE_PWR_INIT. -/
  | wpwr (n : Drive)
  /-- CAL_REQUEST_START (R354): The operation on the drive has ended and the pending calibrations run. -/
  | calRequestStart (n : Drive)
  /-- MOVE_START (R367): A move computes its profile and sends positions each tick. -/
  | moveStart (a : Axis)
  /-- MOT_HALT (R375): A write of 1 stops the axis on its profile stop. -/
  | motHalt (a : Axis)
  /-- STALL (R374): A stage declares a stall; the position is marked lost and recovery follows. -/
  | stall (a : Axis)
  /-- LIMIT_STOP (R379): A limit input stops the stepper, and outside homing the move ends as an axis fault. -/
  | limitStop (a : Axis)
  /-- SWITCH_LATCH (R378): A latch record is received and the last latch of the input stored. -/
  | switchLatch (g : Stage) (input : Fin 8) (rising : Bool) (tick : Nat) (sub : Nat) (pos : Int)
  /-- HOMING (R381): An axis is homed by moving to and off its home switch edge. -/
  | homing (a : Axis)
  /-- HOMING_FAIL (R381): A homing step travels beyond MOT_HOME_RANGE without its edge. -/
  | homingFail (a : Axis)
  /-- CAROUSEL_HOMING (R383): The carousel turns until an index edge sets CAR_HOME_OFS. -/
  | carouselHoming
  /-- BRIDGE_POWER_DOWN (R386): Steppers at rest, PWR_DOWN stores indices and RETAINED records are written. -/
  | bridgePowerDown (g : Stage)
  /-- RE_ENERGISE (R387): A stepper is energised at its retained index or homed if it differs. -/
  | reEnergise (a : Axis) (ustep : Option Nat)
  /-- VBUS_LOSS (R388): VBUS below 30 V makes a stage cut coil currents and lose positions. -/
  | vbusLoss (g : Stage)
  /-- LINK_HOLD (R388): Two missed downstream A-cells make a stage stop its steppers. -/
  | linkHold (g : Stage)
  /-- LINK_LOST (R388): 800 missed downstream A-cells make a stage cut its coils. -/
  | linkLost (g : Stage)
  /-- STAGE_A_CELL_MISSED (R390): An upstream stage A-cell is missed; loops held and retrain triggers checked. -/
  | stageACellMissed (g : Stage)
  /-- STAGE_RETRAIN_TIMEOUT (R391): A stage retrain fails after 20 ms and a Stage reset follows. -/
  | stageRetrainTimeout (g : Stage)
  /-- STAGE_RESET (R391): A write of 1 makes an orderly Stage reset. -/
  | stageReset (g : Stage)
  /-- STAGE_RESET_RELEASE (R391): After 1 ms STG_RST_N is released and the link trained. -/
  | stageResetRelease (g : Stage)
  /-- PICKER_SEQUENCE_START (R392): With the picker free, the next request is chosen and its sequence started. -/
  | pickerSequenceStart
  /-- PICKER_STEP_DONE (R393): A picker step's moves end and the next step of the load or unload begins. -/
  | pickerStepDone
  /-- PICK_RESET (R395): A write of 1 homes the picker and clears its fault. -/
  | pickReset
  /-- PICK_PLACE (R397): A write places an orphan disc in a declared empty slot. -/
  | pickPlace (d : Nat)
  /-- CC_EN_CLEAR (R406): CC.EN going from 1 to 0 resets the function's controller or crib. -/
  | ccEnClear (f : Crib)
  /-- CC_SHN (R407): A shutdown request stops fetching and reports done when commands complete. -/
  | ccShn (f : Crib) (shn : Nat)
  /-- DELETE_IO_SQ (R409): Admin command deletes an I/O submission queue. -/
  | deleteIoSq (q : IoQueue) (hdr : IoHdr) (qid : Nat)
  /-- DELETE_IO_CQ (R409): Admin command deletes an I/O completion queue. -/
  | deleteIoCq (q : IoQueue) (hdr : IoHdr) (qid : Nat)
  /-- CREATE_IO_SQ (R416): Admin command creates an I/O submission queue from the pool. -/
  | createIoSq (q : IoQueue) (hdr : IoHdr) (qid : Nat) (size : Nat) (cqid : Nat) (prio : Nat) (pc : Bool)
  /-- CREATE_IO_CQ (R416): Admin command creates an I/O completion queue from the pool. -/
  | createIoCq (q : IoQueue) (hdr : IoHdr) (qid : Nat) (size : Nat) (vec : Nat) (ien : Bool) (pc : Bool)
  /-- GET_LOG_PAGE (R411): Admin command returns a supported log page. -/
  | getLogPage (q : IoQueue) (hdr : IoHdr) (lid : Nat) (bytes : Nat) (offset : Nat)
  /-- IDENTIFY (R410): Admin command returns an Identify structure. -/
  | identify (q : IoQueue) (hdr : IoHdr) (cns : Nat) (csi : Nat)
  /-- ABORT (R420): Admin command aborts a named command if not yet started. -/
  | abort (q : IoQueue) (hdr : IoHdr) (qid : Nat) (cid : Nat)
  /-- SET_FEATURES (R412): Admin command sets a supported feature. -/
  | setFeatures (q : IoQueue) (hdr : IoHdr) (fid : Nat) (value : Nat) (save : Bool)
  /-- GET_FEATURES (R412): Admin command returns a supported feature. -/
  | getFeatures (q : IoQueue) (hdr : IoHdr) (fid : Nat) (sel : Nat)
  /-- ASYNCHRONOUS_EVENT_REQUEST (R409): Admin command waits to report an asynchronous event of the crib. -/
  | asynchronousEventRequest (q : IoQueue) (hdr : IoHdr)
  /-- NAMESPACE_CREATE (R422): Namespace Management create reserves disc zones and generates a key. -/
  | namespaceCreate (q : IoQueue) (hdr : IoHdr) (csi : Nat) (flbas : Nat) (nsze : Nat) (ncap : Nat) (media : Nat) (stookOnly : Nat)
  /-- NAMESPACE_DELETE (R424): Namespace Management delete spends or frees zones and destroys the key. -/
  | namespaceDelete (q : IoQueue) (hdr : IoHdr)
  /-- NAMESPACE_ATTACHMENT (R409): Admin command attaches a namespace to one function. -/
  | namespaceAttachment (q : IoQueue) (hdr : IoHdr) (attach : Bool) (fns : List Crib)
  /-- KEEP_ALIVE (R441): Admin command restarts the keep-alive timer. -/
  | keepAlive (q : IoQueue) (hdr : IoHdr)
  /-- KEEP_ALIVE_EXPIRY (R441): The keep-alive timer expires; CSTS.CFS is set and fetching stops. -/
  | keepAliveExpiry (f : Crib)
  /-- FORMAT_NVM (R475): Admin command formats the named namespaces under its SES. -/
  | formatNvm (q : IoQueue) (hdr : IoHdr) (lbaf : Nat) (mset : Nat) (pi : Nat) (pil : Nat) (ses : Nat)
  /-- EXIT_FAILURE_MODE (R483): Sanitize action clears the failed state of an AUSE Sanitize. -/
  | exitFailureMode (q : IoQueue) (hdr : IoHdr) (ndas : Bool)
  /-- BLOCK_ERASE (R483): Sanitize action erases every namespace by key destruction and erase. -/
  | blockErase (q : IoQueue) (hdr : IoHdr) (ndas : Bool) (ause : Bool) (cdw10 : Nat)
  /-- OVERWRITE (R483): Sanitize Overwrite completes with Invalid Field in Command. -/
  | overwrite (q : IoQueue) (hdr : IoHdr) (ndas : Bool)
  /-- CRYPTO_ERASE (R483): Sanitize action destroys and regenerates every namespace key. -/
  | cryptoErase (q : IoQueue) (hdr : IoHdr) (ndas : Bool) (ause : Bool) (cdw10 : Nat)
  /-- INVALID_COMMAND_OPCODE (R408): A command with an unlisted opcode completes with Invalid Command Opcode. -/
  | invalidCommandOpcode (q : IoQueue) (hdr : IoHdr) (opcode : Nat)
  /-- FLUSH (R413): I/O Flush completes at once. -/
  | flush (q : IoQueue) (hdr : IoHdr)
  /-- WRITE (R426): I/O Write at the admission pointer stages and writes its sheaves. -/
  | write (q : IoQueue) (hdr : IoHdr) (slba : Nat) (nlb : Nat) (data : Option (List Byte))
  /-- READ (R504): I/O Read looks up each block in the caches or reads its sheaf. -/
  | read (q : IoQueue) (hdr : IoHdr) (slba : Nat) (nlb : Nat) (lr : Bool)
  /-- DATASET_MANAGEMENT (R431): I/O command applies context attributes such as prefetch and streaming. -/
  | datasetManagement (q : IoQueue) (hdr : IoHdr) (ad : Bool) (ranges : List DsmRange)
  /-- ZONE_CLOSE (R413): Zone Management Send Close closes a zone. -/
  | zoneClose (q : IoQueue) (hdr : IoHdr) (slba : Nat) (all : Bool)
  /-- ZONE_FINISH (R413): Zone Management Send Finish makes a zone Full. -/
  | zoneFinish (q : IoQueue) (hdr : IoHdr) (slba : Nat) (all : Bool)
  /-- ZONE_OPEN (R423): Zone Management Send Open opens a zone, binding it if Empty. -/
  | zoneOpen (q : IoQueue) (hdr : IoHdr) (slba : Nat) (all : Bool)
  /-- ZONE_RESET (R424): Zone Management Send Reset empties a zone, spending or erasing it. -/
  | zoneReset (q : IoQueue) (hdr : IoHdr) (slba : Nat) (all : Bool)
  /-- ZONE_MANAGEMENT_RECEIVE (R413): Report Zones returns zone descriptors. -/
  | zoneManagementReceive (q : IoQueue) (hdr : IoHdr) (slba : Nat) (action : Nat) (opt : Nat) (part : Bool) (bytes : Nat)
  /-- ZONE_APPEND (R426): Zone Append writes at the admission pointer and returns the LBA. -/
  | zoneAppend (q : IoQueue) (hdr : IoHdr) (zslba : Nat) (nlb : Nat) (data : Option (List Byte))
  /-- THRESHING_JOB (R550): I/O command submits a job for a sequencer. -/
  | threshingJob (q : IoQueue) (hdr : IoHdr) (cdw10 : Nat) (rest0 : Bool) (data : Option (List Byte))
  /-- ZONE_WARM (R432): Loads the zone's disc and brings its drive to D1 or D2. -/
  | zoneWarm (q : IoQueue) (hdr : IoHdr) (lba : Nat) (want : Nat)
  /-- ZONE_RELEASE (R432): Releases the zone's drive to D3 and marks its disc for eviction. -/
  | zoneRelease (q : IoQueue) (hdr : IoHdr) (lba : Nat)
  /-- ZONE_LOCATE (R432): Returns the binding, drive, state and exit latency of a zone. -/
  | zoneLocate (q : IoQueue) (hdr : IoHdr) (lba : Nat)
  /-- COMMAND_ADMISSION (R419): A context and staging become free and a waiting command is fetched and admitted. -/
  | commandAdmission
  /-- MEDIA_OP_START (R433): A drive's operation ends and the next operation of its queue is chosen and started. -/
  | mediaOpStart (n : Drive) (seeks : List (Nat × Nat))
  /-- DRIVE_IDLE_TIMEOUT (R435): A drive idle for DRV_IDLE_T moves down one power state. -/
  | driveIdleTimeout (n : Drive)
  /-- SQ_TAIL_DOORBELL (R439): A submission queue tail doorbell write is recorded or refused. -/
  | sqTailDoorbell (f : Crib) (qid : Nat) (tail : Nat)
  /-- CQ_HEAD_DOORBELL (R439): A completion queue head doorbell write frees entries or is refused. -/
  | cqHeadDoorbell (f : Crib) (qid : Nat) (head : Nat)
  /-- DISC_RESTORE (R430): A write raises a load of slot d to check and restore its Offline zones. -/
  | discRestore (d : Fin 1536)
  /-- ETH_FRAME_RECEIVE (R447): A received Ethernet frame is assigned to an interface or dropped. -/
  | ethFrameReceive (p : Fin 2) (vlan : Nat) (pcp : Fin 8) (len : Nat) (good : Bool) (wanted : Bool) (taken : Nat) (conn : Option Nat) (peer : Option Nat)
  /-- ARP_REQUEST (R448): An ARP request for an interface address is answered. -/
  | arpRequest (p : Fin 2) (vlan : Nat) (pcp : Fin 8) (ip : Nat) (requester : Nat)
  /-- NEIGHBOUR_SOLICITATION (R448): An IPv6 neighbour solicitation is answered with an advertisement. -/
  | neighbourSolicitation (p : Fin 2) (vlan : Nat) (pcp : Fin 8) (hi : Nat) (lo : Nat) (requester : Nat)
  /-- ECHO_REQUEST (R448): An ICMP echo request is answered with an echo reply. -/
  | echoRequest (p : Fin 2) (vlan : Nat) (pcp : Fin 8) (v6 : Bool) (hi : Nat) (lo : Nat) (requester : Nat) (payload : List Byte)
  /-- PFC_REPEAT (R450): Every 160 µs above XON the pause frame is repeated. -/
  | pfcRepeat (p : Fin 2) (q : Fin 8)
  /-- PFC_XON (R450): The buffer falls to XON and a zero-quanta frame is sent. -/
  | pfcXon (p : Fin 2) (q : Fin 8) (level : Nat)
  /-- PFC_FRAME_RECEIVE (R451): A received PFC frame pauses or releases transmission of a priority. -/
  | pfcFrameReceive (p : Fin 2) (quanta : List (Fin 8 × Nat))
  /-- PFC_PAUSE_EXPIRY (R451): A received pause time expires and transmission of the priority resumes. -/
  | pfcPauseExpiry (p : Fin 2) (q : Fin 8)
  /-- TCP_SYN (R452): A SYN to NVT_TCP_PORT is accepted or answered with RST. -/
  | tcpSyn (p : Fin 2) (vlan : Nat) (pcp : Fin 8) (v6 : Bool) (hi : Nat) (lo : Nat) (dport : Nat) (peer : Nat)
  /-- TCP_RETRANSMIT_TIMEOUT (R454): A retransmission timeout resends a segment or resets the connection after 12. -/
  | tcpRetransmitTimeout (k : Nat) (first : Bool)
  /-- TCP_PEER_CLOSE (R463): FIN or RST from the peer closes the connection. -/
  | tcpPeerClose (k : Nat)
  /-- ICREQ (R455): A valid ICReq is answered with ICResp. -/
  | icreq (k : Nat) (pfv : Nat) (hdgst : Bool) (ddgst : Bool) (maxR2t : Nat)
  /-- ICREQ_TIMEOUT (R455): No ICReq within 10 s resets the connection. -/
  | icreqTimeout (k : Nat)
  /-- CONNECT (R457): A Fabrics Connect is checked and binds the connection to a crib. -/
  | connect (k : Nat) (cid : Nat) (qid : Nat) (sqSize : Nat) (kato : Nat) (cntlid : Nat) (subNqn : List Byte) (hostNqn : List Byte) (hostId : Nat)
  /-- PROPERTY_GET (R459): A Fabrics Property Get reads a controller register. -/
  | propertyGet (k : Nat) (cid : Nat) (offset : Nat)
  /-- PROPERTY_SET (R459): A Fabrics Property Set writes a controller register. -/
  | propertySet (k : Nat) (cid : Nat) (offset : Nat) (value : Nat)
  /-- DISCONNECT (R463): A Fabrics Disconnect closes the connection. -/
  | disconnect (k : Nat) (cid : Nat)
  /-- AUTHENTICATION_SEND (R456): Authentication Send completes with Invalid Command Opcode. -/
  | authenticationSend (k : Nat) (cid : Nat)
  /-- AUTHENTICATION_RECEIVE (R456): Authentication Receive completes with Invalid Command Opcode. -/
  | authenticationReceive (k : Nat) (cid : Nat)
  /-- CAPSULE_COMMAND (R460): A command capsule is admitted in order or waits in the receive buffer. -/
  | capsuleCommand (k : Nat) (hdr : IoHdr) (op : IoOp) (digestBad : Bool)
  /-- H2CDATA (R466): H2CData for an outstanding R2T is checked and taken as write data. -/
  | h2cdata (k : Nat) (ttag : Nat) (offset : Nat) (data : List Byte) (digestBad : Bool)
  /-- H2CTERMREQ (R466): An H2CTermReq from the host closes the connection. -/
  | h2ctermreq (k : Nat)
  /-- PDU_VIOLATION (R466): An invalid PDU is answered with C2HTermReq and the connection closes. -/
  | pduViolation (k : Nat) (kind : Fin 3)
  /-- ASSOCIATION_KEEP_ALIVE_EXPIRY (R462): An association's Keep Alive timer expires and it is ended. -/
  | associationKeepAliveExpiry (n : Nat)
  /-- NET_LINK_DOWN (R464): A port's link goes down and connections wait. -/
  | netLinkDown (p : Fin 2)
  /-- NET_LINK_UP (R464): A port's link returns and TCP retransmission resumes. -/
  | netLinkUp (p : Fin 2)
  /-- NET_LINK_HOLD_EXPIRY (R464): The link stays down for NET_LINK_HOLD and its connections are ended. -/
  | netLinkHoldExpiry (p : Fin 2)
  /-- ADMIN_OP_STEP (R471): The previous step of a format or sanitise ends and the next step starts with its journal record. -/
  | adminOpStep (st : Fin 8) (lost : Bool)
  /-- CERTIFICATION_STEP (R480): The next step of certifying a selected slot runs. -/
  | certificationStep (st : Fin 8) (found : List (Nat × Nat)) (ok : Bool) (lost : Bool)
  /-- HAYLOFT_OFFER (R511): A Shelf victim in the offer queue is merged, allocated or declined by the Hayloft. -/
  | hayloftOffer
  /-- HAYLOFT_STAGE_RESERVE (R513): A command's data is all in Shelf staging and its Hayloft staging buffers are reserved. -/
  | hayloftStageReserve
  /-- SIDEBOARD_MOVE (R514): A Shelf staging line moves into a free Sideboard entry. -/
  | sideboardMove
  /-- SIDEBOARD_DRAM_WRITE (R514): A Sideboard entry's write to Hayloft staging completes and the entry frees. -/
  | sideboardDramWrite
  /-- SHELF_AGE_SWEEP (R509): The Shelf ageing sweep raises the AGE of valid lines. -/
  | shelfAgeSweep
  /-- HAYLOFT_AGE_SWEEP (R509): The Hayloft ageing sweep raises the AGE of valid lines. -/
  | hayloftAgeSweep
  /-- INVALIDATE (R522): Rake operation invalidates the range's lines of the crib. -/
  | invalidate
  /-- DEMOTE (R522): Rake operation sets AGE 3 on the range's lines. -/
  | demote
  /-- PREFETCH (R522): Rake operation reads the range's sheaves into the Hayloft. -/
  | prefetch
  /-- INVALIDATE_ALL (R522): Rake operation invalidates every line of the crib's namespaces. -/
  | invalidateAll
  /-- RAKE_DONE (R523): A Rake operation ends with RAKE_STATUS and RAKE_BUSY clears. -/
  | rakeDone
  /-- GLEANER_DRAM_READ (R535): The Gleaner reads the next DRAM line pair and corrects or reports it. -/
  | gleanerDramRead (ch : Fin 2) (demand : Option DemandAt) (even : MemRead) (odd : MemRead)
  /-- GLEANER_SRAM_READ (R536): The Gleaner reads the next SRAM word and corrects or reports it. -/
  | gleanerSramRead (target : Fin 3) (demand : Option Nat) (passEnd : Bool) (word : MemRead)
  /-- MEM_ERASE_DEV_WRITE (R529): A write sets or clears the erased device of a rank and keeps it in the Chest. -/
  | memEraseDevWrite (r : Fin 4) (v : Nat)
  /-- MEM_CE_CLEAR (R534): A write of 1 clears the corrected-error counters and sticky bits. -/
  | memCeClear
  /-- MEM_TEST_WRITE (R540): MEM_TEST_OP WRITE encodes and writes a test line. -/
  | memTestWrite
  /-- WRITE_RAW (R540): MEM_TEST_OP WRITE_RAW writes data and check bits as given. -/
  | writeRaw
  /-- MEM_TEST_READ (R540): MEM_TEST_OP READ decodes a test line and reports the result. -/
  | memTestRead
  /-- READ_RAW (R540): MEM_TEST_OP READ_RAW returns stored data and check bits. -/
  | readRaw
  /-- MEM_RETIRE_REQ (R543): A write requests retirement of a region or bank, or is refused. -/
  | memRetireReq (v : Nat)
  /-- MEM_RETIRE_DONE (R544): The retirement copy and list write finish and the entry takes effect. -/
  | memRetireDone (lines : List Nat)
  /-- MEM_RETIRE_CLEAR (R546): A key write while Held empties the retirement list. -/
  | memRetireClear (v : Nat)
  /-- MEM_LOG_REPEAT_FLUSH (R539): A changed REPEAT of the memory error log is written at most once per second. -/
  | memLogRepeatFlush
  /-- SEQUENCER_ASSIGN (R554): A free sequencer is assigned to a waiting job, which is checked and loaded. -/
  | sequencerAssign (sq : Fin 4) (listBad : Bool)
  /-- NOP (R558): Sequencer instruction doing nothing. -/
  | nop (sq : Fin 4)
  /-- HALT (R580): Sequencer instruction ending the job once its queues drain. -/
  | halt (sq : Fin 4)
  /-- LIL (R558): Loads a sign-extended 16-bit immediate. -/
  | lil (sq : Fin 4)
  /-- LIH (R558): Loads an immediate into the upper half of a register. -/
  | lih (sq : Fin 4)
  /-- ADD (R558): Register addition. -/
  | add (sq : Fin 4)
  /-- SUB (R558): Register subtraction. -/
  | sub (sq : Fin 4)
  /-- AND (R558): Register bitwise AND. -/
  | and (sq : Fin 4)
  /-- OR (R558): Register bitwise OR. -/
  | or (sq : Fin 4)
  /-- XOR (R558): Register bitwise XOR. -/
  | xor (sq : Fin 4)
  /-- SHL (R558): Register shift left. -/
  | shl (sq : Fin 4)
  /-- SHR (R558): Register logical shift right. -/
  | shr (sq : Fin 4)
  /-- SAR (R558): Register arithmetic shift right. -/
  | sar (sq : Fin 4)
  /-- MUL (R558): Low 32 bits of a register product. -/
  | mul (sq : Fin 4)
  /-- MINU (R558): Unsigned minimum of two registers. -/
  | minu (sq : Fin 4)
  /-- MAXU (R558): Unsigned maximum of two registers. -/
  | maxu (sq : Fin 4)
  /-- ADDI (R558): Adds a sign-extended immediate. -/
  | addi (sq : Fin 4)
  /-- ANDI (R558): ANDs a zero-extended immediate. -/
  | andi (sq : Fin 4)
  /-- ORI (R558): ORs a zero-extended immediate. -/
  | ori (sq : Fin 4)
  /-- XORI (R558): XORs a zero-extended immediate. -/
  | xori (sq : Fin 4)
  /-- SHLI (R558): Shift left by an immediate. -/
  | shli (sq : Fin 4)
  /-- SHRI (R558): Logical shift right by an immediate. -/
  | shri (sq : Fin 4)
  /-- SARI (R558): Arithmetic shift right by an immediate. -/
  | sari (sq : Fin 4)
  /-- LD (R559): Loads a word from the crib's Granary window. -/
  | ld (sq : Fin 4)
  /-- ST (R559): Stores a word into the crib's Granary window. -/
  | st (sq : Fin 4)
  /-- BEQ (R558): Branches when registers are equal. -/
  | beq (sq : Fin 4)
  /-- BNE (R558): Branches when registers differ. -/
  | bne (sq : Fin 4)
  /-- BLT (R558): Branches when signed less than. -/
  | blt (sq : Fin 4)
  /-- BGE (R558): Branches when signed greater or equal. -/
  | bge (sq : Fin 4)
  /-- BLTU (R558): Branches when unsigned less than. -/
  | bltu (sq : Fin 4)
  /-- BGEU (R558): Branches when unsigned greater or equal. -/
  | bgeu (sq : Fin 4)
  /-- JMP (R558): Jumps by a signed offset. -/
  | jmp (sq : Fin 4)
  /-- LOOP (R560): Opens a hardware loop level with a count from a register. -/
  | loop (sq : Fin 4)
  /-- SETINC (R558): Sets a loop address increment. -/
  | setinc (sq : Fin 4)
  /-- MOVA (R558): Copies a register to an address register. -/
  | mova (sq : Fin 4)
  /-- RDA (R558): Copies an address register to a register. -/
  | rda (sq : Fin 4)
  /-- LCNT (R558): Reads the remaining count of a loop level. -/
  | lcnt (sq : Fin 4)
  /-- PUSH (R564): Builds an engine command from a template, checks it and enqueues it. -/
  | push (sq : Fin 4)
  /-- FENCE (R558): Waits until the named queues are empty and their commands have ended. -/
  | fence (sq : Fin 4)
  /-- ILLEGAL_INSTRUCTION (R558): An undefined opcode or non-zero unused bit raises an ILLEGAL exception. -/
  | illegalInstruction (sq : Fin 4)
  /-- ENGINE_COMMAND_END (R565): An engine command ends; the next command of its queue may dispatch and waits release. -/
  | engineCommandEnd (sq : Fin 4) (q : Fin 4)
  /-- COPY (R568): Move engine copies bytes within the window. -/
  | copy (sq : Fin 4) (q : Fin 4)
  /-- FILL (R568): Move engine fills a range with a pattern word. -/
  | fill (sq : Fin 4) (q : Fin 4)
  /-- READ_NS (R569): Move engine reads namespace blocks into the window. -/
  | readNs (sq : Fin 4) (q : Fin 4)
  /-- TO_HOST (R570): Move engine writes bytes to the job output buffer. -/
  | toHost (sq : Fin 4) (q : Fin 4)
  /-- LINCOMB (R571): Field engine linear combination over GF(2^8). -/
  | lincomb (sq : Fin 4) (q : Fin 4)
  /-- FIELD_MUL (R571): Field engine bytewise product over GF(2^8). -/
  | fieldMul (sq : Fin 4) (q : Fin 4)
  /-- SHA_INIT (R572): Hash engine writes the initial SHA-256 state. -/
  | shaInit (sq : Fin 4) (q : Fin 4)
  /-- SHA_UPDATE (R572): Hash engine absorbs data into a SHA-256 state. -/
  | shaUpdate (sq : Fin 4) (q : Fin 4)
  /-- SHA_FINAL (R572): Hash engine pads and writes the SHA-256 digest. -/
  | shaFinal (sq : Fin 4) (q : Fin 4)
  /-- SHA_DIGEST (R572): Hash engine writes the SHA-256 of the data. -/
  | shaDigest (sq : Fin 4) (q : Fin 4)
  /-- CRC_UPDATE (R572): Hash engine continues a CRC-64. -/
  | crcUpdate (sq : Fin 4) (q : Fin 4)
  /-- CRC_DIGEST (R572): Hash engine writes the CRC-64 of the data. -/
  | crcDigest (sq : Fin 4) (q : Fin 4)
  /-- GCM_ENC (R574): Cipher engine encrypts with AES-256-GCM and writes the tag. -/
  | gcmEnc (sq : Fin 4) (q : Fin 4)
  /-- GCM_DEC (R574): Cipher engine decrypts and writes the tag match result. -/
  | gcmDec (sq : Fin 4) (q : Fin 4)
  /-- VECTOR_ADD (R575): Vector engine lanewise addition. -/
  | vectorAdd (sq : Fin 4) (q : Fin 4)
  /-- VECTOR_SUB (R575): Vector engine lanewise subtraction. -/
  | vectorSub (sq : Fin 4) (q : Fin 4)
  /-- VECTOR_AND (R575): Vector engine lanewise AND. -/
  | vectorAnd (sq : Fin 4) (q : Fin 4)
  /-- VECTOR_OR (R575): Vector engine lanewise OR. -/
  | vectorOr (sq : Fin 4) (q : Fin 4)
  /-- VECTOR_XOR (R575): Vector engine lanewise XOR. -/
  | vectorXor (sq : Fin 4) (q : Fin 4)
  /-- MIN (R575): Vector engine lanewise minimum. -/
  | min (sq : Fin 4) (q : Fin 4)
  /-- MAX (R575): Vector engine lanewise maximum. -/
  | max (sq : Fin 4) (q : Fin 4)
  /-- CMPEQ (R575): Vector engine lanewise equality mask. -/
  | cmpeq (sq : Fin 4) (q : Fin 4)
  /-- CMPLT (R575): Vector engine lanewise less-than mask. -/
  | cmplt (sq : Fin 4) (q : Fin 4)
  /-- SUM (R575): Vector engine sums the lanes. -/
  | sum (sq : Fin 4) (q : Fin 4)
  /-- COUNT_EQ (R575): Vector engine counts lanes equal to B. -/
  | countEq (sq : Fin 4) (q : Fin 4)
  /-- FIND_EQ (R575): Vector engine finds the first lane equal to B. -/
  | findEq (sq : Fin 4) (q : Fin 4)
  /-- JOB_TIME_LIMIT_EXPIRY (R581): TIME_LIMIT passes and the job stops with cause TIME_LIMIT. -/
  | jobTimeLimitExpiry (sq : Fin 4)
  /-- MAILBOX_POST (R589): A write of POST_LEN posts the staged message into the channel slot. -/
  | mailboxPost (f : Crib) (ch : Fin 32) (w : Nat) (staged : Option (List Byte))
  /-- MAILBOX_RELEASE (R593): A release with matching SEQ clears FULL and COLLIDED. -/
  | mailboxRelease (f : Crib) (ch : Fin 32) (w : Nat)
  /-- DB_RING (R597): A ring write sets doorbells and raises the owner's source. -/
  | dbRing (f : Crib) (w : Fin 8) (bits : Nat)
  /-- DB_PEND_CLEAR (R596): Writing 1 to DB_PEND clears owned doorbells. -/
  | dbPendClear (f : Crib) (w : Fin 8) (bits : Nat)
  /-- EVR_HEAD (R611): The ring owner advances the head, freeing room for deferred records. -/
  | evrHead (f : Crib) (r : Fin 8) (v : Nat)
  /-- EVT_PEND_CLEAR (R607): Writing 1 clears a device source pending bit and its count. -/
  | evtPendClear (w : Fin 16) (bits : Nat)
  /-- EVT_MASK (R606): Writing a mask bit; unmasking a pending source delivers it at once. -/
  | evtMask (w : Fin 16) (bits : Nat)
  /-- EVT_CRIB_CLEAR (R607): A crib clears pending bits of its sources. -/
  | evtCribClear (c : Crib) (bits : Nat)
  /-- EVT_CRIB_MASK (R606): A crib writes the masks of its sources. -/
  | evtCribMask (c : Crib) (bits : Nat)
  /-- EVT_ROUTE (R602): A write sets the route of a source, or fails RANGE. -/
  | evtRoute (who : Crib) (e : Fin 1024) (v : Nat)
  /-- EVR_ENABLE (R609): Writing 1 starts an event ring from index 0; writing 0 stops it. -/
  | evrEnable (who : Crib) (r : Fin 8) (v : Nat)
  /-- VIO_LOG_REPEAT_FLUSH (R618): A changed REPEAT of the violation log is written at most once per second. -/
  | vioLogRepeatFlush
  /-- SERIAL_CHARACTER (R630): The receiver completes a character and stores it with its tags. -/
  | serialCharacter (p : Fin 4) (bits : List (Fin 8))
  /-- FALSE_START (R626): A start bit with high majority is discarded as false. -/
  | falseStart (p : Fin 4)
  /-- SERIAL_BREAK (R629): An all-low character is stored as a break. -/
  | serialBreak (p : Fin 4) (noise : Bool)
  /-- SP_RX_TIMEOUT (R635): The receive queue is quiet for SP_RX_TIMEOUT character times and SP_RX is raised. -/
  | spRxTimeout (p : Fin 4)
  /-- SP_TX_DATA (R633): A write appends bytes to the transmit queue. -/
  | spTxData (who : Crib) (p : Fin 4) (data : List Byte)
  /-- SP_RX_DATA (R634): A read returns and removes every queued receive entry. -/
  | spRxData (who : Crib) (p : Fin 4) (window : Bool) (offset : Nat)
  /-- SERIAL_CHARACTER_SENT (R635): A transmitted character ends; free space may reach the trigger. -/
  | serialCharacterSent (p : Fin 4)
  /-- TRAY_SLOT_START (R640): A schedule entry's slot starts and its frame header is sent. -/
  | traySlotStart (p : Fin 4)
  /-- TRAY_RESPONSE_TIMEOUT (R640): The response limit passes and the entry ends with its status. -/
  | trayResponseTimeout (p : Fin 4)
  /-- PAD_FUNC (R647): A write switches a pad's function through a safe input phase. -/
  | padFunc (who : Crib) (k : Fin 8) (v : Nat) (rxBusy : BitVec 4)
  /-- LEDGER_MINUTE_BOUNDARY (R659): At a boundary tick every account's minute closes, a tariff may apply and the next opens. -/
  | ledgerMinuteBoundary
  /-- LEDGER_SECOND (R652): Once per second measured energy and occupancy are divided among cribs. -/
  | ledgerSecond (rails : List (Nat × Nat × Nat))
  /-- POWER_REPORT (R701): A front end's once-per-second power report message is received. -/
  | powerReport (n : Drive) (uj33 : Nat) (uj50 : Nat) (temp : Int)
  /-- UTC_SET (R655): A write sets, steps or slews the timebase. -/
  | utcSet (who : Crib) (t : Nat)
  /-- ARM (R662): TARIFF_ARM ARM copies the staged tariff into the Chest as pending. -/
  | arm (who : Crib)
  /-- CANCEL (R662): TARIFF_ARM CANCEL cancels the pending tariff. -/
  | cancel (who : Crib)
  /-- LEDGER_ACK (R672): A write acknowledges drained records, possibly flushing overflow. -/
  | ledgerAck (who : Crib) (seq : Nat)
  /-- DOMAIN_IDLE_ENTRY (R690): An engine cluster idle for DOM_IDLE_US starts powering down. -/
  | domainIdleEntry (d : Fin 5)
  /-- DOMAIN_EXIT_DONE (R690): A cluster's exit completes and held commands are dispatched. -/
  | domainExitDone (d : Fin 5)
  /-- GIPERLINK_SLEEP (R691): An idle Giperlink port sends SLEEP to its front end. -/
  | giperlinkSleep (n : Drive)
  /-- SLEEP_ACK (R691): SLEEP_ACK commits the port to SLEEP. -/
  | sleepAck (n : Drive)
  /-- GIPERLINK_WAKE_DONE (R691): A sleeping link wakes and held cells are sent. -/
  | giperlinkWakeDone (n : Drive)
  /-- REF_CLK_LOSS (R695): No REF_CLK edge for 200 ns; the oscillator takes over and lasers go off. -/
  | refClkLoss
  /-- REF_CLK_RETURN (R695): REF_CLK present for 10 ms and a Warm restart follows. -/
  | refClkReturn
  /-- RAIL_EXCURSION (R703): A rail outside its range for 10 ms raises source RAIL. -/
  | railExcursion (rail : Fin 7) (mv : Nat) (back : Bool)
  /-- TEMP_SAMPLE (R702): Once per second temperatures are reported and TEMP_HIST updated. -/
  | tempSample (ctrl : List Int) (stage : List Int)
  /-- LONG_RUN_CHECKPOINT (R715): Every 60 s the group 0x7E counts are written to a checkpoint copy. -/
  | longRunCheckpoint
  /-- CHEST_DELAYED_WRITE (R711): A record write delayed by the rate limit is made, releasing what waits on it. -/
  | chestDelayedWrite (region : Nat) (pos : Nat)
  /-- BYPASS (R737): JTAG instruction BYPASS. -/
  | bypass (part : Fin 22)
  /-- IDCODE (R737): JTAG instruction IDCODE returns the part's IDCODE. -/
  | idcode (part : Fin 22)
  /-- SAMPLE_PRELOAD (R737): JTAG instruction SAMPLE/PRELOAD captures pin states. -/
  | samplePreload (part : Fin 22) (pins : Nat) (preload : Nat)
  /-- EXTEST (R738): JTAG instruction EXTEST makes every output follow its boundary register. -/
  | extest (part : Fin 22)
  /-- CLAMP (R738): JTAG instruction CLAMP holds outputs from the boundary register. -/
  | clamp (part : Fin 22)
  /-- STAGE_LINK_ALIGNED (R391): A stage-link retrain restores alignment in both directions within 20 ms. -/
  | stageLinkAligned (g : Stage)
  /-- PREAMBLE_LOCK (R270): At a check point from bit 640 to 1,280 the read channel declares lock and switches to tracking gains. -/
  | preambleLock (n : Drive) (bit : Nat) (errs : List Int) (amps : List Nat)
  /-- FRAME_SYNC (R276): At each predicted frame position the front end accepts a sync or flywheels, and after SYNC_MISS_MAX misses widens its window. -/
  | frameSync (n : Drive) (samples : List Int) (errs : List Int)
  /-- WINNOWER_CRITERION (R283): A Winnower criterion asserts or releases, setting chaff flags and DEFECT and closing an open write gate. -/
  | winnowerCriterion (n : Drive) (crit : Fin 4) (value : Nat) (ref : Nat) (bit : Nat)
  /-- SWITCH_INPUT_EDGE (R377): A stage accepts a new level on a switch input and latches the position and time. -/
  | switchInputEdge (g : Stage) (input : Fin 8) (rising : Bool) (tick : Nat) (sub : Nat) (pos : Int)
  /-- SERIAL_BREAK_END (R629): After a break the line is seen high for 2 consecutive ticks and the receiver re-arms. -/
  | serialBreakEnd (p : Fin 4)
  /-- FE_RAIL_LOSS (R680): A front end's 5.0 V rail falls below 4.5 V or its 3.3 V rail leaves its range, turning off the laser or holding it in reset. -/
  | feRailLoss (n : Drive) (logic : Bool)
  /-- FE_RAIL_RETURN (R680): A front end's rails return within range and it leaves its forced-safe or reset condition. -/
  | feRailReturn (n : Drive) (logic : Bool)
  /-- VBUS_RETURN (R681): VBUS rises above 33 V and the stage may drive its bridges again. -/
  | vbusReturn (g : Stage)
  /-- DOMAIN_ENTRY_DONE (R690): An engine cluster's power switch has opened and the cluster is OFF, starting its exit at once if work is held. -/
  | domainEntryDone (d : Fin 5)
  /-- CC_EN_SET (R406): The host sets CC.EN of a function and its NVMe controller becomes ready. -/
  | ccEnSet (f : Crib) (cc : Nat) (aqa : Nat)
  /-- PCIE_CONFIG_REQUEST (R613): A PCIe configuration request is answered, possibly with CRS, and may set Bus Master Enable or the number of enabled VFs. -/
  | pcieConfigRequest (f : Crib) (bme : Option Bool) (vfs : Option Nat)
  /-- MSIX_TABLE_WRITE (R613): A write to the MSI-X table masks or unmasks a vector, sending a pending message on unmask. -/
  | msixTableWrite (f : Crib) (vec : Fin 64) (addr : Nat) (data : Nat) (masked : Bool)
  /-- PERST_N_RELEASE (R725): PERST_N is released and the PCIe link trains. -/
  | perstNRelease (rate : Nat) (width : Nat)
  /-- PEER_BAR_REQUEST (R403): A memory request reaching the BARs from a requester other than the root port is completed with Unsupported Request. -/
  | peerBarRequest (f : Crib)
  /-- JOB_KEY_DATA (R158): A write loads a 32-byte GCM job key into a key register and sets its JOB_KEY_LOADED bit. -/
  | jobKeyData (who : Crib) (c : Crib) (k : Fin 8) (data : List Byte)
  /-- HOST_TRANSFER_ERROR (R438): A host memory access for a command or TO_HOST completes with an error. -/
  | hostTransferError (q : IoQueue) (cid : Nat) (toHost : Option (Fin 4))
  deriving DecidableEq, Repr

end Sys2Proof
end

