-- ==== Sys2Proof/Decode.lean ====
section
/-! DEFINITION. The operation table gives no command any bits, so no word spells a command: a command reaches the queue as a
term of `Instr`. -/

namespace Sys2Proof

/-- The command that a word of the operation table spells: none, for every word. -/
def decodeTableWord (_nbits _w : Nat) : Option Instr := none

end Sys2Proof
end

