-- ==== Sys2Proof/Config.lean ====
section
/-! DEFINITION. What one unit fixes for good, and the free values: constants with no body, so that
nothing can be proved of the number they hold. -/

namespace Sys2Proof.Config

/-- The key-encryption key of this controller (R152): 32 bytes that no object and no debug path returns.
Free value. -/
opaque keyEncryptionKey : List Byte

/-- The n-th secret drawn from the internal CTR_DRBG (R154), whose seed the spec does not give: 32 bytes.
Free value. -/
opaque drawnSecret : Nat → List Byte

/-- Whether an ECDSA P-384 signature verifies under the built-in public key (R112, R113), which the spec
does not give: the first argument is the SHA-384 of header bytes 0 to 251, the second the 96 bytes of the
signature. Free value. -/
opaque signatureVerifies : List Byte → List Byte → Bool

/-- The MAC address of port `p` (NET_MAC, built in; the spec gives no number). Free value. -/
opaque macAddress : Nat → Nat

/-- The n-th value of a result that the spec leaves open: a fresh free value each time it is asked for. -/
opaque freeValue : Nat → Nat

/-- The injection estimate of a rotor's electrical angle (R231): the spec drives it towards the zero of the q-axis
injection response and gives no equation. From the last estimate and the response. Free value. -/
opaque injectionAngle : Nat → Int → Nat

/-- The back-EMF observer's electrical angle (R233): the spec names its inputs and gives no equation. From the last
estimate, the parameters SPIN_RS, SPIN_LS and SPIN_KE, and the stage's voltages and currents. Free value. -/
opaque observerAngle : Nat → List Nat → List Int → Nat

end Sys2Proof.Config
end

