-- ==== Sys2Proof/Machine/Objects.lean ====
section
/-! DEFINITION. The object dictionary's table: every object of the spec with its address word, type, access
code, visibility, default and range, taken from the "Objects used in this chapter" tables (R11 to R13, R47 to
R49, R51, R52). The names are the spec's own. -/

namespace Sys2Proof.Machine

/-- The object types (R12), with the codes of TYPE in a descriptor (R52). -/
inductive Ty where
  | u8 | u16 | u32 | u64 | i16 | i32 | i64 | q15 | q31 | f32 | bool | enum8 | bits32 | time64 | str32 | blob
  deriving DecidableEq, Repr

/-- The access codes (R13). -/
inductive Acc where
  | ro | rw | rwh | wc | wo
  deriving DecidableEq, Repr

/-- Which elements of a crib-visible array are a crib's own (R59); `none` is operator-only. -/
inductive Own where
  | none | all | crib | slot | by8 | by16 | source | ring
  deriving DecidableEq, Repr

/-- An object: the address word of its element 0 and the width of its value in bits, 0 for STR32 and BLOB. -/
structure Ob where
  addr : Nat
  bits : Nat
  deriving DecidableEq, Repr

/-- The address word of element `e` (R48). -/
def Ob.el (o : Ob) (e : Nat) : Nat := o.addr + e

/-- One row of the dictionary. `listed` holds the values of an ENUM8; `hi` of a BITS32 is its mask. -/
structure ObjRow where
  ob : Ob
  first : Nat
  last : Nat
  ty : Ty
  acc : Acc
  own : Own
  dflt : Int
  lo : Int
  hi : Int
  listed : List Nat
  deriving DecidableEq, Repr

namespace Od

/-- 00.001, STR32, RO: "Tibover Microsystems" -/
def VENDOR_NAME : Ob := ⟨0x00001000, 0⟩
/-- 00.002, STR32, RO: "KRY-C48" -/
def PART_NAME : Ob := ⟨0x00002000, 0⟩
/-- 00.003, U16, RO: Stepping letter in [15:8] and digit in [7:0], as ASCII codes -/
def SILICON_STEP : Ob := ⟨0x00003000, 16⟩
/-- 00.010, U32, RO: Running firmware: major [31:24], minor [23:16], patch [15:0] -/
def FW_RUNNING : Ob := ⟨0x00010000, 32⟩
/-- 00.011, U32, RO: Newest valid image in flash, same layout as FW_RUNNING; 0x0000_0000 if none -/
def FW_STAGED : Ob := ⟨0x00011000, 32⟩
/-- 00.012, U16, RO: Object-dictionary layout version; 0x0204 for release 2.4 -/
def OD_LAYOUT : Ob := ⟨0x00012000, 16⟩
/-- 00.020, U32, RO: IEEE 1149.1 IDCODE of the controller (R737); crib-visible -/
def JTAG_IDCODE : Ob := ⟨0x00020000, 32⟩
/-- 01.001, BITS32, WC: Bit n declares drive n and front end n -/
def DRIVE_DECL : Ob := ⟨0x01001000, 32⟩
/-- 01.002, BITS32, WC: Bit s declares stage s -/
def STAGE_DECL : Ob := ⟨0x01002000, 32⟩
/-- 01.010[0..15], U32, WC: Expected identity of front end n (R24) -/
def FE_ID_EXP : Ob := ⟨0x01010000, 32⟩
/-- 01.011[0..15], U32, RO: Identity last received from front end n; 0 if none -/
def FE_ID_SEEN : Ob := ⟨0x01011000, 32⟩
/-- 01.020[0..4], U32, WC: Expected identity of stage s (R24) -/
def STAGE_ID_EXP : Ob := ⟨0x01020000, 32⟩
/-- 01.021[0..4], U32, RO: Identity last received from stage s; 0 if none -/
def STAGE_ID_SEEN : Ob := ⟨0x01021000, 32⟩
/-- 01.030, BITS32, WC: Bit m declares magazine m, for m = 0 to 23 -/
def MAG_DECL : Ob := ⟨0x01030000, 32⟩
/-- 01.031[0..23], ENUM8, WC: 1 = KDF-4W, 2 = KDF-2E -/
def MAG_MEDIA : Ob := ⟨0x01031000, 8⟩
/-- 01.040, U32, WC: A change empties the list (R546) -/
def DRAM_GEOM : Ob := ⟨0x01040000, 32⟩
/-- 01.060, BITS32, RO: Cause of the last population validation failure (R29) -/
def POP_FAULT : Ob := ⟨0x01060000, 32⟩
/-- 01.070, BITS32, RO: [0] PFW_N low; [1] ESTOP_N low; [2] DOOR_CLOSED low (door open); [8] ESTOP stop latched; [9] door stop latched -/
def INTERLOCK_STATE : Ob := ⟨0x01070000, 32⟩
/-- 01.071, U32, WO: Write 1 to bit 8 or 9 to clear that latch (R45) -/
def INTERLOCK_ACK : Ob := ⟨0x01071000, 32⟩
/-- 02.001, U32, WO: CRC-32C of the pending set (R68); starts a commit -/
def COMMIT : Ob := ⟨0x02001000, 32⟩
/-- 02.002, ENUM8, RO: 0 IDLE, 1 PENDING, 2 VALIDATING, 3 STORING, 4 APPLYING -/
def CONFIG_STATE : Ob := ⟨0x02002000, 8⟩
/-- 02.003, U32, RO: Sequence number of the active image -/
def ACTIVE_SEQ : Ob := ⟨0x02003000, 32⟩
/-- 02.004, BITS32, RO: Why the device is Held (R125) -/
def HOLD_REASON : Ob := ⟨0x02004000, 32⟩
/-- 02.005, U8, RO: Code of the last commit (R62) -/
def COMMIT_STATUS : Ob := ⟨0x02005000, 8⟩
/-- 02.006, U32, RO: Address word of the first failing entry; 0 if not object-specific -/
def COMMIT_FAIL_OBJ : Ob := ⟨0x02006000, 32⟩
/-- 02.007, BOOL, WO: Write 1 to empty the pending set -/
def PENDING_CLEAR : Ob := ⟨0x02007000, 8⟩
/-- 02.008, U16, RO: Entries in the pending set -/
def PENDING_COUNT : Ob := ⟨0x02008000, 16⟩
/-- 02.009, U32, RO: Length in bytes of the R68 stream -/
def PENDING_BYTES : Ob := ⟨0x02009000, 32⟩
/-- 02.00A, ENUM8, RO: Chest slot of the active image: 0 A, 1 B -/
def ACTIVE_SLOT : Ob := ⟨0x0200A000, 8⟩
/-- 02.010, ENUM8, RO: 1 Booting, 2 Held, 3 Starting, 4 Serving, 5 Draining -/
def DEVICE_STATE : Ob := ⟨0x02010000, 8⟩
/-- 02.011, BOOL, WO: Write 1 to drain and hold -/
def HOLD_REQUEST : Ob := ⟨0x02011000, 8⟩
/-- 02.012, BOOL, WO: Write 1 to clear HOLD_REASON[5] and revalidate (R134) -/
def HOLD_RELEASE : Ob := ⟨0x02012000, 8⟩
/-- 02.013, U32, WO: Write 0x5741_524D to restart -/
def WARM_RESTART : Ob := ⟨0x02013000, 32⟩
/-- 02.014, U16, WC: Seconds, 10 to 3,600; default 120 -/
def DRAIN_TIMEOUT : Ob := ⟨0x02014000, 16⟩
/-- 02.015, BITS32, RO: [0] CFG_OLDER; [31:1] reserved -/
def BOOT_STATUS : Ob := ⟨0x02015000, 32⟩
/-- 02.020, U8, WC: Controller node address, 0x01 to 0xFE -/
def MOP_NODE : Ob := ⟨0x02020000, 8⟩
/-- 02.021, ENUM8, WC: Data rate in Mbit/s: 1, 2, 4 or 5 -/
def MOP_DATA_RATE : Ob := ⟨0x02021000, 8⟩
/-- 02.022, U16, WC: Session timeout in ms, 10 to 1,000; default 100 -/
def MOP_SEG_TIMEOUT : Ob := ⟨0x02022000, 16⟩
/-- 02.023, BITS32, WC: Bit b enables MOP on CANFD b -/
def MOP_ENABLE : Ob := ⟨0x02023000, 32⟩
/-- 02.028[0..9], U32, RO: Counts: [0] malformed, [1] unknown service, [2] toggle, [3] no session, [4] session busy, [5] segment length, [6] segment CRC, [7] timeout, [8] replaced session, [9] classic frame -/
def MOP_VIOL_CNT : Ob := ⟨0x02028000, 32⟩
/-- 02.029, U32, RO: Retransmitted segments answered (R101) -/
def MOP_RETX_CNT : Ob := ⟨0x02029000, 32⟩
/-- 02.02A[0..1], U32, RO: Bus-off events per CAN FD controller -/
def MOP_BUSOFF_CNT : Ob := ⟨0x0202A000, 32⟩
/-- 02.02B, U8, RO: Open segmented sessions, 0 to 8 -/
def MOP_SESSIONS : Ob := ⟨0x0202B000, 8⟩
/-- 02.030, U32, RO: Window writes ignored under R81 -/
def ODW_VIOL_CNT : Ob := ⟨0x02030000, 32⟩
/-- 02.040, ENUM8, RO: Flash slot 0 or 1 -/
def FW_SLOT_RUNNING : Ob := ⟨0x02040000, 8⟩
/-- 02.041[0..1], ENUM8, RO: 0 VALID, 1 EMPTY, 2 HEADER_CRC, 3 LENGTH, 4 DIGEST, 5 SIGNATURE, 6 FLOOR, 7 BOOT_FAILED -/
def FW_SLOT_CHECK : Ob := ⟨0x02041000, 8⟩
/-- 02.042, U32, RO: Next byte offset in the load slot -/
def FW_LOAD_ADDR : Ob := ⟨0x02042000, 32⟩
/-- 02.043, BLOB, WO: 1 to 4,096 bytes programmed at FW_LOAD_ADDR -/
def FW_LOAD_DATA : Ob := ⟨0x02043000, 0⟩
/-- 02.044, ENUM8, WO: 1 ERASE, 2 CHECK -/
def FW_LOAD_CTRL : Ob := ⟨0x02044000, 8⟩
/-- 02.045, ENUM8, RO: 0 IDLE, 1 ERASING, 2 WRITING, 3 CHECKING, 4 VALID, 5 INVALID -/
def FW_LOAD_STATE : Ob := ⟨0x02045000, 8⟩
/-- 02.046, U16, RO: Lowest accepted SEC_VER -/
def FW_FLOOR : Ob := ⟨0x02046000, 16⟩
/-- 02.047, U32, WO: Write 0x464C_4F52 to raise FW_FLOOR (R120) -/
def FW_FLOOR_RAISE : Ob := ⟨0x02047000, 32⟩
/-- 10.001, BITS32, WC: Bit c−1 enables crib c -/
def CRIB_ENABLE : Ob := ⟨0x10001000, 32⟩
/-- 10.010[0..32], U8, WC: Guaranteed I/O queue pairs, 0 to 192 -/
def CRIB_QP_MIN : Ob := ⟨0x10010000, 8⟩
/-- 10.011[0..32], U8, WC: Largest number of I/O queue pairs and connections, 0 to 192 -/
def CRIB_QP_MAX : Ob := ⟨0x10011000, 8⟩
/-- 10.012[0..32], U16, WC: Guaranteed command contexts -/
def CRIB_CTX_MIN : Ob := ⟨0x10012000, 16⟩
/-- 10.013[0..32], U16, WC: Largest number of command contexts -/
def CRIB_CTX_MAX : Ob := ⟨0x10013000, 16⟩
/-- 10.020[0..32], BITS32, WC: Bits [11:0]: Shelf ways allowed -/
def CRIB_SHELF_WAYS : Ob := ⟨0x10020000, 32⟩
/-- 10.021[0..32], U32, WC: MiB; line allowance (R501) -/
def CRIB_HAYLOFT_QUOTA : Ob := ⟨0x10021000, 32⟩
/-- 10.022[0..32], U16, WC: Window start in 64 KiB units, 0 to 127 -/
def CRIB_GRANARY_BASE : Ob := ⟨0x10022000, 16⟩
/-- 10.023[0..32], U16, WC: Window size in 64 KiB units, 0 to 128 -/
def CRIB_GRANARY_SIZE : Ob := ⟨0x10023000, 16⟩
/-- 10.024[0..32], U8, WC: Share within a class, 1 to 255; default 1 -/
def CRIB_WEIGHT : Ob := ⟨0x10024000, 8⟩
/-- 10.030[0..32], ENUM8, RO: 0 DISABLED, 1 ACTIVE, 2 RESETTING; crib-visible -/
def CRIB_STATE : Ob := ⟨0x10030000, 8⟩
/-- 10.031[1..32], BOOL, WO: Write 1 to reset crib c; operator-only -/
def CRIB_RESET : Ob := ⟨0x10031000, 8⟩
/-- 10.032[0..32], U32, RO: Failed tag checks (R148); crib-visible -/
def CRIB_VIOL_CNT : Ob := ⟨0x10032000, 32⟩
/-- 10.050[0..255], ENUM8, WO: 1 GENERATE, 2 LOAD, 3 DESTROY; crib-visible -/
def NS_KEY_CTRL : Ob := ⟨0x10050000, 8⟩
/-- 10.051[0..255], BLOB, WO: 32-byte secret for LOAD; crib-visible -/
def NS_KEY_DATA : Ob := ⟨0x10051000, 0⟩
/-- 10.052[0..255], ENUM8, RO: 0 NONE, 1 ACTIVE, 2 DESTROYED, 3 BUSY; crib-visible -/
def NS_KEY_STATE : Ob := ⟨0x10052000, 8⟩
/-- 10.053[0..255], U32, RO: Key version from the Chest record; crib-visible -/
def NS_KEY_VER : Ob := ⟨0x10053000, 32⟩
/-- 10.054[0..255], U32, RO: Key check value in [23:0] (R156); crib-visible -/
def NS_KEY_KCV : Ob := ⟨0x10054000, 32⟩
/-- 10.060[0..263], BLOB, WO: 32-byte GCM key; element 8c+k is crib c's key k; crib-visible -/
def JOB_KEY_DATA : Ob := ⟨0x10060000, 0⟩
/-- 11.001[0..2], U8, WC: Weights of classes B, C, D, 1 to 255; defaults 8, 4, 1 -/
def CLASS_WEIGHT : Ob := ⟨0x11001000, 8⟩
/-- 11.010[0..7], U16, RO: Pool sizes (R162) -/
def POOL_SIZE : Ob := ⟨0x11010000, 16⟩
/-- 11.011[0..7], U16, RO: Class-A reserves (R162) -/
def POOL_A_RESERVE : Ob := ⟨0x11011000, 16⟩
/-- 11.012[0..7], U16, RO: Units in use; for per-port and per-engine pools, the highest -/
def POOL_USED : Ob := ⟨0x11012000, 16⟩
/-- 11.020[0..0], U32, RO: MOP requests less than 2 µs apart (R167) -/
def CLASSA_OVER_CNT : Ob := ⟨0x11020000, 32⟩
/-- 11.030[0..4], U32, RO: Largest measured latency per path of R166, ns -/
def CLASSA_WORST : Ob := ⟨0x11030000, 32⟩
/-- 20.001, U16, RO: [3:0] rate: 1 to 5 for 2.5 to 32 GT/s; [9:4] width in lanes; operator-only -/
def PCIE_LINK : Ob := ⟨0x20001000, 16⟩
/-- 20.002[0..32], BOOL, WC: 1: QPRIO may make a queue class B (R418); default 1; operator-only -/
def CRIB_CLASSB_ALLOW : Ob := ⟨0x20002000, 8⟩
/-- 20.003, U16, WC: ms, 50 to 10,000; default 500; operator-only -/
def MQ_AGE_MAX : Ob := ⟨0x20003000, 16⟩
/-- 20.010[0..1], U32, RO: Free disc zones per media type, element media − 1; operator-only -/
def FREE_DISC_ZONES : Ob := ⟨0x20010000, 32⟩
/-- 20.011[0..1], U32, RO: Spent disc zones per media type; operator-only -/
def SPENT_DISC_ZONES : Ob := ⟨0x20011000, 32⟩
/-- 20.012[0..255], U32, RO: Bound zones of namespace slot i; crib-visible -/
def NS_ZONES_BOUND : Ob := ⟨0x20012000, 32⟩
/-- 20.020[0..1535], BOOL, WO: Write 1 to load and check disc d and return its zones from Offline (R430); operator-only -/
def DISC_RESTORE : Ob := ⟨0x20020000, 8⟩
/-- 20.021[0..1535], ENUM8, RO: 0 NONE, 1 RESTORED, 2 EMPTY, 3 MISMATCH, 4 RUNNING (R430); operator-only -/
def DISC_RESTORE_RESULT : Ob := ⟨0x20021000, 8⟩
/-- 20.030[0..263], U32, RO: Element 8c + k: 0 invalid doorbell register, 1 invalid doorbell value, 2 PRP offset, 3 reserved field, 4 keep-alive expiry, 5 queue over limit, 6 data transfer error, 7 unused; crib-visible -/
def HQ_VIOL_CNT : Ob := ⟨0x20030000, 32⟩
/-- 21.001[0..1], BOOL, WC: 1 enables port p; default 0 -/
def NET_PORT_EN : Ob := ⟨0x21001000, 8⟩
/-- 21.002[0..1], ENUM8, WC: 0 none, 1 Clause 91 RS-FEC; default 1 -/
def NET_FEC : Ob := ⟨0x21002000, 8⟩
/-- 21.003[0..1], U16, WC: Bytes, 1,500 to 9,000; default 1,500 -/
def NET_MTU : Ob := ⟨0x21003000, 16⟩
/-- 21.004[0..1], BITS32, WC: [3:0] transmit, [7:4] receive polarity -/
def NET_LANE_INV : Ob := ⟨0x21004000, 32⟩
/-- 21.005[0..1], ENUM8, RO: 0 disabled, 1 down, 2 up -/
def NET_LINK : Ob := ⟨0x21005000, 8⟩
/-- 21.006[0..1], U64, RO: MAC address in [47:0] -/
def NET_MAC : Ob := ⟨0x21006000, 64⟩
/-- 21.007[0..1], U16, WC: ms, 100 to 60,000; default 2,000 -/
def NET_LINK_HOLD : Ob := ⟨0x21007000, 16⟩
/-- 21.010[0..31], U8, WC: 0, 1, or 0xFF unused; default 0xFF -/
def NET_IF_PORT : Ob := ⟨0x21010000, 8⟩
/-- 21.011[0..31], U16, WC: VLAN ID; 0 untagged -/
def NET_IF_VLAN : Ob := ⟨0x21011000, 16⟩
/-- 21.012[0..31], U32, WC: Address; 0 none -/
def NET_IF_IPV4 : Ob := ⟨0x21012000, 32⟩
/-- 21.013[0..31], U8, WC: Prefix length -/
def NET_IF_IPV4_PFX : Ob := ⟨0x21013000, 8⟩
/-- 21.014[0..63], U64, WC: Element 2i high half, 2i+1 low half -/
def NET_IF_IPV6 : Ob := ⟨0x21014000, 64⟩
/-- 21.015[0..31], U8, WC: Prefix length -/
def NET_IF_IPV6_PFX : Ob := ⟨0x21015000, 8⟩
/-- 21.020, U16, WC: TCP port; default 4420 -/
def NVT_TCP_PORT : Ob := ⟨0x21020000, 16⟩
/-- 21.021, BLOB, WC: Subsystem NQN, 1 to 223 bytes -/
def NVT_SUBNQN : Ob := ⟨0x21021000, 0⟩
/-- 21.022, BITS32, WC: [0] header, [1] data; default 0x0000_0003 -/
def NVT_DIGEST_ALLOW : Ob := ⟨0x21022000, 32⟩
/-- 21.030[0..63], BLOB, WC: Host NQN of binding i -/
def NVT_BIND_HOSTNQN : Ob := ⟨0x21030000, 0⟩
/-- 21.031[0..63], U16, WC: VLAN ID of binding i -/
def NVT_BIND_VLAN : Ob := ⟨0x21031000, 16⟩
/-- 21.032[0..63], U8, WC: Crib 1 to 32; 0 unused -/
def NVT_BIND_CRIB : Ob := ⟨0x21032000, 8⟩
/-- 21.040[0..1], BITS32, WC: [7:0] lossless priorities; default 0 -/
def NET_PFC_EN : Ob := ⟨0x21040000, 32⟩
/-- 21.041, U16, WC: KiB; default 200 -/
def NET_PFC_XOFF : Ob := ⟨0x21041000, 16⟩
/-- 21.042, U16, WC: KiB; default 128 -/
def NET_PFC_XON : Ob := ⟨0x21042000, 16⟩
/-- 21.050[0..1], U64, RO: Frames received with a good FCS -/
def NET_RX_FRAMES : Ob := ⟨0x21050000, 64⟩
/-- 21.051[0..9], U64, RO: Element 5p + r: 0 bad FCS, 1 buffer full, 2 Held, 3 not wanted, 4 oversize -/
def NET_RX_DROP : Ob := ⟨0x21051000, 64⟩
/-- 21.052[0..1], U32, RO: PFC frames sent -/
def NET_PAUSE_TX_CNT : Ob := ⟨0x21052000, 32⟩
/-- 21.053[0..1], U32, RO: PFC frames received -/
def NET_PAUSE_RX_CNT : Ob := ⟨0x21053000, 32⟩
/-- 21.054[0..1], U32, RO: Link losses -/
def NET_LINK_DOWN_CNT : Ob := ⟨0x21054000, 32⟩
/-- 21.060, U16, RO: Open connections, 0 to 256 -/
def NVT_CONN_COUNT : Ob := ⟨0x21060000, 16⟩
/-- 21.061[0..32], U16, RO: Open connections bound to crib c; crib-visible -/
def NVT_CONN_CRIB : Ob := ⟨0x21061000, 16⟩
/-- 21.062[0..7], U32, RO: 0 PDU header, 1 header digest, 2 data digest, 3 Connect refused, 4 connection limit, 5 Keep Alive, 6 unsupported parameter, 7 sequence or range -/
def NVT_VIOL_CNT : Ob := ⟨0x21062000, 32⟩
/-- 22.001[0..7], ENUM8, RO: Per stream: 0 IDLE, 1 RUNNING, 2 WAITING, 3 DONE, 4 FAILED; operator-only -/
def ADMIN_OP_STATE : Ob := ⟨0x22001000, 8⟩
/-- 22.002[0..7], ENUM8, RO: 1 FORMAT, 2 SANITIZE, 3 CERTIFY; operator-only -/
def ADMIN_OP_KIND : Ob := ⟨0x22002000, 8⟩
/-- 22.003[0..7], U16, RO: Progress in 1/65,536; operator-only -/
def ADMIN_OP_PROG : Ob := ⟨0x22003000, 16⟩
/-- 22.004[0..7], ENUM8, RO: FAIL of R490; operator-only -/
def ADMIN_OP_FAIL : Ob := ⟨0x22004000, 8⟩
/-- 22.005[0..7], U32, RO: OP_ID of the stream's latest operation; operator-only -/
def ADMIN_OP_ID : Ob := ⟨0x22005000, 32⟩
/-- 22.010[0..255], ENUM8, RO: 0 READY, 1 FORMATTING, 2 FAILED; crib-visible -/
def NS_FORMAT_STATE : Ob := ⟨0x22010000, 8⟩
/-- 22.011[0..255], U32, RO: Zones left Offline by R473; crib-visible -/
def NS_ZONES_SHORT : Ob := ⟨0x22011000, 32⟩
/-- 22.020[0..1535], BOOL, RW: 1 selects slot d for certification; operator-only -/
def CERT_SEL : Ob := ⟨0x22020000, 8⟩
/-- 22.021[0..1535], ENUM8, RO: 0 none, 1 OK, 2 NOT_SELECTABLE, 3 WRITE_ONCE_USED, 4 SYSTEM_AREA, 5 MEDIA, 6 INTERRUPTED; kept in the Chest; operator-only -/
def CERT_RESULT : Ob := ⟨0x22021000, 8⟩
/-- 22.022[0..1535], U8, RO: Zones made spent at certification; operator-only -/
def CERT_BAD_ZONES : Ob := ⟨0x22022000, 8⟩
/-- 22.023, U16, WC: Failing address units per zone, 0 to 65,535; default 64; operator-only -/
def CERT_BAD_MAX : Ob := ⟨0x22023000, 16⟩
/-- 22.030, U32, RO: SEQ of the newest journal record; operator-only -/
def JOURNAL_SEQ : Ob := ⟨0x22030000, 32⟩
/-- 30.001[0..15], ENUM8, RO: 0 OFF, 1 OPEN, 2 FOCUSING, 3 FOCUSED, 4 TRACKING, 5 SEEKING, 6 LAYER_JUMP, 7 HOLD, 8 RECOVERING, 9 FAULT -/
def DRIVE_SERVO_STATE : Ob := ⟨0x30001000, 8⟩
/-- 30.002[0..15], ENUM8, RO: 0 NONE, 1 OBSERVER, 2 WOBBLE, 3 LOCKED (R192) -/
def ANGLE_STATE : Ob := ⟨0x30002000, 8⟩
/-- 30.003[0..15], U32, RO: [15:0] SAU, [31:16] revolution low 16 bits -/
def ANGLE_NOW : Ob := ⟨0x30003000, 32⟩
/-- 30.004[0..15], U32, RO: Revolutions since Cold start -/
def REV_COUNT : Ob := ⟨0x30004000, 32⟩
/-- 30.005[0..15], U8, RO: Layer under focus -/
def CUR_LAYER : Ob := ⟨0x30005000, 8⟩
/-- 30.006[0..15], U32, RO: Track under the spot -/
def CUR_TRACK : Ob := ⟨0x30006000, 32⟩
/-- 30.007[0..15], U32, RO: Operations moved one revolution later (R196, R208) -/
def ANGLE_SLIP_CNT : Ob := ⟨0x30007000, 32⟩
/-- 30.010[0..15], BOOL, WO: Write 1 for a Drive reset; clears DRIVE_FAULT -/
def DRIVE_RESET : Ob := ⟨0x30010000, 8⟩
/-- 30.011[0..15], BITS32, RO: [0] focus, [1] tracking, [2] angle and layer, [3] link, [6] spindle, [7] media -/
def DRIVE_FAULT : Ob := ⟨0x30011000, 32⟩
/-- 30.012, U16, WC: s; failure timeout used in R438 -/
def DRIVE_FAULT_TIMEOUT : Ob := ⟨0x30012000, 16⟩
/-- 30.013[0..15], BOOL, WO: Write 1 for a Front-end reset -/
def FE_RESET : Ob := ⟨0x30013000, 8⟩
/-- 30.100[0..63], I32, WC: Raw / 2^28 -/
def LOOP_IN_GAIN : Ob := ⟨0x30100000, 32⟩
/-- 30.101[0..63], I32, WC: Raw / 2^28 -/
def LOOP_OUT_GAIN : Ob := ⟨0x30101000, 32⟩
/-- 30.102[0..63], I32, WC: Output unit of the loop (R176) -/
def LOOP_MIN : Ob := ⟨0x30102000, 32⟩
/-- 30.103[0..63], I32, WC: Output unit of the loop -/
def LOOP_MAX : Ob := ⟨0x30103000, 32⟩
/-- 30.104[0..1279], I32, WC: Coefficient 80n+20L+5q+j, raw / 2^28 -/
def LOOP_BQ : Ob := ⟨0x30104000, 32⟩
/-- 30.105[0..63], I32, RO: Copied from the per-layer trims (R340) -/
def LOOP_TRIM : Ob := ⟨0x30105000, 32⟩
/-- 30.106[0..63], I16, RO: Copied from the per-layer offsets (R340) -/
def LOOP_OFFSET : Ob := ⟨0x30106000, 16⟩
/-- 30.107[0..63], U32, RO: Samples with clamped output -/
def LOOP_SAT_CNT : Ob := ⟨0x30107000, 32⟩
/-- 30.120, I16, WC: DAC code; default −24,000 -/
def FOCUS_SWEEP_START : Ob := ⟨0x30120000, 16⟩
/-- 30.121, I16, WC: DAC code; default 24,000 -/
def FOCUS_SWEEP_END : Ob := ⟨0x30121000, 16⟩
/-- 30.122, U16, WC: DAC codes per servo period, 1 to 64; default 4 -/
def FOCUS_SWEEP_STEP : Ob := ⟨0x30122000, 16⟩
/-- 30.123, U16, WC: SUM for a layer; default 6,000 -/
def FOCUS_SUM_MIN : Ob := ⟨0x30123000, 16⟩
/-- 30.124, U16, WC: SUM for the surface; default 1,500 -/
def FOCUS_SUM_SURF : Ob := ⟨0x30124000, 16⟩
/-- 30.125, U8, WC: Sweeps, 1 to 8; default 3 -/
def FOCUS_ATTEMPTS : Ob := ⟨0x30125000, 8⟩
/-- 30.126, I16, WC: DAC codes; default 9,000 -/
def LAYER_KICK : Ob := ⟨0x30126000, 16⟩
/-- 30.127, U16, WC: Servo periods; default 20 -/
def LAYER_KICK_T : Ob := ⟨0x30127000, 16⟩
/-- 30.128, U16, WC: Servo periods; default 250 -/
def LAYER_JUMP_WINDOW : Ob := ⟨0x30128000, 16⟩
/-- 30.130, U16, WC: Tracks per ms; default 20 -/
def TRACK_PULLIN_RATE : Ob := ⟨0x30130000, 16⟩
/-- 30.131, U16, WC: Tracks, 1 to 4,096; default 256 -/
def SEEK_SHORT_MAX : Ob := ⟨0x30131000, 16⟩
/-- 30.132, U8, WC: 1 to 8; default 3 -/
def SEEK_FINE_ATTEMPTS : Ob := ⟨0x30132000, 8⟩
/-- 30.133, U16, WC: SAU; default 2,048 -/
def SEEK_MARGIN : Ob := ⟨0x30133000, 16⟩
/-- 30.134, U32, WC: Sled travel per microstep, picometres, 1,000 to 1,000,000 -/
def SLED_PM_PER_USTEP : Ob := ⟨0x30134000, 32⟩
/-- 30.135, U8, WC: Servo periods, 0 to 15; default 3 -/
def LG_HOLD_SAMPLES : Ob := ⟨0x30135000, 8⟩
/-- 30.140, U16, WC: Servo periods, 1 to 1,000; default 125 -/
def DEFECT_HOLD_MAX : Ob := ⟨0x30140000, 16⟩
/-- 30.141, U8, WC: Servo periods, 0 to 7; default 2 -/
def DEFECT_LOOKBACK : Ob := ⟨0x30141000, 8⟩
/-- 30.142, U8, WC: Servo periods, 1 to 15; default 2 -/
def DEFECT_EXIT : Ob := ⟨0x30142000, 8⟩
/-- 30.143[0..15], U32, RO: Defect holds -/
def DEFECT_HOLD_CNT : Ob := ⟨0x30143000, 32⟩
/-- 30.144[0..15], U32, RO: Holds ended at DEFECT_HOLD_MAX -/
def DEFECT_HOLD_OVER_CNT : Ob := ⟨0x30144000, 32⟩
/-- 30.150, U16, WC: SUM; default 3,000 -/
def FOCUS_LOST_SUM : Ob := ⟨0x30150000, 16⟩
/-- 30.151, U8, WC: Servo periods, 1 to 64; default 4 -/
def FOCUS_LOST_N : Ob := ⟨0x30151000, 8⟩
/-- 30.152, U8, WC: Losses, 1 to 16; default 3 -/
def LOCK_RETRY : Ob := ⟨0x30152000, 8⟩
/-- 30.153, U16, WC: s, 1 to 3,600; default 10 -/
def LOCK_RETRY_WINDOW : Ob := ⟨0x30153000, 16⟩
/-- 30.154[0..63], U32, RO: Losses of lock per kind (R214) -/
def LOCK_LOSS_CNT : Ob := ⟨0x30154000, 32⟩
/-- 30.160, U16, WC: Bulk-cell CRC errors per s; default 64 -/
def GL_ERR_LIMIT : Ob := ⟨0x30160000, 16⟩
/-- 30.161[0..15], U32, RO: Missed upstream A-cells -/
def GL_MISS_CNT : Ob := ⟨0x30161000, 32⟩
/-- 30.162[0..15], U32, RO: Bulk cells with bad CRC -/
def GL_CRC_CNT : Ob := ⟨0x30162000, 32⟩
/-- 30.163[0..15], U32, RO: Link retrains -/
def GL_RETRAIN_CNT : Ob := ⟨0x30163000, 32⟩
/-- 30.164[0..15], U32, RO: A-cells taken from the repeat copy -/
def GL_REPEAT_CNT : Ob := ⟨0x30164000, 32⟩
/-- 31.001[0..15], ENUM8, RO: 0 to 4 for D0 to D4; operator-only -/
def DRV_STATE : Ob := ⟨0x31001000, 8⟩
/-- 31.002[0..79], U32, RO: µs, element 5n + s (R436); operator-only -/
def DRV_EXIT_LAT : Ob := ⟨0x31002000, 32⟩
/-- 31.010[0..3], U32, WC: ms, idle time in D0 to D3 before the next state; defaults 2,000, 60,000, 300,000, 3,600,000; operator-only -/
def DRV_IDLE_T : Ob := ⟨0x31010000, 32⟩
/-- 31.020[0..15], U16, RO: Library slot of the disc in drive n; 0xFFFF if none; operator-only -/
def DRV_DISC : Ob := ⟨0x31020000, 16⟩
/-- 32.001[0..15], ENUM8, RO: Mode (R230) -/
def SPIN_STATE : Ob := ⟨0x32001000, 8⟩
/-- 32.002[0..15], I32, RO: 1/256 SAU per motion tick -/
def SPIN_SPEED_MEAS : Ob := ⟨0x32002000, 32⟩
/-- 32.003[0..15], U16, RO: rpm -/
def SPIN_RPM : Ob := ⟨0x32003000, 16⟩
/-- 32.004[0..15], U32, RO: 1/256 SAU per motion tick -/
def SPIN_TARGET : Ob := ⟨0x32004000, 32⟩
/-- 32.005[0..15], BITS32, RO: [0] VLIM, [2] SETTLED, [3] braking limited by bus, [4] media lock -/
def SPIN_FLAGS : Ob := ⟨0x32005000, 32⟩
/-- 32.006[0..15], ENUM8, RO: Cause (R256); 0 none -/
def SPIN_FAULT_CAUSE : Ob := ⟨0x32006000, 8⟩
/-- 32.010, U16, WC: rpm, 1,000 to 5,400; default 5,400 -/
def SPIN_READ_RPM : Ob := ⟨0x32010000, 16⟩
/-- 32.011, U16, WC: rpm, 1,000 to 2,700; default 2,700 -/
def SPIN_WRITE_RPM : Ob := ⟨0x32011000, 16⟩
/-- 32.012, U16, WC: rpm/s, 100 to 6,000; default 2,400 -/
def SPIN_ACCEL : Ob := ⟨0x32012000, 16⟩
/-- 32.013, U16, WC: rpm/s, 100 to 6,000; default 2,400 -/
def SPIN_DECEL : Ob := ⟨0x32013000, 16⟩
/-- 32.014, U16, WC: rpm/s, 100 to 6,000; default 3,000 -/
def SPIN_STOP_DECEL : Ob := ⟨0x32014000, 16⟩
/-- 32.015, U16, WC: ms, 100 to 10,000; default 2,000 -/
def SPIN_START_TIMEOUT : Ob := ⟨0x32015000, 16⟩
/-- 32.016, U16, WC: ms, 1,000 to 60,000; default 8,000 -/
def SPIN_STOP_TIMEOUT : Ob := ⟨0x32016000, 16⟩
/-- 32.020[0..15], U8, WC: 1 to 12; default 6 -/
def SPIN_POLE_PAIRS : Ob := ⟨0x32020000, 8⟩
/-- 32.021[0..15], U16, WC: Phase resistance, mΩ -/
def SPIN_RS : Ob := ⟨0x32021000, 16⟩
/-- 32.022[0..15], U16, WC: Phase inductance, µH -/
def SPIN_LS : Ob := ⟨0x32022000, 16⟩
/-- 32.023[0..15], U16, WC: mV peak phase-to-neutral per 1,000 rpm -/
def SPIN_KE : Ob := ⟨0x32023000, 16⟩
/-- 32.024[0..15], U16, WC: mA; at most 4,000 under R730 -/
def SPIN_I_MAX : Ob := ⟨0x32024000, 16⟩
/-- 32.030, U8, WC: Injection at 40,000 / HFI_DIV Hz, 8 to 40; default 16 -/
def HFI_DIV : Ob := ⟨0x32030000, 8⟩
/-- 32.031, U16, WC: mV, 200 to 5,000; default 1,500 -/
def HFI_AMPL : Ob := ⟨0x32031000, 16⟩
/-- 32.032, U16, WC: Ticks, 20 to 2,000; default 100 -/
def HFI_SETTLE : Ob := ⟨0x32032000, 16⟩
/-- 32.033, U16, WC: mA; default 800 -/
def HFI_SIGN_I : Ob := ⟨0x32033000, 16⟩
/-- 32.034, U16, WC: Ticks, 4 to 400; default 40 -/
def HFI_SIGN_T : Ob := ⟨0x32034000, 16⟩
/-- 32.035, U8, WC: Percent, 1 to 50; default 5 -/
def HFI_SIGN_MARGIN : Ob := ⟨0x32035000, 8⟩
/-- 32.036[0..15], U16, RO: Last larger/smaller peak ratio, thousandths -/
def HFI_SIGN_RATIO : Ob := ⟨0x32036000, 16⟩
/-- 32.040, U16, WC: Electrical angle; default 3,641 (20°) -/
def OBS_AGREE : Ob := ⟨0x32040000, 16⟩
/-- 32.041, U16, WC: Ticks, 4 to 1,000; default 32 -/
def OBS_AGREE_TICKS : Ob := ⟨0x32041000, 16⟩
/-- 32.050, U16, WC: Ticks, 8 to 1,000; default 64 -/
def MLOCK_TICKS : Ob := ⟨0x32050000, 16⟩
/-- 32.051, U16, WC: Electrical angle; default 1,820 (10°) -/
def MLOCK_SPREAD : Ob := ⟨0x32051000, 16⟩
/-- 32.052, U16, WC: Electrical angle; default 5,461 (30°) -/
def MLOCK_DEV : Ob := ⟨0x32052000, 16⟩
/-- 32.053[0..15], U16, RO: Electrical angle (R236) -/
def MLOCK_OFS : Ob := ⟨0x32053000, 16⟩
/-- 32.054[0..15], U32, RO: Exits from media lock (R239) -/
def MLOCK_DROP_CNT : Ob := ⟨0x32054000, 32⟩
/-- 32.060, U16, WC: Ticks, 1 to 1,000; default 200 -/
def VLIM_TICKS : Ob := ⟨0x32060000, 16⟩
/-- 32.061[0..16], U32, RO: Voltage-limit entries -/
def VLIM_CNT : Ob := ⟨0x32061000, 32⟩
/-- 32.062[0..16], U16, RO: Thousandths; 1,000 is the limit -/
def MOD_INDEX : Ob := ⟨0x32062000, 16⟩
/-- 32.070, U16, WC: mV, 50,000 to 56,000; default 54,000 -/
def BRAKE_VBUS_MAX : Ob := ⟨0x32070000, 16⟩
/-- 32.080[0..16], U32, WC: mV/A -/
def CUR_KP : Ob := ⟨0x32080000, 32⟩
/-- 32.081[0..16], U32, WC: mV/(A·ms) -/
def CUR_KI : Ob := ⟨0x32081000, 32⟩
/-- 32.090, U8, WC: 1 to 24 -/
def CAR_POLE_PAIRS : Ob := ⟨0x32090000, 8⟩
/-- 32.091, U16, WC: Electrical angle -/
def CAR_ELEC_OFS : Ob := ⟨0x32091000, 16⟩
/-- 32.092, U16, WC: mA; at most 4,000 under R730 -/
def CAR_I_MAX : Ob := ⟨0x32092000, 16⟩
/-- 32.093, U16, WC: mA, open-loop stop current (R254) -/
def CAR_OPEN_I : Ob := ⟨0x32093000, 16⟩
/-- 32.094, U16, WC: Resolver units -/
def CAR_INDEX_ANGLE : Ob := ⟨0x32094000, 16⟩
/-- 32.095, U16, WC: Resolver units; default 256 -/
def CAR_INDEX_TOL : Ob := ⟨0x32095000, 16⟩
/-- 32.096, ENUM8, RO: 0 OFF, 1 RUN, 2 COASTING, 3 FAULT -/
def CAR_STATE : Ob := ⟨0x32096000, 8⟩
/-- 32.097, BITS32, RO: [0] VLIM, [1] position lost -/
def CAR_FLAGS : Ob := ⟨0x32097000, 32⟩
/-- 32.098, U16, RO: Resolver units -/
def CAR_ANGLE : Ob := ⟨0x32098000, 16⟩
/-- 32.099, U16, RO: Thousandths of nominal -/
def RES_AMPL : Ob := ⟨0x32099000, 16⟩
/-- 32.09A, U32, RO: Resolver and index faults (R254, R255) -/
def RES_FAULT_CNT : Ob := ⟨0x3209A000, 32⟩
/-- 33.001[0..15], ENUM8, RO: 0 IDLE, 1 ACQUIRING, 2 TRACKING, 3 COASTING -/
def RC_STATE : Ob := ⟨0x33001000, 8⟩
/-- 33.010[0..7], ENUM8, WC: Element 4 × (media − 1) + layer; 1 PR(1,2,1), 2 PR(1,2,2,1), 3 PR(1,2,2,2,1); default 3; elements 6 and 7 unused -/
def READ_TARGET : Ob := ⟨0x33010000, 8⟩
/-- 33.011, ENUM8, WC: 0 OFF, 1 PER_SHEAF, 2 CARRY; default 1 -/
def EQ_ADAPT : Ob := ⟨0x33011000, 8⟩
/-- 33.012, U8, WC: Step size exponent, 6 to 16; default 10 -/
def EQ_MU_SHIFT : Ob := ⟨0x33012000, 8⟩
/-- 33.013, BITS32, WC: Bits [14:0], frozen taps; default 0x0000_0080 -/
def EQ_FREEZE : Ob := ⟨0x33013000, 32⟩
/-- 33.014[0..239], I16, RO: Element 15n + t; raw / 4,096; set by calibration -/
def EQ_TAPS_INIT : Ob := ⟨0x33014000, 16⟩
/-- 33.015[0..239], I16, RO: Taps at the end of the last gate, raw / 4,096 -/
def EQ_TAPS : Ob := ⟨0x33015000, 16⟩
/-- 33.020, U8, WC: Shift, 1 to 15; default 3 -/
def TR_KP_ACQ : Ob := ⟨0x33020000, 8⟩
/-- 33.021, U8, WC: Shift, 1 to 20; default 8 -/
def TR_KI_ACQ : Ob := ⟨0x33021000, 8⟩
/-- 33.022, U8, WC: Shift, 1 to 15; default 6 -/
def TR_KP_TRK : Ob := ⟨0x33022000, 8⟩
/-- 33.023, U8, WC: Shift, 1 to 20; default 13 -/
def TR_KI_TRK : Ob := ⟨0x33023000, 8⟩
/-- 33.024, U8, WC: 1/256 UI; default 20 -/
def ACQ_PHASE_MAX : Ob := ⟨0x33024000, 8⟩
/-- 33.025, U8, WC: Percent, 1 to 50; default 10 -/
def ACQ_AMPL_TOL : Ob := ⟨0x33025000, 8⟩
/-- 33.026, U8, WC: ADC codes, 16 to 100; default 48 -/
def AGC_TARGET : Ob := ⟨0x33026000, 8⟩
/-- 33.030, U8, WC: Channel bits, 0 to 6; default 3 -/
def SYNC_TOL : Ob := ⟨0x33030000, 8⟩
/-- 33.031, U8, WC: Channel bits, 1 to 32; default 8 -/
def SYNC_WIN : Ob := ⟨0x33031000, 8⟩
/-- 33.032, U8, WC: Syncs, 1 to 8; default 2 -/
def SYNC_MISS_MAX : Ob := ⟨0x33032000, 8⟩
/-- 33.033, U8, WC: Channel bits, 16 to 255; default 64 -/
def SYNC_REACQ_WIN : Ob := ⟨0x33033000, 8⟩
/-- 33.040, U8, WC: /256; default 128 -/
def WIN_ENV_DROP : Ob := ⟨0x33040000, 8⟩
/-- 33.041, U8, WC: /256; default 179 -/
def WIN_ENV_REL : Ob := ⟨0x33041000, 8⟩
/-- 33.042, U8, WC: Samples of 16, 1 to 16; default 4 -/
def WIN_SAT_N : Ob := ⟨0x33042000, 8⟩
/-- 33.043, U16, WC: Normalised codes; default 4,000 -/
def WIN_SPIKE : Ob := ⟨0x33043000, 16⟩
/-- 33.044, U8, WC: /16, 17 to 255; default 64 -/
def WIN_PM_LIMIT : Ob := ⟨0x33044000, 8⟩
/-- 33.045, U8, WC: Channel bits; default 48 -/
def WIN_GUARD_BITS : Ob := ⟨0x33045000, 8⟩
/-- 33.046, U8, WC: Servo periods; default 8 -/
def WIN_ARM_SETTLE : Ob := ⟨0x33046000, 8⟩
/-- 33.050[0..15], U32, RO: Read summaries received -/
def RC_GATE_CNT : Ob := ⟨0x33050000, 32⟩
/-- 33.051[0..15], U32, RO: STATUS ACQ_FAIL -/
def RC_ACQ_FAIL_CNT : Ob := ⟨0x33051000, 32⟩
/-- 33.052[0..15], U32, RO: STATUS ABORTED -/
def RC_ABORT_CNT : Ob := ⟨0x33052000, 32⟩
/-- 33.053[0..15], U32, RO: STATUS OVERRUN -/
def RC_OVERRUN_CNT : Ob := ⟨0x33053000, 32⟩
/-- 33.054[0..15], U32, RO: Flywheeled syncs -/
def RC_SYNC_MISS_CNT : Ob := ⟨0x33054000, 32⟩
/-- 33.055[0..15], U32, RO: Widened sync searches -/
def RC_SYNC_LOSS_CNT : Ob := ⟨0x33055000, 32⟩
/-- 33.056[0..127], U64, RO: Element 8n + c: c = 0 ENV, 1 SAT, 2 SPIKE, 3 PM, 4 code word, 5 sync, 6 flagged, 7 delivered -/
def RC_FLAG_BYTES : Ob := ⟨0x33056000, 64⟩
/-- 33.057[0..15], U16, RO: 1/256 UI, last OK gate -/
def RC_PHASE_RMS : Ob := ⟨0x33057000, 16⟩
/-- 33.058[0..15], I16, RO: 1/16 ADC code, last OK gate -/
def RC_ASYM : Ob := ⟨0x33058000, 16⟩
/-- 33.059[0..15], I16, RO: 1/16 ADC code, last OK gate -/
def RC_BASELINE : Ob := ⟨0x33059000, 16⟩
/-- 33.05A[0..15], U16, RO: 0.1 dB, last OK gate -/
def RC_AGC_GAIN : Ob := ⟨0x3305A000, 16⟩
/-- 33.060[0..15], U32, RO: Laser faults (R263) -/
def LASER_FAULT_CNT : Ob := ⟨0x33060000, 32⟩
/-- 33.061[0..15], U16, RO: Monitor-diode power, 5 µW units -/
def LASER_PWR_MEAS : Ob := ⟨0x33061000, 16⟩
/-- 34.001[0..15], BITS32, WO: [0] SERVO, [1] EQ, [2] WPWR (R354) -/
def CAL_REQUEST : Ob := ⟨0x34001000, 32⟩
/-- 34.002[0..15], ENUM8, RO: 0 IDLE, 1 DARK, 2 SWEEP, 3 TRACK_BAL, 4 EQ, 5 PENDING -/
def CAL_STATE : Ob := ⟨0x34002000, 8⟩
/-- 34.003[0..15], BITS32, RO: [0] focus trim clamped, [1] tracking trim clamped, [2] no OK equaliser gate, [3] write power at a limit, [4] layer missing from sweep; cleared at each load -/
def CAL_FLAGS : Ob := ⟨0x34003000, 32⟩
/-- 34.004[0..15], U32, RO: Calibrations ended under R355 -/
def CAL_ABORT_CNT : Ob := ⟨0x34004000, 32⟩
/-- 34.010[0..47], I16, RO: Element 3n + i: 0 FE, 1 TE, 2 SUM; ADC codes -/
def FE_DARK : Ob := ⟨0x34010000, 16⟩
/-- 34.020, U16, WC: Normalised codes; default 12,000 -/
def CAL_FO_PP_NOM : Ob := ⟨0x34020000, 16⟩
/-- 34.021, U16, WC: Normalised codes; default 8,000 -/
def CAL_TE_PP_NOM : Ob := ⟨0x34021000, 16⟩
/-- 34.022, U8, WC: Revolutions, 1 to 16; default 4 -/
def CAL_TE_REVS : Ob := ⟨0x34022000, 8⟩
/-- 34.023[0..63], I16, RO: Normalised codes -/
def CAL_FO_OFS : Ob := ⟨0x34023000, 16⟩
/-- 34.024[0..63], I32, RO: Raw / 2^28 -/
def CAL_FO_TRIM : Ob := ⟨0x34024000, 32⟩
/-- 34.025[0..63], U16, RO: Normalised codes -/
def CAL_FO_PP : Ob := ⟨0x34025000, 16⟩
/-- 34.026[0..63], I16, RO: Normalised codes -/
def CAL_TR_OFS : Ob := ⟨0x34026000, 16⟩
/-- 34.027[0..63], I32, RO: Raw / 2^28 -/
def CAL_TR_TRIM : Ob := ⟨0x34027000, 32⟩
/-- 34.028[0..63], U16, RO: Normalised codes -/
def CAL_TR_PP : Ob := ⟨0x34028000, 16⟩
/-- 34.029[0..63], U16, RO: Half cycles used -/
def CAL_TR_XINGS : Ob := ⟨0x34029000, 16⟩
/-- 34.030, U8, WC: Gates, 1 to 16; default 8 -/
def EQ_CAL_SHEAVES : Ob := ⟨0x34030000, 8⟩
/-- 34.031[0..15], U8, RO: Gates with STATUS OK -/
def CAL_EQ_USED : Ob := ⟨0x34031000, 8⟩
/-- 34.032[0..15], U16, RO: 1/256 UI -/
def CAL_EQ_JITTER : Ob := ⟨0x34032000, 16⟩
/-- 34.040[0..7], U16, WC: 5 µW units, 0 to 800; defaults 280, 260, 240, 220, 180, 160 -/
def READ_PWR : Ob := ⟨0x34040000, 16⟩
/-- 34.041, BOOL, WC: Default 1 -/
def READ_HFM : Ob := ⟨0x34041000, 8⟩
/-- 34.042[0..7], U16, WC: 5 µW units; defaults 6,000, 5,600, 5,200, 4,800, 4,400, 4,000 -/
def WRITE_PWR_INIT : Ob := ⟨0x34042000, 16⟩
/-- 34.043[0..7], U16, WC: 5 µW units; default 0.8 × WRITE_PWR_INIT -/
def WRITE_PWR_MIN : Ob := ⟨0x34043000, 16⟩
/-- 34.044[0..7], U16, WC: 5 µW units, at most 16,000; default 1.2 × WRITE_PWR_INIT -/
def WRITE_PWR_MAX : Ob := ⟨0x34044000, 16⟩
/-- 34.045, U8, WC: /256; default 64 -/
def WCAL_GAIN : Ob := ⟨0x34045000, 8⟩
/-- 34.046, U8, WC: Percent, 1 to 10; default 2 -/
def WCAL_STEP_MAX : Ob := ⟨0x34046000, 8⟩
/-- 34.047[0..63], U16, RO: 5 µW units -/
def WRITE_PWR_CUR : Ob := ⟨0x34047000, 16⟩
/-- 34.048[0..63], I16, RO: Last ASYM used, 1/16 ADC code -/
def WCAL_ASYM : Ob := ⟨0x34048000, 16⟩
/-- 34.049[0..63], U32, RO: Adjustments since load -/
def WCAL_COUNT : Ob := ⟨0x34049000, 32⟩
/-- 34.050[0..1], U8, WC: 1/16 channel bit, element media − 1; default 2 -/
def WS_FIRST_START : Ob := ⟨0x34050000, 8⟩
/-- 34.051[0..1], U8, WC: 1/16 channel bit; default 10 -/
def WS_FIRST_W : Ob := ⟨0x34051000, 8⟩
/-- 34.052[0..1], U8, WC: 1/16 channel bit; default 8 -/
def WS_MULTI_W : Ob := ⟨0x34052000, 8⟩
/-- 34.053[0..1], U8, WC: 1/16 channel bit; default 12 -/
def WS_COOL_W : Ob := ⟨0x34053000, 8⟩
/-- 34.054[0..1], U8, WC: /256 of read power; default 64 -/
def WS_COOL_PWR : Ob := ⟨0x34054000, 8⟩
/-- 34.055[0..1], U16, WC: KDF-2E layers L0 and L1, 5 µW units; default 1,800 -/
def ERASE_PWR : Ob := ⟨0x34055000, 16⟩
/-- 35.001[0..15], ENUM8, RO: 0 EMPTY, 1 RECOGNISING, 2 READY, 3 BLANK, 4 FAULT -/
def MEDIA_STATE : Ob := ⟨0x35001000, 8⟩
/-- 35.002[0..15], ENUM8, RO: 0 none, 1 WRONG_TYPE, 2 UNREADABLE -/
def MEDIA_FAULT_CAUSE : Ob := ⟨0x35002000, 8⟩
/-- 35.003[0..15], U64, RO: DISC_ID of the loaded disc; 0 if none or not READY -/
def DRV_DISC_ID : Ob := ⟨0x35003000, 64⟩
/-- 35.010, U8, WC: 2e + f limit, 0 to 24; default 20 -/
def INNER_TRUST : Ob := ⟨0x35010000, 8⟩
/-- 35.011, U8, WC: 2e + f limit per row at verify, 0 to 24; default 12 -/
def VERIFY_ROW_LIMIT : Ob := ⟨0x35011000, 8⟩
/-- 35.012, U8, WC: Rows per half, 0 to 20; default 4 -/
def VERIFY_ERASED_ROWS : Ob := ⟨0x35012000, 8⟩
/-- 35.013, U8, WC: Replacements, 1 to 8; default 3 -/
def WRITE_RETRY_MAX : Ob := ⟨0x35013000, 8⟩
/-- 35.014, U8, WC: Rereads, 0 to 8; default 2 -/
def REREAD_MAX : Ob := ⟨0x35014000, 8⟩
/-- 35.015, U32, WC: Spare slots per disc; default 4,096 -/
def SPARE_LOW : Ob := ⟨0x35015000, 32⟩
/-- 35.016, BOOL, WC: Write rebuilt sheaves back; default 1 -/
def STOOK_REPAIR : Ob := ⟨0x35016000, 8⟩
/-- 35.020[0..1535], U32, RO: Free spare slots at last load; 0xFFFF_FFFF if not loaded since Cold start -/
def DISC_SPARE_FREE : Ob := ⟨0x35020000, 32⟩
/-- 35.030[0..767], U8, WC: [3:0] k, [6:4] m; 0 means unused -/
def STOOK_FAM_KM : Ob := ⟨0x35030000, 8⟩
/-- 35.031[0..1535], U32, WC: [9:0] family, [13:10] position, [31] member -/
def DISC_STOOK : Ob := ⟨0x35031000, 32⟩
/-- 35.032[0..767], U32, RO: Stooks without verified parity -/
def STOOK_UNPROT : Ob := ⟨0x35032000, 32⟩
/-- 35.033[0..767], BOOL, RO: Parity written for the family; kept in the Chest -/
def STOOK_WRITTEN : Ob := ⟨0x35033000, 8⟩
/-- 35.040[0..15], U64, RO: Rows corrected with e > 0 -/
def CODEC_ROW_CORR_CNT : Ob := ⟨0x35040000, 64⟩
/-- 35.041[0..15], U64, RO: Rows erased (R316) -/
def CODEC_ROW_ERASED_CNT : Ob := ⟨0x35041000, 64⟩
/-- 35.042[0..15], U32, RO: Uncorrectable sheaves (R318) -/
def SHEAF_UNCORR_CNT : Ob := ⟨0x35042000, 32⟩
/-- 35.043[0..15], U32, RO: Replacements written (R327) -/
def REPLACE_CNT : Ob := ⟨0x35043000, 32⟩
/-- 35.044[0..767], U32, RO: Sheaves rebuilt (R335) -/
def STOOK_RECON_CNT : Ob := ⟨0x35044000, 32⟩
/-- 35.045[0..767], U32, RO: Rebuilds failed (R335) -/
def STOOK_FAIL_CNT : Ob := ⟨0x35045000, 32⟩
/-- 40.001[0..19], ENUM8, RO: 0 OFF, 1 HOLD, 2 MOVING, 3 STOPPING, 4 HOMING, 5 FAULT -/
def MOT_STATE : Ob := ⟨0x40001000, 8⟩
/-- 40.002[0..19], BITS32, RO: [0] HOMED, [1] position lost, [2] stall, [3] limit stop, [4] retained -/
def MOT_FLAGS : Ob := ⟨0x40002000, 32⟩
/-- 40.003[0..19], I32, RO: Position unit (R358) -/
def MOT_POS : Ob := ⟨0x40003000, 32⟩
/-- 40.004[0..19], U16, RO: Microstep index, 0 to 1,023 -/
def MOT_USTEP : Ob := ⟨0x40004000, 16⟩
/-- 40.005[0..19], U16, RO: mA -/
def MOT_I_NOW : Ob := ⟨0x40005000, 16⟩
/-- 40.006[0..19], U16, RO: 1/65,536 electrical revolution -/
def MOT_LOAD_ANGLE : Ob := ⟨0x40006000, 16⟩
/-- 40.007, U64, RO: Motion ticks since Cold start -/
def MOT_TICK : Ob := ⟨0x40007000, 64⟩
/-- 40.008[0..19], BOOL, WO: Write 1 for a profile stop -/
def MOT_HALT : Ob := ⟨0x40008000, 8⟩
/-- 40.010[0..19], U32, WC: Units/s; sled default 100,000 -/
def MOT_V_MAX : Ob := ⟨0x40010000, 32⟩
/-- 40.011[0..19], U32, WC: Units/s²; sled default 2,000,000 -/
def MOT_A_MAX : Ob := ⟨0x40011000, 32⟩
/-- 40.012[0..19], U32, WC: Units/s³; 0 trapezoid; sled default 0 -/
def MOT_J_MAX : Ob := ⟨0x40012000, 32⟩
/-- 40.013[0..19], U32, WC: Units/s²; sled default 40,000,000 -/
def MOT_STOP_DECEL : Ob := ⟨0x40013000, 32⟩
/-- 40.014[0..19], I32, WC: Position unit -/
def MOT_POS_MIN : Ob := ⟨0x40014000, 32⟩
/-- 40.015[0..19], I32, WC: Position unit -/
def MOT_POS_MAX : Ob := ⟨0x40015000, 32⟩
/-- 40.016[0..19], U32, RO: Stalls -/
def MOT_STALL_CNT : Ob := ⟨0x40016000, 32⟩
/-- 40.017[0..19], U32, RO: Limit stops outside homing -/
def MOT_LIMIT_CNT : Ob := ⟨0x40017000, 32⟩
/-- 40.020[0..19], U16, WC: mA; default 300 -/
def MOT_I_HOLD : Ob := ⟨0x40020000, 16⟩
/-- 40.021[0..19], U16, WC: mA; default 600 -/
def MOT_I_RUN : Ob := ⟨0x40021000, 16⟩
/-- 40.022[0..19], U16, WC: mA; at most 2,500, the stepper rating of R729 -/
def MOT_I_CEIL : Ob := ⟨0x40022000, 16⟩
/-- 40.023[0..19], U16, WC: mA per current period; default 50 -/
def MOT_I_SLEW : Ob := ⟨0x40023000, 16⟩
/-- 40.024[0..19], U16, WC: 1/65,536 electrical revolution; default 8,192 -/
def MOT_LA_SET : Ob := ⟨0x40024000, 16⟩
/-- 40.025[0..19], U16, WC: mA per 256 angle units; default 40 -/
def MOT_LA_GAIN : Ob := ⟨0x40025000, 16⟩
/-- 40.026[0..19], U16, WC: Angle units; default 14,564 -/
def MOT_LA_STALL : Ob := ⟨0x40026000, 16⟩
/-- 40.027[0..19], U8, WC: Current periods; default 8 -/
def MOT_STALL_N : Ob := ⟨0x40027000, 8⟩
/-- 40.028[0..19], U32, WC: Microsteps/s; default 2,000 -/
def MOT_LA_MIN_V : Ob := ⟨0x40028000, 32⟩
/-- 40.030[0..19], U32, WC: Units/s -/
def MOT_HOME_V : Ob := ⟨0x40030000, 32⟩
/-- 40.031[0..19], I32, WC: Position assigned at the release edge -/
def MOT_HOME_POS : Ob := ⟨0x40031000, 32⟩
/-- 40.032[0..19], U32, WC: Largest homing travel -/
def MOT_HOME_RANGE : Ob := ⟨0x40032000, 32⟩
/-- 40.033[0..19], U16, WC: Microsteps; default 64 -/
def MOT_HOME_TOL : Ob := ⟨0x40033000, 16⟩
/-- 40.040, U8, WC: µs, 1 to 16; default 4 -/
def MOT_SW_FILTER : Ob := ⟨0x40040000, 8⟩
/-- 40.041[0..4], BITS32, WC: Bits [7:0] invert inputs -/
def MOT_SW_INVERT : Ob := ⟨0x40041000, 32⟩
/-- 40.042[0..4], BITS32, RO: Active inputs -/
def MOT_SW_LEVEL : Ob := ⟨0x40042000, 32⟩
/-- 40.043[0..39], I32, RO: Last latched position -/
def MOT_LATCH_POS : Ob := ⟨0x40043000, 32⟩
/-- 40.044[0..39], U64, RO: Tick of the last latch -/
def MOT_LATCH_TICK : Ob := ⟨0x40044000, 64⟩
/-- 40.045[0..39], U8, RO: [5:0] µs in tick; [7] rising -/
def MOT_LATCH_SUB : Ob := ⟨0x40045000, 8⟩
/-- 40.050, U32, WC: (units/s) per unit -/
def CAR_KP_POS : Ob := ⟨0x40050000, 32⟩
/-- 40.051, U32, WC: mA per (units/s) × 1,000 -/
def CAR_KP_V : Ob := ⟨0x40051000, 32⟩
/-- 40.052, U32, WC: mA per unit × 1,000 -/
def CAR_KI_V : Ob := ⟨0x40052000, 32⟩
/-- 40.053, U16, RO: Resolver units (R383) -/
def CAR_HOME_OFS : Ob := ⟨0x40053000, 16⟩
/-- 40.060, ENUM8, RO: 0 IDLE, 1 MOVING, 2 FAULT, 3 HOMING -/
def PICK_STATE : Ob := ⟨0x40060000, 8⟩
/-- 40.061, ENUM8, RO: 1 STALL, 2 LIMIT, 3 HOME_FAIL, 4 JAW, 5 ORPHAN, 6 LOST_DISC, 7 LINK, 8 CAROUSEL -/
def PICK_FAULT_CAUSE : Ob := ⟨0x40061000, 8⟩
/-- 40.062, U16, RO: Source slot of the carried disc; 0xFFFF if none -/
def PICK_CARRY : Ob := ⟨0x40062000, 16⟩
/-- 40.063, BOOL, WO: Write 1 to home and clear (R395) -/
def PICK_RESET : Ob := ⟨0x40063000, 8⟩
/-- 40.064, U16, WO: Slot for an orphan disc (R397) -/
def PICK_PLACE : Ob := ⟨0x40064000, 16⟩
/-- 40.065, U16, WC: s; default 60 -/
def PICK_AGE_MAX : Ob := ⟨0x40065000, 16⟩
/-- 40.066, U32, RO: Empty slots found (R394) -/
def PICK_EMPTY_CNT : Ob := ⟨0x40066000, 32⟩
/-- 40.070, I32, WC: Elevator position of slot row 0 -/
def PICK_ELEV_SLOT0 : Ob := ⟨0x40070000, 32⟩
/-- 40.071, I32, WC: Microsteps per slot row -/
def PICK_ELEV_PITCH : Ob := ⟨0x40071000, 32⟩
/-- 40.072[0..15], I32, WC: Elevator position of drive n -/
def PICK_DRV_ELEV : Ob := ⟨0x40072000, 32⟩
/-- 40.073, I32, WC: Reach into a magazine, positive -/
def PICK_REACH_MAG : Ob := ⟨0x40073000, 32⟩
/-- 40.074, I32, WC: Reach into a drive, negative -/
def PICK_REACH_DRV : Ob := ⟨0x40074000, 32⟩
/-- 40.075, I32, WC: Jaw closed on a disc -/
def PICK_JAW_GRIP : Ob := ⟨0x40075000, 32⟩
/-- 40.076, U16, WC: Resolver units of magazine 0 -/
def CAR_MAG_BASE : Ob := ⟨0x40076000, 16⟩
/-- 40.080[0..4], U32, RO: Missed upstream A-cells -/
def SL_MISS_CNT : Ob := ⟨0x40080000, 32⟩
/-- 40.081[0..4], U32, RO: Bulk cells with bad CRC -/
def SL_CRC_CNT : Ob := ⟨0x40081000, 32⟩
/-- 40.082[0..4], U32, RO: Retrains -/
def SL_RETRAIN_CNT : Ob := ⟨0x40082000, 32⟩
/-- 40.083, U16, WC: Per s; default 32 -/
def SL_ERR_LIMIT : Ob := ⟨0x40083000, 16⟩
/-- 40.084[0..4], BOOL, WO: Write 1 for an orderly Stage reset -/
def STAGE_RESET : Ob := ⟨0x40084000, 8⟩
/-- 40.085[0..4], U16, RO: mV -/
def STAGE_VBUS : Ob := ⟨0x40085000, 16⟩
/-- 40.086[0..4], I16, RO: mA -/
def STAGE_IBUS : Ob := ⟨0x40086000, 16⟩
/-- 50.001, BITS32, WC: Bits [11:0]: ways of the write-staging partition; default 0x0000_0C00; operator-only -/
def SHELF_STAGE_WAYS : Ob := ⟨0x50001000, 32⟩
/-- 50.002, U32, WC: µs per ageing pass, 100 to 1,000,000; default 2,000; operator-only -/
def SHELF_AGE_PASS : Ob := ⟨0x50002000, 32⟩
/-- 50.003, U16, WC: Blocks; 0 disables detection; default 256; operator-only -/
def STREAM_DETECT : Ob := ⟨0x50003000, 16⟩
/-- 50.004[0..32], U64, RO: Shelf hits; crib-visible -/
def SHELF_HIT_CNT : Ob := ⟨0x50004000, 64⟩
/-- 50.005[0..32], U64, RO: Shelf misses; crib-visible -/
def SHELF_MISS_CNT : Ob := ⟨0x50005000, 64⟩
/-- 50.006[0..32], U32, RO: Valid Shelf lines held; crib-visible -/
def SHELF_LINES : Ob := ⟨0x50006000, 32⟩
/-- 50.007, U64, RO: Blocks transferred without a Shelf fill (R510); operator-only -/
def SHELF_BYPASS_CNT : Ob := ⟨0x50007000, 64⟩
/-- 50.008, U16, RO: Shelf staging lines reserved; operator-only -/
def STAGE_LINES_USED : Ob := ⟨0x50008000, 16⟩
/-- 50.010, U8, WC: GiB, 0 to 96; default 16; operator-only -/
def HAYLOFT_SIZE : Ob := ⟨0x50010000, 8⟩
/-- 50.011, U8, WC: GiB, 1 to 8; default 2; operator-only -/
def HAYLOFT_STAGE_SIZE : Ob := ⟨0x50011000, 8⟩
/-- 50.012, U16, WC: MiB, 64 to 4,096; default 1,024; operator-only -/
def HAYLOFT_LAND : Ob := ⟨0x50012000, 16⟩
/-- 50.013, U32, WC: ms per ageing pass, 10 to 600,000; default 1,000; operator-only -/
def HAYLOFT_AGE_PASS : Ob := ⟨0x50013000, 32⟩
/-- 50.014, U32, WC: MiB for tag 63; default 4,096; operator-only -/
def HAYLOFT_DEV_QUOTA : Ob := ⟨0x50014000, 32⟩
/-- 50.015[0..32], U64, RO: Hayloft hits; crib-visible -/
def HAY_HIT_CNT : Ob := ⟨0x50015000, 64⟩
/-- 50.016[0..32], U64, RO: Hayloft misses; crib-visible -/
def HAY_MISS_CNT : Ob := ⟨0x50016000, 64⟩
/-- 50.017[0..33], U32, RO: Valid lines held; element 33 is tag 63; crib-visible for elements 1 to 32 -/
def HAYLOFT_LINES : Ob := ⟨0x50017000, 32⟩
/-- 50.018[0..5], U64, RO: Offer outcomes (R511); operator-only -/
def HAY_OFFER_CNT : Ob := ⟨0x50018000, 64⟩
/-- 50.019[0..1], U64, RO: [0] retained, [1] not retained (R506); operator-only -/
def HAY_FILL_CNT : Ob := ⟨0x50019000, 64⟩
/-- 50.01A, U32, RO: Hayloft staging buffers reserved; operator-only -/
def HAY_STAGE_USED : Ob := ⟨0x5001A000, 32⟩
/-- 50.01B, U32, RO: Landing buffers reserved; operator-only -/
def HAY_LAND_USED : Ob := ⟨0x5001B000, 32⟩
/-- 50.020, U8, RO: Sideboard entries in use, 0 to 64; operator-only -/
def SIDEBOARD_USED : Ob := ⟨0x50020000, 8⟩
/-- 50.021, U64, RO: Accesses supplied by the Sideboard (R516); operator-only -/
def SIDEBOARD_SNOOP_CNT : Ob := ⟨0x50021000, 64⟩
/-- 50.022, U32, RO: Lines invalidated on uncorrectable errors (R520); operator-only -/
def CACHE_ECC_REFILL_CNT : Ob := ⟨0x50022000, 32⟩
/-- 50.030[0..32], ENUM8, RW: 1 INVALIDATE, 2 DEMOTE, 3 PREFETCH, 4 INVALIDATE_ALL; crib-visible -/
def RAKE_OP : Ob := ⟨0x50030000, 8⟩
/-- 50.031[0..32], U32, RW: Namespace ID, 1 to 256; crib-visible -/
def RAKE_NSID : Ob := ⟨0x50031000, 32⟩
/-- 50.032[0..32], U64, RW: First block; crib-visible -/
def RAKE_SLBA : Ob := ⟨0x50032000, 64⟩
/-- 50.033[0..32], U64, RW: Blocks; crib-visible -/
def RAKE_NLB : Ob := ⟨0x50033000, 64⟩
/-- 50.034[0..32], BOOL, WO: Write 1 to start (R521); crib-visible -/
def RAKE_GO : Ob := ⟨0x50034000, 8⟩
/-- 50.035[0..32], BOOL, RO: 1 from GO until the operation ends; crib-visible -/
def RAKE_BUSY : Ob := ⟨0x50035000, 8⟩
/-- 50.036[0..32], ENUM8, RO: Result (R523); crib-visible -/
def RAKE_STATUS : Ob := ⟨0x50036000, 8⟩
/-- 50.037[0..32], U32, RO: GO writes while busy; crib-visible -/
def RAKE_IGNORED_CNT : Ob := ⟨0x50037000, 32⟩
/-- 50.038, BOOL, RO: Internal operation running (R524); operator-only -/
def RAKE_INTERNAL_BUSY : Ob := ⟨0x50038000, 8⟩
/-- 51.001[0..42], U16, RO: Corrected errors. Element 20ch + 10rank + device for DRAM; 40 Shelf, 41 Granary, 42 other SRAM. Saturating. -/
def MEM_CE_CNT : Ob := ⟨0x51001000, 16⟩
/-- 51.002[0..1], BITS32, RO: Bit e mod 32 of element e div 32 is set when MEM_CE_CNT[e] has saturated -/
def MEM_CE_STICKY : Ob := ⟨0x51002000, 32⟩
/-- 51.003, BOOL, WO: Write 1 to clear the counters and sticky bits (R534) -/
def MEM_CE_CLEAR : Ob := ⟨0x51003000, 8⟩
/-- 51.004[0..4], U32, RO: Uncorrectable errors per TARGET of R538 -/
def MEM_UE_CNT : Ob := ⟨0x51004000, 32⟩
/-- 51.005, ENUM8, RO: 0 none, 1 own DRAM region, 2 unowned SRAM word (R533); kept across a Warm restart -/
def MEM_RESTART_CAUSE : Ob := ⟨0x51005000, 8⟩
/-- 51.010[0..3], U8, RW: Erased device of rank 2ch + rank, 0 to 9, or 0xFF; restored from the Chest -/
def MEM_ERASE_DEV : Ob := ⟨0x51010000, 8⟩
/-- 51.011, U16, WC: Lines per pass, 1 to 65,535; default 16 -/
def MEM_ERASE_THRESH : Ob := ⟨0x51011000, 16⟩
/-- 51.020, U16, WC: MiB/s per channel, 0 to 1,024; default 64 -/
def GLEAN_DRAM_RATE : Ob := ⟨0x51020000, 16⟩
/-- 51.021, U16, WC: ms, 0 or 100 to 60,000; default 1,000 -/
def GLEAN_SRAM_PASS : Ob := ⟨0x51021000, 16⟩
/-- 51.022[0..1], U32, RO: Completed DRAM passes per channel -/
def GLEAN_DRAM_PASS_CNT : Ob := ⟨0x51022000, 32⟩
/-- 51.023[0..1], U16, RO: Progress of the current pass, 1/65,536 -/
def GLEAN_DRAM_PROG : Ob := ⟨0x51023000, 16⟩
/-- 51.024, U32, RO: Completed SRAM passes -/
def GLEAN_SRAM_PASS_CNT : Ob := ⟨0x51024000, 32⟩
/-- 51.030[0..255], BLOB, RO: Log record at ring position i, 64 bytes (R538) -/
def MEM_ERR_REC : Ob := ⟨0x51030000, 0⟩
/-- 51.031, U32, RO: SEQ of the newest record -/
def MEM_ERR_HEAD : Ob := ⟨0x51031000, 32⟩
/-- 51.032, U32, RO: Records dropped (R539) -/
def MEM_ERR_LOST : Ob := ⟨0x51032000, 32⟩
/-- 51.040, ENUM8, RW: 0 to 3 DRAM rank 2ch + rank, 4 Shelf, 5 Granary -/
def MEM_TEST_TARGET : Ob := ⟨0x51040000, 8⟩
/-- 51.041, U8, RW: Test line, 0 to 7 -/
def MEM_TEST_LINE : Ob := ⟨0x51041000, 8⟩
/-- 51.042, BLOB, RW: 64 bytes -/
def MEM_TEST_DATA : Ob := ⟨0x51042000, 0⟩
/-- 51.043, BLOB, RW: 16 bytes -/
def MEM_TEST_CHECK : Ob := ⟨0x51043000, 0⟩
/-- 51.044, ENUM8, WO: 1 WRITE, 2 WRITE_RAW, 3 READ, 4 READ_RAW (R540) -/
def MEM_TEST_OP : Ob := ⟨0x51044000, 8⟩
/-- 51.045, BITS32, RO: [1:0] 0 clean, 1 corrected, 2 uncorrectable; [15:8] symbols, or the SRAM bit; [25:16] device mask -/
def MEM_TEST_RESULT : Ob := ⟨0x51045000, 32⟩
/-- 51.050, U32, WO: Entry of R542 -/
def MEM_RETIRE_REQ : Ob := ⟨0x51050000, 32⟩
/-- 51.051, ENUM8, RO: 0 IDLE, 1 BUSY, 2 DONE, 3 FULL, 4 DUPLICATE, 5 RANGE -/
def MEM_RETIRE_STATE : Ob := ⟨0x51051000, 8⟩
/-- 51.052[0..1], U16, RO: [0] regions, [1] banks retired -/
def MEM_RETIRE_COUNT : Ob := ⟨0x51052000, 16⟩
/-- 51.054, U32, RWH: Write 0x434C_5252 while Held to empty the list (R546); reads 0 -/
def MEM_RETIRE_CLEAR : Ob := ⟨0x51054000, 32⟩
/-- 51.055, U32, RO: Hayloft (set, way) positions removed by bank retirement -/
def HAY_LINES_RETIRED : Ob := ⟨0x51055000, 32⟩
/-- 51.060[0..4095], U32, RO: Retirement list entries j = 0 to 4,095 in Chest order; 0 if empty -/
def MEM_RETIRE_LIST : Ob := ⟨0x51060000, 32⟩
/-- 51.061[0..31], U32, RO: Retirement list entries j = 4,096 to 4,127 (R49) -/
def MEM_RETIRE_LIST_1 : Ob := ⟨0x51061000, 32⟩
/-- 60.001[0..32], U8, WC: Sequencers a crib may hold, 0 to 4; default 1; operator-only -/
def CRIB_SEQ_MAX : Ob := ⟨0x60001000, 8⟩
/-- 60.002[0..32], U32, WC: ms, 1 to 3,600,000; default 600,000; crib-visible, read only to a crib -/
def JOB_TIME_LIMIT : Ob := ⟨0x60002000, 32⟩
/-- 60.003[0..32], BITS32, RO: [7:0]: job key k loaded (R158); crib-visible -/
def JOB_KEY_LOADED : Ob := ⟨0x60003000, 32⟩
/-- 60.010[0..3], ENUM8, RO: 0 IDLE, 1 LOADING, 2 RUNNING, 3 STOPPING; operator-only -/
def SEQ_STATE : Ob := ⟨0x60010000, 8⟩
/-- 60.011[0..3], U8, RO: Crib of the job on sequencer s; operator-only -/
def SEQ_CRIB : Ob := ⟨0x60011000, 8⟩
/-- 60.012[0..3], U32, RO: PC of sequencer s; operator-only -/
def SEQ_PC : Ob := ⟨0x60012000, 32⟩
/-- 60.013[0..15], U8, RO: Commands in queue 4s + q, 0 to 16; operator-only -/
def EQ_DEPTH : Ob := ⟨0x60013000, 8⟩
/-- 60.020[0..32], U64, RO: Jobs ended at HALT; crib-visible -/
def JOB_DONE_CNT : Ob := ⟨0x60020000, 64⟩
/-- 60.021[0..32], U32, RO: Jobs ended with JOB_EXCEPTION; crib-visible -/
def JOB_EXC_CNT : Ob := ⟨0x60021000, 32⟩
/-- 60.022[0..32], U64, RO: Last exception: [31:0] dword 0, [63:32] dword 1 of R582; crib-visible -/
def JOB_LAST_EXC : Ob := ⟨0x60022000, 64⟩
/-- 60.023[0..32], U16, RO: Jobs waiting for a sequencer; crib-visible -/
def JOB_WAITING : Ob := ⟨0x60023000, 16⟩
/-- 60.030[0..13], U64, RO: µs engine e spent on commands, all classes; operator-only -/
def ENGINE_BUSY_US : Ob := ⟨0x60030000, 64⟩
/-- 60.031[0..32], U64, RO: µs of engine time charged (R584); crib-visible -/
def JOB_ENGINE_US : Ob := ⟨0x60031000, 64⟩
/-- 60.032[0..32], U64, RO: µs of sequencer time charged (R584); crib-visible -/
def JOB_SEQ_US : Ob := ⟨0x60032000, 64⟩
/-- 61.001[0..31], U8, WC: Reader crib 0 to 32; 0xFF unused; operator-only -/
def MBX_OWNER : Ob := ⟨0x61001000, 8⟩
/-- 61.002[0..31], U64, WC: Bit c admits crib c, bits [32:0]; operator-only -/
def MBX_WRITERS : Ob := ⟨0x61002000, 64⟩
/-- 61.003[0..31], U32, RO: Posts accepted; operator-only -/
def MBX_POST_CNT : Ob := ⟨0x61003000, 32⟩
/-- 61.004[0..31], U32, RO: Posts that overwrote a full slot; operator-only -/
def MBX_COLLIDE_CNT : Ob := ⟨0x61004000, 32⟩
/-- 61.005[0..32], U32, RO: Posts refused, per posting crib (R590); crib-visible -/
def MBX_REFUSED_CNT : Ob := ⟨0x61005000, 32⟩
/-- 61.006, U32, RO: Messages discarded at commit (R620); operator-only -/
def MBX_DISCARD_CNT : Ob := ⟨0x61006000, 32⟩
/-- 61.010[0..255], U8, WC: Owner crib 0 to 32; 0xFF unused; operator-only -/
def DB_OWNER : Ob := ⟨0x61010000, 8⟩
/-- 61.011[0..255], U64, WC: Bit c admits crib c; operator-only -/
def DB_WRITERS : Ob := ⟨0x61011000, 64⟩
/-- 61.012[0..32], U32, RO: Rings refused, per ringing crib; crib-visible -/
def DB_REFUSED_CNT : Ob := ⟨0x61012000, 32⟩
/-- 62.001[0..1023], U32, RW: Route (R602); crib-visible at the crib's sources -/
def EVT_ROUTE : Ob := ⟨0x62001000, 32⟩
/-- 62.002[0..1023], U32, RO: Occurrences not yet delivered or cleared; crib-visible -/
def EVT_COUNT : Ob := ⟨0x62002000, 32⟩
/-- 62.003[0..1023], U32, RO: Occurrences since Cold start, wrapping; crib-visible -/
def EVT_TOTAL : Ob := ⟨0x62003000, 32⟩
/-- 62.004[0..1023], U64, RO: DETAIL0 of the latest occurrence; crib-visible -/
def EVT_DETAIL : Ob := ⟨0x62004000, 64⟩
/-- 62.005[1..32], BITS32, RO: [15:0] pending crib sources; crib-visible -/
def EVT_CRIB_PEND : Ob := ⟨0x62005000, 32⟩
/-- 62.006[1..32], BITS32, WO: Write 1 to clear bit i (R607); crib-visible -/
def EVT_CRIB_CLEAR : Ob := ⟨0x62006000, 32⟩
/-- 62.007[1..32], BITS32, RW: [15:0] masks (R606); crib-visible -/
def EVT_CRIB_MASK : Ob := ⟨0x62007000, 32⟩
/-- 62.010[0..7], U8, WC: Owner crib 0 to 32; 0xFF none; operator-only -/
def EVR_OWNER : Ob := ⟨0x62010000, 8⟩
/-- 62.011[0..7], U64, RW: Host address, a multiple of 4,096; crib-visible -/
def EVR_BASE : Ob := ⟨0x62011000, 64⟩
/-- 62.012[0..7], U16, RW: Records, 16 to 4,096; crib-visible -/
def EVR_SIZE : Ob := ⟨0x62012000, 16⟩
/-- 62.013[0..7], U8, RW: MSI-X vector, 0 to 63; crib-visible -/
def EVR_VECTOR : Ob := ⟨0x62013000, 8⟩
/-- 62.014[0..7], BOOL, RW: 1 starts the ring (R609); crib-visible -/
def EVR_ENABLE : Ob := ⟨0x62014000, 8⟩
/-- 62.015[0..7], U16, RO: Next record to be written; crib-visible -/
def EVR_TAIL : Ob := ⟨0x62015000, 16⟩
/-- 62.016[0..7], U16, RO: Last head accepted; crib-visible -/
def EVR_HEAD_SEEN : Ob := ⟨0x62016000, 16⟩
/-- 62.017[0..7], U32, RO: Occurrences deferred (R604); crib-visible -/
def EVR_DEFER_CNT : Ob := ⟨0x62017000, 32⟩
/-- 62.020[0..4095], BLOB, RO: Log record at position i, 32 bytes (R615); operator-only -/
def EVT_LOG_REC : Ob := ⟨0x62020000, 0⟩
/-- 62.021, U32, RO: SEQ of the newest log record; operator-only -/
def EVT_LOG_HEAD : Ob := ⟨0x62021000, 32⟩
/-- 62.022, U32, RW: Highest SEQ you have read; operator-only -/
def EVT_LOG_ACK : Ob := ⟨0x62022000, 32⟩
/-- 62.023[0..1], U32, RO: [0] overwritten unread, [1] dropped by rate; kept in the Chest; operator-only -/
def EVT_LOG_LOST : Ob := ⟨0x62023000, 32⟩
/-- 62.030[0..511], BLOB, RO: Violation record at position i, 64 bytes (R617); operator-only -/
def VIO_LOG_REC : Ob := ⟨0x62030000, 0⟩
/-- 62.031, U32, RO: SEQ of the newest violation record; operator-only -/
def VIO_LOG_HEAD : Ob := ⟨0x62031000, 32⟩
/-- 62.032, U32, RO: Violations dropped by rate (R618); operator-only -/
def VIO_LOG_LOST : Ob := ⟨0x62032000, 32⟩
/-- 63.001[0..3], ENUM8, WC: 0 OFF, 1 BYTE, 2 FRAME; default 1 for SP0, 2 otherwise -/
def SP_MODE : Ob := ⟨0x63001000, 8⟩
/-- 63.002[0..3], U32, WC: bit/s; default 115,200 for SP0, 19,200 otherwise -/
def SP_RATE : Ob := ⟨0x63002000, 32⟩
/-- 63.003[0..3], BITS32, WC: [1:0] parity 0 none, 1 even, 2 odd; [2] 2 stop bits -/
def SP_FORMAT : Ob := ⟨0x63003000, 32⟩
/-- 63.004[0..3], ENUM8, WC: 0 holding register, 1 16, 2 32, 3 64, 4 128; default 0 for SP0, 2 otherwise -/
def SP_QSIZE : Ob := ⟨0x63004000, 8⟩
/-- 63.005[0..3], ENUM8, WC: 0 1 entry, 1 quarter, 2 half, 3 three quarters -/
def SP_RX_TRIG : Ob := ⟨0x63005000, 8⟩
/-- 63.006[0..3], ENUM8, WC: As SP_RX_TRIG, of free space -/
def SP_TX_TRIG : Ob := ⟨0x63006000, 8⟩
/-- 63.007[0..3], U8, WC: Character times, 1 to 255; default 4 -/
def SP_RX_TIMEOUT : Ob := ⟨0x63007000, 8⟩
/-- 63.008[0..3], U16, RO: Peripheral cycles per tick (R625) -/
def SP_DIVISOR : Ob := ⟨0x63008000, 16⟩
/-- 63.009[0..3], I32, RO: ppm -/
def SP_RATE_ERR : Ob := ⟨0x63009000, 32⟩
/-- 63.010[0..3], BLOB, WO: Bytes to send, 1 to 128 (R633) -/
def SP_TX_DATA : Ob := ⟨0x63010000, 0⟩
/-- 63.011[0..3], U16, RO: Free transmit bytes -/
def SP_TX_FREE : Ob := ⟨0x63011000, 16⟩
/-- 63.012[0..3], BLOB, RO: Entries of R630; a read removes them (R634) -/
def SP_RX_DATA : Ob := ⟨0x63012000, 0⟩
/-- 63.013[0..3], U16, RO: Entries held -/
def SP_RX_LEVEL : Ob := ⟨0x63013000, 16⟩
/-- 63.014[0..3], BITS32, RO: [0] transmitting, [1] receiving, [2] line low, [3] TXD without pad, [4] RXD without pad -/
def SP_STATUS : Ob := ⟨0x63014000, 32⟩
/-- 63.020[0..31], U32, RO: Element 8p + k: 0 framing, 1 parity, 2 break, 3 lost to overrun, 4 noise, 5 false start, 6 transmit aborted, 7 receive aborted -/
def SP_ERR_CNT : Ob := ⟨0x63020000, 32⟩
/-- 63.030[0..191], U32, WC: Schedule entry (R639) -/
def TRAY_ENTRY : Ob := ⟨0x63030000, 32⟩
/-- 63.031[0..191], U64, RW: Published bytes, byte 0 in [7:0] -/
def TRAY_TX_DATA : Ob := ⟨0x63031000, 64⟩
/-- 63.032[0..191], U64, RO: Last good response bytes -/
def TRAY_RX_DATA : Ob := ⟨0x63032000, 64⟩
/-- 63.033[0..191], U32, RO: [3:0] status (R641); [31:16] good updates, wrapping -/
def TRAY_RX_STAT : Ob := ⟨0x63033000, 32⟩
/-- 63.034, U8, WC: Bit times, 13 to 20; default 13 -/
def TRAY_BREAK_BITS : Ob := ⟨0x63034000, 8⟩
/-- 63.035, U8, WC: Bit times, 1 to 4; default 1 -/
def TRAY_DELIM_BITS : Ob := ⟨0x63035000, 8⟩
/-- 63.036, U8, WC: Frames, 1 to 255; default 3 -/
def TRAY_MISS_LIMIT : Ob := ⟨0x63036000, 8⟩
/-- 63.037[0..47], ENUM8, RO: Element 16(p − 1) + n: 0 UNKNOWN, 1 PRESENT, 2 MISSING -/
def TRAY_NODE_STATE : Ob := ⟨0x63037000, 8⟩
/-- 63.038[0..23], U32, RO: Element 8(p − 1) + CODE of R641 -/
def TRAY_ERR_CNT : Ob := ⟨0x63038000, 32⟩
/-- 63.039[0..2], U32, RO: Completed table cycles of port p -/
def TRAY_CYCLE_CNT : Ob := ⟨0x63039000, 32⟩
/-- 63.040[0..7], U8, RW: [2:0] FUNC, [5:4] PORT; pad 2p TXD, 2p + 1 RXD of port p -/
def PAD_FUNC : Ob := ⟨0x63040000, 8⟩
/-- 63.041[0..7], ENUM8, RW: 0 no pull, 1 pull-up, 2 pull-down -/
def PAD_SAFE : Ob := ⟨0x63041000, 8⟩
/-- 63.042[0..7], BOOL, RW: Level driven by FUNC 3 -/
def PAD_GPO : Ob := ⟨0x63042000, 8⟩
/-- 63.043, BITS32, RO: [7:0] level at each pad -/
def PAD_GPI : Ob := ⟨0x63043000, 32⟩
/-- 70.001, TIME64, RO: Timebase; device time until synchronised -/
def UTC_NOW : Ob := ⟨0x70001000, 64⟩
/-- 70.002, TIME64, WO: Sets or slews the time (R655) -/
def UTC_SET : Ob := ⟨0x70002000, 64⟩
/-- 70.003, BOOL, RO: 1 once UTC_SET accepted since Cold start; crib-visible -/
def TIME_SYNC : Ob := ⟨0x70003000, 8⟩
/-- 70.004, U16, WC: ms, 0 to 60,000; default 1,000 -/
def LEDGER_SLEW_MAX : Ob := ⟨0x70004000, 16⟩
/-- 70.005, U32, RO: Steps (R656) -/
def TIME_STEP_CNT : Ob := ⟨0x70005000, 32⟩
/-- 70.010, U32, RO: SEQ of the newest record -/
def LEDGER_HEAD : Ob := ⟨0x70010000, 32⟩
/-- 70.011, U32, RW: Highest SEQ drained (R672); kept in the Chest -/
def LEDGER_ACK : Ob := ⟨0x70011000, 32⟩
/-- 70.013, U32, RO: Free positions -/
def LEDGER_FREE : Ob := ⟨0x70013000, 32⟩
/-- 70.014, U32, WC: Positions; default 8,192 -/
def LEDGER_WARN : Ob := ⟨0x70014000, 32⟩
/-- 70.015, ENUM8, RO: 0 STOPPED, 1 RUNNING, 2 OVERFLOW -/
def LEDGER_STATE : Ob := ⟨0x70015000, 8⟩
/-- 70.016, U32, RO: Torn records discarded (R668); kept in the Chest -/
def LEDGER_LOST_REC : Ob := ⟨0x70016000, 32⟩
/-- 70.017, U32, RO: Next MIN_SEQ -/
def MIN_SEQ_NEXT : Ob := ⟨0x70017000, 32⟩
/-- 70.020[0..127], U32, RO: Active rate 16p + k, nano-units per rate unit -/
def TARIFF_RATE : Ob := ⟨0x70020000, 32⟩
/-- 70.021[0..7], U32, RO: Active free demand, mW -/
def TARIFF_DEMAND_FREE : Ob := ⟨0x70021000, 32⟩
/-- 70.022[0..32], U8, RO: Active plan of account c; crib-visible -/
def CRIB_TARIFF : Ob := ⟨0x70022000, 8⟩
/-- 70.023, U32, RO: Tariff version -/
def TARIFF_SEQ : Ob := ⟨0x70023000, 32⟩
/-- 70.024[0..127], U32, RW: Staged rates -/
def TARIFF_PEND_RATE : Ob := ⟨0x70024000, 32⟩
/-- 70.025[0..7], U32, RW: Staged free demand, mW -/
def TARIFF_PEND_FREE : Ob := ⟨0x70025000, 32⟩
/-- 70.026[0..32], U8, RW: Staged plan per account, 0 to 7 -/
def TARIFF_PEND_PLAN : Ob := ⟨0x70026000, 8⟩
/-- 70.027, TIME64, RW: First minute start of the staged tariff -/
def TARIFF_EFFECTIVE : Ob := ⟨0x70027000, 64⟩
/-- 70.028, ENUM8, WO: 1 ARM, 2 CANCEL (R662) -/
def TARIFF_ARM : Ob := ⟨0x70028000, 8⟩
/-- 70.029, ENUM8, RO: 0 NONE, 1 ARMED; kept in the Chest -/
def TARIFF_PEND_STATE : Ob := ⟨0x70029000, 8⟩
/-- 70.030, U8, WC: Minutes, a divisor of 60; default 15 -/
def DEMAND_MIN : Ob := ⟨0x70030000, 8⟩
/-- 70.031, U32, WC: mW charged to crib 0; default 20,000 -/
def LEDGER_CTRL_BASE_MW : Ob := ⟨0x70031000, 32⟩
/-- 70.032[0..19], U16, WC: Winding resistance of axis a, mΩ; default 1,500 -/
def LEDGER_STEP_R : Ob := ⟨0x70032000, 16⟩
/-- 70.040[0..527], U64, RO: Element 16c + k, record units since first use; crib-visible -/
def ACCT_TOTAL : Ob := ⟨0x70040000, 64⟩
/-- 70.041[0..32], U64, RO: Nano-units since first use; crib-visible -/
def ACCT_CHARGE_TOTAL : Ob := ⟨0x70041000, 64⟩
/-- 70.100[0..4095], BLOB, RO: Ledger record at position i, 128 bytes, i = 0 to 4,095 -/
def LEDGER_REC : Ob := ⟨0x70100000, 0⟩
/-- 70.101[0..4095], BLOB, RO: Ledger record at position i, i = 4096 to 8191 (R49) -/
def LEDGER_REC_1 : Ob := ⟨0x70101000, 0⟩
/-- 70.102[0..4095], BLOB, RO: Ledger record at position i, i = 8192 to 12287 (R49) -/
def LEDGER_REC_2 : Ob := ⟨0x70102000, 0⟩
/-- 70.103[0..4095], BLOB, RO: Ledger record at position i, i = 12288 to 16383 (R49) -/
def LEDGER_REC_3 : Ob := ⟨0x70103000, 0⟩
/-- 70.104[0..4095], BLOB, RO: Ledger record at position i, i = 16384 to 20479 (R49) -/
def LEDGER_REC_4 : Ob := ⟨0x70104000, 0⟩
/-- 70.105[0..4095], BLOB, RO: Ledger record at position i, i = 20480 to 24575 (R49) -/
def LEDGER_REC_5 : Ob := ⟨0x70105000, 0⟩
/-- 70.106[0..4095], BLOB, RO: Ledger record at position i, i = 24576 to 28671 (R49) -/
def LEDGER_REC_6 : Ob := ⟨0x70106000, 0⟩
/-- 70.107[0..4095], BLOB, RO: Ledger record at position i, i = 28672 to 32767 (R49) -/
def LEDGER_REC_7 : Ob := ⟨0x70107000, 0⟩
/-- 70.108[0..4095], BLOB, RO: Ledger record at position i, i = 32768 to 36863 (R49) -/
def LEDGER_REC_8 : Ob := ⟨0x70108000, 0⟩
/-- 70.109[0..4095], BLOB, RO: Ledger record at position i, i = 36864 to 40959 (R49) -/
def LEDGER_REC_9 : Ob := ⟨0x70109000, 0⟩
/-- 70.10A[0..4095], BLOB, RO: Ledger record at position i, i = 40960 to 45055 (R49) -/
def LEDGER_REC_10 : Ob := ⟨0x7010A000, 0⟩
/-- 70.10B[0..4095], BLOB, RO: Ledger record at position i, i = 45056 to 49151 (R49) -/
def LEDGER_REC_11 : Ob := ⟨0x7010B000, 0⟩
/-- 70.10C[0..4095], BLOB, RO: Ledger record at position i, i = 49152 to 53247 (R49) -/
def LEDGER_REC_12 : Ob := ⟨0x7010C000, 0⟩
/-- 70.10D[0..4095], BLOB, RO: Ledger record at position i, i = 53248 to 57343 (R49) -/
def LEDGER_REC_13 : Ob := ⟨0x7010D000, 0⟩
/-- 70.10E[0..4095], BLOB, RO: Ledger record at position i, i = 57344 to 61439 (R49) -/
def LEDGER_REC_14 : Ob := ⟨0x7010E000, 0⟩
/-- 70.10F[0..4095], BLOB, RO: Ledger record at position i, i = 61440 to 65535 (R49) -/
def LEDGER_REC_15 : Ob := ⟨0x7010F000, 0⟩
/-- 78.001, ENUM8, RO: 0 IDLE, 1 RUNNING, 2 DONE with PFW_N still low -/
def PF_STATE : Ob := ⟨0x78001000, 8⟩
/-- 78.002, U32, RO: Power-fail sequences run; kept in the Chest -/
def PF_COUNT : Ob := ⟨0x78002000, 32⟩
/-- 78.003, U32, RO: µs from trigger to the end of step 9 of the last sequence -/
def PF_LAST_US : Ob := ⟨0x78003000, 32⟩
/-- 78.010[0..20], ENUM8, RO: 0 ON, 1 ENTERING, 2 OFF or SLEEP, 3 EXITING -/
def DOM_STATE : Ob := ⟨0x78010000, 8⟩
/-- 78.011[0..4], U32, WC: µs, 0 to 1,000,000; 0 keeps ON; default 100 -/
def DOM_IDLE_US : Ob := ⟨0x78011000, 32⟩
/-- 78.012, U32, WC: ms, 0 to 3,600,000; 0 keeps ON; default 1,000 -/
def GL_SLEEP_MS : Ob := ⟨0x78012000, 32⟩
/-- 78.013[0..20], U32, RO: Entries completed -/
def DOM_ENTRY_CNT : Ob := ⟨0x78013000, 32⟩
/-- 78.014[0..20], U32, RO: Entries abandoned before the commit point -/
def DOM_ABORT_CNT : Ob := ⟨0x78014000, 32⟩
/-- 78.015[0..20], U32, RO: Arrivals held after the commit point -/
def DOM_DELAY_CNT : Ob := ⟨0x78015000, 32⟩
/-- 78.020[0..6], U16, RO: mV, rails in the order of R678 -/
def PWR_RAIL_MV : Ob := ⟨0x78020000, 16⟩
/-- 78.021[0..6], U32, RO: mA -/
def PWR_RAIL_MA : Ob := ⟨0x78021000, 32⟩
/-- 78.022[0..6], U64, RO: µJ since Cold start -/
def PWR_RAIL_UJ : Ob := ⟨0x78022000, 64⟩
/-- 78.023[0..31], U64, RO: µJ, element 2n for 3.3 V and 2n + 1 for 5.0 V -/
def FE_RAIL_UJ : Ob := ⟨0x78023000, 64⟩
/-- 78.024[0..4], U64, RO: µJ of VBUS energy, net of regeneration -/
def STAGE_BUS_UJ : Ob := ⟨0x78024000, 64⟩
/-- 78.030[0..3], I16, RO: 0.1 °C, junction -/
def TEMP_CTRL : Ob := ⟨0x78030000, 16⟩
/-- 78.031[0..15], I16, RO: 0.1 °C, junction -/
def TEMP_FE : Ob := ⟨0x78031000, 16⟩
/-- 78.032[0..4], I16, RO: 0.1 °C, hotter of the two dies -/
def TEMP_STAGE : Ob := ⟨0x78032000, 16⟩
/-- 78.033, I16, WC: 0.1 °C; default 1,050 -/
def PWR_TEMP_WARN : Ob := ⟨0x78033000, 16⟩
/-- 78.034, U16, WC: mV, 30,000 to 56,000; default 38,000 -/
def PWR_VBUS_WARN : Ob := ⟨0x78034000, 16⟩
/-- 78.040, U32, RO: Reference losses (R695); kept in the Chest -/
def CLK_REF_LOSS_CNT : Ob := ⟨0x78040000, 32⟩
/-- 78.041, BITS32, RO: [0] fabric, [1] servo, [2] peripheral, [3] memory, [4] Ethernet PLL locked; [8] last restart caused by reference loss -/
def CLK_STATUS : Ob := ⟨0x78041000, 32⟩
/-- 7E.001, U32, RO: s of powered time -/
def LIFE_POWER_S : Ob := ⟨0x7E001000, 32⟩
/-- 7E.002, U32, RO: Cold starts -/
def LIFE_COLD_STARTS : Ob := ⟨0x7E002000, 32⟩
/-- 7E.010[0..15], U64, RO: Revolutions of drive n (R708) -/
def LIFE_DRV_REV : Ob := ⟨0x7E010000, 64⟩
/-- 7E.011[0..79], U64, RO: s in state s of drive n, element 5n + s -/
def LIFE_DRV_STATE_S : Ob := ⟨0x7E011000, 64⟩
/-- 7E.012[0..15], U64, RO: s of laser emission -/
def LIFE_LASER_S : Ob := ⟨0x7E012000, 64⟩
/-- 7E.013[0..15], U64, RO: s of write or erase emission -/
def LIFE_WRITE_S : Ob := ⟨0x7E013000, 64⟩
/-- 7E.014[0..15], U32, RO: Spindle starts from STOPPED -/
def LIFE_SPIN_STARTS : Ob := ⟨0x7E014000, 32⟩
/-- 7E.015[0..19], U64, RO: Travel of axis a, in its position unit -/
def LIFE_MOT_USTEPS : Ob := ⟨0x7E015000, 64⟩
/-- 7E.016, U32, RO: Picker sequences -/
def LIFE_PICK_SEQ : Ob := ⟨0x7E016000, 32⟩
/-- 7E.020[0..11], U32, RO: s per temperature band (R716) -/
def TEMP_HIST : Ob := ⟨0x7E020000, 32⟩
/-- 7E.030[0..9], U64, RO: Record writes per region (R714) -/
def CHEST_WRITES : Ob := ⟨0x7E030000, 64⟩
/-- 7E.031[0..9], U64, RO: Largest writes to one position per region (R714) -/
def CHEST_WEAR_MAX : Ob := ⟨0x7E031000, 64⟩

/-- Objects of group 0x00. -/
def rows00a : List ObjRow := [
  ⟨VENDOR_NAME, 0, 0, .str32, .ro, .all, 0, 0, 0, []⟩,
  ⟨PART_NAME, 0, 0, .str32, .ro, .all, 0, 0, 0, []⟩,
  ⟨SILICON_STEP, 0, 0, .u16, .ro, .all, 0, 0, 65535, []⟩,
  ⟨FW_RUNNING, 0, 0, .u32, .ro, .all, 0, 0, 4294967295, []⟩,
  ⟨FW_STAGED, 0, 0, .u32, .ro, .all, 0, 0, 4294967295, []⟩,
  ⟨OD_LAYOUT, 0, 0, .u16, .ro, .all, 0, 0, 65535, []⟩,
  ⟨JTAG_IDCODE, 0, 0, .u32, .ro, .all, 0, 0, 4294967295, []⟩]

/-- Objects of group 0x01. -/
def rows01a : List ObjRow := [
  ⟨DRIVE_DECL, 0, 0, .bits32, .wc, .none, 0, 0, 4294967295, []⟩,
  ⟨STAGE_DECL, 0, 0, .bits32, .wc, .none, 0, 0, 4294967295, []⟩,
  ⟨FE_ID_EXP, 0, 15, .u32, .wc, .none, 0, 0, 4294967295, []⟩,
  ⟨FE_ID_SEEN, 0, 15, .u32, .ro, .none, 0, 0, 4294967295, []⟩,
  ⟨STAGE_ID_EXP, 0, 4, .u32, .wc, .none, 0, 0, 4294967295, []⟩,
  ⟨STAGE_ID_SEEN, 0, 4, .u32, .ro, .none, 0, 0, 4294967295, []⟩,
  ⟨MAG_DECL, 0, 0, .bits32, .wc, .none, 0, 0, 4294967295, []⟩,
  ⟨MAG_MEDIA, 0, 23, .enum8, .wc, .none, 0, 0, 2, [0, 1, 2]⟩,
  ⟨DRAM_GEOM, 0, 0, .u32, .wc, .none, 0, 0, 4294967295, []⟩,
  ⟨POP_FAULT, 0, 0, .bits32, .ro, .none, 0, 0, 16777215, []⟩,
  ⟨INTERLOCK_STATE, 0, 0, .bits32, .ro, .none, 0, 0, 775, []⟩,
  ⟨INTERLOCK_ACK, 0, 0, .u32, .wo, .none, 0, 0, 4294967295, []⟩]

/-- Objects of group 0x02. -/
def rows02a : List ObjRow := [
  ⟨COMMIT, 0, 0, .u32, .wo, .none, 0, 0, 4294967295, []⟩,
  ⟨CONFIG_STATE, 0, 0, .enum8, .ro, .none, 0, 0, 4, [0, 1, 2, 3, 4]⟩,
  ⟨ACTIVE_SEQ, 0, 0, .u32, .ro, .none, 0, 0, 4294967295, []⟩,
  ⟨HOLD_REASON, 0, 0, .bits32, .ro, .none, 0, 0, 63, []⟩,
  ⟨COMMIT_STATUS, 0, 0, .u8, .ro, .none, 0, 0, 255, []⟩,
  ⟨COMMIT_FAIL_OBJ, 0, 0, .u32, .ro, .none, 0, 0, 4294967295, []⟩,
  ⟨PENDING_CLEAR, 0, 0, .bool, .wo, .none, 0, 0, 1, []⟩,
  ⟨PENDING_COUNT, 0, 0, .u16, .ro, .none, 0, 0, 65535, []⟩,
  ⟨PENDING_BYTES, 0, 0, .u32, .ro, .none, 0, 0, 4294967295, []⟩,
  ⟨ACTIVE_SLOT, 0, 0, .enum8, .ro, .none, 0, 0, 1, [0, 1]⟩,
  ⟨DEVICE_STATE, 0, 0, .enum8, .ro, .none, 0, 1, 5, [1, 2, 3, 4, 5]⟩,
  ⟨HOLD_REQUEST, 0, 0, .bool, .wo, .none, 0, 0, 1, []⟩,
  ⟨HOLD_RELEASE, 0, 0, .bool, .wo, .none, 0, 0, 1, []⟩,
  ⟨WARM_RESTART, 0, 0, .u32, .wo, .none, 0, 0, 4294967295, []⟩,
  ⟨DRAIN_TIMEOUT, 0, 0, .u16, .wc, .none, 120, 10, 3600, []⟩,
  ⟨BOOT_STATUS, 0, 0, .bits32, .ro, .none, 0, 0, 1, []⟩,
  ⟨MOP_NODE, 0, 0, .u8, .wc, .none, 0, 1, 254, []⟩,
  ⟨MOP_DATA_RATE, 0, 0, .enum8, .wc, .none, 0, 1, 5, [1, 2, 4, 5]⟩,
  ⟨MOP_SEG_TIMEOUT, 0, 0, .u16, .wc, .none, 100, 10, 1000, []⟩,
  ⟨MOP_ENABLE, 0, 0, .bits32, .wc, .none, 0, 0, 3, []⟩,
  ⟨MOP_VIOL_CNT, 0, 9, .u32, .ro, .none, 0, 0, 4294967295, []⟩,
  ⟨MOP_RETX_CNT, 0, 0, .u32, .ro, .none, 0, 0, 4294967295, []⟩,
  ⟨MOP_BUSOFF_CNT, 0, 1, .u32, .ro, .none, 0, 0, 4294967295, []⟩,
  ⟨MOP_SESSIONS, 0, 0, .u8, .ro, .none, 0, 0, 255, []⟩,
  ⟨ODW_VIOL_CNT, 0, 0, .u32, .ro, .none, 0, 0, 4294967295, []⟩,
  ⟨FW_SLOT_RUNNING, 0, 0, .enum8, .ro, .none, 0, 0, 1, [0, 1]⟩,
  ⟨FW_SLOT_CHECK, 0, 1, .enum8, .ro, .none, 0, 0, 7, [0, 1, 2, 3, 4, 5, 6, 7]⟩,
  ⟨FW_LOAD_ADDR, 0, 0, .u32, .ro, .none, 0, 0, 4294967295, []⟩,
  ⟨FW_LOAD_DATA, 0, 0, .blob, .wo, .none, 0, 0, 0, []⟩,
  ⟨FW_LOAD_CTRL, 0, 0, .enum8, .wo, .none, 0, 1, 2, [1, 2]⟩,
  ⟨FW_LOAD_STATE, 0, 0, .enum8, .ro, .none, 0, 0, 5, [0, 1, 2, 3, 4, 5]⟩,
  ⟨FW_FLOOR, 0, 0, .u16, .ro, .none, 0, 0, 65535, []⟩,
  ⟨FW_FLOOR_RAISE, 0, 0, .u32, .wo, .none, 0, 0, 4294967295, []⟩]

/-- Objects of group 0x10. -/
def rows10a : List ObjRow := [
  ⟨CRIB_ENABLE, 0, 0, .bits32, .wc, .none, 0, 0, 4294967295, []⟩,
  ⟨CRIB_QP_MIN, 0, 32, .u8, .wc, .none, 0, 0, 192, []⟩,
  ⟨CRIB_QP_MAX, 0, 32, .u8, .wc, .none, 0, 0, 192, []⟩,
  ⟨CRIB_CTX_MIN, 0, 32, .u16, .wc, .none, 0, 0, 65535, []⟩,
  ⟨CRIB_CTX_MAX, 0, 32, .u16, .wc, .none, 0, 0, 65535, []⟩,
  ⟨CRIB_SHELF_WAYS, 0, 32, .bits32, .wc, .none, 0, 0, 4095, []⟩,
  ⟨CRIB_HAYLOFT_QUOTA, 0, 32, .u32, .wc, .none, 0, 0, 4294967295, []⟩,
  ⟨CRIB_GRANARY_BASE, 0, 32, .u16, .wc, .none, 0, 0, 127, []⟩,
  ⟨CRIB_GRANARY_SIZE, 0, 32, .u16, .wc, .none, 0, 0, 128, []⟩,
  ⟨CRIB_WEIGHT, 0, 32, .u8, .wc, .none, 1, 1, 255, []⟩,
  ⟨CRIB_STATE, 0, 32, .enum8, .ro, .crib, 0, 0, 2, [0, 1, 2]⟩,
  ⟨CRIB_RESET, 1, 32, .bool, .wo, .none, 0, 0, 1, []⟩,
  ⟨CRIB_VIOL_CNT, 0, 32, .u32, .ro, .crib, 0, 0, 4294967295, []⟩,
  ⟨NS_KEY_CTRL, 0, 255, .enum8, .wo, .slot, 0, 1, 3, [1, 2, 3]⟩,
  ⟨NS_KEY_DATA, 0, 255, .blob, .wo, .slot, 0, 0, 0, []⟩,
  ⟨NS_KEY_STATE, 0, 255, .enum8, .ro, .slot, 0, 0, 3, [0, 1, 2, 3]⟩,
  ⟨NS_KEY_VER, 0, 255, .u32, .ro, .slot, 0, 0, 4294967295, []⟩,
  ⟨NS_KEY_KCV, 0, 255, .u32, .ro, .slot, 0, 0, 4294967295, []⟩,
  ⟨JOB_KEY_DATA, 0, 263, .blob, .wo, .by8, 0, 0, 0, []⟩]

/-- Objects of group 0x11. -/
def rows11a : List ObjRow := [
  ⟨CLASS_WEIGHT, 0, 2, .u8, .wc, .none, 8, 1, 255, []⟩,
  ⟨POOL_SIZE, 0, 7, .u16, .ro, .none, 0, 0, 65535, []⟩,
  ⟨POOL_A_RESERVE, 0, 7, .u16, .ro, .none, 0, 0, 65535, []⟩,
  ⟨POOL_USED, 0, 7, .u16, .ro, .none, 0, 0, 65535, []⟩,
  ⟨CLASSA_OVER_CNT, 0, 0, .u32, .ro, .none, 0, 0, 4294967295, []⟩,
  ⟨CLASSA_WORST, 0, 4, .u32, .ro, .none, 0, 0, 4294967295, []⟩]

/-- Objects of group 0x20. -/
def rows20a : List ObjRow := [
  ⟨PCIE_LINK, 0, 0, .u16, .ro, .none, 0, 0, 65535, []⟩,
  ⟨CRIB_CLASSB_ALLOW, 0, 32, .bool, .wc, .none, 1, 0, 1, []⟩,
  ⟨MQ_AGE_MAX, 0, 0, .u16, .wc, .none, 500, 50, 10000, []⟩,
  ⟨FREE_DISC_ZONES, 0, 1, .u32, .ro, .none, 0, 0, 4294967295, []⟩,
  ⟨SPENT_DISC_ZONES, 0, 1, .u32, .ro, .none, 0, 0, 4294967295, []⟩,
  ⟨NS_ZONES_BOUND, 0, 255, .u32, .ro, .slot, 0, 0, 4294967295, []⟩,
  ⟨DISC_RESTORE, 0, 1535, .bool, .wo, .none, 0, 0, 1, []⟩,
  ⟨DISC_RESTORE_RESULT, 0, 1535, .enum8, .ro, .none, 0, 0, 4, [0, 1, 2, 3, 4]⟩,
  ⟨HQ_VIOL_CNT, 0, 263, .u32, .ro, .by8, 0, 0, 4294967295, []⟩]

/-- Objects of group 0x21. -/
def rows21a : List ObjRow := [
  ⟨NET_PORT_EN, 0, 1, .bool, .wc, .none, 0, 0, 1, []⟩,
  ⟨NET_FEC, 0, 1, .enum8, .wc, .none, 1, 0, 1, [0, 1]⟩,
  ⟨NET_MTU, 0, 1, .u16, .wc, .none, 1500, 1500, 9000, []⟩,
  ⟨NET_LANE_INV, 0, 1, .bits32, .wc, .none, 0, 0, 255, []⟩,
  ⟨NET_LINK, 0, 1, .enum8, .ro, .none, 0, 0, 2, [0, 1, 2]⟩,
  ⟨NET_MAC, 0, 1, .u64, .ro, .none, 0, 0, 18446744073709551615, []⟩,
  ⟨NET_LINK_HOLD, 0, 1, .u16, .wc, .none, 2000, 100, 60000, []⟩,
  ⟨NET_IF_PORT, 0, 31, .u8, .wc, .none, 255, 0, 255, []⟩,
  ⟨NET_IF_VLAN, 0, 31, .u16, .wc, .none, 0, 0, 65535, []⟩,
  ⟨NET_IF_IPV4, 0, 31, .u32, .wc, .none, 0, 0, 4294967295, []⟩,
  ⟨NET_IF_IPV4_PFX, 0, 31, .u8, .wc, .none, 0, 0, 255, []⟩,
  ⟨NET_IF_IPV6, 0, 63, .u64, .wc, .none, 0, 0, 18446744073709551615, []⟩,
  ⟨NET_IF_IPV6_PFX, 0, 31, .u8, .wc, .none, 0, 0, 255, []⟩,
  ⟨NVT_TCP_PORT, 0, 0, .u16, .wc, .none, 4420, 0, 65535, []⟩,
  ⟨NVT_SUBNQN, 0, 0, .blob, .wc, .none, 0, 0, 0, []⟩,
  ⟨NVT_DIGEST_ALLOW, 0, 0, .bits32, .wc, .none, 3, 0, 3, []⟩,
  ⟨NVT_BIND_HOSTNQN, 0, 63, .blob, .wc, .none, 0, 0, 0, []⟩,
  ⟨NVT_BIND_VLAN, 0, 63, .u16, .wc, .none, 0, 0, 65535, []⟩,
  ⟨NVT_BIND_CRIB, 0, 63, .u8, .wc, .none, 0, 0, 255, []⟩,
  ⟨NET_PFC_EN, 0, 1, .bits32, .wc, .none, 0, 0, 255, []⟩,
  ⟨NET_PFC_XOFF, 0, 0, .u16, .wc, .none, 200, 0, 65535, []⟩,
  ⟨NET_PFC_XON, 0, 0, .u16, .wc, .none, 128, 0, 65535, []⟩,
  ⟨NET_RX_FRAMES, 0, 1, .u64, .ro, .none, 0, 0, 18446744073709551615, []⟩,
  ⟨NET_RX_DROP, 0, 9, .u64, .ro, .none, 0, 0, 18446744073709551615, []⟩,
  ⟨NET_PAUSE_TX_CNT, 0, 1, .u32, .ro, .none, 0, 0, 4294967295, []⟩,
  ⟨NET_PAUSE_RX_CNT, 0, 1, .u32, .ro, .none, 0, 0, 4294967295, []⟩,
  ⟨NET_LINK_DOWN_CNT, 0, 1, .u32, .ro, .none, 0, 0, 4294967295, []⟩,
  ⟨NVT_CONN_COUNT, 0, 0, .u16, .ro, .none, 0, 0, 65535, []⟩,
  ⟨NVT_CONN_CRIB, 0, 32, .u16, .ro, .crib, 0, 0, 65535, []⟩,
  ⟨NVT_VIOL_CNT, 0, 7, .u32, .ro, .none, 0, 0, 4294967295, []⟩]

/-- Objects of group 0x22. -/
def rows22a : List ObjRow := [
  ⟨ADMIN_OP_STATE, 0, 7, .enum8, .ro, .none, 0, 0, 4, [0, 1, 2, 3, 4]⟩,
  ⟨ADMIN_OP_KIND, 0, 7, .enum8, .ro, .none, 0, 1, 3, [1, 2, 3]⟩,
  ⟨ADMIN_OP_PROG, 0, 7, .u16, .ro, .none, 0, 0, 65535, []⟩,
  ⟨ADMIN_OP_FAIL, 0, 7, .enum8, .ro, .none, 0, 0, 4, [0, 1, 2, 3, 4]⟩,
  ⟨ADMIN_OP_ID, 0, 7, .u32, .ro, .none, 0, 0, 4294967295, []⟩,
  ⟨NS_FORMAT_STATE, 0, 255, .enum8, .ro, .slot, 0, 0, 2, [0, 1, 2]⟩,
  ⟨NS_ZONES_SHORT, 0, 255, .u32, .ro, .slot, 0, 0, 4294967295, []⟩,
  ⟨CERT_SEL, 0, 1535, .bool, .rw, .none, 0, 0, 1, []⟩,
  ⟨CERT_RESULT, 0, 1535, .enum8, .ro, .none, 0, 0, 6, [0, 1, 2, 3, 4, 5, 6]⟩,
  ⟨CERT_BAD_ZONES, 0, 1535, .u8, .ro, .none, 0, 0, 255, []⟩,
  ⟨CERT_BAD_MAX, 0, 0, .u16, .wc, .none, 64, 0, 65535, []⟩,
  ⟨JOURNAL_SEQ, 0, 0, .u32, .ro, .none, 0, 0, 4294967295, []⟩]

/-- Objects of group 0x30. -/
def rows30a : List ObjRow := [
  ⟨DRIVE_SERVO_STATE, 0, 15, .enum8, .ro, .none, 0, 0, 9, [0, 1, 2, 3, 4, 5, 6, 7, 8, 9]⟩,
  ⟨ANGLE_STATE, 0, 15, .enum8, .ro, .none, 0, 0, 3, [0, 1, 2, 3]⟩,
  ⟨ANGLE_NOW, 0, 15, .u32, .ro, .none, 0, 0, 4294967295, []⟩,
  ⟨REV_COUNT, 0, 15, .u32, .ro, .none, 0, 0, 4294967295, []⟩,
  ⟨CUR_LAYER, 0, 15, .u8, .ro, .none, 0, 0, 255, []⟩,
  ⟨CUR_TRACK, 0, 15, .u32, .ro, .none, 0, 0, 4294967295, []⟩,
  ⟨ANGLE_SLIP_CNT, 0, 15, .u32, .ro, .none, 0, 0, 4294967295, []⟩,
  ⟨DRIVE_RESET, 0, 15, .bool, .wo, .none, 0, 0, 1, []⟩,
  ⟨DRIVE_FAULT, 0, 15, .bits32, .ro, .none, 0, 0, 255, []⟩,
  ⟨DRIVE_FAULT_TIMEOUT, 0, 0, .u16, .wc, .none, 20, 5, 300, []⟩,
  ⟨FE_RESET, 0, 15, .bool, .wo, .none, 0, 0, 1, []⟩,
  ⟨LOOP_IN_GAIN, 0, 63, .i32, .wc, .none, 0, (-2147483648), 2147483647, []⟩,
  ⟨LOOP_OUT_GAIN, 0, 63, .i32, .wc, .none, 0, (-2147483648), 2147483647, []⟩,
  ⟨LOOP_MIN, 0, 63, .i32, .wc, .none, 0, (-2147483648), 2147483647, []⟩,
  ⟨LOOP_MAX, 0, 63, .i32, .wc, .none, 0, (-2147483648), 2147483647, []⟩,
  ⟨LOOP_BQ, 0, 1279, .i32, .wc, .none, 0, (-2147483648), 2147483647, []⟩,
  ⟨LOOP_TRIM, 0, 63, .i32, .ro, .none, 268435456, (-2147483648), 2147483647, []⟩,
  ⟨LOOP_OFFSET, 0, 63, .i16, .ro, .none, 0, (-32768), 32767, []⟩,
  ⟨LOOP_SAT_CNT, 0, 63, .u32, .ro, .none, 0, 0, 4294967295, []⟩,
  ⟨FOCUS_SWEEP_START, 0, 0, .i16, .wc, .none, (-24000), (-32768), 32767, []⟩,
  ⟨FOCUS_SWEEP_END, 0, 0, .i16, .wc, .none, 24000, (-32768), 32767, []⟩,
  ⟨FOCUS_SWEEP_STEP, 0, 0, .u16, .wc, .none, 4, 1, 64, []⟩,
  ⟨FOCUS_SUM_MIN, 0, 0, .u16, .wc, .none, 6000, 0, 65535, []⟩,
  ⟨FOCUS_SUM_SURF, 0, 0, .u16, .wc, .none, 1500, 0, 65535, []⟩,
  ⟨FOCUS_ATTEMPTS, 0, 0, .u8, .wc, .none, 3, 1, 8, []⟩,
  ⟨LAYER_KICK, 0, 0, .i16, .wc, .none, 9000, (-32768), 32767, []⟩,
  ⟨LAYER_KICK_T, 0, 0, .u16, .wc, .none, 20, 0, 65535, []⟩,
  ⟨LAYER_JUMP_WINDOW, 0, 0, .u16, .wc, .none, 250, 0, 65535, []⟩,
  ⟨TRACK_PULLIN_RATE, 0, 0, .u16, .wc, .none, 20, 0, 65535, []⟩,
  ⟨SEEK_SHORT_MAX, 0, 0, .u16, .wc, .none, 256, 1, 4096, []⟩,
  ⟨SEEK_FINE_ATTEMPTS, 0, 0, .u8, .wc, .none, 3, 1, 8, []⟩,
  ⟨SEEK_MARGIN, 0, 0, .u16, .wc, .none, 2048, 0, 65535, []⟩,
  ⟨SLED_PM_PER_USTEP, 0, 0, .u32, .wc, .none, 0, 1000, 1000000, []⟩,
  ⟨LG_HOLD_SAMPLES, 0, 0, .u8, .wc, .none, 3, 0, 15, []⟩,
  ⟨DEFECT_HOLD_MAX, 0, 0, .u16, .wc, .none, 125, 1, 1000, []⟩,
  ⟨DEFECT_LOOKBACK, 0, 0, .u8, .wc, .none, 2, 0, 7, []⟩,
  ⟨DEFECT_EXIT, 0, 0, .u8, .wc, .none, 2, 1, 15, []⟩,
  ⟨DEFECT_HOLD_CNT, 0, 15, .u32, .ro, .none, 0, 0, 4294967295, []⟩,
  ⟨DEFECT_HOLD_OVER_CNT, 0, 15, .u32, .ro, .none, 0, 0, 4294967295, []⟩,
  ⟨FOCUS_LOST_SUM, 0, 0, .u16, .wc, .none, 3000, 0, 65535, []⟩]

/-- Objects of group 0x30. -/
def rows30b : List ObjRow := [
  ⟨FOCUS_LOST_N, 0, 0, .u8, .wc, .none, 4, 1, 64, []⟩,
  ⟨LOCK_RETRY, 0, 0, .u8, .wc, .none, 3, 1, 16, []⟩,
  ⟨LOCK_RETRY_WINDOW, 0, 0, .u16, .wc, .none, 10, 1, 3600, []⟩,
  ⟨LOCK_LOSS_CNT, 0, 63, .u32, .ro, .none, 0, 0, 4294967295, []⟩,
  ⟨GL_ERR_LIMIT, 0, 0, .u16, .wc, .none, 64, 0, 65535, []⟩,
  ⟨GL_MISS_CNT, 0, 15, .u32, .ro, .none, 0, 0, 4294967295, []⟩,
  ⟨GL_CRC_CNT, 0, 15, .u32, .ro, .none, 0, 0, 4294967295, []⟩,
  ⟨GL_RETRAIN_CNT, 0, 15, .u32, .ro, .none, 0, 0, 4294967295, []⟩,
  ⟨GL_REPEAT_CNT, 0, 15, .u32, .ro, .none, 0, 0, 4294967295, []⟩]

/-- Objects of group 0x31. -/
def rows31a : List ObjRow := [
  ⟨DRV_STATE, 0, 15, .enum8, .ro, .none, 0, 0, 4, [0, 1, 2, 3, 4]⟩,
  ⟨DRV_EXIT_LAT, 0, 79, .u32, .ro, .none, 0, 0, 4294967295, []⟩,
  ⟨DRV_IDLE_T, 0, 3, .u32, .wc, .none, 2000, 0, 4294967295, []⟩,
  ⟨DRV_DISC, 0, 15, .u16, .ro, .none, 0, 0, 65535, []⟩]

/-- Objects of group 0x32. -/
def rows32a : List ObjRow := [
  ⟨SPIN_STATE, 0, 15, .enum8, .ro, .none, 0, 0, 9, [0, 1, 2, 3, 4, 5, 6, 7, 8, 9]⟩,
  ⟨SPIN_SPEED_MEAS, 0, 15, .i32, .ro, .none, 0, (-2147483648), 2147483647, []⟩,
  ⟨SPIN_RPM, 0, 15, .u16, .ro, .none, 0, 0, 65535, []⟩,
  ⟨SPIN_TARGET, 0, 15, .u32, .ro, .none, 0, 0, 4294967295, []⟩,
  ⟨SPIN_FLAGS, 0, 15, .bits32, .ro, .none, 0, 0, 29, []⟩,
  ⟨SPIN_FAULT_CAUSE, 0, 15, .enum8, .ro, .none, 0, 0, 6, [0, 1, 2, 3, 4, 5, 6]⟩,
  ⟨SPIN_READ_RPM, 0, 0, .u16, .wc, .none, 5400, 1000, 5400, []⟩,
  ⟨SPIN_WRITE_RPM, 0, 0, .u16, .wc, .none, 2700, 1000, 2700, []⟩,
  ⟨SPIN_ACCEL, 0, 0, .u16, .wc, .none, 2400, 100, 6000, []⟩,
  ⟨SPIN_DECEL, 0, 0, .u16, .wc, .none, 2400, 100, 6000, []⟩,
  ⟨SPIN_STOP_DECEL, 0, 0, .u16, .wc, .none, 3000, 100, 6000, []⟩,
  ⟨SPIN_START_TIMEOUT, 0, 0, .u16, .wc, .none, 2000, 100, 10000, []⟩,
  ⟨SPIN_STOP_TIMEOUT, 0, 0, .u16, .wc, .none, 8000, 1000, 60000, []⟩,
  ⟨SPIN_POLE_PAIRS, 0, 15, .u8, .wc, .none, 6, 1, 12, []⟩,
  ⟨SPIN_RS, 0, 15, .u16, .wc, .none, 0, 0, 65535, []⟩,
  ⟨SPIN_LS, 0, 15, .u16, .wc, .none, 0, 0, 65535, []⟩,
  ⟨SPIN_KE, 0, 15, .u16, .wc, .none, 0, 0, 65535, []⟩,
  ⟨SPIN_I_MAX, 0, 15, .u16, .wc, .none, 0, 0, 65535, []⟩,
  ⟨HFI_DIV, 0, 0, .u8, .wc, .none, 16, 8, 40, []⟩,
  ⟨HFI_AMPL, 0, 0, .u16, .wc, .none, 1500, 200, 5000, []⟩,
  ⟨HFI_SETTLE, 0, 0, .u16, .wc, .none, 100, 20, 2000, []⟩,
  ⟨HFI_SIGN_I, 0, 0, .u16, .wc, .none, 800, 0, 65535, []⟩,
  ⟨HFI_SIGN_T, 0, 0, .u16, .wc, .none, 40, 4, 400, []⟩,
  ⟨HFI_SIGN_MARGIN, 0, 0, .u8, .wc, .none, 5, 1, 50, []⟩,
  ⟨HFI_SIGN_RATIO, 0, 15, .u16, .ro, .none, 0, 0, 65535, []⟩,
  ⟨OBS_AGREE, 0, 0, .u16, .wc, .none, 3641, 0, 65535, []⟩,
  ⟨OBS_AGREE_TICKS, 0, 0, .u16, .wc, .none, 32, 4, 1000, []⟩,
  ⟨MLOCK_TICKS, 0, 0, .u16, .wc, .none, 64, 8, 1000, []⟩,
  ⟨MLOCK_SPREAD, 0, 0, .u16, .wc, .none, 1820, 0, 65535, []⟩,
  ⟨MLOCK_DEV, 0, 0, .u16, .wc, .none, 5461, 0, 65535, []⟩,
  ⟨MLOCK_OFS, 0, 15, .u16, .ro, .none, 0, 0, 65535, []⟩,
  ⟨MLOCK_DROP_CNT, 0, 15, .u32, .ro, .none, 0, 0, 4294967295, []⟩,
  ⟨VLIM_TICKS, 0, 0, .u16, .wc, .none, 200, 1, 1000, []⟩,
  ⟨VLIM_CNT, 0, 16, .u32, .ro, .none, 0, 0, 4294967295, []⟩,
  ⟨MOD_INDEX, 0, 16, .u16, .ro, .none, 0, 0, 65535, []⟩,
  ⟨BRAKE_VBUS_MAX, 0, 0, .u16, .wc, .none, 54000, 50000, 56000, []⟩,
  ⟨CUR_KP, 0, 16, .u32, .wc, .none, 0, 0, 4294967295, []⟩,
  ⟨CUR_KI, 0, 16, .u32, .wc, .none, 0, 0, 4294967295, []⟩,
  ⟨CAR_POLE_PAIRS, 0, 0, .u8, .wc, .none, 0, 1, 24, []⟩,
  ⟨CAR_ELEC_OFS, 0, 0, .u16, .wc, .none, 0, 0, 65535, []⟩]

/-- Objects of group 0x32. -/
def rows32b : List ObjRow := [
  ⟨CAR_I_MAX, 0, 0, .u16, .wc, .none, 0, 0, 65535, []⟩,
  ⟨CAR_OPEN_I, 0, 0, .u16, .wc, .none, 0, 0, 65535, []⟩,
  ⟨CAR_INDEX_ANGLE, 0, 0, .u16, .wc, .none, 0, 0, 65535, []⟩,
  ⟨CAR_INDEX_TOL, 0, 0, .u16, .wc, .none, 256, 0, 65535, []⟩,
  ⟨CAR_STATE, 0, 0, .enum8, .ro, .none, 0, 0, 3, [0, 1, 2, 3]⟩,
  ⟨CAR_FLAGS, 0, 0, .bits32, .ro, .none, 0, 0, 3, []⟩,
  ⟨CAR_ANGLE, 0, 0, .u16, .ro, .none, 0, 0, 65535, []⟩,
  ⟨RES_AMPL, 0, 0, .u16, .ro, .none, 0, 0, 65535, []⟩,
  ⟨RES_FAULT_CNT, 0, 0, .u32, .ro, .none, 0, 0, 4294967295, []⟩]

/-- Objects of group 0x33. -/
def rows33a : List ObjRow := [
  ⟨RC_STATE, 0, 15, .enum8, .ro, .none, 0, 0, 3, [0, 1, 2, 3]⟩,
  ⟨READ_TARGET, 0, 7, .enum8, .wc, .none, 3, 1, 3, [1, 2, 3]⟩,
  ⟨EQ_ADAPT, 0, 0, .enum8, .wc, .none, 1, 0, 2, [0, 1, 2]⟩,
  ⟨EQ_MU_SHIFT, 0, 0, .u8, .wc, .none, 10, 6, 16, []⟩,
  ⟨EQ_FREEZE, 0, 0, .bits32, .wc, .none, 128, 0, 32767, []⟩,
  ⟨EQ_TAPS_INIT, 0, 239, .i16, .ro, .none, 0, (-32768), 32767, []⟩,
  ⟨EQ_TAPS, 0, 239, .i16, .ro, .none, 0, (-32768), 32767, []⟩,
  ⟨TR_KP_ACQ, 0, 0, .u8, .wc, .none, 3, 1, 15, []⟩,
  ⟨TR_KI_ACQ, 0, 0, .u8, .wc, .none, 8, 1, 20, []⟩,
  ⟨TR_KP_TRK, 0, 0, .u8, .wc, .none, 6, 1, 15, []⟩,
  ⟨TR_KI_TRK, 0, 0, .u8, .wc, .none, 13, 1, 20, []⟩,
  ⟨ACQ_PHASE_MAX, 0, 0, .u8, .wc, .none, 20, 0, 255, []⟩,
  ⟨ACQ_AMPL_TOL, 0, 0, .u8, .wc, .none, 10, 1, 50, []⟩,
  ⟨AGC_TARGET, 0, 0, .u8, .wc, .none, 48, 16, 100, []⟩,
  ⟨SYNC_TOL, 0, 0, .u8, .wc, .none, 3, 0, 6, []⟩,
  ⟨SYNC_WIN, 0, 0, .u8, .wc, .none, 8, 1, 32, []⟩,
  ⟨SYNC_MISS_MAX, 0, 0, .u8, .wc, .none, 2, 1, 8, []⟩,
  ⟨SYNC_REACQ_WIN, 0, 0, .u8, .wc, .none, 64, 16, 255, []⟩,
  ⟨WIN_ENV_DROP, 0, 0, .u8, .wc, .none, 128, 0, 255, []⟩,
  ⟨WIN_ENV_REL, 0, 0, .u8, .wc, .none, 179, 0, 255, []⟩,
  ⟨WIN_SAT_N, 0, 0, .u8, .wc, .none, 4, 1, 16, []⟩,
  ⟨WIN_SPIKE, 0, 0, .u16, .wc, .none, 4000, 0, 65535, []⟩,
  ⟨WIN_PM_LIMIT, 0, 0, .u8, .wc, .none, 64, 17, 255, []⟩,
  ⟨WIN_GUARD_BITS, 0, 0, .u8, .wc, .none, 48, 0, 255, []⟩,
  ⟨WIN_ARM_SETTLE, 0, 0, .u8, .wc, .none, 8, 0, 255, []⟩,
  ⟨RC_GATE_CNT, 0, 15, .u32, .ro, .none, 0, 0, 4294967295, []⟩,
  ⟨RC_ACQ_FAIL_CNT, 0, 15, .u32, .ro, .none, 0, 0, 4294967295, []⟩,
  ⟨RC_ABORT_CNT, 0, 15, .u32, .ro, .none, 0, 0, 4294967295, []⟩,
  ⟨RC_OVERRUN_CNT, 0, 15, .u32, .ro, .none, 0, 0, 4294967295, []⟩,
  ⟨RC_SYNC_MISS_CNT, 0, 15, .u32, .ro, .none, 0, 0, 4294967295, []⟩,
  ⟨RC_SYNC_LOSS_CNT, 0, 15, .u32, .ro, .none, 0, 0, 4294967295, []⟩,
  ⟨RC_FLAG_BYTES, 0, 127, .u64, .ro, .none, 0, 0, 18446744073709551615, []⟩,
  ⟨RC_PHASE_RMS, 0, 15, .u16, .ro, .none, 0, 0, 65535, []⟩,
  ⟨RC_ASYM, 0, 15, .i16, .ro, .none, 0, (-32768), 32767, []⟩,
  ⟨RC_BASELINE, 0, 15, .i16, .ro, .none, 0, (-32768), 32767, []⟩,
  ⟨RC_AGC_GAIN, 0, 15, .u16, .ro, .none, 0, 0, 65535, []⟩,
  ⟨LASER_FAULT_CNT, 0, 15, .u32, .ro, .none, 0, 0, 4294967295, []⟩,
  ⟨LASER_PWR_MEAS, 0, 15, .u16, .ro, .none, 0, 0, 65535, []⟩]

/-- Objects of group 0x34. -/
def rows34a : List ObjRow := [
  ⟨CAL_REQUEST, 0, 15, .bits32, .wo, .none, 0, 0, 7, []⟩,
  ⟨CAL_STATE, 0, 15, .enum8, .ro, .none, 0, 0, 5, [0, 1, 2, 3, 4, 5]⟩,
  ⟨CAL_FLAGS, 0, 15, .bits32, .ro, .none, 0, 0, 31, []⟩,
  ⟨CAL_ABORT_CNT, 0, 15, .u32, .ro, .none, 0, 0, 4294967295, []⟩,
  ⟨FE_DARK, 0, 47, .i16, .ro, .none, 0, (-32768), 32767, []⟩,
  ⟨CAL_FO_PP_NOM, 0, 0, .u16, .wc, .none, 12000, 0, 65535, []⟩,
  ⟨CAL_TE_PP_NOM, 0, 0, .u16, .wc, .none, 8000, 0, 65535, []⟩,
  ⟨CAL_TE_REVS, 0, 0, .u8, .wc, .none, 4, 1, 16, []⟩,
  ⟨CAL_FO_OFS, 0, 63, .i16, .ro, .none, 0, (-32768), 32767, []⟩,
  ⟨CAL_FO_TRIM, 0, 63, .i32, .ro, .none, 268435456, (-2147483648), 2147483647, []⟩,
  ⟨CAL_FO_PP, 0, 63, .u16, .ro, .none, 0, 0, 65535, []⟩,
  ⟨CAL_TR_OFS, 0, 63, .i16, .ro, .none, 0, (-32768), 32767, []⟩,
  ⟨CAL_TR_TRIM, 0, 63, .i32, .ro, .none, 268435456, (-2147483648), 2147483647, []⟩,
  ⟨CAL_TR_PP, 0, 63, .u16, .ro, .none, 0, 0, 65535, []⟩,
  ⟨CAL_TR_XINGS, 0, 63, .u16, .ro, .none, 0, 0, 65535, []⟩,
  ⟨EQ_CAL_SHEAVES, 0, 0, .u8, .wc, .none, 8, 1, 16, []⟩,
  ⟨CAL_EQ_USED, 0, 15, .u8, .ro, .none, 0, 0, 255, []⟩,
  ⟨CAL_EQ_JITTER, 0, 15, .u16, .ro, .none, 0, 0, 65535, []⟩,
  ⟨READ_PWR, 0, 7, .u16, .wc, .none, 280, 0, 800, []⟩,
  ⟨READ_HFM, 0, 0, .bool, .wc, .none, 1, 0, 1, []⟩,
  ⟨WRITE_PWR_INIT, 0, 7, .u16, .wc, .none, 6000, 0, 65535, []⟩,
  ⟨WRITE_PWR_MIN, 0, 7, .u16, .wc, .none, 4800, 0, 65535, []⟩,
  ⟨WRITE_PWR_MAX, 0, 7, .u16, .wc, .none, 7200, 0, 16000, []⟩,
  ⟨WCAL_GAIN, 0, 0, .u8, .wc, .none, 64, 0, 255, []⟩,
  ⟨WCAL_STEP_MAX, 0, 0, .u8, .wc, .none, 2, 1, 10, []⟩,
  ⟨WRITE_PWR_CUR, 0, 63, .u16, .ro, .none, 0, 0, 65535, []⟩,
  ⟨WCAL_ASYM, 0, 63, .i16, .ro, .none, 0, (-32768), 32767, []⟩,
  ⟨WCAL_COUNT, 0, 63, .u32, .ro, .none, 0, 0, 4294967295, []⟩,
  ⟨WS_FIRST_START, 0, 1, .u8, .wc, .none, 2, 0, 255, []⟩,
  ⟨WS_FIRST_W, 0, 1, .u8, .wc, .none, 10, 0, 255, []⟩,
  ⟨WS_MULTI_W, 0, 1, .u8, .wc, .none, 8, 0, 255, []⟩,
  ⟨WS_COOL_W, 0, 1, .u8, .wc, .none, 12, 0, 255, []⟩,
  ⟨WS_COOL_PWR, 0, 1, .u8, .wc, .none, 64, 0, 255, []⟩,
  ⟨ERASE_PWR, 0, 1, .u16, .wc, .none, 1800, 0, 65535, []⟩]

/-- Objects of group 0x35. -/
def rows35a : List ObjRow := [
  ⟨MEDIA_STATE, 0, 15, .enum8, .ro, .none, 0, 0, 4, [0, 1, 2, 3, 4]⟩,
  ⟨MEDIA_FAULT_CAUSE, 0, 15, .enum8, .ro, .none, 0, 0, 2, [0, 1, 2]⟩,
  ⟨DRV_DISC_ID, 0, 15, .u64, .ro, .none, 0, 0, 18446744073709551615, []⟩,
  ⟨INNER_TRUST, 0, 0, .u8, .wc, .none, 20, 0, 24, []⟩,
  ⟨VERIFY_ROW_LIMIT, 0, 0, .u8, .wc, .none, 12, 0, 24, []⟩,
  ⟨VERIFY_ERASED_ROWS, 0, 0, .u8, .wc, .none, 4, 0, 20, []⟩,
  ⟨WRITE_RETRY_MAX, 0, 0, .u8, .wc, .none, 3, 1, 8, []⟩,
  ⟨REREAD_MAX, 0, 0, .u8, .wc, .none, 2, 0, 8, []⟩,
  ⟨SPARE_LOW, 0, 0, .u32, .wc, .none, 4096, 0, 4294967295, []⟩,
  ⟨STOOK_REPAIR, 0, 0, .bool, .wc, .none, 1, 0, 1, []⟩,
  ⟨DISC_SPARE_FREE, 0, 1535, .u32, .ro, .none, 4294967295, 0, 4294967295, []⟩,
  ⟨STOOK_FAM_KM, 0, 767, .u8, .wc, .none, 0, 0, 255, []⟩,
  ⟨DISC_STOOK, 0, 1535, .u32, .wc, .none, 0, 0, 4294967295, []⟩,
  ⟨STOOK_UNPROT, 0, 767, .u32, .ro, .none, 0, 0, 4294967295, []⟩,
  ⟨STOOK_WRITTEN, 0, 767, .bool, .ro, .none, 0, 0, 1, []⟩,
  ⟨CODEC_ROW_CORR_CNT, 0, 15, .u64, .ro, .none, 0, 0, 18446744073709551615, []⟩,
  ⟨CODEC_ROW_ERASED_CNT, 0, 15, .u64, .ro, .none, 0, 0, 18446744073709551615, []⟩,
  ⟨SHEAF_UNCORR_CNT, 0, 15, .u32, .ro, .none, 0, 0, 4294967295, []⟩,
  ⟨REPLACE_CNT, 0, 15, .u32, .ro, .none, 0, 0, 4294967295, []⟩,
  ⟨STOOK_RECON_CNT, 0, 767, .u32, .ro, .none, 0, 0, 4294967295, []⟩,
  ⟨STOOK_FAIL_CNT, 0, 767, .u32, .ro, .none, 0, 0, 4294967295, []⟩]

/-- Objects of group 0x40. -/
def rows40a : List ObjRow := [
  ⟨MOT_STATE, 0, 19, .enum8, .ro, .none, 0, 0, 5, [0, 1, 2, 3, 4, 5]⟩,
  ⟨MOT_FLAGS, 0, 19, .bits32, .ro, .none, 0, 0, 31, []⟩,
  ⟨MOT_POS, 0, 19, .i32, .ro, .none, 0, (-2147483648), 2147483647, []⟩,
  ⟨MOT_USTEP, 0, 19, .u16, .ro, .none, 0, 0, 65535, []⟩,
  ⟨MOT_I_NOW, 0, 19, .u16, .ro, .none, 0, 0, 65535, []⟩,
  ⟨MOT_LOAD_ANGLE, 0, 19, .u16, .ro, .none, 0, 0, 65535, []⟩,
  ⟨MOT_TICK, 0, 0, .u64, .ro, .none, 0, 0, 18446744073709551615, []⟩,
  ⟨MOT_HALT, 0, 19, .bool, .wo, .none, 0, 0, 1, []⟩,
  ⟨MOT_V_MAX, 0, 19, .u32, .wc, .none, 100000, 0, 4294967295, []⟩,
  ⟨MOT_A_MAX, 0, 19, .u32, .wc, .none, 2000000, 0, 4294967295, []⟩,
  ⟨MOT_J_MAX, 0, 19, .u32, .wc, .none, 0, 0, 4294967295, []⟩,
  ⟨MOT_STOP_DECEL, 0, 19, .u32, .wc, .none, 40000000, 0, 4294967295, []⟩,
  ⟨MOT_POS_MIN, 0, 19, .i32, .wc, .none, 0, (-2147483648), 2147483647, []⟩,
  ⟨MOT_POS_MAX, 0, 19, .i32, .wc, .none, 0, (-2147483648), 2147483647, []⟩,
  ⟨MOT_STALL_CNT, 0, 19, .u32, .ro, .none, 0, 0, 4294967295, []⟩,
  ⟨MOT_LIMIT_CNT, 0, 19, .u32, .ro, .none, 0, 0, 4294967295, []⟩,
  ⟨MOT_I_HOLD, 0, 19, .u16, .wc, .none, 300, 0, 65535, []⟩,
  ⟨MOT_I_RUN, 0, 19, .u16, .wc, .none, 600, 0, 65535, []⟩,
  ⟨MOT_I_CEIL, 0, 19, .u16, .wc, .none, 1200, 0, 2500, []⟩,
  ⟨MOT_I_SLEW, 0, 19, .u16, .wc, .none, 50, 0, 65535, []⟩,
  ⟨MOT_LA_SET, 0, 19, .u16, .wc, .none, 8192, 0, 65535, []⟩,
  ⟨MOT_LA_GAIN, 0, 19, .u16, .wc, .none, 40, 0, 65535, []⟩,
  ⟨MOT_LA_STALL, 0, 19, .u16, .wc, .none, 14564, 0, 65535, []⟩,
  ⟨MOT_STALL_N, 0, 19, .u8, .wc, .none, 8, 0, 255, []⟩,
  ⟨MOT_LA_MIN_V, 0, 19, .u32, .wc, .none, 2000, 0, 4294967295, []⟩,
  ⟨MOT_HOME_V, 0, 19, .u32, .wc, .none, 0, 0, 4294967295, []⟩,
  ⟨MOT_HOME_POS, 0, 19, .i32, .wc, .none, 0, (-2147483648), 2147483647, []⟩,
  ⟨MOT_HOME_RANGE, 0, 19, .u32, .wc, .none, 0, 0, 4294967295, []⟩,
  ⟨MOT_HOME_TOL, 0, 19, .u16, .wc, .none, 64, 0, 65535, []⟩,
  ⟨MOT_SW_FILTER, 0, 0, .u8, .wc, .none, 4, 1, 16, []⟩,
  ⟨MOT_SW_INVERT, 0, 4, .bits32, .wc, .none, 0, 0, 255, []⟩,
  ⟨MOT_SW_LEVEL, 0, 4, .bits32, .ro, .none, 0, 0, 255, []⟩,
  ⟨MOT_LATCH_POS, 0, 39, .i32, .ro, .none, 0, (-2147483648), 2147483647, []⟩,
  ⟨MOT_LATCH_TICK, 0, 39, .u64, .ro, .none, 0, 0, 18446744073709551615, []⟩,
  ⟨MOT_LATCH_SUB, 0, 39, .u8, .ro, .none, 0, 0, 255, []⟩,
  ⟨CAR_KP_POS, 0, 0, .u32, .wc, .none, 0, 0, 4294967295, []⟩,
  ⟨CAR_KP_V, 0, 0, .u32, .wc, .none, 0, 0, 4294967295, []⟩,
  ⟨CAR_KI_V, 0, 0, .u32, .wc, .none, 0, 0, 4294967295, []⟩,
  ⟨CAR_HOME_OFS, 0, 0, .u16, .ro, .none, 0, 0, 65535, []⟩,
  ⟨PICK_STATE, 0, 0, .enum8, .ro, .none, 0, 0, 3, [0, 1, 2, 3]⟩]

/-- Objects of group 0x40. -/
def rows40b : List ObjRow := [
  ⟨PICK_FAULT_CAUSE, 0, 0, .enum8, .ro, .none, 0, 0, 8, [0, 1, 2, 3, 4, 5, 6, 7, 8]⟩,
  ⟨PICK_CARRY, 0, 0, .u16, .ro, .none, 0, 0, 65535, []⟩,
  ⟨PICK_RESET, 0, 0, .bool, .wo, .none, 0, 0, 1, []⟩,
  ⟨PICK_PLACE, 0, 0, .u16, .wo, .none, 0, 0, 65535, []⟩,
  ⟨PICK_AGE_MAX, 0, 0, .u16, .wc, .none, 60, 0, 65535, []⟩,
  ⟨PICK_EMPTY_CNT, 0, 0, .u32, .ro, .none, 0, 0, 4294967295, []⟩,
  ⟨PICK_ELEV_SLOT0, 0, 0, .i32, .wc, .none, 0, (-2147483648), 2147483647, []⟩,
  ⟨PICK_ELEV_PITCH, 0, 0, .i32, .wc, .none, 0, (-2147483648), 2147483647, []⟩,
  ⟨PICK_DRV_ELEV, 0, 15, .i32, .wc, .none, 0, (-2147483648), 2147483647, []⟩,
  ⟨PICK_REACH_MAG, 0, 0, .i32, .wc, .none, 0, (-2147483648), 2147483647, []⟩,
  ⟨PICK_REACH_DRV, 0, 0, .i32, .wc, .none, 0, (-2147483648), 2147483647, []⟩,
  ⟨PICK_JAW_GRIP, 0, 0, .i32, .wc, .none, 0, (-2147483648), 2147483647, []⟩,
  ⟨CAR_MAG_BASE, 0, 0, .u16, .wc, .none, 0, 0, 65535, []⟩,
  ⟨SL_MISS_CNT, 0, 4, .u32, .ro, .none, 0, 0, 4294967295, []⟩,
  ⟨SL_CRC_CNT, 0, 4, .u32, .ro, .none, 0, 0, 4294967295, []⟩,
  ⟨SL_RETRAIN_CNT, 0, 4, .u32, .ro, .none, 0, 0, 4294967295, []⟩,
  ⟨SL_ERR_LIMIT, 0, 0, .u16, .wc, .none, 32, 0, 65535, []⟩,
  ⟨STAGE_RESET, 0, 4, .bool, .wo, .none, 0, 0, 1, []⟩,
  ⟨STAGE_VBUS, 0, 4, .u16, .ro, .none, 0, 0, 65535, []⟩,
  ⟨STAGE_IBUS, 0, 4, .i16, .ro, .none, 0, (-32768), 32767, []⟩]

/-- Objects of group 0x50. -/
def rows50a : List ObjRow := [
  ⟨SHELF_STAGE_WAYS, 0, 0, .bits32, .wc, .none, 3072, 0, 4095, []⟩,
  ⟨SHELF_AGE_PASS, 0, 0, .u32, .wc, .none, 2000, 100, 1000000, []⟩,
  ⟨STREAM_DETECT, 0, 0, .u16, .wc, .none, 256, 0, 65535, []⟩,
  ⟨SHELF_HIT_CNT, 0, 32, .u64, .ro, .crib, 0, 0, 18446744073709551615, []⟩,
  ⟨SHELF_MISS_CNT, 0, 32, .u64, .ro, .crib, 0, 0, 18446744073709551615, []⟩,
  ⟨SHELF_LINES, 0, 32, .u32, .ro, .crib, 0, 0, 4294967295, []⟩,
  ⟨SHELF_BYPASS_CNT, 0, 0, .u64, .ro, .none, 0, 0, 18446744073709551615, []⟩,
  ⟨STAGE_LINES_USED, 0, 0, .u16, .ro, .none, 0, 0, 65535, []⟩,
  ⟨HAYLOFT_SIZE, 0, 0, .u8, .wc, .none, 16, 0, 96, []⟩,
  ⟨HAYLOFT_STAGE_SIZE, 0, 0, .u8, .wc, .none, 2, 1, 8, []⟩,
  ⟨HAYLOFT_LAND, 0, 0, .u16, .wc, .none, 1024, 64, 4096, []⟩,
  ⟨HAYLOFT_AGE_PASS, 0, 0, .u32, .wc, .none, 1000, 10, 600000, []⟩,
  ⟨HAYLOFT_DEV_QUOTA, 0, 0, .u32, .wc, .none, 4096, 0, 4294967295, []⟩,
  ⟨HAY_HIT_CNT, 0, 32, .u64, .ro, .crib, 0, 0, 18446744073709551615, []⟩,
  ⟨HAY_MISS_CNT, 0, 32, .u64, .ro, .crib, 0, 0, 18446744073709551615, []⟩,
  ⟨HAYLOFT_LINES, 0, 33, .u32, .ro, .crib, 0, 0, 4294967295, []⟩,
  ⟨HAY_OFFER_CNT, 0, 5, .u64, .ro, .none, 0, 0, 18446744073709551615, []⟩,
  ⟨HAY_FILL_CNT, 0, 1, .u64, .ro, .none, 0, 0, 18446744073709551615, []⟩,
  ⟨HAY_STAGE_USED, 0, 0, .u32, .ro, .none, 0, 0, 4294967295, []⟩,
  ⟨HAY_LAND_USED, 0, 0, .u32, .ro, .none, 0, 0, 4294967295, []⟩,
  ⟨SIDEBOARD_USED, 0, 0, .u8, .ro, .none, 0, 0, 255, []⟩,
  ⟨SIDEBOARD_SNOOP_CNT, 0, 0, .u64, .ro, .none, 0, 0, 18446744073709551615, []⟩,
  ⟨CACHE_ECC_REFILL_CNT, 0, 0, .u32, .ro, .none, 0, 0, 4294967295, []⟩,
  ⟨RAKE_OP, 0, 32, .enum8, .rw, .crib, 0, 1, 4, [1, 2, 3, 4]⟩,
  ⟨RAKE_NSID, 0, 32, .u32, .rw, .crib, 0, 0, 4294967295, []⟩,
  ⟨RAKE_SLBA, 0, 32, .u64, .rw, .crib, 0, 0, 18446744073709551615, []⟩,
  ⟨RAKE_NLB, 0, 32, .u64, .rw, .crib, 0, 0, 18446744073709551615, []⟩,
  ⟨RAKE_GO, 0, 32, .bool, .wo, .crib, 0, 0, 1, []⟩,
  ⟨RAKE_BUSY, 0, 32, .bool, .ro, .crib, 0, 0, 1, []⟩,
  ⟨RAKE_STATUS, 0, 32, .enum8, .ro, .crib, 0, 0, 4, [0, 1, 2, 3, 4]⟩,
  ⟨RAKE_IGNORED_CNT, 0, 32, .u32, .ro, .crib, 0, 0, 4294967295, []⟩,
  ⟨RAKE_INTERNAL_BUSY, 0, 0, .bool, .ro, .none, 0, 0, 1, []⟩]

/-- Objects of group 0x51. -/
def rows51a : List ObjRow := [
  ⟨MEM_CE_CNT, 0, 42, .u16, .ro, .none, 0, 0, 65535, []⟩,
  ⟨MEM_CE_STICKY, 0, 1, .bits32, .ro, .none, 0, 0, 4294967295, []⟩,
  ⟨MEM_CE_CLEAR, 0, 0, .bool, .wo, .none, 0, 0, 1, []⟩,
  ⟨MEM_UE_CNT, 0, 4, .u32, .ro, .none, 0, 0, 4294967295, []⟩,
  ⟨MEM_RESTART_CAUSE, 0, 0, .enum8, .ro, .none, 0, 0, 2, [0, 1, 2]⟩,
  ⟨MEM_ERASE_DEV, 0, 3, .u8, .rw, .none, 0, 0, 255, []⟩,
  ⟨MEM_ERASE_THRESH, 0, 0, .u16, .wc, .none, 16, 1, 65535, []⟩,
  ⟨GLEAN_DRAM_RATE, 0, 0, .u16, .wc, .none, 64, 0, 1024, []⟩,
  ⟨GLEAN_SRAM_PASS, 0, 0, .u16, .wc, .none, 1000, 0, 60000, []⟩,
  ⟨GLEAN_DRAM_PASS_CNT, 0, 1, .u32, .ro, .none, 0, 0, 4294967295, []⟩,
  ⟨GLEAN_DRAM_PROG, 0, 1, .u16, .ro, .none, 0, 0, 65535, []⟩,
  ⟨GLEAN_SRAM_PASS_CNT, 0, 0, .u32, .ro, .none, 0, 0, 4294967295, []⟩,
  ⟨MEM_ERR_REC, 0, 255, .blob, .ro, .none, 0, 0, 0, []⟩,
  ⟨MEM_ERR_HEAD, 0, 0, .u32, .ro, .none, 0, 0, 4294967295, []⟩,
  ⟨MEM_ERR_LOST, 0, 0, .u32, .ro, .none, 0, 0, 4294967295, []⟩,
  ⟨MEM_TEST_TARGET, 0, 0, .enum8, .rw, .none, 0, 0, 5, [0, 1, 2, 3, 4, 5]⟩,
  ⟨MEM_TEST_LINE, 0, 0, .u8, .rw, .none, 0, 0, 7, []⟩,
  ⟨MEM_TEST_DATA, 0, 0, .blob, .rw, .none, 0, 0, 0, []⟩,
  ⟨MEM_TEST_CHECK, 0, 0, .blob, .rw, .none, 0, 0, 0, []⟩,
  ⟨MEM_TEST_OP, 0, 0, .enum8, .wo, .none, 0, 1, 4, [1, 2, 3, 4]⟩,
  ⟨MEM_TEST_RESULT, 0, 0, .bits32, .ro, .none, 0, 0, 4294967295, []⟩,
  ⟨MEM_RETIRE_REQ, 0, 0, .u32, .wo, .none, 0, 0, 4294967295, []⟩,
  ⟨MEM_RETIRE_STATE, 0, 0, .enum8, .ro, .none, 0, 0, 5, [0, 1, 2, 3, 4, 5]⟩,
  ⟨MEM_RETIRE_COUNT, 0, 1, .u16, .ro, .none, 0, 0, 65535, []⟩,
  ⟨MEM_RETIRE_CLEAR, 0, 0, .u32, .rwh, .none, 0, 0, 4294967295, []⟩,
  ⟨HAY_LINES_RETIRED, 0, 0, .u32, .ro, .none, 0, 0, 4294967295, []⟩,
  ⟨MEM_RETIRE_LIST, 0, 4095, .u32, .ro, .none, 0, 0, 4294967295, []⟩,
  ⟨MEM_RETIRE_LIST_1, 0, 31, .u32, .ro, .none, 0, 0, 4294967295, []⟩]

/-- Objects of group 0x60. -/
def rows60a : List ObjRow := [
  ⟨CRIB_SEQ_MAX, 0, 32, .u8, .wc, .none, 1, 0, 4, []⟩,
  ⟨JOB_TIME_LIMIT, 0, 32, .u32, .wc, .crib, 600000, 1, 3600000, []⟩,
  ⟨JOB_KEY_LOADED, 0, 32, .bits32, .ro, .crib, 0, 0, 255, []⟩,
  ⟨SEQ_STATE, 0, 3, .enum8, .ro, .none, 0, 0, 3, [0, 1, 2, 3]⟩,
  ⟨SEQ_CRIB, 0, 3, .u8, .ro, .none, 0, 0, 255, []⟩,
  ⟨SEQ_PC, 0, 3, .u32, .ro, .none, 0, 0, 4294967295, []⟩,
  ⟨EQ_DEPTH, 0, 15, .u8, .ro, .none, 0, 0, 255, []⟩,
  ⟨JOB_DONE_CNT, 0, 32, .u64, .ro, .crib, 0, 0, 18446744073709551615, []⟩,
  ⟨JOB_EXC_CNT, 0, 32, .u32, .ro, .crib, 0, 0, 4294967295, []⟩,
  ⟨JOB_LAST_EXC, 0, 32, .u64, .ro, .crib, 0, 0, 18446744073709551615, []⟩,
  ⟨JOB_WAITING, 0, 32, .u16, .ro, .crib, 0, 0, 65535, []⟩,
  ⟨ENGINE_BUSY_US, 0, 13, .u64, .ro, .none, 0, 0, 18446744073709551615, []⟩,
  ⟨JOB_ENGINE_US, 0, 32, .u64, .ro, .crib, 0, 0, 18446744073709551615, []⟩,
  ⟨JOB_SEQ_US, 0, 32, .u64, .ro, .crib, 0, 0, 18446744073709551615, []⟩]

/-- Objects of group 0x61. -/
def rows61a : List ObjRow := [
  ⟨MBX_OWNER, 0, 31, .u8, .wc, .none, 0, 0, 255, []⟩,
  ⟨MBX_WRITERS, 0, 31, .u64, .wc, .none, 0, 0, 18446744073709551615, []⟩,
  ⟨MBX_POST_CNT, 0, 31, .u32, .ro, .none, 0, 0, 4294967295, []⟩,
  ⟨MBX_COLLIDE_CNT, 0, 31, .u32, .ro, .none, 0, 0, 4294967295, []⟩,
  ⟨MBX_REFUSED_CNT, 0, 32, .u32, .ro, .crib, 0, 0, 4294967295, []⟩,
  ⟨MBX_DISCARD_CNT, 0, 0, .u32, .ro, .none, 0, 0, 4294967295, []⟩,
  ⟨DB_OWNER, 0, 255, .u8, .wc, .none, 0, 0, 255, []⟩,
  ⟨DB_WRITERS, 0, 255, .u64, .wc, .none, 0, 0, 18446744073709551615, []⟩,
  ⟨DB_REFUSED_CNT, 0, 32, .u32, .ro, .crib, 0, 0, 4294967295, []⟩]

/-- Objects of group 0x62. -/
def rows62a : List ObjRow := [
  ⟨EVT_ROUTE, 0, 1023, .u32, .rw, .source, 0, 0, 4294967295, []⟩,
  ⟨EVT_COUNT, 0, 1023, .u32, .ro, .source, 0, 0, 4294967295, []⟩,
  ⟨EVT_TOTAL, 0, 1023, .u32, .ro, .source, 0, 0, 4294967295, []⟩,
  ⟨EVT_DETAIL, 0, 1023, .u64, .ro, .source, 0, 0, 18446744073709551615, []⟩,
  ⟨EVT_CRIB_PEND, 1, 32, .bits32, .ro, .crib, 0, 0, 65535, []⟩,
  ⟨EVT_CRIB_CLEAR, 1, 32, .bits32, .wo, .crib, 0, 0, 65535, []⟩,
  ⟨EVT_CRIB_MASK, 1, 32, .bits32, .rw, .crib, 0, 0, 65535, []⟩,
  ⟨EVR_OWNER, 0, 7, .u8, .wc, .none, 0, 0, 255, []⟩,
  ⟨EVR_BASE, 0, 7, .u64, .rw, .ring, 0, 0, 18446744073709551615, []⟩,
  ⟨EVR_SIZE, 0, 7, .u16, .rw, .ring, 0, 16, 4096, []⟩,
  ⟨EVR_VECTOR, 0, 7, .u8, .rw, .ring, 0, 0, 63, []⟩,
  ⟨EVR_ENABLE, 0, 7, .bool, .rw, .ring, 0, 0, 1, []⟩,
  ⟨EVR_TAIL, 0, 7, .u16, .ro, .ring, 0, 0, 65535, []⟩,
  ⟨EVR_HEAD_SEEN, 0, 7, .u16, .ro, .ring, 0, 0, 65535, []⟩,
  ⟨EVR_DEFER_CNT, 0, 7, .u32, .ro, .ring, 0, 0, 4294967295, []⟩,
  ⟨EVT_LOG_REC, 0, 4095, .blob, .ro, .none, 0, 0, 0, []⟩,
  ⟨EVT_LOG_HEAD, 0, 0, .u32, .ro, .none, 0, 0, 4294967295, []⟩,
  ⟨EVT_LOG_ACK, 0, 0, .u32, .rw, .none, 0, 0, 4294967295, []⟩,
  ⟨EVT_LOG_LOST, 0, 1, .u32, .ro, .none, 0, 0, 4294967295, []⟩,
  ⟨VIO_LOG_REC, 0, 511, .blob, .ro, .none, 0, 0, 0, []⟩,
  ⟨VIO_LOG_HEAD, 0, 0, .u32, .ro, .none, 0, 0, 4294967295, []⟩,
  ⟨VIO_LOG_LOST, 0, 0, .u32, .ro, .none, 0, 0, 4294967295, []⟩]

/-- Objects of group 0x63. -/
def rows63a : List ObjRow := [
  ⟨SP_MODE, 0, 3, .enum8, .wc, .none, 1, 0, 2, [0, 1, 2]⟩,
  ⟨SP_RATE, 0, 3, .u32, .wc, .none, 115200, 0, 4294967295, []⟩,
  ⟨SP_FORMAT, 0, 3, .bits32, .wc, .none, 0, 0, 7, []⟩,
  ⟨SP_QSIZE, 0, 3, .enum8, .wc, .none, 0, 0, 4, [0, 1, 2, 3, 4]⟩,
  ⟨SP_RX_TRIG, 0, 3, .enum8, .wc, .none, 0, 0, 3, [0, 1, 2, 3]⟩,
  ⟨SP_TX_TRIG, 0, 3, .enum8, .wc, .none, 0, 0, 3, [0, 1, 2, 3]⟩,
  ⟨SP_RX_TIMEOUT, 0, 3, .u8, .wc, .none, 4, 1, 255, []⟩,
  ⟨SP_DIVISOR, 0, 3, .u16, .ro, .none, 0, 0, 65535, []⟩,
  ⟨SP_RATE_ERR, 0, 3, .i32, .ro, .none, 0, (-2147483648), 2147483647, []⟩,
  ⟨SP_TX_DATA, 0, 3, .blob, .wo, .none, 0, 0, 0, []⟩,
  ⟨SP_TX_FREE, 0, 3, .u16, .ro, .none, 0, 0, 65535, []⟩,
  ⟨SP_RX_DATA, 0, 3, .blob, .ro, .none, 0, 0, 0, []⟩,
  ⟨SP_RX_LEVEL, 0, 3, .u16, .ro, .none, 0, 0, 65535, []⟩,
  ⟨SP_STATUS, 0, 3, .bits32, .ro, .none, 0, 0, 31, []⟩,
  ⟨SP_ERR_CNT, 0, 31, .u32, .ro, .none, 0, 0, 4294967295, []⟩,
  ⟨TRAY_ENTRY, 0, 191, .u32, .wc, .none, 0, 0, 4294967295, []⟩,
  ⟨TRAY_TX_DATA, 0, 191, .u64, .rw, .none, 0, 0, 18446744073709551615, []⟩,
  ⟨TRAY_RX_DATA, 0, 191, .u64, .ro, .none, 0, 0, 18446744073709551615, []⟩,
  ⟨TRAY_RX_STAT, 0, 191, .u32, .ro, .none, 0, 0, 4294967295, []⟩,
  ⟨TRAY_BREAK_BITS, 0, 0, .u8, .wc, .none, 13, 13, 20, []⟩,
  ⟨TRAY_DELIM_BITS, 0, 0, .u8, .wc, .none, 1, 1, 4, []⟩,
  ⟨TRAY_MISS_LIMIT, 0, 0, .u8, .wc, .none, 3, 1, 255, []⟩,
  ⟨TRAY_NODE_STATE, 0, 47, .enum8, .ro, .none, 0, 0, 2, [0, 1, 2]⟩,
  ⟨TRAY_ERR_CNT, 0, 23, .u32, .ro, .none, 0, 0, 4294967295, []⟩,
  ⟨TRAY_CYCLE_CNT, 0, 2, .u32, .ro, .none, 0, 0, 4294967295, []⟩,
  ⟨PAD_FUNC, 0, 7, .u8, .rw, .none, 0, 0, 255, []⟩,
  ⟨PAD_SAFE, 0, 7, .enum8, .rw, .none, 1, 0, 2, [0, 1, 2]⟩,
  ⟨PAD_GPO, 0, 7, .bool, .rw, .none, 1, 0, 1, []⟩,
  ⟨PAD_GPI, 0, 0, .bits32, .ro, .none, 0, 0, 255, []⟩]

/-- Objects of group 0x70. -/
def rows70a : List ObjRow := [
  ⟨UTC_NOW, 0, 0, .time64, .ro, .none, 0, 0, 18446744073709551615, []⟩,
  ⟨UTC_SET, 0, 0, .time64, .wo, .none, 0, 0, 18446744073709551615, []⟩,
  ⟨TIME_SYNC, 0, 0, .bool, .ro, .all, 0, 0, 1, []⟩,
  ⟨LEDGER_SLEW_MAX, 0, 0, .u16, .wc, .none, 1000, 0, 60000, []⟩,
  ⟨TIME_STEP_CNT, 0, 0, .u32, .ro, .none, 0, 0, 4294967295, []⟩,
  ⟨LEDGER_HEAD, 0, 0, .u32, .ro, .none, 0, 0, 4294967295, []⟩,
  ⟨LEDGER_ACK, 0, 0, .u32, .rw, .none, 0, 0, 4294967295, []⟩,
  ⟨LEDGER_FREE, 0, 0, .u32, .ro, .none, 0, 0, 4294967295, []⟩,
  ⟨LEDGER_WARN, 0, 0, .u32, .wc, .none, 8192, 0, 4294967295, []⟩,
  ⟨LEDGER_STATE, 0, 0, .enum8, .ro, .none, 0, 0, 2, [0, 1, 2]⟩,
  ⟨LEDGER_LOST_REC, 0, 0, .u32, .ro, .none, 0, 0, 4294967295, []⟩,
  ⟨MIN_SEQ_NEXT, 0, 0, .u32, .ro, .none, 0, 0, 4294967295, []⟩,
  ⟨TARIFF_RATE, 0, 127, .u32, .ro, .none, 0, 0, 4294967295, []⟩,
  ⟨TARIFF_DEMAND_FREE, 0, 7, .u32, .ro, .none, 0, 0, 4294967295, []⟩,
  ⟨CRIB_TARIFF, 0, 32, .u8, .ro, .crib, 0, 0, 255, []⟩,
  ⟨TARIFF_SEQ, 0, 0, .u32, .ro, .none, 0, 0, 4294967295, []⟩,
  ⟨TARIFF_PEND_RATE, 0, 127, .u32, .rw, .none, 0, 0, 4294967295, []⟩,
  ⟨TARIFF_PEND_FREE, 0, 7, .u32, .rw, .none, 0, 0, 4294967295, []⟩,
  ⟨TARIFF_PEND_PLAN, 0, 32, .u8, .rw, .none, 0, 0, 7, []⟩,
  ⟨TARIFF_EFFECTIVE, 0, 0, .time64, .rw, .none, 0, 0, 18446744073709551615, []⟩,
  ⟨TARIFF_ARM, 0, 0, .enum8, .wo, .none, 0, 1, 2, [1, 2]⟩,
  ⟨TARIFF_PEND_STATE, 0, 0, .enum8, .ro, .none, 0, 0, 1, [0, 1]⟩,
  ⟨DEMAND_MIN, 0, 0, .u8, .wc, .none, 15, 0, 255, []⟩,
  ⟨LEDGER_CTRL_BASE_MW, 0, 0, .u32, .wc, .none, 20000, 0, 4294967295, []⟩,
  ⟨LEDGER_STEP_R, 0, 19, .u16, .wc, .none, 1500, 0, 65535, []⟩,
  ⟨ACCT_TOTAL, 0, 527, .u64, .ro, .by16, 0, 0, 18446744073709551615, []⟩,
  ⟨ACCT_CHARGE_TOTAL, 0, 32, .u64, .ro, .crib, 0, 0, 18446744073709551615, []⟩,
  ⟨LEDGER_REC, 0, 4095, .blob, .ro, .none, 0, 0, 0, []⟩,
  ⟨LEDGER_REC_1, 0, 4095, .blob, .ro, .none, 0, 0, 0, []⟩,
  ⟨LEDGER_REC_2, 0, 4095, .blob, .ro, .none, 0, 0, 0, []⟩,
  ⟨LEDGER_REC_3, 0, 4095, .blob, .ro, .none, 0, 0, 0, []⟩,
  ⟨LEDGER_REC_4, 0, 4095, .blob, .ro, .none, 0, 0, 0, []⟩,
  ⟨LEDGER_REC_5, 0, 4095, .blob, .ro, .none, 0, 0, 0, []⟩,
  ⟨LEDGER_REC_6, 0, 4095, .blob, .ro, .none, 0, 0, 0, []⟩,
  ⟨LEDGER_REC_7, 0, 4095, .blob, .ro, .none, 0, 0, 0, []⟩,
  ⟨LEDGER_REC_8, 0, 4095, .blob, .ro, .none, 0, 0, 0, []⟩,
  ⟨LEDGER_REC_9, 0, 4095, .blob, .ro, .none, 0, 0, 0, []⟩,
  ⟨LEDGER_REC_10, 0, 4095, .blob, .ro, .none, 0, 0, 0, []⟩,
  ⟨LEDGER_REC_11, 0, 4095, .blob, .ro, .none, 0, 0, 0, []⟩,
  ⟨LEDGER_REC_12, 0, 4095, .blob, .ro, .none, 0, 0, 0, []⟩]

/-- Objects of group 0x70. -/
def rows70b : List ObjRow := [
  ⟨LEDGER_REC_13, 0, 4095, .blob, .ro, .none, 0, 0, 0, []⟩,
  ⟨LEDGER_REC_14, 0, 4095, .blob, .ro, .none, 0, 0, 0, []⟩,
  ⟨LEDGER_REC_15, 0, 4095, .blob, .ro, .none, 0, 0, 0, []⟩]

/-- Objects of group 0x78. -/
def rows78a : List ObjRow := [
  ⟨PF_STATE, 0, 0, .enum8, .ro, .none, 0, 0, 2, [0, 1, 2]⟩,
  ⟨PF_COUNT, 0, 0, .u32, .ro, .none, 0, 0, 4294967295, []⟩,
  ⟨PF_LAST_US, 0, 0, .u32, .ro, .none, 0, 0, 4294967295, []⟩,
  ⟨DOM_STATE, 0, 20, .enum8, .ro, .none, 0, 0, 3, [0, 1, 2, 3]⟩,
  ⟨DOM_IDLE_US, 0, 4, .u32, .wc, .none, 100, 0, 1000000, []⟩,
  ⟨GL_SLEEP_MS, 0, 0, .u32, .wc, .none, 1000, 0, 3600000, []⟩,
  ⟨DOM_ENTRY_CNT, 0, 20, .u32, .ro, .none, 0, 0, 4294967295, []⟩,
  ⟨DOM_ABORT_CNT, 0, 20, .u32, .ro, .none, 0, 0, 4294967295, []⟩,
  ⟨DOM_DELAY_CNT, 0, 20, .u32, .ro, .none, 0, 0, 4294967295, []⟩,
  ⟨PWR_RAIL_MV, 0, 6, .u16, .ro, .none, 0, 0, 65535, []⟩,
  ⟨PWR_RAIL_MA, 0, 6, .u32, .ro, .none, 0, 0, 4294967295, []⟩,
  ⟨PWR_RAIL_UJ, 0, 6, .u64, .ro, .none, 0, 0, 18446744073709551615, []⟩,
  ⟨FE_RAIL_UJ, 0, 31, .u64, .ro, .none, 0, 0, 18446744073709551615, []⟩,
  ⟨STAGE_BUS_UJ, 0, 4, .u64, .ro, .none, 0, 0, 18446744073709551615, []⟩,
  ⟨TEMP_CTRL, 0, 3, .i16, .ro, .none, 0, (-32768), 32767, []⟩,
  ⟨TEMP_FE, 0, 15, .i16, .ro, .none, 0, (-32768), 32767, []⟩,
  ⟨TEMP_STAGE, 0, 4, .i16, .ro, .none, 0, (-32768), 32767, []⟩,
  ⟨PWR_TEMP_WARN, 0, 0, .i16, .wc, .none, 1050, (-32768), 32767, []⟩,
  ⟨PWR_VBUS_WARN, 0, 0, .u16, .wc, .none, 38000, 30000, 56000, []⟩,
  ⟨CLK_REF_LOSS_CNT, 0, 0, .u32, .ro, .none, 0, 0, 4294967295, []⟩,
  ⟨CLK_STATUS, 0, 0, .bits32, .ro, .none, 0, 0, 287, []⟩]

/-- Objects of group 0x7E. -/
def rows7Ea : List ObjRow := [
  ⟨LIFE_POWER_S, 0, 0, .u32, .ro, .none, 0, 0, 4294967295, []⟩,
  ⟨LIFE_COLD_STARTS, 0, 0, .u32, .ro, .none, 0, 0, 4294967295, []⟩,
  ⟨LIFE_DRV_REV, 0, 15, .u64, .ro, .none, 0, 0, 18446744073709551615, []⟩,
  ⟨LIFE_DRV_STATE_S, 0, 79, .u64, .ro, .none, 0, 0, 18446744073709551615, []⟩,
  ⟨LIFE_LASER_S, 0, 15, .u64, .ro, .none, 0, 0, 18446744073709551615, []⟩,
  ⟨LIFE_WRITE_S, 0, 15, .u64, .ro, .none, 0, 0, 18446744073709551615, []⟩,
  ⟨LIFE_SPIN_STARTS, 0, 15, .u32, .ro, .none, 0, 0, 4294967295, []⟩,
  ⟨LIFE_MOT_USTEPS, 0, 19, .u64, .ro, .none, 0, 0, 18446744073709551615, []⟩,
  ⟨LIFE_PICK_SEQ, 0, 0, .u32, .ro, .none, 0, 0, 4294967295, []⟩,
  ⟨TEMP_HIST, 0, 11, .u32, .ro, .none, 0, 0, 4294967295, []⟩,
  ⟨CHEST_WRITES, 0, 9, .u64, .ro, .none, 0, 0, 18446744073709551615, []⟩,
  ⟨CHEST_WEAR_MAX, 0, 9, .u64, .ro, .none, 0, 0, 18446744073709551615, []⟩]

/-- The whole dictionary, in ascending address order. -/
def table : List ObjRow :=
  rows00a ++ rows01a ++ rows02a ++ rows10a ++ rows11a ++ rows20a ++ rows21a ++ rows22a ++ rows30a ++ rows30b ++ rows31a ++ rows32a ++ rows32b ++ rows33a ++ rows34a ++ rows35a ++ rows40a ++ rows40b ++ rows50a ++ rows51a ++ rows60a ++ rows61a ++ rows62a ++ rows63a ++ rows70a ++ rows70b ++ rows78a ++ rows7Ea

end Od

end Sys2Proof.Machine
end

