-- ==== Sys2Proof/Machine/State.lean ====
section
/-! DEFINITION. The state of the block: plain data, everything the spec gives the machine. Objects of the
dictionary live in `od` (numbers) and `blobs` (STR32 and BLOB values); what no object reports lives in the
substructures below, one per subsystem. -/

namespace Sys2Proof.Machine

/-- Why the block stops with a fault. -/
inductive Fault where
  /-- Raised by every command but those of the test port, COLD_START and LOGIC_POWER_LOSS while the part the
  command involves has had EXTEST or CLAMP loaded since its last start or reset: R738 says that no behaviour
  of the manual holds. Safe: the model stops where the spec gives no behaviour. -/
  | boundaryScan (part : Nat)
  deriving DecidableEq, Repr

/-- Why the block refuses a command. -/
inductive Refusal where
  /-- Raised by an arm of `exec` whose command has no meaning yet. Safe: the model stops. -/
  | notModelled (mnemonic : String)
  deriving DecidableEq, Repr

/-- The completion statuses the spec names. -/
inductive Status where
  | success | invalidOpcode | invalidField | invalidQueueId | abortRequested | invalidPrpOffset
  | commandSequence | namespaceNotReady | formatInProgress | invalidNamespace | insufficientCapacity
  | zoneInvalidWrite | zoneIsFull | zoneIsOffline | zoneBoundary | zoneInvalidTransition | tooManyActive | tooManyOpen
  | capacityExceeded
  | unrecoveredRead | writeFault | internalError | commandInterrupted | dataTransferError | lbaOutOfRange
  | sanitizeInProgress | sanitizeFailed | jobException | asyncLimit | abortLimit | connectInvalid | connectHost | connectBusy
  | attachLimit | alreadyAttached | notAttached | idUnavailable | invalidQueueSize | invalidVector
  | transientTransport | completionQueueInvalid | queueDeletionOrder | featureNotSaveable | invalidLogPage | objectCode (code : Nat)
  deriving DecidableEq, Repr

/-- The asynchronous events the spec names (R439, R487), and the notice that goes with log page 04h (R411). -/
inductive AsyncEvent where
  | invalidDoorbellRegister | invalidDoorbellValue | sanitizeCompleted | namespaceChanged
  deriving DecidableEq, Repr

/-- A completion: status, Do Not Retry where the spec states it, dwords 0 and 1, and the event of an Asynchronous Event
Request. -/
structure Cpl where
  queue : IoQueue
  cid : Nat
  status : Status
  dnr : Option Bool
  dw0 : Nat
  dw1 : Nat
  event : Option AsyncEvent := none
  /-- The submission queue head it reports (R461). -/
  sqhd : Nat := 0
  deriving DecidableEq, Repr

/-- The deficit round robin of R161 at one resource: the class whose turn it is with the units left of its
quantum, the same for the cribs of each class, and the queue of each class and crib served last. -/
structure Drr where
  cls : Nat
  left : Nat
  crib : Vector (Nat × Nat) 4
  queue : Keyed Nat
  deriving DecidableEq, Repr

/-- The device states (R14, R107). -/
inductive Device where
  | off | booting | held | starting | serving | draining
  deriving DecidableEq, Repr

/-- The number DEVICE_STATE reports (R107); Off has no reader. -/
def Device.code : Device → Nat
  | .off => 0 | .booting => 1 | .held => 2 | .starting => 3 | .serving => 4 | .draining => 5

/-- Occurrences within the current second, for the rate limits of R539, R616 and R618. -/
structure Rate where
  sec : Nat
  n : Nat
  deriving DecidableEq, Repr

/-! ### Chest (R710 to R714) -/

/-- What a delayed Chest write holds back until it is made (R711). -/
inductive Waiter where
  /-- A completion that R425 holds back until the zone's entry is kept. -/
  | completion (c : Cpl)
  /-- TARIFF_PEND_STATE becomes ARMED or NONE (R662). -/
  | tariff (armed : Bool)
  /-- An erased device of a rank kept in the Chest (R529). -/
  | eraseDev (rank dev : Nat)
  /-- An acknowledgement kept in the Chest: of ledger records (R672) or of event log records (R616). -/
  | ack (events : Bool) (seq : Nat)
  deriving DecidableEq, Repr

/-- A record write delayed by the rate limit, with what waits on it (R711). -/
structure DelayedWrite where
  region : Nat
  pos : Nat
  waiters : List Waiter
  deriving DecidableEq, Repr

/-- Write accounting of the Chest: writes per position since first use, the times of the last writes within
1 s per position, and the writes that the rate limit delays; a position's key is region × 2^20 + position. Beside it, the two
acknowledgements as the Chest holds them (R616, R672), and the two copies of the long-run checkpoint with the one written
last (R715). -/
structure Chest where
  wear : Keyed Nat
  recent : Keyed (List Nat)
  delayed : List DelayedWrite
  ledgerAck : Nat
  evtAck : Nat
  life : Vector (Option (Keyed Nat)) 2
  lifeAt : Fin 2
  deriving DecidableEq, Repr

/-! ### Mailboxes, doorbells and the event unit (R585 to R622) -/

/-- One mailbox channel's slot (R587). -/
structure MbxSlot where
  bytes : List Byte
  full : Bool
  collided : Bool
  collisions : Nat
  seq : Nat
  deriving DecidableEq, Repr

/-- An event ring record's content (R610). -/
structure EvtRec where
  src : Nat
  phase : Bool
  crib : Nat
  flags : Nat
  count : Nat
  time : Nat
  d0 : Nat
  d1 : Nat
  deriving DecidableEq, Repr

/-- A record of the Chest event log (R615). -/
structure EvtLogRec where
  seq : Nat
  src : Nat
  crib : Nat
  flags : Nat
  time : Nat
  d0 : Nat
  d1 : Nat
  deriving DecidableEq, Repr

/-- A record of the shared violation log (R617). -/
structure VioRec where
  seq : Nat
  time : Nat
  partner : Nat
  crib : Nat
  wher : Nat
  node : Nat
  code : Nat
  rep : Nat
  detail : List Byte
  deriving DecidableEq, Repr

/-- The event unit, mailboxes, doorbells and the two logs they keep in the Chest. -/
structure EventUnit where
  slots : Vector MbxSlot 32
  /-- SEND_BUF by 32·function + channel; unlisted buffers are all zero. -/
  staging : Keyed (List Byte)
  /-- LAST_SEQ and LAST_COLLIDED by 32·function + channel. -/
  lastPost : Keyed (Nat × Bool)
  doorbells : BitVec 256
  pend : BitVec 1024
  mask : BitVec 1024
  time : Keyed Nat
  detail1 : Keyed Nat
  phase : Vector Bool 8
  log : List EvtLogRec
  logRate : Rate
  vio : List VioRec
  vioRate : Rate
  vioDirty : Bool
  deriving DecidableEq, Repr

/-! ### Start-up, population, interlocks and links (R20 to R46, R107 to R142) -/

/-- A firmware slot of the SPI NOR flash (R111, R112): what its bytes hold from offset 0, erased bytes
beyond, and whether an erase or a write of it was interrupted (R141). -/
structure FlashSlot where
  bytes : List Byte
  torn : Bool
  deriving DecidableEq, Repr

/-- A configuration image: every WC object's value (R76). -/
structure Image where
  vals : Keyed Nat
  blobs : Keyed (List Byte)
  deriving DecidableEq, Repr

/-- A configuration slot of the Chest (R76), with whether its two CRCs match. -/
structure CfgSlot where
  hdrOk : Bool
  streamOk : Bool
  layout : Nat
  seq : Nat
  image : Image
  deriving DecidableEq, Repr

/-- A pointer record (R121). -/
structure PtrRec where
  valid : Bool
  rseq : Nat
  slot : Nat
  seq : Nat
  deriving DecidableEq, Repr

/-- How far Booting has come. -/
inductive BootPhase where
  /-- The boot ROM runs; no image started. -/
  | rom
  /-- Firmware runs and waits for declared parts to report their identities (R28). -/
  | parts
  /-- Firmware has reached the end of validation. -/
  | ready
  deriving DecidableEq, Repr

/-- What a population validation is for (R27). -/
inductive PopFor where
  | boot | commit | release
  deriving DecidableEq, Repr

/-- A population validation that waits for identity words: the parts not yet heard and the faults found in
the current step (R27 to R29). -/
structure PopVal where
  purpose : PopFor
  image : Image
  stageWait : List Nat
  feWait : List Nat
  feStep : Bool
  faults : Nat
  deriving DecidableEq, Repr

/-- What a drain leads to (R107). -/
inductive DrainFor where
  | hold | restart
  deriving DecidableEq, Repr

/-- The controller's start-up and state machine data. -/
structure Boot where
  phase : BootPhase
  cfg : Vector CfgSlot 2
  ptr : Vector PtrRec 2
  /-- Boot-failure marks per slot: IMAGE_SEQ and BODY_SHA384 (R115). -/
  marks : Vector (Option (Nat × List Byte)) 2
  haveImage : Bool
  /-- The last start was a Warm restart (R671). -/
  warm : Bool
  /-- HOLD_RELEASE waits for a validation that runs (R134). -/
  revalidate : Bool
  popVal : Option PopVal
  drain : Option DrainFor
  /-- HOLD_REQUEST waits for a running commit (R130). -/
  drainDeferred : Bool
  crs : Bool
  deriving DecidableEq, Repr

/-- Levels the controller drives on its low-speed outputs (R20, R724). -/
structure Outputs where
  feRst : BitVec 16
  laserEn : BitVec 16
  stgRst : BitVec 5
  bridgeEn : BitVec 5
  deriving DecidableEq, Repr

/-- The accepted interlock levels and when they were accepted (R40). -/
structure Interlock where
  pfwHigh : Bool
  estopHigh : Bool
  estopSince : Nat
  doorClosed : Bool
  deriving DecidableEq, Repr

/-- Parts whose link has trained and whose identity matched (R28). -/
structure Parts where
  feUp : BitVec 16
  stageUp : BitVec 5
  deriving DecidableEq, Repr

/-! ### The object dictionary's transient state (R47 to R106) -/

/-- One entry of the pending set (R63, R66): the value so far and, for a BLOB, whether it is complete. -/
structure PendEntry where
  bytes : List Byte
  complete : Bool
  deriving DecidableEq, Repr

/-- A BLOB being assembled for one object on one path: 0 the PF window, 1 + f the admin queue of f (R67). -/
structure Assembly where
  path : Nat
  addr : Nat
  bytes : List Byte
  deriving DecidableEq, Repr

/-- One request slot of the PCIe window (R78). -/
structure WinSlot where
  go : Bool
  op : Nat
  pendingView : Bool
  length : Nat
  obj : Nat
  offset : Nat
  done : Bool
  fromActive : Bool
  code : Nat
  rlen : Nat
  data : List Byte
  deriving DecidableEq, Repr

/-- An open segmented MOP session (R97 to R99). -/
structure MopSession where
  bus : Nat
  source : Nat
  session : Nat
  write : Bool
  prio : Nat
  service : Nat
  addr : Nat
  total : Nat
  bytes : List Byte
  sent : Nat
  /-- TOGGLE of the last segment, if any. -/
  toggle : Option Bool
  fromActive : Bool
  answer : List Byte
  lastFrame : Nat
  deriving DecidableEq, Repr

/-- A commit in progress: whether it is being validated or stored, and its merged image (R71). -/
structure CommitRun where
  image : Image
  storing : Bool
  deriving DecidableEq, Repr

/-- The dictionary's transient state. -/
structure DictState where
  pendingSet : Keyed PendEntry
  assemblies : List Assembly
  slots : Vector WinSlot 8
  sessions : List MopSession
  commit : Option CommitRun
  odwReady : Bool
  canActive : Bool
  lastMop : Option Nat
  deriving DecidableEq, Repr

/-! ### Cribs and keys (R143 to R175) -/

/-- A Crib reset in progress (R173). -/
structure CribHid where
  resetting : Bool
  disabling : Bool
  deriving DecidableEq, Repr

/-- A namespace key record of the Chest (R153). -/
structure KeyRec where
  crib : Nat
  state : Nat
  ver : Nat
  wrapped : List Byte
  deriving DecidableEq, Repr

/-- A key operation whose record has not been read back (R155): 1 GENERATE, 2 LOAD, 3 DESTROY. -/
structure KeyOp where
  kind : Nat
  before : Nat
  secret : List Byte
  deriving DecidableEq, Repr

/-- Namespace keys and job keys. -/
structure Keys where
  recs : Keyed KeyRec
  /-- The unwrapped namespace secrets held on chip, by global slot. -/
  secrets : Keyed (List Byte)
  ops : Keyed KeyOp
  /-- Job key registers by 8c + k (R158). -/
  jobKeys : Keyed (List Byte)
  /-- Draws made from the DRBG so far. -/
  draws : Nat
  deriving DecidableEq, Repr

/-! ### Power, clocks and boundary scan (R678 to R704, R737, R738) -/

/-- The phase of an engine cluster or of a Giperlink port (R690, R691). -/
inductive DomPhase where
  | on | entering | committed | off | exiting
  deriving DecidableEq, Repr

/-- The power-fail sequence and the domains. -/
structure Power where
  /-- PFW_N was accepted high while the sequence ran (R688). -/
  resumeWanted : Bool
  pfStart : Nat
  dom : Vector DomPhase 21
  /-- When a domain's entry began (R690). -/
  domAt : Vector Nat 21
  refLost : Bool
  /-- Rails, parts and stages within an excursion already raised (R704). -/
  railOut : BitVec 7
  hot : BitVec 25
  vbusLow : BitVec 5
  deriving DecidableEq, Repr

/-- A JTAG instruction (R737). -/
inductive JtagInstr where
  | bypass | idcode | samplePreload | extest | clamp
  deriving DecidableEq, Repr

/-- Boundary scan of every part: index 0 the controller, 1 + n front end n, 17 + s stage s. `lost` is set
from the loading of EXTEST or CLAMP until the part's next start or reset (R738). -/
structure Scan where
  instr : Vector JtagInstr 22
  boundary : Vector Nat 22
  lost : BitVec 22
  deriving DecidableEq, Repr

/-! ### What the block sends -/

/-- The fatal error statuses of R466. -/
inductive TermCause where
  | pduHeader | sequence | unsupported | headerDigest | outOfRange
  deriving DecidableEq, Repr

/-- What a port sends (R448 to R466). -/
inductive NetOut where
  | arpReply (ip requester : Nat)
  | neighbourAdvert (hi lo requester : Nat)
  | echoReply (requester : Nat) (payload : List Byte)
  | pfc (prio quanta : Nat)
  | synAck (peer mss : Nat)
  | rst (peer : Nat)
  | fin (peer : Nat)
  | segment (peer : Nat)
  | icResp (peer pfv cpda maxH2c : Nat) (hdgst ddgst : Bool)
  | c2hTerm (peer : Nat) (cause : TermCause)
  | r2t (peer cid ttag offset len : Nat)
  | property (peer cid value : Nat)
  deriving DecidableEq, Repr

/-- One thing the block sends out, in the order in which it does: answers, messages, frames and cells. -/
inductive Output where
  /-- The answer to a write or read of an object: the requester's crib, the code of R62 and the value. -/
  | answer (crib code : Nat) (value : List Byte)
  /-- An MSI-X message of a function (R603). -/
  | msix (fn vec : Nat)
  /-- A record written to an event ring in host memory (R610). -/
  | ringRecord (ring index : Nat) (r : EvtRec)
  /-- A completion posted to its completion queue, or returned on its connection. -/
  | cqe (c : Cpl)
  /-- Data moved to the host for a command. -/
  | hostData (queue : IoQueue) (cid : Nat) (data : List Byte)
  /-- Bytes a job writes into its output buffer, at their offset (R570). -/
  | jobData (queue : IoQueue) (cid offset : Nat) (data : List Byte)
  /-- A downstream superframe of a Giperlink (R185): its number, ACK_MAP, A-cell and bulk cells. -/
  | superframe (n count status ack : Nat) (cell : List Byte) (bulk : List (List Byte))
  /-- A downstream motion tick of a stage link (R362). -/
  | motionTick (stage count status ack : Nat) (cell : List Byte) (bulk : List (List Byte))
  /-- A recording or erasing pass over one slot: the drive, the slot with its layer, the channel bits and the
  laser pulses in sixteenths of a channel bit (R306, R348). -/
  | recorded (n phys : Nat) (bits : List Bool) (pulses : List (Nat × Nat × Nat))
  /-- A write gate that closed before its sheaf was whole, at an angle in SAU (R209, R220). -/
  | gateClosed (n sau : Nat)
  /-- One slot erased on KDF-2E (R331). -/
  | erased (n phys : Nat)
  /-- A run of slots erased in one continuous pass, system area included (R480). -/
  | erasedRun (n phys count : Nat)
  /-- A frame or segment of an Ethernet port. -/
  | net (port : Nat) (f : NetOut)
  /-- A MOP frame on CAN FD bus `bus` (R90 to R94). -/
  | canFrame (bus ident : Nat) (data : List Byte)
  /-- A line or characters on a serial port. -/
  | serial (port : Nat) (data : List Byte)
  /-- The break and delimiter of a tray-bus header, in bit times (R638). -/
  | serialBreak (port low high : Nat)
  /-- A PCIe configuration answer: 0 successful, 1 retry status, 2 unsupported request. -/
  | pcie (fn status : Nat)
  /-- A JTAG data register shifted out (R737). -/
  | jtag (part value : Nat)
  deriving DecidableEq, Repr

/-! ### Drives: Giperlink, servo, front end and read channel (R176 to R223, R257 to R296, R338 to R356) -/

/-- One loop's biquad states, with 16 fraction bits, and its last output (R177, R178). -/
structure LoopSt where
  bq : Vector (Int × Int) 4
  out : Int
  deriving DecidableEq, Repr

/-- An angle event (R186, R195). -/
structure AngleEvent where
  kind : Nat
  id : Nat
  sau : Nat
  rev : Nat
  arg : Nat
  deriving DecidableEq, Repr

/-- A gate open in a front end: the event that opened it (R195, R268). -/
structure GateOpen where
  ev : AngleEvent
  write : Bool
  deriving DecidableEq, Repr

/-- The channel bits over which a Winnower criterion holds within a gate (R283, R284). -/
structure CritSpan where
  crit : Nat
  first : Nat
  last : Option Nat
  deriving DecidableEq, Repr

/-- A bulk cell to be sent or sent and not acknowledged (R189). -/
structure BulkOut where
  seq : Nat
  kind : Nat
  payload : List Byte
  resends : Nat
  deriving DecidableEq, Repr

/-- The controller's side of an open read gate: cells received by index (R280). -/
structure RxGate where
  tag : Nat
  cells : Keyed (List Byte)
  last : Option Nat
  /-- STATUS of its read summary, once received (R290). -/
  status : Option Nat
  deriving DecidableEq, Repr

/-- The read channel behind the ADC (R268 to R275): samples (newest first), equalised values times 4,096 (newest
first), the trellis paths (state, metric, decided symbols newest first), symbols decided and not yet demodulated with
the channel bit of the first, the taps and the tap adapted next, and the timing loop. -/
structure Detector where
  xs : List Int
  ys : List Int
  paths : List (Nat × Int × List Bool)
  fed : Nat
  sym : Bool
  bits : List Bool
  base : Nat
  taps : List Int
  tapAt : Nat
  f : Rat
  phase : Rat
  deriving DecidableEq, Repr

/-- A front end's own state (R191, R209, R220, R258 to R288). -/
structure FrontEnd where
  laserFault : Bool
  selfSafe : Bool
  /-- POWER last received or stepped, and the last received in mode 1 (R261). -/
  power : Nat
  readPower : Nat
  gate : Option GateOpen
  stepWaiting : Option AngleEvent
  missDown : Nat
  events : List AngleEvent
  doneId : Nat
  late : Bool
  underrun : Bool
  /-- Coded bytes in the write FIFO (R191). -/
  fifo : Nat
  lockBit : Nat
  /-- VGA gain per layer, in 0.1 dB; `gainLayer` is the layer of the last gate (R268). -/
  gains : Vector Nat 4
  gainLayer : Option Nat
  /-- Position of the last accepted or flywheeled sync and the frames passed (R276, R277). -/
  syncPos : Nat
  frame : Nat
  fly : Nat
  syncMiss : Nat
  syncLoss : Nat
  /-- The first frame of a run of missed syncs whose bytes are flagged (R277). -/
  flagFrom : Option Nat
  fifoRead : List (Byte × Bool)
  overrun : Bool
  crit : BitVec 4
  spans : List CritSpan
  critBytes : Vector Nat 6
  flagBytes : Nat
  armed : Bool
  settle : Nat
  det : Detector
  /-- RC_STATE before the channel coasts (R285). -/
  wasTracking : Bool
  /-- The objects as the front end took them at its last read gate, when an image has been applied since (R296). -/
  img : Option (Keyed Nat)
  deriving DecidableEq, Repr

/-- A defect hold in progress (R210 to R212). -/
structure HoldSt where
  count : Nat
  clear : Nat
  focus : Int
  track : Int
  deriving DecidableEq, Repr

/-- What the servo array of a drive is doing beside its loops (R199 to R207, R342, R344). -/
inductive ServoProc where
  | idle
  /-- A focus sweep: which sweep it is, what of the surface was seen, the layers counted, whether SUM is on a
  layer now, the last FE, and whether it only calibrates. -/
  | sweep (attempt : Nat) (surface onSurface : Bool) (curves : Nat) (onLayer : Bool) (fe : Int) (calibrate : Bool)
  /-- Waiting for pull-in since a revolution. -/
  | pullIn (rev : Nat)
  /-- A layer jump: its direction, the phase (0 kick, 1 coast, 2 brake, 3 close), periods left in the phase, the
  last FE, and periods since the kick. -/
  | jump (up : Bool) (phase left : Nat) (fe : Int) (since : Nat)
  /-- A seek to a track: fine seeks made, and whether the sled moves first. -/
  | seek (target tries : Nat) (long : Bool)
  /-- The tracking balance of R344 since a revolution. -/
  | balance (rev : Nat)
  deriving DecidableEq, Repr

/-- Calibration state of a drive (R338 to R356). -/
structure CalSt where
  /-- Requests waiting, bits of CAL_REQUEST. -/
  req : Nat
  focusDone : BitVec 4
  trackDone : BitVec 4
  /-- The equaliser calibration: gates left, and the end taps and jitter of the last OK gate. -/
  eqLeft : Nat
  eqTaps : Option (List Nat)
  eqJitter : Nat
  eqUsed : Nat
  /-- The largest and smallest FE of each layer of a sweep (R342); those of TE in each half cycle, in the current one
  and in the whole interval (R344). -/
  sweepFe : List (Int × Int)
  teHalf : List (Int × Int)
  teCur : Option (Int × Int)
  teAll : Option (Int × Int)
  /-- Taps at the end of the last gate are carried (R274). -/
  carry : Bool
  /-- The equaliser calibration of this disc load has been started (R346, R355). -/
  eqDone : Bool
  deriving DecidableEq, Repr

/-- One drive as the controller and its front end hold it, beside the objects. -/
structure DriveSt where
  loops : Vector LoopSt 4
  /-- On land, s = −1 (R176). -/
  land : Bool
  focusClosed : Bool
  trackClosed : Bool
  /-- The commands the next superframe carries, and those sent, newest first (R210). -/
  fcmd : Int
  tcmd : Int
  hist : List (Int × Int)
  laserMode : Nat
  laserPwr : Nat
  inhibit : Bool
  flush : Bool
  angleSet : Option Nat
  toSend : List AngleEvent
  /-- Events sent and not reported (R195). -/
  outstanding : List AngleEvent
  evtNext : Nat
  bulk : List BulkOut
  /-- Cells of the last superframes, newest first (R185, ACK_MAP). -/
  sent : List (List BulkOut)
  seqNext : Nat
  /-- ACK_MAP bits for the cells that arrived since the last superframe was sent. -/
  ackNext : Nat
  /-- Those of the superframe before, which the next superframe carries (R185: k−2). -/
  ackOut : Nat
  /-- TRACK_XING of the last servo periods, newest first (R202). -/
  xings : List Nat
  addrSeq : Option Nat
  addrGood : Nat
  addrBad : Nat
  addrLast : Nat
  addrOfs : Nat
  layerCheck : Bool
  target : Nat
  sumLow : Nat
  wgSeen : Bool
  hold : Option HoldSt
  lg : Nat
  lgCmd : Int
  proc : ServoProc
  missUp : Nat
  retraining : Bool
  retrains : List Nat
  crcTimes : List Nat
  losses : List Nat
  faultAt : Nat
  resetting : Bool
  trackMean : Int × Nat
  /-- When the last ANGLE arrived. -/
  angleAt : Nat
  fe : FrontEnd
  rx : Option RxGate
  acqFails : Nat
  cal : CalSt
  /-- A wake in progress: the state left and when (R436). -/
  wake : Option (Nat × Nat)
  /-- The front end's 5.0 V rail is below 4.5 V; its 3.3 V rail is out of range (R680). -/
  rail5Low : Bool
  rail3Low : Bool
  deriving DecidableEq, Repr

/-! ### Motors (R224 to R256) -/

/-- One motor's commutation state; 16 is the carousel. Angles are electrical, in 1/65,536 revolution. -/
structure MotorSt where
  eangle : Nat
  obsAngle : Nat
  iq : Int
  /-- Fraction of SPIN_TARGET, in 1/(24·10^9) of its unit (R241). -/
  ramp : Nat
  stopping : Bool
  /-- The speed request before D2 (R241), and the disc angle at the last tick (R240). -/
  req : Nat
  lastAngle : Nat
  /-- The integral of the carousel's speed error (R371), in units per second times ticks. -/
  integ : Int
  /-- Ticks of the current mode's wait: ALIGN, agreement, or below 20 rpm. -/
  ticks : Nat
  attempts : Nat
  /-- Observer angle less disc angle at the last ticks, newest first (R236). -/
  lockVals : List Nat
  devTicks : Nat
  vHigh : Nat
  vLow : Nat
  vlimTick : Nat
  speeds : List Int
  lowTicks : Nat
  tripped : Bool
  /-- Resolver out of range for so many ticks, and the rate left of an open-loop stop (R254), in 1/20,000 unit per second. -/
  resBad : Nat
  openRate : Option Int
  deriving DecidableEq, Repr

/-! ### Axes, stages and the picker (R358 to R398) -/

/-- What a move is for. -/
inductive MoveFor where
  | seek | sequence | homeSeek | homeRelease | open_ | plain
  deriving DecidableEq, Repr

/-- A move in progress on the values in force at its start (R367). -/
structure Move where
  start : Int
  target : Int
  tick : Nat
  v : Nat
  a : Nat
  j : Nat
  use : MoveFor
  deriving DecidableEq, Repr

/-- How an axis is being stopped (R375). -/
inductive StopKind where
  | run | profile | ramp
  deriving DecidableEq, Repr

/-- A motion retention record of the Chest (R384). -/
structure MotRec where
  state : Nat
  seq : Nat
  pos : Int
  ustep : Nat
  homed : Bool
  disc : Nat
  discSlot : Nat
  time : Nat
  deriving DecidableEq, Repr

/-- What follows when a stopping axis has come to rest (R381, R382): nothing; the move off the home switch; the
position that makes a latched edge the home position; the jaw stands at its open limit. -/
inductive AfterStop where
  | none | release | homed (latch : Int) | opened
  deriving DecidableEq, Repr

/-- One axis as the controller and its stage hold it, beside the objects. -/
structure AxisSt where
  /-- Commanded position in 1/65,536 unit. -/
  pos : Int
  speed : Int
  move : Option Move
  stop : StopKind
  /-- Where a controller-run stop began: position, speed and tick. -/
  halt : Option (Int × Int × Nat)
  after : AfterStop
  energised : Bool
  /-- Home travel so far (R381). -/
  homeFrom : Option Int
  /-- A stopped move goes on to its target after the stop is cleared. -/
  resume : Option Int
  kept : Vector (Option MotRec) 2
  /-- The stage's coil current in mA, the microstep index it drives, the target before, ticks with the commanded
  position unchanged, and current periods at the ceiling with the load angle of a stall (R372 to R374). -/
  coil : Nat
  index : Nat
  lastPos : Int
  sameTicks : Nat
  stallRun : Nat
  deriving DecidableEq, Repr

/-- One stage and its link (R361 to R391). -/
structure StageSt where
  missUp : Nat
  missDown : Nat
  retraining : Bool
  retrains : List Nat
  crcTimes : List Nat
  bulk : List BulkOut
  sent : List (List BulkOut)
  seqNext : Nat
  ackNext : Nat
  /-- Those of the tick before, of which the next tick carries cell 0 (R362: k−2). -/
  ackOut : Nat
  stopAll : Bool
  pwrDown : Bool
  energise : Bool
  linkHold : Bool
  linkLost : Bool
  /-- VBUS has fallen below 30 V and not risen above 33 V since (R681). -/
  vbusCut : Bool
  resetting : Bool
  /-- A host-ordered Stage reset waits for the bridges' orderly power-down (R391). -/
  resetWanted : Bool
  /-- Ticks for which VBUS has been at or above PWR_VBUS_WARN (R704). -/
  vbusOk : Nat
  /-- Inputs at their accepted level, after inversion (R377). -/
  level : BitVec 8
  /-- Latch records not yet received, oldest first: input, rising, tick, microsecond, position. -/
  latches : List (Nat × Bool × Nat × Nat × Int)
  deriving DecidableEq, Repr

/-- Why a disc is moved (R392, R430, R480). -/
inductive PickFor where
  | media | restore | certify | admin | evict
  deriving DecidableEq, Repr

/-- A picker request: a load of a disc into a drive, or an unload of a drive (R392, R393). -/
structure PickReq where
  load : Bool
  disc : Nat
  drive : Nat
  time : Nat
  why : PickFor
  deriving DecidableEq, Repr

/-- The picker (R392 to R397). -/
structure Picker where
  queue : List PickReq
  /-- The sequence running and its step (R393). -/
  seq : Option (PickReq × Nat)
  /-- A picker axis has stalled once in this sequence (R374). -/
  stalled : Bool
  /-- Homing phase: 0 none, 1 reach, 2 elevator, 3 carousel. -/
  homing : Nat
  /-- A disc being put back from the jaw to its slot (R397). -/
  putBack : Option Nat
  deriving DecidableEq, Repr

/-- Motion as a whole: axes, stages, the picker and the loads that wait for a drive (R434). -/
structure Motion where
  axes : Vector AxisSt 20
  motors : Vector MotorSt 17
  stages : Vector StageSt 5
  picker : Picker
  loads : List PickReq
  deriving DecidableEq, Repr


/-! ### NVMe controllers, queues and command contexts (R399 to R442) -/

/-- A submission queue; qid 0 is the admin queue. Head and tail count entries taken and offered. -/
structure Sq where
  size : Nat
  head : Nat
  tail : Nat
  cq : Nat
  prio : Nat
  deriving DecidableEq, Repr

/-- A completion queue with the completions that wait for a free entry (R172). -/
structure Cq where
  size : Nat
  head : Nat
  tail : Nat
  vec : Nat
  ien : Bool
  waiting : List Cpl
  deriving DecidableEq, Repr

/-- A function's NVMe controller beside its PCIe function (R405 to R412, R439 to R441). -/
structure NvmeCtl where
  en : Bool
  rdy : Bool
  /-- 0 none, 1 processing, 2 complete (R407). -/
  shst : Nat
  cfs : Bool
  /-- AQA, ASQS and ACQS, and CC as written. -/
  cc : Nat
  aqa : Nat
  sqs : Keyed Sq
  cqs : Keyed Cq
  /-- Queues granted by Set Features Number of Queues (R417). -/
  nq : Option Nat
  feats : Keyed Nat
  /-- Outstanding Asynchronous Event Requests and events kept for one (R409, R439). -/
  aers : List Nat
  kept : List AsyncEvent
  /-- Keep-alive time-out in ms, 0 off. -/
  kato : Nat
  errs : List (Nat × Nat × Nat)
  changedNs : List Nat
  deriving DecidableEq, Repr

/-- A submission-queue entry or capsule that waits for admission (R419). -/
structure Waiting where
  queue : IoQueue
  hdr : IoHdr
  op : IoOp
  deriving DecidableEq, Repr

/-- An admitted command that has not completed (R168, R419). -/
structure Ctx where
  id : Nat
  queue : IoQueue
  crib : Nat
  cid : Nat
  cls : Nat
  op : IoOp
  ns : Nat
  zone : Nat
  /-- First block and number of blocks; for an append the LBA it was given. -/
  lba : Nat
  nlb : Nat
  /-- Blocks gathered or staged, by index from `lba`. -/
  blocks : Keyed (List Byte)
  /-- Sheaves still to come: reads to decode, or writes to verify. -/
  left : Nat
  /-- A media operation, an engine command or a picker move has started (R420). -/
  started : Bool
  /-- Write path: 0 in Shelf staging, 1 in Hayloft staging, 2 handed to the drive. -/
  stage : Nat
  /-- The outcome when it is known before its turn to complete. -/
  result : Option (Status × Option Bool × Nat)
  landing : Nat
  streaming : Bool
  deriving DecidableEq, Repr

/-! ### Namespaces, zones and discs (R421 to R432) -/

/-- Zone states as ZNS names them. -/
inductive ZoneSt where
  | empty | implicitOpen | explicitOpen | closed | full | offline
  deriving DecidableEq, Repr

/-- One namespace zone: its entry of the zone table (R425), and whether it is Offline under R430. -/
structure ZoneEnt where
  bound : Option (Nat × Nat)
  wp : Nat
  st : ZoneSt
  offline : Bool
  deriving DecidableEq, Repr

/-- A namespace (R421, R422). -/
structure Ns where
  zones : Nat
  media : Nat
  stookOnly : Bool
  attached : Option Nat
  reserved : List (Nat × Nat)
  lastMag : Option Nat
  deriving DecidableEq, Repr

/-- What the controller knows of the disc in a drive (R322 to R330). -/
structure DiscInfo where
  id : Nat
  media : Nat
  repl : Keyed Nat
  spareNext : Vector Nat 4
  changed : Bool
  listNext : Nat
  lowRaised : Bool
  released : Bool
  deriving DecidableEq, Repr

/-- What a media operation is for (R326, R334, R336, R431, R433, R522). -/
inductive MediaKind where
  | read | prefetch | write | parity | repair | stook | cover
  deriving DecidableEq, Repr

/-- One sheaf of a write operation. -/
structure WSheaf where
  /-- Sheaf index in its disc zone, home and present place (R319). -/
  q : Nat
  home : Nat
  phys : Nat
  /-- The user area as it goes onto the disc, and BLOCK_VALID. -/
  user : List Byte
  valid : Nat
  lba : Nat
  tries : Nat
  /-- On KDF-2E, its slot has been erased in a revolution before (R331). -/
  erased : Bool
  deriving DecidableEq, Repr

/-- A sheaf operation in a drive's media queue, or executing (R433). -/
structure MediaOp where
  id : Nat
  kind : MediaKind
  disc : Nat
  dz : Nat
  q : Nat
  cls : Nat
  time : Nat
  /-- Contexts that wait for it; the family and position of a stook read. -/
  ctxs : List Nat
  ns : Nat
  tag : Nat
  lr : Bool
  rereads : Nat
  age : Nat
  streamed : Bool
  todo : List WSheaf
  wrote : List WSheaf
  verifying : Bool
  /-- First LBA of the sheaf in its namespace; the ends of the sheaves verified so far, by sheaf. -/
  lba : Nat
  good : Keyed Nat
  deriving DecidableEq, Repr

/-- A stook rebuild in progress (R335): the lost sheaf, the members read and those still to read. -/
structure Rebuild where
  family : Nat
  dz : Nat
  q : Nat
  disc : Nat
  have_ : List (Nat × List Byte)
  toRead : List (Nat × Nat)
  op : MediaOp
  deriving DecidableEq, Repr

/-- The media scheduler (R432 to R437, R333 to R336). -/
structure MediaSt where
  ops : List MediaOp
  cur : Vector (Option MediaOp) 16
  disc : Vector (Option DiscInfo) 16
  lastEnd : Vector Nat 16
  idleFrom : Vector Nat 16
  nextOp : Nat
  rebuilds : List Rebuild
  /-- Disc restores: discs whose DISC_RESTORE_RESULT reads RUNNING. -/
  restores : List Nat
  /-- Verified parity sheaves of each stook, a bit for each parity member, by family · 2^32 + zone · 2^16 + q (R334). -/
  parity : Keyed Nat
  /-- Stooks that hold data and whose parity is not written and verified, by the same key (R334). -/
  unprot : Keyed Unit
  /-- Sheaves of a disc zone that have been written, by 64·disc + zone (R327, R424). -/
  hwm : Keyed Nat
  /-- DISC_SPARE_FREE of the discs loaded since Cold start; a disc not listed reads 0xFFFFFFFF (R329). -/
  spareFree : Keyed Nat
  deriving DecidableEq, Repr

/-! ### Shelf, Hayloft and the Rake (R497 to R524) -/

/-- One line: tag, key, age and its sub-blocks with their data (R497). -/
structure Line where
  tag : Nat
  ns : Nat
  key : Nat
  age : Nat
  streamed : Bool
  blocks : Keyed (List Byte)
  deriving DecidableEq, Repr

/-- A clean Shelf victim offered to the Hayloft (R511). -/
structure Offer where
  tag : Nat
  ns : Nat
  lba : Nat
  streamed : Bool
  data : List Byte
  deriving DecidableEq, Repr

/-- A Sideboard entry: the command, the block and its data (R514). -/
structure SideEntry where
  ctx : Nat
  block : Nat
  data : List Byte
  deriving DecidableEq, Repr

/-- A Rake operation, copied at GO (R521). -/
structure RakeOp where
  crib : Nat
  op : Nat
  nsid : Nat
  slba : Nat
  nlb : Nat
  status : Nat
  deriving DecidableEq, Repr

/-- A run of sequential reads of a queue (R507): the next block and the blocks so far. -/
structure Stream where
  queue : IoQueue
  ns : Nat
  next : Nat
  run : Nat
  deriving DecidableEq, Repr

/-- A block of namespace data that a Threshing job reads (R504, R519): the number of its engine command, the block, whether it
comes from the disc, and its data or its failure once known. -/
structure JobRead where
  job : Nat
  ns : Nat
  lba : Nat
  disc : Bool
  data : Option (List Byte)
  failed : Bool
  deriving DecidableEq, Repr

/-- The caches, the staging regions and the Rake. -/
structure CacheSt where
  shelf : Keyed Line
  shelfPtr : Keyed Nat
  hay : Keyed Line
  hayPtr : Keyed Nat
  offers : List Offer
  side : List SideEntry
  /-- Hayloft staging buffers held, by context, with the blocks written to DRAM. -/
  stage : Keyed (Keyed (List Byte))
  rakes : List RakeOp
  rakeRun : Option RakeOp
  streams : List Stream
  /-- Ranges with access frequency 2h or 3h: crib, namespace, first block, blocks (R431). -/
  hints : List (Nat × Nat × Nat × Nat)
  jobReads : List JobRead
  deriving DecidableEq, Repr

/-! ### Admin operations (R471 to R496) -/

/-- A journal record (R490). -/
structure JournalRec where
  seq : Nat
  op : Nat
  step : Nat
  stream : Nat
  state : Nat
  opId : Nat
  scope : Nat
  unit : Nat
  func : Nat
  ses : Nat
  pos : Nat
  done : Nat
  total : Nat
  time : Nat
  fail : Nat
  deriving DecidableEq, Repr

/-- An admin operation (R471, R480): 1 FORMAT, 2 SANITIZE, 3 CERTIFY. -/
structure AdminOp where
  stream : Nat
  opId : Nat
  kind : Nat
  ses : Nat
  cdw10 : Nat
  func : Nat
  units : List Nat
  unit : Nat
  step : Nat
  pos : Nat
  done : Nat
  total : Nat
  /-- The current unit's key operation has been started; its read-backs that failed (R486). -/
  tried : Bool
  keyTries : Nat
  /-- Units that ended badly. -/
  bad : List Nat
  /-- The Format NVM command that waits for the operation. -/
  cmd : Option Nat
  /-- Certification: failing address units by zone, DISC_ID and FORMAT_TIME of the copies, and copies verified (R480). -/
  scan : Keyed Nat
  discId : Nat
  formatTime : Nat
  good : Nat
  deriving DecidableEq, Repr

/-- A Format NVM command with what it still waits for (R477, R479). -/
structure FormatCmd where
  id : Nat
  queue : IoQueue
  cid : Nat
  func : Nat
  ses : Nat
  units : List Nat
  /-- Operations of it that have not started: its namespaces', and its certification pass. -/
  format : Bool
  certify : Bool
  ops : Nat
  failed : Bool
  started : Bool
  deriving DecidableEq, Repr

/-- The last Sanitize: 0 never, 1 completed, 2 in progress, 3 failed (R488). -/
structure SanitizeSt where
  state : Nat
  ause : Bool
  cdw10 : Nat
  /-- No sheaf has been written since the last successful Sanitize (R488). -/
  cleanSince : Bool
  deriving DecidableEq, Repr

/-- Admin operations, the journal and the Sanitize state. -/
structure AdminSt where
  ops : List AdminOp
  formats : List FormatCmd
  journal : List JournalRec
  nextId : Nat
  sanitize : SanitizeSt
  /-- Members of each stook family that certification has passed since STOOK_WRITTEN was set (R482), a bit each. -/
  certified : Keyed Nat
  deriving DecidableEq, Repr

/-- The host side as a whole. -/
structure HostSt where
  ctl : Vector NvmeCtl 33
  numVfs : Nat
  waiting : List Waiting
  ctxs : List Ctx
  nextCtx : Nat
  /-- The arbiter of command contexts (R161, R418). -/
  turn : Drr
  ns : Keyed Ns
  zones : Keyed ZoneEnt
  spent : Keyed Nat
  /-- The zone table and the spent masks as the Chest holds them (R425). -/
  zonesKept : Keyed ZoneEnt
  spentKept : Keyed Nat
  /-- Deletions of submission queues that wait for the queue's admitted commands: function, command, queue (R409). -/
  dels : List (Crib × Nat × Nat)
  deriving DecidableEq, Repr


/-! ### Network ports and NVMe/TCP (R443 to R469) -/

/-- An R2T outstanding on a connection (R460, R466). -/
structure R2t where
  cid : Nat
  ttag : Nat
  offset : Nat
  len : Nat
  got : Nat
  deriving DecidableEq, Repr

/-- A TCP connection (R452 to R463). -/
structure Conn where
  port : Nat
  iface : Nat
  pcp : Nat
  /-- The peer as its frames name it: Ethernet address, IP address and TCP port. -/
  peer : Nat
  icDone : Bool
  hdgst : Bool
  ddgst : Bool
  /-- The controller bound to by Connect, and the queue. -/
  cntlid : Option Nat
  qid : Nat
  sqSize : Nat
  sqHead : Nat
  /-- The crib it is bound to. -/
  crib : Option Nat
  termSent : Bool
  closed : Bool
  r2ts : List R2t
  /-- MAXR2T of the ICReq, the next transfer tag, and the bytes asked for, taken and held of each command that waits for its
  data, by command identifier. -/
  maxR2t : Nat
  nextTag : Nat
  bufs : Keyed (Nat × Nat × List Byte)
  retrans : Nat
  /-- Payload held back while its priority is paused (R451). -/
  held : List Output
  /-- Namespace, first block and blocks of the Reads whose data is held back: their cache lines are pinned (R508). -/
  pins : List (Nat × Nat × Nat)
  deriving DecidableEq, Repr

/-- An association: one NVMe controller of a crib (R458, R459). -/
structure Assoc where
  crib : Nat
  hostNqn : List Byte
  hostId : Nat
  admin : Nat
  ctl : NvmeCtl
  deriving DecidableEq, Repr

/-- A port's receive buffers and pauses (R449 to R451). -/
structure PortSt where
  rx : Vector Nat 8
  xoff : BitVec 8
  paused : BitVec 8
  /-- Frames held back while their priority is paused, with the crib they are sent for (R451, R469). -/
  held : List (Nat × Nat × NetOut)
  deriving DecidableEq, Repr

/-- The network side as a whole. -/
structure NetSt where
  ports : Vector PortSt 2
  conns : Keyed Conn
  assocs : Keyed Assoc
  deriving DecidableEq, Repr

/-! ### Memory protection (R525 to R546) -/

/-- A record of the memory error log (R538). -/
structure MemRec where
  seq : Nat
  time : Nat
  source : Nat
  kind : Nat
  target : Nat
  rank : Nat
  device : Nat
  symbols : Nat
  bank : Nat
  crib : Nat
  row : Nat
  col : Nat
  addr : Nat
  rep : Nat
  mask : Nat
  deriving DecidableEq, Repr

/-- Memory protection: the error log, test lines by 8 · target + line (64 data bytes, then check bytes), corrected lines of
the Gleaner's present pass of each rank by 10 · rank + device (R529), where the Gleaner stands in each channel,
poisoned Granary words, and retirement. -/
structure MemSt where
  log : List MemRec
  rate : Rate
  dirty : Bool
  test : Keyed (List Byte)
  passDev : Keyed Nat
  dramAt : Vector Nat 2
  poison : Keyed Unit
  /-- MEM_ERASE_DEV as the Chest holds it. -/
  eraseKept : Vector Nat 4
  /-- The entry being retired (R544). -/
  retiring : Option Nat
  /-- Hayloft positions, 16 · set + way, that a bank retirement has removed. -/
  gone : Keyed Unit
  deriving DecidableEq, Repr


/-! ### The Threshing Floor (R547 to R584) -/

/-- An open loop level (R556): first and last instruction, and the count left. -/
structure LoopLvl where
  start : Nat
  stop : Nat
  count : Nat
  deriving DecidableEq, Repr

/-- A pushed engine command (R563, R565): a number of its own, its eight words, and the address of its PUSH; whether it has
waited at its engine's cluster (R690), the engine it was dispatched to and when, and the landing buffers it holds. -/
structure EngCmd where
  num : Nat
  words : List Nat
  push : Nat
  held : Bool
  engine : Option Nat
  begun : Nat
  landing : Nat
  deriving DecidableEq, Repr

/-- Why a job stops before HALT (R579, R581, R583): a cause of R581 with the address of the PUSH it names, or 0. -/
inductive JobEnd where
  | cause (n push : Nat)
  | drain | crib | sanitize | internal
  deriving DecidableEq, Repr

/-- A job's stop: why, the address of the stopping instruction, and when it arose. -/
structure JobStop where
  why : JobEnd
  pc : Nat
  since : Nat
  deriving DecidableEq, Repr

/-- A sequencer with its job (R556): the job's command context and crib, the registers, INC[L][k] as element 4L + k, the open
loop levels, innermost first, and the four queues, oldest command first. `halted`: HALT has been reached and waits for the
queues (R580). `limit` is the job's time limit in ms (R551). -/
structure JobRun where
  id : Nat
  crib : Nat
  pc : Nat
  g : Vector Word32 16
  a : Vector Word32 4
  inc : Vector Word32 16
  loops : List LoopLvl
  queues : Vector (List EngCmd) 4
  stop : Option JobStop
  halted : Bool
  outLen : Nat
  streaming : Bool
  since : Nat
  limit : Nat
  deriving DecidableEq, Repr

/-- The sequencers, the arbiter of R554, the number of the next engine command, and times spent in ns: of each engine, and
charged to each crib for engines and for sequencers (R584); and the cribs whose job keys and window a Sanitize clears once their
jobs have ended (R483). -/
structure Threshing where
  seq : Vector (Option JobRun) 4
  turn : Drr
  nextCmd : Nat
  engineNs : Keyed Nat
  cribEngineNs : Keyed Nat
  cribSeqNs : Keyed Nat
  scrub : List Nat
  deriving DecidableEq, Repr


/-! ### Serial ports and the tray bus (R623 to R647) -/

/-- A schedule entry in progress (R640, R641): the entry, bytes still to send, own bytes still to be read back, and what of the
response has been read (for DIR = 0, read back). -/
structure TrayFrame where
  entry : Nat
  toSend : List Byte
  back : List Byte
  got : List Byte
  deriving DecidableEq, Repr

/-- A serial port (R623 to R643): received entries, OVERRUN due on the next one, bytes to send and the byte in the transmit
shifter; the timeout of R635 has fired in this quiet interval; a break's end is awaited (R629); and the frame in progress with the
last entry started. -/
structure SerialPort where
  rx : List Nat
  lost : Bool
  tx : List Byte
  shift : Option Byte
  quiet : Bool
  breakWait : Bool
  frame : Option TrayFrame
  cur : Option Nat
  deriving DecidableEq, Repr

/-- The four ports, and the consecutive NO_RESPONSE entries of each node by 16(p - 1) + n (R643). -/
structure SerialSt where
  ports : Vector SerialPort 4
  misses : Keyed Nat
  deriving DecidableEq, Repr


/-! ### The minute ledger (R648 to R677) -/

/-- An account's overflow accumulator (R673, R674): MIN_SEQ and MINUTE_START of its first minute, MIN_SEQ of its last, the flags,
plan and tariff of its minutes, the highest demand of the intervals ended, the summed quantities and the summed charge. -/
structure Overflow where
  first : Nat
  start : Nat
  last : Nat
  flags : Nat
  plan : Nat
  tariff : Nat
  demand : Nat
  sums : Keyed Nat
  charge : Nat
  deriving DecidableEq, Repr

/-- An account (R648, R651, R660, R661): whether its minute is open, the minute's start and the ms from it at which counting began,
ticks counted, the fine counts by quantity (1 to 4 in ms, 5 and 6 in ns, 7 and 8 in blocks, 9 and 10 in bytes, 11 and 12 in KiB·s,
13 in µJ), the carries of R661, the demand interval's energy in mJ and summed ticks, and its overflow accumulator. -/
structure Account where
  isOpen : Bool
  start : Nat
  openMs : Nat
  ms : Nat
  fine : Keyed Nat
  carry : Keyed Nat
  diEnergy : Nat
  diTime : Nat
  spill : Option Overflow
  deriving DecidableEq, Repr

/-- A pending tariff as TARIFF_ARM copied it (R662). -/
structure Tariff where
  rate : List Nat
  free : List Nat
  plan : List Nat
  effective : Nat
  deriving DecidableEq, Repr

/-- The ledger: accounts, and as the Chest holds them; counts of the present second by 16c + k; a GAP merged into the accumulators
(R673); the pending tariff; BACKSTEP's end and the end of the latest minute closed; whether LEDGER_LOW has been raised; the slew
left in ns and its phase (R655); the PF tick; each stage's bus energy of the second in µW times ticks, what a negative second left,
and the bridges' weights (motors 0 to 16, axes from 20); and the holders of R650. -/
structure LedgerSt where
  accts : Vector Account 33
  kept : Vector Account 33
  sec : Keyed Nat
  gap : Option (Nat × Nat × Nat)
  pend : Option Tariff
  backEnd : Nat
  lastEnd : Nat
  lowRaised : Bool
  slew : Int
  slewPhase : Nat
  pfTick : Nat
  bus : Vector Int 5
  debt : Vector Int 5
  weight : Keyed Nat
  holder : Vector Nat 16
  deriving DecidableEq, Repr


/-- One function's PCIe and NVMe controller (R143, R401, R405). -/
structure Fn where
  bme : Bool
  /-- Address and data of the MSI-X table's entries. -/
  vtab : Keyed (Nat × Nat)
  vmask : BitVec 64
  vpend : BitVec 64
  deriving DecidableEq, Repr

/-- The state of the whole block. -/
structure State where
  /-- Commands waiting, first in, first out. -/
  pending : List Instr
  dev : Device
  /-- Nanoseconds since the last Cold start, advanced by an idle step. -/
  now : Nat
  /-- The model's own field: how many free values have been asked for. -/
  freeCtr : Nat
  od : Keyed Nat
  blobs : Keyed (List Byte)
  out : List Output
  chest : Chest
  evt : EventUnit
  flash : Vector FlashSlot 2
  boot : Boot
  pins : Outputs
  lock : Interlock
  parts : Parts
  dict : DictState
  crib : Vector CribHid 33
  keys : Keys
  pwr : Power
  scan : Scan
  fns : Vector Fn 33
  drives : Vector DriveSt 16
  motion : Motion
  /-- Superframes started since Cold start (R184), and the objects the servo array still runs on until the next
  superframe, and each stage until its next tick, after an apply instant (R74). -/
  sf : Nat
  servoImg : Option (Keyed Nat)
  stageImg : Vector (Option (Keyed Nat)) 5
  host : HostSt
  media : MediaSt
  cache : CacheSt
  admin : AdminSt
  net : NetSt
  mem : MemSt
  thresh : Threshing
  serial : SerialSt
  ledger : LedgerSt
  /-- The 8 MiB Granary, byte by byte; an unlisted address reads 0. -/
  granary : List Host.Cell
  deriving DecidableEq, Repr


/-! ### Reset -/

/-- The read channel before a gate. -/
def Detector.fresh : Detector := ⟨[], [], [], 0, false, [], 0, [], 0, 0, 0⟩

/-- A Giperlink's front end as a reset leaves it (R220, R222, R268). -/
def FrontEnd.fresh : FrontEnd :=
  { laserFault := false, selfSafe := false, power := 0, readPower := 0, gate := none, stepWaiting := none
    missDown := 0, events := [], doneId := 0, late := false, underrun := false, fifo := 0, lockBit := 0
    gains := Vector.replicate 4 150, gainLayer := none, syncPos := 0, frame := 0, fly := 0, syncMiss := 0
    syncLoss := 0, flagFrom := none, fifoRead := [], overrun := false, crit := 0, spans := []
    critBytes := Vector.replicate 6 0, flagBytes := 0, armed := false, settle := 0, det := .fresh, wasTracking := false, img := none }

/-- Calibration state with nothing done. -/
def CalSt.fresh : CalSt :=
  { req := 0, focusDone := 0, trackDone := 0, eqLeft := 0, eqTaps := none, eqJitter := 0, eqUsed := 0, sweepFe := []
    teHalf := [], teCur := none, teAll := none, carry := false, eqDone := false }

/-- A drive with nothing known of it and its front end held in reset (R108). -/
def DriveSt.fresh : DriveSt :=
  { loops := Vector.replicate 4 ⟨Vector.replicate 4 (0, 0), 0⟩, land := false, focusClosed := false, trackClosed := false
    fcmd := 0, tcmd := 0, hist := [], laserMode := 0, laserPwr := 0, inhibit := true, flush := false, angleSet := none
    toSend := [], outstanding := [], evtNext := 0, bulk := [], sent := [], seqNext := 0, ackNext := 0, ackOut := 0, xings := []
    addrSeq := none, addrGood := 0, addrBad := 0, addrLast := 0, addrOfs := 0, layerCheck := false, target := 0
    sumLow := 0, wgSeen := false, hold := none, lg := 0, lgCmd := 0, proc := .idle, missUp := 0, retraining := false
    retrains := [], crcTimes := [], losses := [], faultAt := 0, resetting := false, trackMean := (0, 0), angleAt := 0
    fe := .fresh, rx := none, acqFails := 0, cal := .fresh, wake := none, rail5Low := false, rail3Low := false }

/-- A motor at rest. -/
def MotorSt.fresh : MotorSt :=
  { eangle := 0, obsAngle := 0, iq := 0, ramp := 0, stopping := false, req := 0, lastAngle := 0, integ := 0, ticks := 0
    attempts := 0, lockVals := [], devTicks := 0, vHigh := 0, vLow := 0, vlimTick := 0, speeds := [], lowTicks := 0
    tripped := false, resBad := 0, openRate := none }

/-- An axis without power whose position is not known, with its retention records. -/
def AxisSt.fresh (kept : Vector (Option MotRec) 2) : AxisSt :=
  { pos := 0, speed := 0, move := none, stop := .run, halt := none, after := .none, energised := false, homeFrom := none
    resume := none, kept := kept, coil := 0, index := 0, lastPos := 0, sameTicks := 0, stallRun := 0 }

/-- A stage held in reset (R108), with its inputs' accepted levels. -/
def StageSt.fresh (level : BitVec 8) : StageSt :=
  { missUp := 0, missDown := 0, retraining := false, retrains := [], crcTimes := [], bulk := [], sent := [], seqNext := 0
    ackNext := 0, ackOut := 0, stopAll := false, pwrDown := false, energise := false, linkHold := false, linkLost := false
    vbusCut := false, resetting := false, resetWanted := false, vbusOk := 0, level := level, latches := [] }

/-- The picker with nothing to do. -/
def Picker.fresh : Picker := { queue := [], seq := none, stalled := false, homing := 0, putBack := none }

/-- An arbiter before its first grant. -/
def Drr.fresh : Drr := ⟨0, 0, Vector.replicate 4 (0, 0), []⟩

/-- A controller after its reset. -/
def NvmeCtl.fresh : NvmeCtl :=
  { en := false, rdy := false, shst := 0, cfs := false, cc := 0, aqa := 0, sqs := [], cqs := [], nq := none, feats := []
    aers := [], kept := [], kato := 0, errs := [], changedNs := [] }

/-- A function's PCIe side with Bus Master Enable clear and every MSI-X entry masked (R401, R613). -/
def Fn.fresh : Fn := { bme := false, vtab := [], vmask := BitVec.allOnes 64, vpend := 0 }

/-- An empty mailbox slot (R587, after Cold start). -/
def MbxSlot.empty : MbxSlot := ⟨[], false, false, 0, 0⟩

/-- A window slot after a Cold start (R78). -/
def WinSlot.empty : WinSlot := ⟨false, 0, false, 0, 0, 0, false, false, 0, 0, []⟩

/-- The event unit with two empty logs. -/
def EventUnit.fresh : EventUnit :=
  { slots := Vector.replicate 32 .empty, staging := [], lastPost := [], doorbells := 0, pend := 0, mask := 0, time := []
    detail1 := [], phase := Vector.replicate 8 true, log := [], logRate := ⟨0, 0⟩, vio := [], vioRate := ⟨0, 0⟩, vioDirty := false }

/-- The media scheduler with empty queues and nothing known of any disc. -/
def MediaSt.fresh : MediaSt :=
  { ops := [], cur := Vector.replicate 16 none, disc := Vector.replicate 16 none, lastEnd := Vector.replicate 16 0
    idleFrom := Vector.replicate 16 0, nextOp := 0, rebuilds := [], restores := [], parity := [], unprot := [], hwm := []
    spareFree := [] }

/-- Caches and staging with nothing in them. -/
def CacheSt.fresh : CacheSt :=
  { shelf := [], shelfPtr := [], hay := [], hayPtr := [], offers := [], side := [], stage := [], rakes := []
    rakeRun := none, streams := [], hints := [], jobReads := [] }

/-- A network side with no connection. -/
def NetSt.fresh : NetSt :=
  { ports := Vector.replicate 2 { rx := Vector.replicate 8 0, xoff := 0, paused := 0, held := [] }, conns := [], assocs := [] }

/-- The Threshing Floor with no job. -/
def Threshing.fresh : Threshing :=
  { seq := Vector.replicate 4 none, turn := .fresh, nextCmd := 0, engineNs := [], cribEngineNs := [], cribSeqNs := [], scrub := [] }

/-- The serial ports with nothing sent or received. -/
def SerialSt.fresh : SerialSt :=
  { ports := Vector.replicate 4
      { rx := [], lost := false, tx := [], shift := none, quiet := false, breakWait := false, frame := none, cur := none }
    misses := [] }

/-- An account with nothing counted. -/
def Account.fresh : Account :=
  { isOpen := false, start := 0, openMs := 0, ms := 0, fine := [], carry := [], diEnergy := 0, diTime := 0, spill := none }

/-- The values that objects hold after a Cold start and that are not 0, in rising order of their address words. DESIGN CHOICE for
those whose value the spec does not state: see the assumption log. -/
def resetOd : Keyed Nat :=
  let row (o : Ob) (first n v : Nat) : Keyed Nat := (List.range n).map fun e => (o.el (first + e), v)
  let each (o : Ob) (vs : List Nat) : Keyed Nat := (vs.zipIdx.filter fun p => p.1 != 0).map fun p => (o.el p.2, p.1)
  row Od.SILICON_STEP 0 1 0x4231 ++ row Od.OD_LAYOUT 0 1 0x0204 ++ row Od.JTAG_IDCODE 0 1 0x5C04874F ++
  row Od.DEVICE_STATE 0 1 1 ++
  row Od.MOP_NODE 0 1 0x10 ++ row Od.MOP_DATA_RATE 0 1 2 ++ row Od.MOP_ENABLE 0 1 3 ++
  row Od.CRIB_STATE 0 1 1 ++
  each Od.POOL_SIZE [8192, 64, 64, 32, 800, 460, 256, 128] ++ each Od.POOL_A_RESERVE [128, 8, 4, 2, 64, 320, 32, 16] ++
  row Od.LOOP_TRIM 0 64 0x10000000 ++
  row Od.DRV_STATE 0 16 4 ++
  (List.range 16).flatMap (fun n => [(Od.DRV_EXIT_LAT.el (5 * n + 1), 300), (Od.DRV_EXIT_LAT.el (5 * n + 2), 180000),
    (Od.DRV_EXIT_LAT.el (5 * n + 3), 2600000), (Od.DRV_EXIT_LAT.el (5 * n + 4), 16000000)]) ++
  row Od.DRV_DISC 0 16 0xFFFF ++
  row Od.CAL_FO_TRIM 0 64 0x10000000 ++ row Od.CAL_TR_TRIM 0 64 0x10000000 ++
  row Od.PICK_CARRY 0 1 0xFFFF ++
  row Od.MEM_ERASE_DEV 0 4 0xFF ++
  each Od.PAD_FUNC ((List.range 4).flatMap fun p => [1 + 16 * p, 2 + 16 * p]) ++ row Od.PAD_SAFE 0 8 1 ++ row Od.PAD_GPO 0 8 1 ++
  row Od.LEDGER_FREE 0 1 65536 ++
  row Od.CLK_STATUS 0 1 0x1F ++
  row Od.LIFE_COLD_STARTS 0 1 1

/-- The STR32 objects of the built-in identity. -/
def resetBlobs : Keyed (List Byte) :=
  [(Od.VENDOR_NAME.el 0, asciiBytes "Tibover Microsystems"), (Od.PART_NAME.el 0, asciiBytes "KRY-C48")]

/-- The block right after the release of the power-on reset (R107, R108): Booting, the boot ROM running, every output low, nothing in
the flash, and a Chest that has never been written. -/
def State.reset : State :=
  { pending := []
    dev := .booting
    now := 0
    freeCtr := 0
    od := resetOd
    blobs := resetBlobs
    out := []
    chest := { wear := [], recent := [], delayed := [], ledgerAck := 0, evtAck := 0, life := Vector.replicate 2 none, lifeAt := 0 }
    evt := .fresh
    flash := Vector.replicate 2 ⟨[], false⟩
    boot :=
      { phase := .rom
        cfg := Vector.replicate 2 { hdrOk := false, streamOk := false, layout := 0, seq := 0, image := ⟨[], []⟩ }
        ptr := Vector.replicate 2 { valid := false, rseq := 0, slot := 0, seq := 0 }
        marks := Vector.replicate 2 none, haveImage := false, warm := false, revalidate := false, popVal := none, drain := none
        drainDeferred := false, crs := true }
    pins := { feRst := 0, laserEn := 0, stgRst := 0, bridgeEn := 0 }
    lock := { pfwHigh := true, estopHigh := true, estopSince := 0, doorClosed := true }
    parts := { feUp := 0, stageUp := 0 }
    dict := { pendingSet := [], assemblies := [], slots := Vector.replicate 8 .empty, sessions := [], commit := none
              odwReady := false, canActive := false, lastMop := none }
    crib := Vector.replicate 33 { resetting := false, disabling := false }
    keys := { recs := [], secrets := [], ops := [], jobKeys := [], draws := 0 }
    pwr := { resumeWanted := false, pfStart := 0, dom := Vector.replicate 21 .on, domAt := Vector.replicate 21 0, refLost := false
             railOut := 0, hot := 0, vbusLow := 0 }
    scan := { instr := Vector.replicate 22 .idcode, boundary := Vector.replicate 22 0, lost := 0 }
    fns := Vector.replicate 33 .fresh
    drives := Vector.replicate 16 .fresh
    motion :=
      { axes := Vector.replicate 20 (.fresh (Vector.replicate 2 none)), motors := Vector.replicate 17 .fresh
        stages := Vector.replicate 5 (.fresh 0), picker := .fresh, loads := [] }
    sf := 0
    servoImg := none
    stageImg := Vector.replicate 5 none
    host :=
      { ctl := Vector.replicate 33 .fresh, numVfs := 0, waiting := [], ctxs := [], nextCtx := 0, turn := .fresh, ns := [], zones := []
        spent := [], zonesKept := [], spentKept := [], dels := [] }
    media := .fresh
    cache := .fresh
    admin :=
      { ops := [], formats := [], journal := [], nextId := 1, certified := []
        sanitize := { state := 0, ause := false, cdw10 := 0, cleanSince := false } }
    net := .fresh
    mem := { log := [], rate := ⟨0, 0⟩, dirty := false, test := [], passDev := [], dramAt := Vector.replicate 2 0
             poison := [], eraseKept := Vector.replicate 4 0xFF, retiring := none, gone := [] }
    thresh := .fresh
    serial := .fresh
    ledger :=
      { accts := Vector.replicate 33 .fresh, kept := Vector.replicate 33 .fresh, sec := [], gap := none, pend := none, backEnd := 0
        lastEnd := 0, lowRaised := false, slew := 0, slewPhase := 0, pfTick := 0, bus := Vector.replicate 5 0
        debt := Vector.replicate 5 0, weight := [], holder := Vector.replicate 16 0 }
    granary := [] }

end Sys2Proof.Machine
end

