-- ==== Sys2Proof/Machine/Ops.lean ====
section
/-! DEFINITION. The named operations every meaning is built from: reading and writing objects, sending, free
values, time, and the frame every command's effect is put in. -/

namespace Sys2Proof.Machine

/-- The outcome of one command. -/
abbrev Out := Host.Outcome State Fault Refusal

/-- The value of element `e` of an object, as its bit pattern. -/
def State.g (s : State) (o : Ob) (e : Nat := 0) : Nat := Keyed.getD s.od (o.el e) 0

/-- Write element `e` of an object, cut to its width. -/
def State.p (s : State) (o : Ob) (e v : Nat) : State :=
  { s with od := Keyed.put s.od (o.el e) (v % 2 ^ o.bits) 0 }

/-- The signed value of element `e` of an object. -/
def State.gi (s : State) (o : Ob) (e : Nat := 0) : Int := toInt o.bits (s.g o e)

/-- Write a signed value. -/
def State.pi (s : State) (o : Ob) (e : Nat) (v : Int) : State := s.p o e (ofInt o.bits v)

/-- Bit `i` of element `e`. -/
def State.gb (s : State) (o : Ob) (e i : Nat) : Bool := (s.g o e).testBit i

/-- Set or clear bit `i` of element `e`. -/
def State.pb (s : State) (o : Ob) (e i : Nat) (b : Bool) : State := s.p o e (putBit (s.g o e) i b)

/-- A counter goes up by `n` and wraps at its width (R705). -/
def State.add (s : State) (o : Ob) (e n : Nat) : State := s.p o e (s.g o e + n)

/-- A counter goes up by 1 and wraps at its width (R705). -/
def State.inc (s : State) (o : Ob) (e : Nat := 0) : State := s.add o e 1

/-- A counter goes up by 1 and stops at its largest value. -/
def State.incSat (s : State) (o : Ob) (e : Nat := 0) : State :=
  if s.g o e + 1 < 2 ^ o.bits then s.inc o e else s

/-- A gauge goes down by `n`, not below 0. -/
def State.sub (s : State) (o : Ob) (e n : Nat) : State := s.p o e (s.g o e - n)

/-- The bytes of a BLOB or STR32 object. -/
def State.blob (s : State) (o : Ob) (e : Nat := 0) : List Byte := Keyed.getD s.blobs (o.el e) []

/-- Write a BLOB or STR32 object. -/
def State.setBlob (s : State) (o : Ob) (e : Nat) (v : List Byte) : State :=
  { s with blobs := Keyed.put s.blobs (o.el e) v [] }

/-- Send one thing out. -/
def State.emit (s : State) (o : Output) : State := { s with out := s.out ++ [o] }

/-- A free value below `2^w`, fresh for each use. -/
def State.free (s : State) (w : Nat) : Nat := Config.freeValue s.freeCtr % 2 ^ w

/-- Note that a free value has been used. -/
def State.useFree (s : State) : State := { s with freeCtr := s.freeCtr + 1 }

/-- Apply a change to the state for every element of a list, in order. -/
def State.each {α : Type} (s : State) (l : List α) (f : State → α → State) : State := l.foldl f s

/-- Apply a change only when a condition holds. -/
def State.when (s : State) (c : Bool) (f : State → State) : State := if c then f s else s

/-- Write the same value to elements `first` to `first + n - 1`. -/
def State.fill (s : State) (o : Ob) (first n v : Nat) : State :=
  s.each (List.range n) fun s i => s.p o (first + i) v

/-- The second of device time, for the rate limits (R539, R616, R618). -/
def State.second (s : State) : Nat := s.now / 1000000000

/-- Count an occurrence against a limit of `cap` per second: the new count and whether it is within the limit. -/
def Rate.tick (r : Rate) (sec cap : Nat) : Rate × Bool :=
  if r.sec = sec then (if r.n < cap then (⟨sec, r.n + 1⟩, true) else (r, false)) else (⟨sec, 1⟩, true)

/-- Whether the device is Serving, Held, and so on. -/
def State.isDev (s : State) (d : Device) : Bool := s.dev == d

/-- Crib `c` is enabled in the active configuration (R143); crib 0 always is. -/
def State.cribEnabled (s : State) (c : Nat) : Bool :=
  c == 0 || (decide (1 ≤ c ∧ c ≤ 32) && s.gb Od.CRIB_ENABLE 0 (c - 1))

/-- Drive `n` is declared (R23). -/
def State.driveDeclared (s : State) (n : Nat) : Bool := decide (n < 16) && s.gb Od.DRIVE_DECL 0 n

/-- Stage `i` is declared (R23). -/
def State.stageDeclared (s : State) (i : Nat) : Bool := decide (i < 5) && s.gb Od.STAGE_DECL 0 i

/-- The states in which the enables of the laser drivers and of the bridges may be high (R20, R108, R126). -/
def Device.driven (d : Device) : Bool := d == .starting || d == .serving || d == .draining

/-- The enables an ordinary command leaves where it asks for `q`: while the device state drives no output, it can
lower an enable and raise none (R20, R108). -/
def enablesFrom (d : Device) (p q : Outputs) : Outputs :=
  if d.driven then q else { q with laserEn := q.laserEn &&& p.laserEn, bridgeEn := q.bridgeEn &&& p.bridgeEn }

/-- The enables as the device state allows them: low in one that drives no output (R20, R108). -/
def enablesIn (d : Device) (q : Outputs) : Outputs := if d.driven then q else { q with laserEn := 0, bridgeEn := 0 }

/-- A list of cells in its one canonical form; a list that is in it already is left alone. -/
def tidy (g : List Host.Cell) : List Host.Cell :=
  if Keyed.canonical g (0 : Byte) then g else g.foldr (fun c m => Keyed.put m c.1 c.2 0) []

/-- The parts of the state that only start-up, the firmware loader and the engines may change:
any other command leaves them, the queue of waiting commands first of all. -/
def keep (s t : State) : State :=
  { t with
    pending := s.pending, dev := s.dev, flash := s.flash, granary := s.granary
    pins := enablesFrom s.dev s.pins t.pins }

/-- The frame of what may change the device state, the flash and the Granary: the queue stays, and the enables and
the Granary come out as the state and the canonical form ask. -/
def settleAll (s t : State) : State :=
  { t with pending := s.pending, granary := tidy t.granary, pins := enablesIn t.dev t.pins }

/-- The frame of an ordinary command: the spec gives no behaviour while the controller's test port has taken
its pins over (R738), a device without supply does nothing, and the effect `f` cannot reach what `keep` keeps. -/
def act (s : State) (f : State → State) : Out :=
  if s.scan.lost.getLsbD 0 then .fault (.boundaryScan 0)
  else if s.dev = .off then .next s
  else .next (keep s (f s))

/-- The frame of a command that may change the device state, the flash or the Granary. -/
def actAll (s : State) (f : State → State) : Out :=
  if s.scan.lost.getLsbD 0 then .fault (.boundaryScan 0)
  else if s.dev = .off then .next s
  else .next (settleAll s (f s))

/-- An ordinary command that a front end or stage brings about: the spec gives no behaviour of a part whose
own test port holds EXTEST or CLAMP either (R738). Part 1 + n is front end n, part 17 + i stage i. -/
def actPart (part : Fin 22) (s : State) (f : State → State) : Out :=
  if s.scan.lost.getLsbD part then .fault (.boundaryScan part) else act s f

end Sys2Proof.Machine
end

