-- ==== Sys2Proof/Machine/Chest.lean ====
section
/-! DEFINITION. Record writes to the Chest: their counts, their rate limit and what a delayed write holds back
(R710 to R714). -/

namespace Sys2Proof.Machine

/-- The regions of the Chest in the order of R710. -/
def Region.cfgA : Nat := 0
def Region.cfgB : Nat := 1
def Region.ledger : Nat := 2
def Region.zone : Nat := 3
def Region.journal : Nat := 4
def Region.evtLog : Nat := 5
def Region.vioLog : Nat := 6
def Region.memLog : Nat := 7
def Region.state : Nat := 8

/-- Record positions within the state-record region, one range for each kind the region holds (R710). -/
def Pos.pointer (i : Nat) : Nat := i
def Pos.key (slot ver : Nat) : Nat := 16 + 2 * slot + ver % 2
def Pos.motion (axis seq : Nat) : Nat := 600 + 2 * axis + seq % 2
def Pos.retire (i : Nat) : Nat := 700 + i
def Pos.spent (d : Nat) : Nat := 1100 + d
def Pos.account (c : Nat) : Nat := 2700 + c
def Pos.overflow (c : Nat) : Nat := 2740 + c
def Pos.tariff : Nat := 2800
def Pos.ack : Nat := 2801
def Pos.evtAck : Nat := 2802
def Pos.eraseDev : Nat := 2803
def Pos.bootMark (k : Nat) : Nat := 2804 + k
def Pos.checkpoint (k : Nat) : Nat := 2806 + k
def Pos.cert (d : Nat) : Nat := 2900 + d
def Pos.stook (f : Nat) : Nat := 4500 + f

/-- The key of a record position among all regions. -/
def chestKey (region pos : Nat) : Nat := region * 2 ^ 20 + pos

/-- The Chest takes no further record write: step 9 of the power-fail sequence has ended and PFW_N is still
low (R687). -/
def State.chestClosed (s : State) : Bool := s.g Od.PF_STATE == 2

/-- What the Chest holds of the zone table and of the spent discs follows a write of their records (R425). -/
def State.chestKeep (s : State) (region pos : Nat) : State :=
  if region = Region.zone then
    let live (m : Keyed ZoneEnt) (k : Nat) : Keyed ZoneEnt := match s.host.zones.find? k with
      | some e => m.insert k e
      | none => m.erase k
    let ks := (List.range 6).map fun i => pos / 2 ^ 16 * 2 ^ 32 + (6 * (pos % 2 ^ 16) + i)
    { s with host := { s.host with zonesKept := ks.foldl live s.host.zonesKept } }
  else if region = Region.state ∧ Pos.spent 0 ≤ pos ∧ pos < Pos.spent 1536 then
    { s with host := { s.host with
      spentKept := Keyed.put s.host.spentKept (pos - Pos.spent 0) (Keyed.getD s.host.spent (pos - Pos.spent 0) 0) 0 } }
  else s

/-- Make one record write: it counts in CHEST_WRITES and CHEST_WEAR_MAX (R714). -/
def State.chestMade (s : State) (region pos : Nat) : State :=
  let s := s.chestKeep region pos
  let k := chestKey region pos
  let w := Keyed.getD s.chest.wear k 0 + 1
  let t := (Keyed.getD s.chest.recent k []).filter fun t => decide (s.now < t + 1000000000)
  let s := { s with chest := { s.chest with
    wear := Keyed.insert s.chest.wear k w
    recent := Keyed.insert s.chest.recent k (s.now :: t) } }
  let s := s.add Od.CHEST_WRITES region 1
  if s.g Od.CHEST_WEAR_MAX region < w then s.p Od.CHEST_WEAR_MAX region w else s

/-- A further write of this position is within the limit of 10 in any 1 s (R711). The writes of the
power-fail sequence are not delayed; after it every write waits for PFW_N to be accepted high (R687). -/
def State.chestFree (s : State) (region pos : Nat) : Bool :=
  let t := (Keyed.getD s.chest.recent (chestKey region pos) []).filter fun t => decide (s.now < t + 1000000000)
  (decide (t.length < 10) && !s.chestClosed) || s.g Od.PF_STATE == 1

/-- Whether a write of this position is waiting on the rate limit. -/
def State.chestWaiting (s : State) (region pos : Nat) : Bool :=
  s.chest.delayed.any fun d => d.region == region && d.pos == pos

/-- Write a record, or delay the write under R711 with what waits on it; a write already delayed takes a
later one of the same record in. The second component says whether the write was made. -/
def State.chestPut (s : State) (region pos : Nat) (w : List Waiter) : State × Bool :=
  if s.chestWaiting region pos then
    ({ s with chest := { s.chest with delayed := s.chest.delayed.map fun d =>
        if d.region == region && d.pos == pos then { d with waiters := d.waiters ++ w } else d } }, false)
  else if s.chestFree region pos then (s.chestMade region pos, true)
  else ({ s with chest := { s.chest with delayed := s.chest.delayed ++ [⟨region, pos, w⟩] } }, false)

/-- An acknowledgement is kept in the Chest, at once or when the rate limit allows it (R711). -/
def State.ackPut (s : State) (events : Bool) (seq : Nat) : State :=
  let (s, made) := s.chestPut Region.state (if events then Pos.evtAck else Pos.ack) [.ack events seq]
  if made then { s with chest := if events then { s.chest with evtAck := seq } else { s.chest with ledgerAck := seq } } else s

/-- Write a record on which nothing waits. -/
def State.chestWrite (s : State) (region pos : Nat) : State := (s.chestPut region pos []).1

end Sys2Proof.Machine
end

