-- ==== Sys2Proof/Machine/Events.lean ====
section
/-! DEFINITION. The event unit (R598 to R616), the shared violation log (R617, R618), and the commands that
mask, clear, route and enable. -/

namespace Sys2Proof.Machine

/-- The device sources of R599 by name. -/
def Src.commitDone : Nat := 0
def Src.windowDone : Nat := 1
def Src.state : Nat := 2
def Src.pfw : Nat := 3
def Src.estop : Nat := 4
def Src.door : Nat := 5
def Src.memError : Nat := 6
def Src.violation : Nat := 7
def Src.logLoss : Nat := 8
def Src.adminDone : Nat := 9
def Src.fwLoad : Nat := 10
def Src.cribResetDone : Nat := 11
def Src.picker : Nat := 12
def Src.mopBusoff : Nat := 13
def Src.netLink : Nat := 14
def Src.mailbox : Nat := 15
def Src.mailboxCollide : Nat := 16
def Src.doorbell : Nat := 17
def Src.rail : Nat := 28
def Src.thermal : Nat := 29
def Src.pfwRelease : Nat := 30
def Src.vbus : Nat := 31
def Src.driveFault (n : Nat) : Nat := 32 + n
def Src.media (n : Nat) : Nat := 48 + n
def Src.spareLow (n : Nat) : Nat := 64 + n
def Src.lockLoss (n : Nat) : Nat := 80 + n
def Src.voltageLimit (m : Nat) : Nat := 96 + m
def Src.stageLink (i : Nat) : Nat := 113 + i
def Src.stookFail : Nat := 118
def Src.stookRebuilt : Nat := 119

/-- Crib source `i` of crib `c`, for c = 1 to 32 (R598). -/
def Src.ofCrib (c i : Nat) : Nat := 512 + 16 * (c - 1) + i

/-- The crib that owns a source (R598). -/
def srcOwner (e : Nat) : Nat := if e < 512 then 0 else (e - 512) / 16 + 1

/-- The Class-A events of R599. -/
def srcClassA (e : Nat) : Bool :=
  e == 3 || e == 4 || e == 5 || (decide (32 ≤ e ∧ e < 48)) || (decide (113 ≤ e ∧ e < 118))

/-- The timebase, TIME64 (R654). -/
def State.utc (s : State) : Nat := s.g Od.UTC_NOW

def State.pendBit (s : State) (e : Nat) : Bool := s.evt.pend.getLsbD e

def State.setPend (s : State) (e : Nat) (b : Bool) : State :=
  { s with evt := { s.evt with pend :=
      if b then s.evt.pend ||| BitVec.twoPow 1024 e else s.evt.pend &&& ~~~ BitVec.twoPow 1024 e } }

def State.maskBit (s : State) (e : Nat) : Bool := s.evt.mask.getLsbD e

/-- FLAGS of a ring or log record (R610). -/
def evtFlags (s : State) (e count : Nat) (deferred : Bool) : Nat :=
  b2n (srcClassA e) + 2 * b2n (count == 0xFFFFFFFF) + 4 * b2n (s.g Od.TIME_SYNC == 0) + 8 * b2n deferred

/-- Send an MSI-X message of function `f`; it waits, its pending bit set, while its vector is masked or Bus Master Enable is
clear (R613). -/
def State.msix (s : State) (f vec : Nat) : State :=
  if h : f < 33 then
    let fn := s.fns[f]
    if !fn.bme || fn.vmask.getLsbD vec then
      { s with fns := s.fns.set f { fn with vpend := fn.vpend ||| BitVec.twoPow 64 vec } }
    else s.emit (.msix f vec)
  else s

/-- EVR_OWNER of ring `r`, if it names a crib. -/
def ringOwner (s : State) (r : Nat) : Option Nat :=
  let o := s.g Od.EVR_OWNER r
  if o ≤ 32 then some o else none

/-- Ring `r` is enabled, its owner may write host memory, and it has room (R604, R611, R613). -/
def ringReady (s : State) (r : Nat) : Bool :=
  match ringOwner s r with
  | none => false
  | some o =>
    s.g Od.EVR_ENABLE r == 1 && (if h : o < 33 then s.fns[o].bme else false) &&
    decide (s.g Od.EVR_SIZE r ≠ 0) &&
    decide ((s.g Od.EVR_TAIL r + 1) % s.g Od.EVR_SIZE r ≠ s.g Od.EVR_HEAD_SEEN r)

/-- Write one record of source `e` at the tail of ring `r` and send the ring's message; COUNT becomes 0 and
the source is no longer pending (R604, R610, R611). -/
def ringWrite (s : State) (r e : Nat) (deferred : Bool) : State :=
  let t := s.g Od.EVR_TAIL r
  let ph := if h : r < 8 then s.evt.phase[r] else true
  let rec_ : EvtRec := {
    src := e, phase := ph, crib := srcOwner e, flags := evtFlags s e (s.g Od.EVT_COUNT e) deferred
    count := s.g Od.EVT_COUNT e, time := Keyed.getD s.evt.time e 0
    d0 := s.g Od.EVT_DETAIL e, d1 := Keyed.getD s.evt.detail1 e 0 }
  let s := s.emit (.ringRecord r t rec_)
  let t' := if t + 1 < s.g Od.EVR_SIZE r then t + 1 else 0
  let s := s.p Od.EVR_TAIL r t'
  let s := if t' = 0 then
      (if h : r < 8 then { s with evt := { s.evt with phase := s.evt.phase.set r (!ph) } } else s) else s
  let s := (s.p Od.EVT_COUNT e 0).setPend e false
  match ringOwner s r with
  | some o => s.msix o (s.g Od.EVR_VECTOR r)
  | none => s

/-- Deliver one occurrence by the mode of its route (R603 to R606). -/
def evtDeliver (s : State) (e : Nat) : State :=
  let route := s.g Od.EVT_ROUTE e
  let mode := fieldOf route 1 0
  let r := fieldOf route 14 12
  if mode = 1 then
    let was := s.pendBit e
    let s := s.setPend e true
    if was || s.maskBit e then s else s.msix (srcOwner e) (fieldOf route 9 4)
  else if mode = 2 then
    if !s.maskBit e && ringReady s r then ringWrite s r e false
    else (s.setPend e true).inc Od.EVR_DEFER_CNT r
  else s.setPend e true

/-- Count an occurrence and deliver it (R601), without the log. -/
def evtOccur (s : State) (e d0 d1 : Nat) : State :=
  let s := (s.inc Od.EVT_TOTAL e).incSat Od.EVT_COUNT e
  let s := s.p Od.EVT_DETAIL e d0
  let s := { s with evt := { s.evt with
    time := Keyed.put s.evt.time e s.utc 0, detail1 := Keyed.put s.evt.detail1 e d1 0 } }
  evtDeliver s e

/-- Write one event log record (R615, R616). The second component says that a loss was counted. -/
def evtLog (s : State) (e d0 d1 : Nat) : State × Bool :=
  let (rate, ok) := s.evt.logRate.tick s.second 1000
  if !ok || s.chestClosed then
    ({ s with evt := { s.evt with logRate := rate } }.inc Od.EVT_LOG_LOST 1, true)
  else
    let seq := (s.g Od.EVT_LOG_HEAD + 1) % 2 ^ 32
    let full := decide (4096 ≤ s.evt.log.length)
    let unread := full && newerSeq (s.evt.log.getLast?.elim 0 fun r => r.seq) (s.g Od.EVT_LOG_ACK)
    let r : EvtLogRec := ⟨seq, e, srcOwner e, evtFlags s e (s.g Od.EVT_COUNT e) false, s.utc, d0, d1 % 2 ^ 32⟩
    let s := { s with evt := { s.evt with logRate := rate, log := (r :: s.evt.log).take 4096 } }
    let s := (s.p Od.EVT_LOG_HEAD 0 seq).chestWrite Region.evtLog (seq / 2 % 2048)
    if unread then (s.inc Od.EVT_LOG_LOST 0, true) else (s, false)

/-- An occurrence of source `e` (R601), with its log record when the route asks for one (R615), and the
LOG_LOSS source when that record loses one. -/
def raise (s : State) (e d0 : Nat) (d1 : Nat := 0) : State :=
  let s := evtOccur s e d0 d1
  if (s.g Od.EVT_ROUTE e).testBit 3 then
    let (s, lost) := evtLog s e d0 d1
    if lost then
      let l := s.g Od.EVT_LOG_LOST 0
      let s := evtOccur s Src.logLoss l 0
      if (s.g Od.EVT_ROUTE Src.logLoss).testBit 3 then (evtLog s Src.logLoss l 0).1 else s
    else s
  else s

/-- An occurrence of crib source `i` of crib `c`; crib 0 has device sources instead (R598). -/
def raiseCrib (s : State) (c i d0 : Nat) : State := if c = 0 then s else raise s (Src.ofCrib c i) d0

/-- Sources held back on ring `r`: pending, unmasked and routed to it (R604). -/
def heldOn (s : State) (r : Nat) : List Nat :=
  (List.range 1024).filter fun e =>
    s.pendBit e && !s.maskBit e && fieldOf (s.g Od.EVT_ROUTE e) 1 0 == 2 && fieldOf (s.g Od.EVT_ROUTE e) 14 12 == r

/-- When what held records back on ring `r` ends, write one record for each such source while there is room,
Class-A sources first (R604, R614). -/
def ringDrain (s : State) (r : Nat) : State :=
  let h := heldOn s r
  s.each (h.filter srcClassA ++ h.filter fun e => !srcClassA e) fun s e =>
    if ringReady s r then ringWrite s r e true else s

/-- The newest violation record is one of the same violation (R618). -/
def vioRepeats (s : State) (partner crib wher node code : Nat) : Bool :=
  match s.evt.vio with
  | v :: _ => v.partner == partner && v.crib == crib && v.wher == wher && v.node == node && v.code == code
  | [] => false

/-- A violation for the shared log (R617, R618): merged into the newest record or given a new one. -/
def violation (s : State) (partner crib wher node code : Nat) (detail : List Byte) : State :=
  if vioRepeats s partner crib wher node code then
    { s with evt := { s.evt with
        vio := modifyAt s.evt.vio 0 fun v => { v with rep := (v.rep + 1) % 2 ^ 32 }, vioDirty := true } }
  else
    let (rate, ok) := s.evt.vioRate.tick s.second 1000
    if !ok || s.chestClosed then
      let s := ({ s with evt := { s.evt with vioRate := rate } }).inc Od.VIO_LOG_LOST
      raise s Src.logLoss (s.g Od.EVT_LOG_LOST 0)
    else
      let seq := (s.g Od.VIO_LOG_HEAD + 1) % 2 ^ 32
      let v : VioRec := ⟨seq, s.utc, partner, crib, wher, node, code, 0, padTo 32 detail⟩
      let s := { s with evt := { s.evt with vioRate := rate, vio := (v :: s.evt.vio).take 512 } }
      let s := (s.p Od.VIO_LOG_HEAD 0 seq).chestWrite Region.vioLog (seq % 512)
      let s := raise s Src.violation seq
      if 1 ≤ crib ∧ crib ≤ 32 then raiseCrib s crib 6 (partner + code * 256) else s

/-- Write a changed REPEAT of the newest violation record to the Chest (R618). -/
def execVioLogRepeatFlush (s : State) : Out :=
  act s fun s =>
    if s.evt.vioDirty && !s.chestClosed then
      ({ s with evt := { s.evt with vioDirty := false } }).chestWrite Region.vioLog (s.g Od.VIO_LOG_HEAD % 512)
    else s

/-- Clear a pending bit and its count (R607). -/
def evtClear (s : State) (e : Nat) : State :=
  if s.pendBit e then (s.setPend e false).p Od.EVT_COUNT e 0 else s

/-- Set the mask of a source; clearing it delivers a pending source at once, as if it had just occurred (R606). -/
def evtSetMask (s : State) (e : Nat) (m : Bool) : State :=
  let s' := { s with evt := { s.evt with mask :=
    if m then s.evt.mask ||| BitVec.twoPow 1024 e else s.evt.mask &&& ~~~ BitVec.twoPow 1024 e } }
  if s.maskBit e && !m && s.pendBit e then
    let route := s.g Od.EVT_ROUTE e
    if fieldOf route 1 0 = 1 then s'.msix (srcOwner e) (fieldOf route 9 4)
    else if fieldOf route 1 0 = 2 then
      let r := fieldOf route 14 12
      if ringReady s' r then ringWrite s' r e true else s'
    else s'
  else s'

/-- The answer to a write of an object by crib `c`. -/
def State.answer (s : State) (c code : Nat) : State := s.emit (.answer c code [])

/-- EVT_PEND: writing 1 clears the pending bit of a device source (R607, R608). -/
def execEvtPendClear (w : Fin 16) (bits : Nat) (s : State) : Out :=
  act s fun s => s.each (below 32 bits.testBit) fun s b => evtClear s (32 * w + b)

/-- EVT_MASK: the masks of 32 device sources (R606, R608). -/
def execEvtMask (w : Fin 16) (bits : Nat) (s : State) : Out :=
  act s fun s => s.each (List.range 32) fun s b => evtSetMask s (32 * w + b) (bits.testBit b)

/-- A write of EVT_CRIB_CLEAR[c] (R607). -/
def evtCribClear (c bits : Nat) (s : State) : State :=
  s.each (below 16 bits.testBit) fun s i => evtClear s (Src.ofCrib c i)

/-- A write of EVT_CRIB_MASK[c] (R606). -/
def evtCribMask (c bits : Nat) (s : State) : State :=
  s.each (List.range 16) fun s i => evtSetMask s (Src.ofCrib c i) (bits.testBit i)

/-- The checks of a value written to EVT_ROUTE[e] (R602). -/
def routeOk (s : State) (e v : Nat) : Bool :=
  decide (fieldOf v 1 0 ≠ 3) && decide (v = v &&& 0x73FB) &&
  (fieldOf v 1 0 != 2 || s.g Od.EVR_OWNER (fieldOf v 14 12) == srcOwner e)

/-- A write of EVT_ROUTE[e]: the route, or RANGE (R602). -/
def evtRouteWrite (e v : Nat) (s : State) : State × Nat :=
  if routeOk s e v then (s.p Od.EVT_ROUTE e v, 0) else (s, 0x07)

/-- A write of EVR_ENABLE[r]: 1 starts the ring from index 0 with phase 1, 0 stops it (R609, R613). -/
def evrEnableWrite (r v : Nat) (s : State) : State × Nat :=
  if 1 < v then (s, 0x07)
  else if v = 1 then
    let s := (((s.p Od.EVR_TAIL r 0).p Od.EVR_HEAD_SEEN r 0).p Od.EVR_ENABLE r 1)
    let s := if h : r < 8 then { s with evt := { s.evt with phase := s.evt.phase.set r true } } else s
    (ringDrain s r, 0)
  else (s.p Od.EVR_ENABLE r 0, 0)

/-- EVR_HEAD: the owner advances the head; a value outside the ring or past the tail is ignored and logged
(R611, R612). Other functions' writes are ignored (R596). -/
def execEvrHead (f : Crib) (r : Fin 8) (v : Nat) (s : State) : Out :=
  act s fun s =>
    if s.g Od.EVR_OWNER r ≠ f.val || !s.cribEnabled f then s
    else
      let size := s.g Od.EVR_SIZE r
      let h := s.g Od.EVR_HEAD_SEEN r
      let t := s.g Od.EVR_TAIL r
      if size ≤ v || decide ((t + size - h) % size < (v + size - h) % size) then
        violation s 5 f f 0 2 (leBytes 4 v)
      else ringDrain (s.p Od.EVR_HEAD_SEEN r v) r

/-- What a Crib reset does to the event unit, mailboxes and doorbells (R621). -/
def evtCribReset (c : Nat) (s : State) : State :=
  let s := s.each (List.finRange 32) fun s ch =>
    let s := if s.g Od.MBX_OWNER ch = c then
        { s with evt := { s.evt with slots := vmod s.evt.slots ch fun m =>
            { m with bytes := [], full := false, collided := false, collisions := 0 } } } else s
    { s with evt := { s.evt with staging := Keyed.erase s.evt.staging (32 * c + ch) } }
  let s := s.each (List.range 256) fun s d =>
    if s.g Od.DB_OWNER d = c then
      { s with evt := { s.evt with doorbells := s.evt.doorbells &&& ~~~ BitVec.twoPow 256 d } } else s
  let s := s.each (List.range 8) fun s r => if s.g Od.EVR_OWNER r = c then s.p Od.EVR_ENABLE r 0 else s
  if c = 0 then s
  else s.each (List.range 16) fun s i =>
    let e := Src.ofCrib c i
    let s := ((s.setPend e false).p Od.EVT_ROUTE e 0).p Od.EVT_COUNT e 0
    { s with evt := { s.evt with mask := s.evt.mask &&& ~~~ BitVec.twoPow 1024 e } }

/-- The event unit after a Cold start or a Warm restart: everything but the two logs (R622). -/
def evtRestart (s : State) : State :=
  let s := { s with evt := { s.evt with
    slots := Vector.replicate 32 MbxSlot.empty, staging := [], lastPost := [], doorbells := 0
    pend := 0, mask := 0, time := [], detail1 := [], phase := Vector.replicate 8 true } }
  let s := (s.fill Od.EVT_ROUTE 0 1024 0).fill Od.EVT_COUNT 0 1024 0
  let s := ((s.fill Od.EVR_ENABLE 0 8 0).fill Od.EVR_BASE 0 8 0).fill Od.EVR_SIZE 0 8 0
  ((s.fill Od.EVR_VECTOR 0 8 0).fill Od.EVR_TAIL 0 8 0).fill Od.EVR_HEAD_SEEN 0 8 0

/-- At the apply instant: slots, doorbells and rings whose owner changes (R620); `old` is the state under the
former image. -/
def evtApply (old s : State) : State :=
  let s := s.each (List.finRange 32) fun s ch =>
    if old.g Od.MBX_OWNER ch = s.g Od.MBX_OWNER ch then s
    else
      let s := s.when s.evt.slots[ch].full fun s => s.inc Od.MBX_DISCARD_CNT
      { s with evt := { s.evt with slots := vmod s.evt.slots ch fun m =>
          { m with bytes := [], full := false, collided := false, collisions := 0 } } }
  let s := s.each (List.range 256) fun s d =>
    if old.g Od.DB_OWNER d = s.g Od.DB_OWNER d then s
    else { s with evt := { s.evt with doorbells := s.evt.doorbells &&& ~~~ BitVec.twoPow 256 d } }
  s.each (List.range 8) fun s r =>
    if old.g Od.EVR_OWNER r = s.g Od.EVR_OWNER r then s
    else
      let s := s.p Od.EVR_ENABLE r 0
      s.each (List.range 1024) fun s e =>
        if fieldOf (s.g Od.EVT_ROUTE e) 1 0 = 2 ∧ fieldOf (s.g Od.EVT_ROUTE e) 14 12 = r then
          s.p Od.EVT_ROUTE e 0 else s

end Sys2Proof.Machine
end

