-- ==== Sys2Proof/Machine/Access.lean ====
section
/-! DEFINITION. Who may write which object (R48, R49, R55, R58, R59, R62), and the frame of a write that has a behaviour of
its own. -/

namespace Sys2Proof.Machine

/-- The row of the item an address word names, and its element (R48). -/
def objRow (addr : Nat) : Option (ObjRow × Nat) :=
  (Od.table.find? fun r => r.ob.addr == addr / 4096 * 4096).map fun r => (r, addr % 4096)

/-- Element `e` is one of a crib's own (R59). -/
def ownsEl (s : State) (who e : Nat) : Own → Bool
  | .none => false
  | .all => true
  | .crib => e == who
  | .slot => (s.host.ns.find? e).elim false fun n => n.attached == some who
  | .by8 => e / 8 == who
  | .by16 => e / 16 == who
  | .source => srcOwner e == who
  | .ring => s.g Od.EVR_OWNER e == who

/-- The code with which a requester's access to an element is refused, 0 when it is not (R58, R59, R62). -/
def seeCode (s : State) (who : Nat) (r : ObjRow) (e : Nat) : Nat :=
  if who ≠ 0 ∧ ownsEl s who e r.own = false then 0x01
  else if e < r.first ∨ r.last < e then 0x02
  else 0

/-- The code with which a write is refused before its value is looked at, 0 when it is not (R55, R59, R62): a request made
before Booting has ended, an element that cannot be seen, an RO object, a WC object by a crib, an RWH object while the
device is not Held. -/
def writeCode (s : State) (who : Nat) (r : ObjRow) (e : Nat) : Nat :=
  if s.dev = .booting then 0x0D
  else
    let c := seeCode s who r e
    if c ≠ 0 then c
    else match r.acc with
      | .ro => 0x03
      | .wc => if who ≠ 0 then 0x05 else 0
      | .rwh => if s.dev ≠ .held then 0x04 else 0
      | _ => 0

/-- `writeCode` for an object and element. -/
def State.writeCodeOf (s : State) (who : Nat) (o : Ob) (e : Nat) : Nat :=
  match objRow o.addr with
  | some (r, _) => writeCode s who r e
  | none => 0x01

/-- The effect of a write by crib `who`, with its answer. -/
def writeObj (s : State) (who : Nat) (o : Ob) (e : Nat) (f : State → State × Nat) : State :=
  let c := s.writeCodeOf who o e
  if c ≠ 0 then s.answer who c else let r := f s; r.1.answer who r.2

/-- A command that is a write of one object by crib `who`: the write's effect, or its refusal, with the answer. -/
def actWrite (who : Nat) (o : Ob) (e : Nat) (f : State → State × Nat) (s : State) : Out :=
  act s fun s => writeObj s who o e f

/-! ### Writes of the event unit's objects (R602, R606, R607, R609) -/

/-- EVT_CRIB_CLEAR: a crib clears pending bits of its sources; crib 0 has no element (R607). -/
def execEvtCribClear (c : Crib) (bits : Nat) (s : State) : Out :=
  actWrite c Od.EVT_CRIB_CLEAR c (fun s => if bits % 2 ^ 16 ≠ bits then (s, 0x08) else (evtCribClear c bits s, 0)) s

/-- EVT_CRIB_MASK: a crib writes the masks of its sources (R606). -/
def execEvtCribMask (c : Crib) (bits : Nat) (s : State) : Out :=
  actWrite c Od.EVT_CRIB_MASK c (fun s => if bits % 2 ^ 16 ≠ bits then (s, 0x08) else (evtCribMask c bits s, 0)) s

/-- EVT_ROUTE: crib 0 writes any source's route, a crib that of its own (R59, R602). -/
def execEvtRoute (who : Crib) (e : Fin 1024) (v : Nat) (s : State) : Out :=
  actWrite who Od.EVT_ROUTE e (evtRouteWrite e v) s

/-- EVR_ENABLE: the ring's owner or crib 0 starts or stops an event ring (R609). -/
def execEvrEnable (who : Crib) (r : Fin 8) (v : Nat) (s : State) : Out :=
  actWrite who Od.EVR_ENABLE r (evrEnableWrite r v) s

end Sys2Proof.Machine
end

