-- ==== Sys2Proof/Machine/Domain.lean ====
section
/-! DEFINITION. Power domains: the states of R689 and what work that arrives for one does (R690 to R692). -/

namespace Sys2Proof.Machine

/-- What DOM_STATE reads in a phase. -/
def DomPhase.code : DomPhase → Nat
  | .on => 0 | .entering => 1 | .committed => 1 | .off => 2 | .exiting => 3

/-- A domain comes to a phase, which DOM_STATE shows. -/
def setDom (s : State) (i : Fin 21) (d : DomPhase) : State :=
  ({ s with pwr := { s.pwr with dom := s.pwr.dom.set i d } }).p Od.DOM_STATE i d.code

/-- Work arrives for an engine cluster (R690): before the commit point, 0.5 µs into the entry, the entry is abandoned; after it
the work is held, and an exit begins as soon as the cluster is off. `again` marks work that is held already. -/
def domArrive (s : State) (i : Fin 21) (again : Bool) : State :=
  if again then s
  else match s.pwr.dom[i] with
    | .on => s
    | .entering =>
      if s.now < s.pwr.domAt[i] + 500 then (setDom s i .on).inc Od.DOM_ABORT_CNT i
      else (setDom s i .committed).inc Od.DOM_DELAY_CNT i
    | .off => (setDom s i .exiting).inc Od.DOM_DELAY_CNT i
    | _ => s.inc Od.DOM_DELAY_CNT i

/-- Media-path work for an engine cluster, which the cluster's own internal slots hold (R170, R690, R692). -/
def mediaUses (s : State) (cluster : Fin 21) : State := domArrive s cluster false

/-- A cell or event arrives for Giperlink port `n` (R691): before SLEEP_ACK it abandons the entry, after it a sleeping port
begins to wake. -/
def portArrive (s : State) (n : Drive) : State :=
  let i : Fin 21 := ⟨5 + n.val, by omega⟩
  match s.pwr.dom[i] with
  | .on => s
  | .entering => (setDom s i .on).inc Od.DOM_ABORT_CNT i
  | .off => (setDom s i .exiting).inc Od.DOM_DELAY_CNT i
  | _ => s.inc Od.DOM_DELAY_CNT i

end Sys2Proof.Machine
end

