-- ==== Sys2Proof/Machine/Codes.lean ====
section
/-! DEFINITION. The check codes of the spec as plain functions: CRC-32C (R68), CRC-8 (R304), CRC-64 (R573), the
field of R313, Reed-Solomon codes over it (R313, R526) with error-and-erasure decoding, and the SRAM code (R531). -/

namespace Sys2Proof.Machine

/-- One byte of the reflected CRC with polynomial 0x1EDC6F41 (R68). -/
def crc32cByte (c : BitVec 32) (b : Byte) : BitVec 32 :=
  (List.range 8).foldl (fun c _ => if c.getLsbD 0 then (c >>> 1) ^^^ 0x82F63B78#32 else c >>> 1)
    (c ^^^ b.setWidth 32)

/-- CRC-32C of a byte string (R68). -/
def crc32c (bs : List Byte) : Nat := (bs.foldl crc32cByte 0xFFFFFFFF#32 ^^^ 0xFFFFFFFF#32).toNat

/-- CRC-8 of an address word: polynomial x^8 + x^2 + x + 1, most significant bit first (R304). -/
def crc8 (w : Nat) : Nat :=
  ((List.range 32).foldl (fun (c : BitVec 8) i =>
    let top := c.getLsbD 7 != w.testBit (31 - i)
    if top then (c <<< 1) ^^^ 0x07#8 else c <<< 1) 0#8).toNat

/-- One byte of CRC-64 with the ECMA-182 polynomial, no reflection (R573). -/
def crc64Byte (c : BitVec 64) (b : Byte) : BitVec 64 :=
  (List.range 8).foldl (fun c _ => if c.getLsbD 63 then (c <<< 1) ^^^ 0x42F0E1EBA9EA3693#64 else c <<< 1)
    (c ^^^ (b.setWidth 64 <<< 56))

/-- CRC-64 continued from a value (R573). -/
def crc64From (c : Nat) (bs : List Byte) : Nat := (bs.foldl crc64Byte (BitVec.ofNat 64 c)).toNat

/-! ### The field of R313 -/

/-- Multiplication by α = 2. -/
def gfDouble (a : Byte) : Byte := if a.getLsbD 7 then (a <<< 1) ^^^ 0x1D#8 else a <<< 1

/-- Multiplication in the field with polynomial 0x11D (R313). -/
def gfMul (a b : Byte) : Byte :=
  (List.range 8).foldl (fun acc i => gfDouble acc ^^^ (if b.getLsbD (7 - i) then a else 0#8)) 0#8

/-- A power of a field element. -/
def gfPow (a : Byte) : Nat → Byte
  | 0 => 1#8
  | n + 1 => gfMul a (gfPow a n)

/-- The inverse of a field element, 0 for 0. -/
def gfInv (a : Byte) : Byte := gfPow a 254

/-- α^i. -/
def alphaPow (i : Nat) : Byte := gfPow 2#8 (i % 255)

/-- A polynomial over the field, its constant coefficient first. -/
abbrev GfPoly := List Byte

/-- Value of a polynomial at a point. -/
def polyEval (p : GfPoly) (x : Byte) : Byte := p.foldr (fun c acc => c ^^^ gfMul x acc) 0#8

def polyAdd : GfPoly → GfPoly → GfPoly
  | [], q => q
  | p, [] => p
  | a :: p, b :: q => (a ^^^ b) :: polyAdd p q

def polyScale (k : Byte) (p : GfPoly) : GfPoly := p.map (gfMul k)

def polyMul : GfPoly → GfPoly → GfPoly
  | [], _ => []
  | a :: p, q => polyAdd (polyScale a q) (0#8 :: polyMul p q)

/-- Drop zero leading coefficients. -/
def polyTrim (p : GfPoly) : GfPoly := (p.reverse.dropWhile (· == 0#8)).reverse

/-- Formal derivative over a field of characteristic 2. -/
def polyDeriv (p : GfPoly) : GfPoly := (p.zipIdx.drop 1).map fun (c, i) => if i % 2 = 1 then c else 0#8

/-- One division of trimmed polynomials: quotient and remainder, within `fuel` steps. -/
def polyDivMod : Nat → GfPoly → GfPoly → GfPoly × GfPoly
  | 0, p, _ => ([], p)
  | fuel + 1, p, d =>
    if p.length < d.length || d.isEmpty then ([], p)
    else
      let sh := p.length - d.length
      let k := gfMul (p.getLastD 0#8) (gfInv (d.getLastD 0#8))
      let t := List.replicate sh 0#8 ++ [k]
      let p' := polyTrim (polyAdd p (List.replicate sh 0#8 ++ polyScale k d))
      let (q, r) := polyDivMod fuel p' d
      (polyAdd t q, r)

/-- The generator Π (x + α^i), i = 0 to r − 1 (R313, R526). -/
def rsGenerator (r : Nat) : GfPoly := (List.range r).foldl (fun g i => polyMul g [alphaPow i, 1#8]) [1#8]

/-- Systematic encoding with `r` check bytes: c_0 is the coefficient of the highest power (R313). -/
def rsEncode (r : Nat) (msg : List Byte) : List Byte :=
  let g := rsGenerator r
  let rem := (polyDivMod (msg.length + 1) (polyTrim (List.replicate r 0#8 ++ msg.reverse)) g).2
  msg ++ (padTo r rem).reverse

/-- The syndromes of a word, the values at α^0 to α^(r−1). -/
def rsSyndromes (r : Nat) (w : List Byte) : List Byte := (List.range r).map fun i => polyEval w.reverse (alphaPow i)

/-- Euclid's algorithm on (x^r, Ξ), stopped when twice the degree of the remainder is below r + f. -/
def rsEuclid : Nat → Nat → GfPoly → GfPoly → GfPoly → GfPoly → GfPoly × GfPoly
  | 0, _, _, r1, _, a1 => (r1, a1)
  | fuel + 1, bound, r0, r1, a0, a1 =>
    if 2 * (r1.length - 1) < bound || r1.isEmpty then (r1, a1)
    else
      let (q, rem) := polyDivMod (r0.length + 1) r0 r1
      rsEuclid fuel bound r1 rem a1 (polyTrim (polyAdd a0 (polyMul q a1)))

/-- What a decoder finds: the corrected word and the positions in error outside the erasures. -/
structure RsResult where
  word : List Byte
  errors : List Nat
  deriving DecidableEq, Repr

/-- Error-and-erasure decoding with `r` check bytes: the one codeword within 2e + f ≤ r, if there is one. -/
def rsDecode (r : Nat) (w : List Byte) (erased : List Nat) : Option RsResult :=
  let n := w.length
  let w0 := w.zipIdx.map fun (b, i) => if erased.contains i then 0#8 else b
  let syn := rsSyndromes r w0
  if erased.length > r then none
  else if syn.all (· == 0#8) then some ⟨w0, []⟩
  else
    let loc (i : Nat) : Byte := alphaPow (n - 1 - i)
    let gamma := erased.foldl (fun g i => polyMul g [1#8, loc i]) [1#8]
    let xi := polyTrim ((polyMul syn gamma).take r)
    let (om, sg) := rsEuclid (r + 1) (r + erased.length) (List.replicate r 0#8 ++ [1#8]) xi [] [1#8]
    let k := gfInv (sg.headD 0#8)
    if k == 0#8 then none
    else
      let sigma := polyScale k sg
      let omega := polyScale k om
      let errs := (List.range n).filter fun i => polyEval sigma (gfInv (loc i)) == 0#8
      if errs.length ≠ (polyTrim sigma).length - 1 || errs.any erased.contains then none
      else
        let psi := polyMul sigma gamma
        let dpsi := polyDeriv psi
        let fixed := w0.zipIdx.map fun (b, i) =>
          if errs.contains i || erased.contains i then
            let x := loc i
            b ^^^ gfMul x (gfMul (polyEval omega (gfInv x)) (gfInv (polyEval dpsi (gfInv x))))
          else b
        if (rsSyndromes r fixed).all (· == 0#8) then some ⟨fixed, errs⟩ else none

/-! ### The SRAM code (R531, R532) -/

/-- The column of each data bit (R531). -/
def secColumns : List Nat :=
  [0x07, 0x0B, 0x0D, 0x0E, 0x13, 0x15, 0x16, 0x19, 0x1A, 0x1C, 0x23, 0x25, 0x26, 0x29, 0x2A, 0x2C] ++
  [0x31, 0x32, 0x34, 0x38, 0x43, 0x45, 0x46, 0x49, 0x4A, 0x4C, 0x51, 0x52, 0x54, 0x58, 0x61, 0x62] ++
  [0x64, 0x68, 0x70, 0x83, 0x85, 0x86, 0x89, 0x8A, 0x8C, 0x91, 0x92, 0x94, 0x98, 0xA1, 0xA2, 0xA4] ++
  [0xA8, 0xB0, 0xC1, 0xC2, 0xC4, 0xC8, 0xD0, 0xE0, 0x1F, 0x2F, 0x37, 0x3B, 0x3D, 0x3E, 0x4F, 0x57]

/-- The check byte of a 64-bit word (R531). -/
def secCheck (w : Nat) : Nat :=
  secColumns.zipIdx.foldl (fun acc (c, i) => if w.testBit i then acc ^^^ c else acc) 0

/-- The judgement of a word read from an SRAM (R532). -/
inductive SecResult where
  | clean
  /-- The inverted bit: 0 to 63 a data bit, 64 + j check bit j. -/
  | corrected (bit : Nat)
  | uncorrectable
  deriving DecidableEq, Repr

/-- Decode a 64-bit word with its check byte (R532). -/
def secDecode (w check : Nat) : SecResult :=
  let s := secCheck w ^^^ (check % 256)
  if s = 0 then .clean
  else match secColumns.findIdx? (· == s) with
    | some i => .corrected i
    | none =>
      match (List.range 8).find? fun j => s == 2 ^ j with
      | some j => .corrected (64 + j)
      | none => .uncorrectable

end Sys2Proof.Machine
end

