-- ==== Sys2Proof/Machine/Format.lean ====
section
/-! DEFINITION. The disc format as plain functions: geometry (R297 to R305), the sheaf in channel bits and the
modulation code (R306 to R311), the scrambler (R312), the sheaf's two codes (R313 to R318), metadata (R319), the
disc information and the defect snapshots (R321 to R324), and the stook arithmetic (R333, R335). -/

namespace Sys2Proof.Machine

/-! ### Media types and geometry -/

/-- The areas of a media type (R297). -/
structure Media where
  layers : Nat
  slots : Nat
  zones : Nat
  spareFirst : Nat
  deriving DecidableEq, Repr

/-- KDF-4W is media type 1, KDF-2E media type 2 (R297). -/
def mediaOf (t : Nat) : Media :=
  if t = 2 then ⟨2, 763008, 11, 724992⟩ else ⟨4, 976640, 14, 921600⟩

/-- Disc zones of a media type (R298). -/
def Media.discZones (m : Media) : Nat := m.layers * m.zones

/-- The layer of a disc zone (R298). -/
def Media.zoneLayer (m : Media) (z : Nat) : Nat := z / m.zones

/-- The home slot of sheaf `q` of disc zone `z` (R298). -/
def Media.homeSlot (m : Media) (z q : Nat) : Nat := 4096 + 65536 * (z % m.zones) + q

/-- Spare slots of a layer (R297). -/
def Media.spares (m : Media) : Nat := m.slots - m.spareFirst

/-- Wobble periods of revolution `j` (R299). -/
def revWobbles (j : Nat) : Nat := 57094 + 5 * j / 9

/-- Wobble periods before revolution `j` (R300). -/
def revStart (j : Nat) : Nat :=
  let a := j / 9
  let c := j % 9
  57094 * j + 45 * (a * (a - 1)) / 2 + 16 * a + 5 * a * c + [0, 0, 0, 1, 2, 4, 6, 9, 12].getD c 0

/-- The revolution that holds wobble period `w`: the largest `j` with C(j) at most `w` (R300). -/
def revOf (w : Nat) : Nat :=
  (List.range 18).foldl (fun j i =>
    let k := j + 2 ^ (17 - i)
    if revStart k ≤ w then k else j) 0

/-- The format's angle of wobble period `w`, in SAU (R300). -/
def angleOf (w : Nat) : Nat :=
  let j := revOf w
  (w - revStart j) * 65536 / revWobbles j

/-- Wobble periods of one slot (R301). -/
def slotWobbles : Nat := 14016

/-- The format's angle for the sync of unit `u` of slot `s` (R305). -/
def unitAngle (s u : Nat) : Nat := angleOf (slotWobbles * s + 48 * u)

/-- The track, the revolution of the layer's spiral, on which a slot begins (R299, R301). -/
def slotTrack (s : Nat) : Nat := revOf (slotWobbles * s)

/-- An address word (R303). -/
def addressWord (slot layer unit : Nat) : Nat := slot % 2 ^ 20 + (layer % 4) * 2 ^ 20 + (unit % 512) * 2 ^ 22

/-- The 48 wobble bits of an address unit, in order (R302, R304). -/
def addressUnit (slot layer unit : Nat) : List Bool :=
  let w := addressWord slot layer unit
  (List.range 8).map (fun i => Nat.testBit 0b11110010 (7 - i)) ++
  (List.range 32).map (fun i => w.testBit (31 - i)) ++
  (List.range 8).map (fun i => (crc8 w).testBit (7 - i))

/-- A front end forwards an address word when its CRC matches and bit 31 is 0 (R304). -/
def addressForwarded (w check : Nat) : Bool := crc8 w == check && !w.testBit 31

/-! ### Channel bits -/

/-- A text of 0 and 1 as channel bits. -/
def bitText (t : String) : List Bool := t.toList.map (· == '1')

/-- The pattern 100 repeated (R306). -/
def pattern100 (n : Nat) : List Bool := (List.replicate n [true, false, false]).flatten

def syncA : List Bool := bitText "010000000010000000010010000100"
def syncB : List Bool := bitText "010000000010000000010010010100"

/-- The four pairs of a byte, in the order they are encoded (R310). -/
def bytePairs (b : Byte) : List Nat := [fieldOf b.toNat 7 6, fieldOf b.toNat 5 4, fieldOf b.toNat 3 2, fieldOf b.toNat 1 0]

/-- The basic table (R310). -/
def modBasic (p : Nat) : List Bool :=
  match p with
  | 0 => [false, true, false]
  | 1 => [false, false, true]
  | 2 => [true, false, false]
  | _ => [true, false, true]

/-- The substitution table (R310). -/
def modSubst (p q : Nat) : Option (List Bool) :=
  match p, q with
  | 1, 2 => some (bitText "001000")
  | 1, 3 => some (bitText "010000")
  | 3, 2 => some (bitText "101000")
  | 3, 3 => some (bitText "100000")
  | _, _ => none

/-- The channel bits of the pairs of one frame (R310). -/
def modulate : List Nat → List Bool
  | [] => []
  | [p] => modBasic p
  | p :: q :: t =>
    match modSubst p q with
    | some bits => bits ++ modulate t
    | none => modBasic p ++ modulate (q :: t)

/-- Running digital sum of NRZ levels: the level (true for +1) and the sum after some channel bits (R309). -/
def runSum (st : Bool × Int) (bits : List Bool) : Bool × Int :=
  bits.foldl (fun st b => let l := st.1 != b; (l, st.2 + if l then 1 else -1)) st

/-- One frame with the sync the modulator chooses (R309). -/
def modFrame (st : Bool × Int) (bytes : List Byte) : (Bool × Int) × List Bool :=
  let d := modulate (bytes.flatMap bytePairs)
  let a := runSum st (syncA ++ d)
  let b := runSum st (syncB ++ d)
  if a.2.natAbs ≤ b.2.natAbs then (a, syncA ++ d) else (b, syncB ++ d)

/-- The channel bits a write gate records from the bytes of its frames (R306, R307, R309). -/
def recordBits (frames : List (List Byte)) : List Bool :=
  let pre := pattern100 640
  let r := frames.foldl (fun (st : (Bool × Int) × List Bool) f =>
    let (s, bits) := modFrame st.1 f
    (s, st.2 ++ bits)) (runSum (false, 0) pre, pre)
  r.2 ++ pattern100 8

/-- Decode one 3-bit word given the word before it and the word after it (R311): a pair and its flag. -/
def demodWord (before : Option (List Bool)) (w : List Bool) (after : Option (List Bool)) : Nat × Bool :=
  let zero : List Bool := [false, false, false]
  let basic (w : List Bool) : Nat × Bool :=
    match w with
    | [false, true, false] => (0, false)
    | [false, false, true] => (1, false)
    | [true, false, false] => (2, false)
    | [true, false, true] => (3, false)
    | _ => (0, true)
  let substOf (w : List Bool) : Option (Nat × Nat) :=
    match w with
    | [false, false, true] => some (1, 2)
    | [false, true, false] => some (1, 3)
    | [true, false, true] => some (3, 2)
    | [true, false, false] => some (3, 3)
    | _ => none
  if w == zero then
    match before with
    | none => (0, true)
    | some b => if b == zero then (0, true) else match substOf b with
      | some (_, q) => (q, false)
      | none => (0, true)
  else if after == some zero then
    match substOf w with
    | some (p, _) => (p, false)
    | none => (0, true)
  else basic w

/-- Runs that break the limits inside a frame: positions of channel bits in two adjacent 1s or in a run of more
than 7 zeros (R311). -/
def runBreaks (bits : List Bool) : List Nat :=
  let arr := bits.zipIdx
  let ones := (arr.zip (bits.drop 1)).flatMap fun ((b, i), c) => if b && c then [i, i + 1] else []
  let z := arr.foldl (fun (st : Nat × List Nat) (b, i) =>
    if b then (0, st.2)
    else
      let n := st.1 + 1
      (n, if n = 8 then (List.range 8).map (fun k => i - 7 + k) ++ st.2 else if n > 8 then i :: st.2 else st.2)) (0, [])
  ones ++ z.2

/-- The bytes of a frame with their chaff flags, from its 2,880 channel bits (R278, R311). -/
def demodulate (bits : List Bool) : List (Byte × Bool) :=
  let words := (List.range 960).map fun i => (bits.drop (3 * i)).take 3
  let dec := (List.range 960).map fun i =>
    demodWord (if i = 0 then none else words[i - 1]?) (words.getD i []) words[i + 1]?
  let bad := runBreaks bits
  (List.range 240).map fun i =>
    let ps := (dec.drop (4 * i)).take 4
    (BitVec.ofNat 8 (ps.foldl (fun v p => 4 * v + p.1) 0),
      ps.any (·.2) || bad.any fun b => decide (12 * i ≤ b ∧ b < 12 * i + 12))

/-- The Hamming distance between two bit strings. -/
def hamming (a b : List Bool) : Nat := ((a.zip b).filter fun p => p.1 != p.2).length

/-- The distance of 30 channel bits to the nearer of the two syncs (R308). -/
def syncDistance (bits : List Bool) : Nat := min (hamming bits syncA) (hamming bits syncB)

/-- A write pulse: start and width in sixteenths of a channel bit, and power. -/
abbrev Pulse := Nat × Nat × Nat

/-- The pulses of one mark of `m` channel bits that starts at channel bit `t0` (R348). -/
def markPulses (fs fw mw cw cool peak t0 m : Nat) : List Pulse :=
  let ps := (16 * t0 + fs, fw, peak) :: (List.range (m - 2)).map fun i => (16 * (t0 + i + 1), mw, peak)
  let (e, w, _) := ps.getLastD (0, 0, 0)
  ps ++ [(e + w, cw, cool)]

/-- The marks of a stream of channel bits: runs at NRZ level +1 as (start, length) (R309, R348). -/
def nrzMarks (bits : List Bool) : List (Nat × Nat) :=
  let r := bits.zipIdx.foldl (fun (st : Bool × Nat × List (Nat × Nat)) (b, i) =>
    let (l, t0, acc) := st
    if b then (if l then (false, i, (t0, i - t0) :: acc) else (true, i, acc)) else (l, t0, acc))
    (false, 0, [])
  (if r.1 then (r.2.1, bits.length - r.2.1) :: r.2.2 else r.2.2).reverse

/-! ### Scrambler -/

/-- One output byte of the scrambler and its register afterwards (R312). -/
def scrambleByte (x : BitVec 16) : BitVec 16 × Byte :=
  (List.range 8).foldl (fun (st : BitVec 16 × Byte) _ =>
    let x := st.1
    let fb := x.getLsbD 15 != (x.getLsbD 13 != (x.getLsbD 12 != x.getLsbD 10))
    ((x <<< 1) ||| (if fb then 1#16 else 0#16), (st.2 <<< 1) ||| (if x.getLsbD 15 then 1#8 else 0#8))) (x, 0#8)

/-- Scramble or descramble frame `f` of slot `s` (R312). -/
def scramble (s f : Nat) (bs : List Byte) : List Byte :=
  (bs.foldl (fun (st : BitVec 16 × List Byte) b =>
    let (x, k) := scrambleByte st.1
    (x, (b ^^^ k) :: st.2)) (BitVec.ofNat 16 (1 + (344 * s + f) % 65535), [])).2.reverse

/-! ### The sheaf's codes -/

/-- Cut a list into `n` pieces of `k`. -/
def chunks {α : Type} : Nat → Nat → List α → List (List α)
  | 0, _, _ => []
  | n + 1, k, l => l.take k :: chunks n k (l.drop k)

/-- Transpose rows of width `w`. -/
def transposeRows {α : Type} (w : Nat) (rows : List (List α)) : List (List α) :=
  rows.foldr (fun r acc => List.zipWith List.cons r acc) (List.replicate w [])

/-- The bytes of one half of the data stream (R314). -/
def halfOf : Nat → List Byte → List Byte
  | _, [] => []
  | 0, [b] => [b]
  | _, [_] => []
  | h, a :: b :: t => (if h = 0 then a else b) :: halfOf h t

/-- Put two halves together again (R314). -/
def joinHalves : List Byte → List Byte → List Byte
  | a :: s, b :: t => a :: b :: joinHalves s t
  | _, _ => []

/-- The 172 coded rows of a half from its 32,832 bytes (R315). -/
def encodeHalf (d : List Byte) : List (List Byte) :=
  let cols := (transposeRows 216 (chunks 152 216 d)).map (rsEncode 20)
  (transposeRows 172 cols).map (rsEncode 24)

/-- The 344 frames of 240 coded bytes of a data stream, not scrambled (R315). -/
def encodeSheaf (d : List Byte) : List (List Byte) :=
  List.flatten (List.zipWith (fun a b => [a, b]) (encodeHalf (halfOf 0 d)) (encodeHalf (halfOf 1 d)))

/-- The judgement of one row by the inner code (R316): its errors, its erasures and its data when kept. -/
structure RowRead where
  e : Nat
  f : Nat
  data : Option (List Byte)
  deriving DecidableEq, Repr

/-- Decode a row with its flagged bytes as erasures (R316). -/
def decodeRow (trust : Nat) (row : List (Byte × Bool)) : RowRead :=
  let er := (row.zipIdx.filter fun p => p.1.2).map (·.2)
  if er.length > 24 then ⟨0, er.length, none⟩
  else match rsDecode 24 (row.map (·.1)) er with
    | none => ⟨0, er.length, none⟩
    | some r =>
      if 2 * r.errors.length + er.length > trust then ⟨r.errors.length, er.length, none⟩
      else ⟨r.errors.length, er.length, some (r.word.take 216)⟩

/-- Decode the columns of a half with the erased rows as erasures (R317). -/
def decodeHalf (rows : List RowRead) : Option (List Byte) :=
  let er := (rows.zipIdx.filter fun p => p.1.data.isNone).map (·.2)
  if er.length > 20 then none
  else
    let cols := transposeRows 216 (rows.map fun r => r.data.getD (List.replicate 216 0#8))
    let dec := cols.map fun c => (rsDecode 20 c er).map fun r => r.word.take 152
    if dec.any Option.isNone then none else some ((transposeRows 152 (dec.map fun c => c.getD [])).flatten)

/-- What decoding one read of a sheaf gives (R316 to R318): the rows of each half and the data stream. -/
structure SheafRead where
  rows : List RowRead
  data : Option (List Byte)
  deriving DecidableEq, Repr

/-! ### Metadata (R319) -/

/-- The metadata of a sheaf (R319). -/
structure Meta where
  phys : Nat
  home : Nat
  valid : Nat
  kind : Nat
  flags : Nat
  time : Nat
  firstLba : Nat
  nsSlot : Nat
  family : Nat
  pos : Nat
  km : Nat
  discId : Nat
  dataCrc : Nat
  deriving DecidableEq, Repr

/-- A slot number with its layer (R319, PHYS). -/
def physOf (layer slot : Nat) : Nat := slot % 2 ^ 20 + layer % 4 * 2 ^ 20

/-- The 128 bytes of a sheaf's metadata (R319). -/
def Meta.bytes (m : Meta) : List Byte :=
  let body := asciiBytes "KSHF" ++ leBytes 4 m.phys ++ leBytes 4 m.home ++ leBytes 2 m.valid ++ leBytes 1 m.kind ++
    leBytes 1 m.flags ++ leBytes 8 m.time ++ leBytes 8 m.firstLba ++ leBytes 2 m.nsSlot ++ leBytes 2 m.family ++
    leBytes 1 m.pos ++ leBytes 1 m.km ++ leBytes 2 0 ++ leBytes 8 m.discId ++ leBytes 4 m.dataCrc
  let b := padTo 124 body
  b ++ leBytes 4 (crc32c b)

/-- Read metadata back, when its tag and META_CRC are right (R318, R319). -/
def Meta.parse (bs : List Byte) : Option Meta :=
  if bs.take 4 = asciiBytes "KSHF" ∧ crc32c (bs.take 124) = ofLe (slice 124 4 bs) then
    some {
      phys := ofLe (slice 4 4 bs), home := ofLe (slice 8 4 bs), valid := ofLe (slice 12 2 bs)
      kind := ofLe (slice 14 1 bs), flags := ofLe (slice 15 1 bs), time := ofLe (slice 16 8 bs)
      firstLba := ofLe (slice 24 8 bs), nsSlot := ofLe (slice 32 2 bs), family := ofLe (slice 34 2 bs)
      pos := ofLe (slice 36 1 bs), km := ofLe (slice 37 1 bs), discId := ofLe (slice 40 8 bs)
      dataCrc := ofLe (slice 48 4 bs) }
  else none

/-- The data stream of a sheaf: user area, then metadata with DATA_CRC set (R314, R319). -/
def sheafStream (m : Meta) (user : List Byte) : List Byte :=
  let u := padTo 65536 user
  u ++ ({ m with dataCrc := crc32c u } : Meta).bytes

/-- The scrambled frames of a sheaf as they go to the front end for slot `s` (R312, R315). -/
def sheafFrames (s : Nat) (m : Meta) (user : List Byte) : List (List Byte) :=
  (encodeSheaf (sheafStream m user)).zipIdx.map fun (fr, f) => scramble s f fr

/-- Judge one read of slot `s` from its 344 frames of bytes with chaff flags (R312, R316, R317). -/
def readSheaf (trust s : Nat) (frames : List (List (Byte × Bool))) : SheafRead :=
  let rows := frames.zipIdx.map fun (fr, f) =>
    decodeRow trust ((scramble s f (fr.map (·.1))).zip (fr.map (·.2)))
  let half (h : Nat) := (rows.zipIdx.filter fun p => p.2 % 2 == h).map (·.1)
  match decodeHalf (half 0), decodeHalf (half 1) with
  | some a, some b => ⟨rows, some (joinHalves a b)⟩
  | _, _ => ⟨rows, none⟩

/-- The rows of a half of a judged read. -/
def SheafRead.half (r : SheafRead) (h : Nat) : List RowRead :=
  (r.rows.zipIdx.filter fun p => p.2 % 2 == h).map (·.1)

/-- The metadata and user area of a read, when both halves decode and both CRCs match (R318). -/
def SheafRead.sheaf (r : SheafRead) : Option (Meta × List Byte) :=
  match r.data with
  | none => none
  | some d =>
    match Meta.parse (d.drop 65536) with
    | none => none
    | some m => if crc32c (d.take 65536) = m.dataCrc then some (m, d.take 65536) else none

/-! ### The system area -/

/-- What the controller finds in one slot of the system or spare area (R318, R322, R324): nothing recorded, a
sheaf that does not decode, or a sheaf's metadata and user area. -/
def discInfoBytes (media discId time : Nat) : List Byte :=
  padTo 65536 (asciiBytes "KDFI" ++ leBytes 1 media ++ leBytes 1 (mediaOf media).layers ++ leBytes 2 0x0100 ++
    leBytes 8 discId ++ leBytes 8 time ++ leBytes 4 (mediaOf media).slots)

/-- The user area of one part of a defect snapshot (R323). -/
def snapshotBytes (part parts : Nat) (hwm : List Nat) (entries : List (Nat × Nat)) : List Byte :=
  padTo 65536 (asciiBytes "KDFL" ++ leBytes 2 part ++ leBytes 2 parts ++ leBytes 4 entries.length ++ leBytes 4 0 ++
    (padTo 16 (hwm.flatMap (leBytes 4))) ++ List.replicate 32 0#8 ++
    entries.flatMap fun e => leBytes 4 e.1 ++ leBytes 4 e.2)

/-! ### Stooks -/

/-- The coefficient g_(j,i) = (j xor (4 + i))^(-1) (R333). -/
def stookCoeff (j i : Nat) : Byte := gfInv (BitVec.ofNat 8 (j ^^^ (4 + i)))

/-- One parity user area from the data user areas in position order (R333). -/
def stookParity (j : Nat) (data : List (List Byte)) : List Byte :=
  data.zipIdx.foldl (fun acc (d, i) => List.zipWith (fun a b => a ^^^ gfMul (stookCoeff j i) b) acc (padTo 65536 d))
    (List.replicate 65536 0#8)

/-- The row of member `p` in a family of `k` data members: a unit row, or the row of parity p − k (R333). -/
def stookRow (k p : Nat) : List Byte :=
  (List.range k).map fun i => if p < k then (if p = i then 1#8 else 0#8) else stookCoeff (p - k) i

/-- Solve a square system over the field by elimination: each row is the coefficients and a right-hand side of
byte strings; `c` is the column to clear next, `n` columns are left. -/
def gfSolve : Nat → Nat → List (List Byte × List Byte) → Option (List (List Byte))
  | 0, _, rows => some (rows.map (·.2))
  | n + 1, c, rows =>
    match (rows.zipIdx.find? fun r => decide (c ≤ r.2) && r.1.1.getD c 0#8 != 0#8) with
    | none => none
    | some ((a, b), i) =>
      let inv := gfInv (a.getD c 0#8)
      let pa := a.map (gfMul inv)
      let pb := b.map (gfMul inv)
      let swapped := (rows.set i (rows.getD c ([], []))).set c (pa, pb)
      let next := swapped.zipIdx.map fun ((x, y), r) =>
        if r = c then (x, y)
        else
          let k := x.getD c 0#8
          (List.zipWith (fun u v => u ^^^ gfMul k v) x pa, List.zipWith (fun u v => u ^^^ gfMul k v) y pb)
      gfSolve n (c + 1) next

/-- Rebuild member `p` of a family from `k` members' user areas with their positions (R335). -/
def stookRebuild (k p : Nat) (members : List (Nat × List Byte)) : Option (List Byte) :=
  (gfSolve k 0 ((members.take k).map fun m => (stookRow k m.1, padTo 65536 m.2))).map fun data =>
    if p < k then data.getD p [] else stookParity (p - k) data

end Sys2Proof.Machine
end

