-- ==== Sys2Proof/Machine/Meter.lean ====
section
/-! DEFINITION. What the ledger counts as it happens (R649, R651, R652): a quantity of a crib's open minute, and the energies and
weights of a stage's ticks. -/

namespace Sys2Proof.Machine

/-- Change the ledger. -/
def State.setLedger (s : State) (f : LedgerSt → LedgerSt) : State := { s with ledger := f s.ledger }

/-- Change an account. -/
def setAcct (s : State) (c : Nat) (f : Account → Account) : State :=
  if h : c < 33 then s.setLedger fun l => { l with accts := l.accts.set c (f l.accts[c]) } else s

/-- The ledger runs while the device is Starting, Serving or Draining (R657). -/
def State.ledgerRuns (s : State) : Bool := s.isDev .starting || s.isDev .serving || s.isDev .draining

/-- Crib `c`'s account counts: its minute is open, or, between a close at PFW_N and the minute that opens from the PF tick, is about
to be (R657, R670). -/
def counts (s : State) (c : Crib) : Bool := (s.ledger.accts[c]).isOpen || (s.ledgerRuns && s.cribEnabled c)

/-- Count `n` fine units of quantity `k` for crib `c` (R649, R651), while its account counts; the second's counts are the weights of
R652. -/
def meter (s : State) (c k n : Nat) : State :=
  if h : c < 33 then
    if counts s ⟨c, h⟩ then
      let s := setAcct s c fun a => { a with fine := Keyed.put a.fine k (Keyed.getD a.fine k 0 + n) 0 }
      if k ≤ 10 then s.setLedger fun l => { l with sec := Keyed.put l.sec (16 * c + k) (Keyed.getD l.sec (16 * c + k) 0 + n) 0 } else s
    else s
  else s

/-- Bytes of a crib's connections received and sent (R469). -/
def meterIn (s : State) (c n : Nat) : State := meter s c 9 n
def meterOut (s : State) (c n : Nat) : State := meter s c 10 n

/-- Energy in µJ charged to crib `c`, or to crib 0 when its account is closed. -/
def chargeEnergy (s : State) (c n : Nat) : State :=
  let c := if h : c < 33 then (if counts s ⟨c, h⟩ then c else 0) else 0
  meter s c 13 n

/-- The holder of a drive changes (R650): tag 63 is crib 0. -/
def setHolder (s : State) (n : Drive) (tag : Nat) : State :=
  s.setLedger fun l => { l with holder := l.holder.set n (if tag = 63 then 0 else tag) }

/-- Add to a bridge's weight in this second (R652). -/
def addWeight (s : State) (k : Nat) (w : Int) : State :=
  s.setLedger fun l => { l with weight := Keyed.put l.weight k (Keyed.getD l.weight k 0 + w.toNat) 0 }

/-- A three-phase bridge's weight in one tick, in units of µW/2,000 (R652): currents in mA, voltages in mV. -/
def weighBridge (s : State) (m : Nat) (id iq vd vq : Int) : State := addWeight s m (max 0 (3000 * (vd * id + vq * iq)))

/-- A stepper's weight in one tick, in the same units: its current in mA and LEDGER_STEP_R in mΩ (R652). -/
def weighStepper (s : State) (a i : Nat) : State := addWeight s (20 + a) (2 * i * i * s.g Od.LEDGER_STEP_R a)

/-- A stage's bus power in one tick: mV times mA are µW (R652). -/
def addBus (s : State) (i : Stage) (mv : Nat) (ma : Int) : State :=
  s.setLedger fun l => { l with bus := l.bus.set i (l.bus[i] + mv * ma) }

end Sys2Proof.Machine
end

