-- ==== Sys2Proof/Machine/Queue.lean ====
section
/-! DEFINITION. Queues, completions and command contexts: what every command of a host goes through (R168, R172,
R411, R416, R418, R419, R439, R442). -/

namespace Sys2Proof.Machine

/-- The crib whose work a queue carries (R146). -/
def State.queueCrib (s : State) : IoQueue → Nat
  | .sq f _ => f.val
  | .conn k => ((s.net.conns.find? k).bind fun c => c.crib).getD 0

/-- Change the NVMe controller of a function. -/
def State.setCtl (s : State) (f : Crib) (g : NvmeCtl → NvmeCtl) : State :=
  { s with host := { s.host with ctl := vmod s.host.ctl f g } }

/-- The NVMe controller a queue belongs to: a function's or an association's (R459). -/
def State.ctlOf (s : State) : IoQueue → Option NvmeCtl
  | .sq f _ => some s.host.ctl[f]
  | .conn k => (s.net.conns.find? k).bind fun c => c.cntlid.bind fun i => (s.net.assocs.find? i).map fun a => a.ctl

/-- A violation by a host: its count and its record (R442). -/
def hqViol (s : State) (c k wher node : Nat) : State :=
  violation (s.inc Od.HQ_VIOL_CNT (8 * c + k)) 1 c wher node k []

/-- Send something on a connection of a crib: the bytes of its frames, whose lengths are not stated, enter the crib's account
as a free value (R469). -/
def wireSend (s : State) (crib : Option Nat) (o : Output) : State := (meterOut (s.emit o) (crib.getD 0) (s.free 24)).useFree

/-- Send a payload on a connection, or keep it while its priority is paused (R451). -/
def netSend (s : State) (k : Nat) (o : Output) : State :=
  match s.net.conns.find? k with
  | none => s
  | some c =>
    if c.closed then s
    else if h : c.port < 2 then
      if (s.net.ports[c.port]).paused.getLsbD c.pcp || s.g Od.NET_LINK c.port ≠ 2 then
        { s with net := { s.net with conns := s.net.conns.insert k { c with held := c.held ++ [o] } } }
      else wireSend s c.crib o
    else s

/-- Post a completion into the completion queue `cq` of function `f`, or keep it until an entry is free (R172);
a queue with interrupts enabled sends its vector (R402). -/
def cqPost (s : State) (f : Crib) (cq : Nat) (c : Cpl) : State :=
  match s.host.ctl[f].cqs.find? cq with
  | none => s
  | some q =>
    if (q.tail + 1) % q.size = q.head ∨ q.waiting ≠ [] then
      s.setCtl f fun g => { g with cqs := g.cqs.insert cq { q with waiting := q.waiting ++ [c] } }
    else
      let s := s.setCtl f fun g => { g with cqs := g.cqs.insert cq { q with tail := (q.tail + 1) % q.size } }
      let s := s.emit (.cqe c)
      if q.ien then s.msix f q.vec else s

/-- Post a completion: into the queue its submission queue names, or on its connection. A command whose queue is
gone, or whose crib is being reset, gets none (R174, R463). A failure enters the Error Information log (R411). It reports
the queue's head (R461). -/
def State.post (s : State) (c : Cpl) : State :=
  if s.g Od.CRIB_STATE (s.queueCrib c.queue) = 2 then s
  else match c.queue with
  | .sq f qid =>
    match s.host.ctl[f].sqs.find? qid with
    | none => s
    | some q =>
      let s := if c.status = .success then s else
        s.setCtl f fun g => { g with errs := ((g.errs.length, qid, c.cid) :: g.errs).take 64 }
      cqPost s f q.cq { c with sqhd := q.head }
  | .conn k => netSend s k (.cqe { c with sqhd := (s.net.conns.find? k).elim 0 fun c => c.sqHead })

/-- Complete a command of a queue. -/
def State.complete (s : State) (q : IoQueue) (cid : Nat) (st : Status) (dnr : Option Bool := none) (dw0 : Nat := 0)
    (dw1 : Nat := 0) : State :=
  s.post ⟨q, cid, st, dnr, dw0, dw1, none, 0⟩

/-- An asynchronous event of a function: answered by a waiting request, or kept until one arrives (R409, R439). -/
def asyncEvent (s : State) (f : Crib) (e : AsyncEvent) : State :=
  match s.host.ctl[f].aers with
  | cid :: rest =>
    (s.setCtl f fun g => { g with aers := rest }).post ⟨.sq f 0, cid, .success, none, 0, 0, some e, 0⟩
  | [] => s.setCtl f fun g => { g with kept := g.kept ++ [e] }

/-! ### Deficit round robin (R161) -/

/-- The weight of class 1 B, 2 C, 3 D (R161). -/
def State.classWeight (s : State) (cls : Nat) : Nat := max 1 (s.g Od.CLASS_WEIGHT (cls - 1))

/-- Who is served next among candidates (class, crib): classes in turn by weight, then cribs of the class in turn
by weight; a class or crib with no candidate gives up its turn (R161). -/
def drrPick (s : State) (d : Drr) (cands : List (Nat × Nat)) : Option (Nat × Nat) × Drr :=
  let classes := [1, 2, 3]
  let has (k : Nat) := cands.any fun p => p.1 == k
  let order := (classes.filter fun k => decide (d.cls < k)) ++ (classes.filter fun k => decide (k ≤ d.cls))
  let pick := if has d.cls && d.left != 0 then some (d.cls, d.left) else (order.find? has).map fun k => (k, s.classWeight k)
  match pick with
  | none => (none, d)
  | some (k, left) =>
    let cribs := (cands.filter fun p => p.1 == k).map (·.2)
    let cur := if h : k < 4 then d.crib[k] else (0, 0)
    let cOrder := (List.range 64).filter (fun c => decide (cur.1 < c)) ++ (List.range 64).filter (fun c => decide (c ≤ cur.1))
    let cp := if cribs.contains cur.1 && cur.2 != 0 then some (cur.1, cur.2)
      else (cOrder.find? cribs.contains).map fun c => (c, max 1 (s.g Od.CRIB_WEIGHT c))
    match cp with
    | none => (none, d)
    | some (c, cl) =>
      (some (k, c), { d with
        cls := k, left := left - 1, crib := if h : k < 4 then d.crib.set k (c, cl - 1) else d.crib })

/-! ### Command contexts (R145, R162, R168) -/

/-- Completions that a connection holds back, whose commands keep their contexts (R451). -/
def heldCpls (c : Conn) : Nat := (c.held.filter fun o => match o with
  | .cqe _ => true
  | _ => false).length

/-- Contexts held for crib `c`: a Format NVM holds one too (R479), and a command whose completion is held back (R451). -/
def State.ctxUsed (s : State) (c : Nat) : Nat :=
  (s.host.ctxs.filter fun x => x.crib == c).length + (s.admin.formats.filter fun x => x.func == c).length +
  (s.net.conns.map fun p => if p.2.crib = some c then heldCpls p.2 else 0).sum

/-- Contexts in use. -/
def State.ctxAll (s : State) : Nat :=
  s.host.ctxs.length + s.admin.formats.length + (s.net.conns.map fun p => heldCpls p.2).sum

/-- Crib `c` may take one more context: below its maximum, and leaving the Class-A reserve and what the other
enabled cribs have not drawn of their minimum (R145, R162, R168). -/
def State.ctxFree (s : State) (c : Nat) : Bool :=
  let owed := (List.range 33).foldl (fun n o =>
    if o = c || !s.cribEnabled o then n else n + (s.g Od.CRIB_CTX_MIN o - s.ctxUsed o)) 0
  decide (s.ctxUsed c < s.g Od.CRIB_CTX_MAX c) &&
  (decide (s.ctxUsed c < s.g Od.CRIB_CTX_MIN c) || decide (s.ctxAll + owed < s.g Od.POOL_SIZE 0 - s.g Od.POOL_A_RESERVE 0))

def State.ctx? (s : State) (id : Nat) : Option Ctx := s.host.ctxs.find? fun x => x.id == id

/-- Change a context. -/
def State.setCtx (s : State) (id : Nat) (f : Ctx → Ctx) : State :=
  { s with host := { s.host with ctxs := s.host.ctxs.map fun x => if x.id == id then f x else x } }

/-- Free a context and the landing buffers it still holds. -/
def State.dropCtx (s : State) (id : Nat) : State :=
  let land := (s.ctx? id).elim 0 fun x => x.landing
  ({ s with host := { s.host with ctxs := s.host.ctxs.filter fun x => x.id != id } }).sub Od.HAY_LAND_USED 0 land

/-- The service class of a queue's commands (R418, R459): 1 for class B, 2 for class C. -/
def State.queueClass (s : State) : IoQueue → Nat
  | .sq f qid =>
    match s.host.ctl[f].sqs.find? qid with
    | some q => if q.prio ≤ 1 && s.g Od.CRIB_CLASSB_ALLOW f == 1 then 1 else 2
    | none => 2
  | .conn _ => 2

/-- I/O commands of a queue may be fetched: the device is Serving, the power-fail sequence does not run, and the
queue's controller is ready, not shut down, not in CFS, its crib ACTIVE (R109, R126, R131, R144, R174, R407,
R441, R686). -/
def State.fetching (s : State) (q : IoQueue) : Bool :=
  s.isDev .serving && s.g Od.PF_STATE == 0 && s.g Od.CRIB_STATE (s.queueCrib q) == 1 &&
  !(s.host.dels.any fun d => q == .sq d.1 d.2.2) &&
  (match s.ctlOf q with
  | some g => g.rdy && g.shst == 0 && !g.cfs
  | none => false)

/-- The entry at the head of a queue is taken: it exists when the tail has moved past it; a capsule always is. -/
def State.takeEntry (s : State) : IoQueue → Option State
  | .sq f qid =>
    match s.host.ctl[f].sqs.find? qid with
    | some q =>
      if q.head = q.tail then none
      else some (s.setCtl f fun g => { g with sqs := g.sqs.insert qid { q with head := (q.head + 1) % q.size } })
    | none => none
  | .conn k => (s.net.conns.find? k).map fun c =>
    { s with net := { s.net with conns := s.net.conns.insert k { c with
      sqHead := if c.sqSize = 0 then c.sqHead + 1 else (c.sqHead + 1) % c.sqSize } } }

/-! ### Zones (R421 to R428) -/

/-- Blocks of a zone (R421). -/
def zoneBlocks : Nat := 1048576

/-- The key of a namespace zone. -/
def zoneKey (ns z : Nat) : Nat := ns * 2 ^ 32 + z

/-- A namespace zone that has no entry yet: Empty and unbound. -/
def ZoneEnt.fresh : ZoneEnt := ⟨none, 0, .empty, false⟩

def State.zone (s : State) (ns z : Nat) : ZoneEnt := Keyed.getD s.host.zones (zoneKey ns z) ZoneEnt.fresh

/-- Set a zone without a write of its table entry. -/
def State.setZoneRaw (s : State) (ns z : Nat) (e : ZoneEnt) : State :=
  { s with host := { s.host with zones := Keyed.put s.host.zones (zoneKey ns z) e ZoneEnt.fresh } }

/-- The Chest position of a zone's record: six zones share one (R425). -/
def zonePos (ns z : Nat) : Nat := ns * 2 ^ 16 + z / 6

/-- Change a zone and write its table entry, with completions that wait for the write (R425, R711). -/
def State.setZone (s : State) (ns z : Nat) (e : ZoneEnt) (after : List Cpl := []) : State :=
  let s := s.setZoneRaw ns z e
  let (s, made) := s.chestPut Region.zone (zonePos ns z) (after.map Waiter.completion)
  if made then s.each after State.post else s

/-- The state a zone shows: Offline while R430 holds it. -/
def ZoneEnt.state (e : ZoneEnt) : ZoneSt := if e.offline then .offline else e.st

def ZoneSt.active : ZoneSt → Bool
  | .implicitOpen | .explicitOpen | .closed => true
  | _ => false

def ZoneSt.isOpen : ZoneSt → Bool
  | .implicitOpen | .explicitOpen => true
  | _ => false

/-- The zones of a namespace for which a test of their state holds. -/
def State.zonesWith (s : State) (ns : Nat) (p : ZoneSt → Bool) : List Nat :=
  match s.host.ns.find? ns with
  | some n => (List.range n.zones).filter fun z => p (s.zone ns z).state
  | none => []

/-- A context is a Write or Zone Append. -/
def Ctx.isWrite (x : Ctx) : Bool :=
  match x.op with
  | .write .. | .append .. => true
  | _ => false

/-- Writes and appends to a zone that are admitted and not completed, in admission order (R426). -/
def State.zoneWrites (s : State) (ns z : Nat) : List Ctx :=
  s.host.ctxs.filter fun x => x.isWrite && x.ns == ns && x.zone == z

/-- A zone's admission pointer (R426). -/
def State.admission (s : State) (ns z : Nat) : Nat :=
  (s.zone ns z).wp + ((s.zoneWrites ns z).map (·.nlb)).sum

/-- The namespace of an NSID, when it is attached to the crib's function (R148, R405). -/
def State.nsOf (s : State) (crib nsid : Nat) : Option (Nat × Ns) :=
  if nsid = 0 then none
  else match s.host.ns.find? (nsid - 1) with
    | some n => if n.attached = some crib then some (nsid - 1, n) else none
    | none => none

/-- A namespace check that fails: counted and recorded (R148). -/
def cribViol (s : State) (c code : Nat) : State :=
  violation (s.inc Od.CRIB_VIOL_CNT c) 6 c c 0 code []

/-- The magazine of a library slot, and the media type declared for it (R23). -/
def magOf (d : Nat) : Nat := d / 64

def State.discMedia (s : State) (d : Nat) : Nat := s.g Od.MAG_MEDIA (magOf d)

/-- Slot `d` lies in a declared magazine (R38). -/
def State.discDeclared (s : State) (d : Nat) : Bool := decide (d < 1536) && s.gb Od.MAG_DECL 0 (magOf d)

/-- The drive that holds disc `d`, if any. -/
def State.driveOf (s : State) (d : Nat) : Option Drive :=
  (List.finRange 16).find? fun n => s.g Od.DRV_DISC n == d

/-- The position of disc `d` in a stook family: family, position, k and m (R332). -/
def State.stookOf (s : State) (d : Nat) : Option (Nat × Nat × Nat × Nat) :=
  let w := s.g Od.DISC_STOOK d
  let f := fieldOf w 9 0
  let km := s.g Od.STOOK_FAM_KM f
  if w.testBit 31 && km != 0 then some (f, fieldOf w 13 10, fieldOf km 3 0, fieldOf km 6 4) else none

/-- Disc `d` is a parity member of its family (R332). -/
def State.isParity (s : State) (d : Nat) : Bool :=
  match s.stookOf d with
  | some (_, p, k, _) => decide (k ≤ p)
  | none => false

/-- Disc zone (d, z) is bound to or reserved for some namespace (R422). -/
def State.discZoneTaken (s : State) (d z : Nat) : Bool :=
  s.host.zones.any (fun p => p.2.bound == some (d, z)) || s.host.ns.any fun p => p.2.reserved.contains (d, z)

def State.discZoneSpent (s : State) (d z : Nat) : Bool := (Keyed.getD s.host.spent d 0).testBit z

/-- Free disc zones of a media type in order of d, then z (R422). -/
def State.freeDiscZones (s : State) (media : Nat) (stookOnly : Bool) : List (Nat × Nat) :=
  ((List.range 1536).filter fun d =>
    s.discDeclared d && s.discMedia d == media && !s.isParity d && (!stookOnly || (s.stookOf d).isSome)).flatMap fun d =>
      ((List.range (mediaZones media)).filter fun z => !s.discZoneTaken d z && !s.discZoneSpent d z).map fun z => (d, z)
where
  /-- Disc zones of a media type (R298). -/
  mediaZones (t : Nat) : Nat := if t = 2 then 22 else 56

/-- Mark a disc zone spent and write the disc's record (R425). -/
def State.spend (s : State) (d z : Nat) : State :=
  let m := Keyed.getD s.host.spent d 0
  ({ s with host := { s.host with spent := Keyed.put s.host.spent d (putBit m z true) 0 } }).chestWrite Region.state (Pos.spent d)

/-! ### Ending a command -/

/-- Sheaves a range of blocks touches (R505, R513). -/
def Ctx.sheaves (x : Ctx) : Nat := (x.lba + x.nlb + 15) / 16 - x.lba / 16

/-- Release what a write holds on its way (R515): staging lines, Sideboard entries and Hayloft buffers. -/
def State.releaseStaging (s : State) (x : Ctx) : State :=
  let s := s.sub Od.STAGE_LINES_USED 0 x.left
  let s := if x.stage ≠ 0 then s.sub Od.HAY_STAGE_USED 0 x.sheaves else s
  let s := { s with cache := { s.cache with
    stage := s.cache.stage.erase x.id, side := s.cache.side.filter fun e => e.ctx != x.id } }
  s.p Od.SIDEBOARD_USED 0 s.cache.side.length

/-- Post the outcomes of a zone's writes in ascending LBA order, as far as they are known (R427). The write
pointer and state have been set when each sheaf verified. -/
def zoneSettle : Nat → State → Nat → Nat → State
  | 0, s, _, _ => s
  | fuel + 1, s, ns, z =>
    match s.zoneWrites ns z with
    | [] => s
    | x :: _ =>
      match x.result with
      | none => s
      | some (st, dnr, dw) =>
        let s := (s.releaseStaging x).dropCtx x.id
        let s := if st = .success then meter s x.crib 8 x.nlb else s
        let c : Cpl := ⟨x.queue, x.cid, st, dnr, dw % 2 ^ 32, dw / 2 ^ 32, none, 0⟩
        zoneSettle fuel (s.setZone ns z (s.zone ns z) [c]) ns z

/-- A write or append ends: its outcome, and, when it failed, Zone Invalid Write for every later admitted command
to the zone (R427); then completions in order. -/
def endWrite (s : State) (x : Ctx) (st : Status) (dnr : Option Bool) : State :=
  let dw := match x.op with
    | .append .. => x.lba
    | _ => 0
  let s := s.setCtx x.id fun x => if x.result.isSome then x else { x with result := some (st, dnr, if st = .success then dw else 0) }
  let s := if st = .success then s else
    s.each (s.zoneWrites x.ns x.zone) fun s y =>
      if y.id > x.id && y.result.isNone then s.setCtx y.id fun y => { y with result := some (.zoneInvalidWrite, none, 0) } else s
  zoneSettle s.host.ctxs.length s x.ns x.zone

/-- A command other than a write ends. -/
def endCtx (s : State) (x : Ctx) (st : Status) (dnr : Option Bool := none) (dw0 : Nat := 0) (dw1 : Nat := 0) : State :=
  if x.isWrite then endWrite s x st dnr else (s.dropCtx x.id).complete x.queue x.cid st dnr dw0 dw1

/-- The 4,096 zero bytes of a block that nothing has written. -/
def zeroBlock : List Byte := List.replicate 4096 0#8

/-- Move a command's data to the host: by PCIe, or on its connection; the cache lines of a Read whose data is held
back there stay pinned (R451, R508). -/
def hostSend (s : State) (x : Ctx) (data : List Byte) : State :=
  match x.queue with
  | .sq .. => s.emit (.hostData x.queue x.cid data)
  | .conn k =>
    let before := (s.net.conns.find? k).elim 0 fun c => c.held.length
    let s := netSend s k (.hostData x.queue x.cid data)
    match s.net.conns.find? k with
    | some c =>
      if before < c.held.length then
        { s with net := { s.net with conns := s.net.conns.insert k { c with pins := (x.ns, x.lba, x.nlb) :: c.pins } } }
      else s
    | none => s

/-- A read whose blocks are all there moves them to the host and completes. -/
def readSettle (s : State) (id : Nat) : State :=
  match s.ctx? id with
  | none => s
  | some x =>
    if x.left = 0 then
      let data := (List.range x.nlb).flatMap fun i => Keyed.getD x.blocks i zeroBlock
      endCtx (meter (hostSend s x data) x.crib 7 x.nlb) x .success
    else s

end Sys2Proof.Machine
end

