-- ==== Sys2Proof/Machine/Media.lean ====
section
/-! DEFINITION. The media scheduler's shared operations: the queues of sheaf operations, waking and loading drives,
spare slots and replacements, and how an operation ends (R327 to R330, R423, R433 to R438). -/

namespace Sys2Proof.Machine

/-- Change a drive. -/
def State.setDv (s : State) (n : Drive) (f : DriveSt → DriveSt) : State :=
  { s with drives := vmod s.drives n f }

/-- Change a motor. -/
def State.setMot (s : State) (m : Motor) (f : MotorSt → MotorSt) : State :=
  { s with motion := { s.motion with motors := vmod s.motion.motors m f } }

/-- The spindle motor of a drive. -/
def spindleOf (n : Drive) : Motor := ⟨n.val, by omega⟩

/-- Change the operation that executes on a drive; its crib holds the drive (R650). -/
def State.setCur (s : State) (n : Drive) (o : Option MediaOp) : State :=
  let s : State := { s with media := { s.media with cur := s.media.cur.set n o } }
  match o with
  | some o => setHolder s n o.tag
  | none => s

/-- Change what is known of the disc in a drive. -/
def State.setDisc (s : State) (n : Drive) (i : Option DiscInfo) : State :=
  { s with media := { s.media with disc := s.media.disc.set n i } }

/-- A value of the active image as the servo array uses it: the former one until the next superframe (R74). -/
def State.gs (s : State) (o : Ob) (e : Nat := 0) : Nat := Keyed.getD (s.servoImg.getD s.od) (o.el e) 0

def State.gsi (s : State) (o : Ob) (e : Nat := 0) : Int := toInt o.bits (s.gs o e)

/-- A setting of the read channel or the Winnower as front end `n` uses it: as it was at the opening of its last read gate (R296). -/
def State.gf (s : State) (n : Drive) (o : Ob) (e : Nat := 0) : Nat := Keyed.getD (s.drives[n].fe.img.getD s.od) (o.el e) 0

/-- Units of 1/256 SAU per motion tick that `r` rpm are, rounded down (R240). -/
def rpmUnits (r : Nat) : Nat := r * 16777216 / 1200000

/-- The speed request of a drive in D0 or D1 (R241): the write speed when its operation, or the next one in its
queue, writes. -/
def State.speedRequest (s : State) (n : Drive) : Nat :=
  let d := s.g Od.DRV_DISC n
  let next := match s.media.cur[n] with
    | some o => some o
    | none => s.media.ops.find? fun o => o.disc == d
  match next with
  | some o => if o.todo ≠ [] then s.g Od.SPIN_WRITE_RPM else s.g Od.SPIN_READ_RPM
  | none => s.g Od.SPIN_READ_RPM

/-- Axes may move: no ESTOP stop, no power-fail sequence, bridges on (R42, R126, R389, R688). -/
def State.driven (s : State) : Bool :=
  !s.gb Od.INTERLOCK_STATE 0 8 && s.g Od.PF_STATE == 0 && (s.isDev .serving || s.isDev .draining || s.isDev .starting)

/-- A stopped spindle begins its start with ALIGN (R231). -/
def spinStart (s : State) (n : Drive) : State :=
  if s.g Od.SPIN_STATE n = 0 ∧ s.driven = true then
    ((s.p Od.SPIN_STATE n 1).inc Od.LIFE_SPIN_STARTS n).setMot (spindleOf n) fun m => { m with ticks := 0, attempts := 0, stopping := false }
  else s

/-- Wake a drive for work (R437): the time of the wake is kept for R436; a spindle in D3 starts. A drive in D1
is in D0 at once, a drive in D2 waits for FOCUS_ACQUISITION, a braking one for BRAKE_REVERSE. -/
def wakeDrive (s : State) (n : Drive) : State :=
  let st := s.g Od.DRV_STATE n
  if s.g Od.DRIVE_FAULT n ≠ 0 then s
  else if st = 1 then s.p Od.DRV_STATE n 0
  else if st = 2 ∨ st = 3 then
    let s := if s.drives[n].wake.isSome then s else portArrive (s.setDv n fun d => { d with wake := some (st, s.now) }) n
    if st = 3 then spinStart s n else s
  else s

/-- Ask for a disc to be loaded, once (R434, R437). -/
def askLoad (s : State) (d : Nat) (why : PickFor) : State :=
  if s.motion.loads.any fun r => r.disc == d then s
  else if s.motion.picker.queue.any fun r => r.load && r.disc == d then s
  else match s.motion.picker.seq with
    | some (r, _) => if r.load && r.disc == d then s else
        { s with motion := { s.motion with loads := s.motion.loads ++ [⟨true, d, 0, s.now, why⟩] } }
    | none => { s with motion := { s.motion with loads := s.motion.loads ++ [⟨true, d, 0, s.now, why⟩] } }

/-- Put a sheaf operation into its drive's queue, waking the drive, or ask for its disc (R433, R437). -/
def queueOp (s : State) (o : MediaOp) (why : PickFor := .media) : State :=
  let o := { o with id := s.media.nextOp, time := s.now }
  let s := { s with media := { s.media with ops := s.media.ops ++ [o], nextOp := s.media.nextOp + 1 } }
  match s.driveOf o.disc with
  | some n => wakeDrive s n
  | none => askLoad s o.disc why

/-- The layer and home slot of sheaf `q` of disc zone `dz` on disc `d`, as a PHYS value (R298, R319). -/
def State.homePhys (s : State) (d dz q : Nat) : Nat :=
  let m := mediaOf (s.discMedia d)
  physOf (m.zoneLayer dz) (m.homeSlot dz q)

/-- Where a logical sheaf is read: its replacement, else its home slot (R330). -/
def State.physSheaf (s : State) (n : Drive) (home : Nat) : Nat :=
  match s.media.disc[n] with
  | some i => Keyed.getD i.repl home home
  | none => home

def physSlot (p : Nat) : Nat := p % 2 ^ 20
def physLayer (p : Nat) : Nat := p / 2 ^ 20 % 4

/-- Free spare slots of the disc in a drive, over all layers (R324). -/
def DiscInfo.spareFree (i : DiscInfo) : Nat :=
  (List.range (mediaOf i.media).layers).foldl (fun n l =>
    n + ((mediaOf i.media).slots - (if h : l < 4 then i.spareNext[l] else (mediaOf i.media).slots))) 0

/-- The spare slot a replacement takes: the layer's own first, then the other layers in ascending order (R327). -/
def DiscInfo.takeSpare (i : DiscInfo) (layer : Nat) : Option (Nat × DiscInfo) :=
  let m := mediaOf i.media
  let order := layer :: (List.range m.layers).filter (· ≠ layer)
  match order.find? fun l => if h : l < 4 then decide (i.spareNext[l] < m.slots) else false with
  | none => none
  | some l =>
    if h : l < 4 then
      some (physOf l i.spareNext[l], { i with spareNext := i.spareNext.set l (i.spareNext[l] + 1) })
    else none

/-- DISC_SPARE_FREE of the disc in a drive, and the spare-low event once per load (R324, R329). -/
def spareReport (s : State) (n : Drive) : State :=
  match s.media.disc[n] with
  | none => s
  | some i =>
    let d := s.g Od.DRV_DISC n
    let s := { s with media := { s.media with spareFree := Keyed.insert s.media.spareFree d i.spareFree } }
    if i.spareFree < s.g Od.SPARE_LOW ∧ !i.lowRaised then
      raise (s.setDisc n (some { i with lowRaised := true })) (Src.spareLow n) i.spareFree d
    else s

/-- Take a spare slot of the disc in drive `n` for a sheaf of `layer` (R327 to R329). -/
def spareTake (s : State) (n : Drive) (layer : Nat) : State × Option Nat :=
  match s.media.disc[n] with
  | none => (s, none)
  | some i =>
    match i.takeSpare layer with
    | none => (spareReport s n, none)
    | some (p, i) => (spareReport ((s.setDisc n (some i)).inc Od.REPLACE_CNT n) n, some p)

/-- Give the waiting job reads of a sheaf their data, or their failure (R504, R519). -/
def deliverJobs (s : State) (o : MediaOp) (blocks : Option (Keyed (List Byte))) : State :=
  { s with cache := { s.cache with jobReads := s.cache.jobReads.map fun j =>
    if j.ns == o.ns && j.lba / 16 == o.lba / 16 && j.data.isNone && !j.failed then
      match blocks with
      | some b => { j with data := some (Keyed.getD b (j.lba % 16) zeroBlock) }
      | none => { j with failed := true }
    else j } }

/-- An operation's waiting commands all end with a status (R438), and the job reads that wait for it fail. -/
def failOp (s : State) (o : MediaOp) (st : Status) (dnr : Option Bool) : State :=
  let s := if o.kind = .read ∨ o.kind = .prefetch then deliverJobs s o none else s
  s.each o.ctxs fun s id =>
    match s.ctx? id with
    | some x => endCtx s x st dnr
    | none => s

/-- Two rebuilds of the same sheaf. -/
def Rebuild.same (a b : Rebuild) : Bool := a.family == b.family && a.dz == b.dz && a.q == b.q && a.disc == b.disc

/-- A rebuild is kept, and the read of its next member queued (R335); with no member left it waits for
STOOK_REBUILD_FAIL. -/
def rebuildNext (s : State) (r : Rebuild) : State :=
  let s := { s with media := { s.media with rebuilds := (s.media.rebuilds.filter fun x => !x.same r) ++ [r] } }
  match r.toRead with
  | (p, d) :: _ =>
    queueOp s { r.op with
      kind := .stook, disc := d, dz := r.dz, q := r.q, ctxs := [r.family, p, r.disc]
      rereads := 0, todo := [], wrote := [], verifying := false, good := [] }
  | [] => s

/-- A member of a rebuild gave nothing: it is passed over (R335 step 2). -/
def rebuildPass (s : State) (o : MediaOp) : State :=
  match s.media.rebuilds.find? fun r => some r.family == o.ctxs[0]? && r.dz == o.dz && r.q == o.q && some r.disc == o.ctxs[2]? with
  | some r => rebuildNext s { r with toRead := r.toRead.drop 1 }
  | none => s

/-- Every operation that waits for disc `d` ends with a status; a rebuild passes the disc over (R394, R430). -/
def failDisc (s : State) (d : Nat) (st : Status) (dnr : Option Bool) : State :=
  let mine := s.media.ops.filter fun o => o.disc == d
  let s := { s with media := { s.media with ops := s.media.ops.filter fun o => o.disc != d } }
  s.each mine fun s o => if o.kind = .stook then rebuildPass s o else failOp s o st dnr

/-- MEDIA_STATE changes (R322, R599). -/
def setMedia (s : State) (n : Drive) (st cause : Nat) : State :=
  let old := s.g Od.MEDIA_STATE n
  let s := (s.p Od.MEDIA_STATE n st).p Od.MEDIA_FAULT_CAUSE n cause
  if old = st then s else raise s (Src.media n) (st + 256 * cause)

/-- The operation executing on a drive has ended (R433). -/
def endOp (s : State) (n : Drive) : State :=
  let s := s.setCur n none
  let s := { s with media := { s.media with
    lastEnd := s.media.lastEnd.set n s.now, idleFrom := s.media.idleFrom.set n s.now } }
  s.setDv n fun d => { d with rx := none, acqFails := 0 }

/-- A write's head sheaf has to go into a spare slot: it did not verify, its gate did not open or closed early
(R327). With no spare slot left the write fails and its zone becomes Full (R329, R438); after WRITE_RETRY_MAX
replacements it fails too. Class-D writes that fail are dropped. -/
def replaceSheaf (s : State) (n : Drive) (o : MediaOp) (w : WSheaf) (counted : Bool) : State × Option WSheaf :=
  if counted && decide (s.g Od.WRITE_RETRY_MAX ≤ w.tries) then (failOp s o .writeFault true, none)
  else
    let (s, p) := spareTake s n (physLayer w.home)
    match p with
    | none =>
      let s := s.each o.ctxs fun s id =>
        match s.ctx? id with
        | some x => s.setZone x.ns x.zone { s.zone x.ns x.zone with st := .full }
        | none => s
      (failOp s o .writeFault true, none)
    | some p => (s, some { w with phys := p, tries := w.tries + (if counted then 1 else 0), erased := false })

/-- The write gate of the head sheaf was interrupted or never opened: it is written again as a replacement. -/
def writeBroken (s : State) (n : Drive) : State :=
  match s.media.cur[n] with
  | none => s
  | some o =>
    match o.todo with
    | [] => s
    | w :: rest =>
      match replaceSheaf s n o w false with
      | (s, some w) => s.setCur n (some { o with todo := w :: rest })
      | (s, none) => endOp s n

/-- The place on the disc that a drive's operation is to work on next: PHYS and whether it writes (R326, R433). -/
def MediaOp.next (s : State) (n : Drive) (o : MediaOp) : Option (Nat × Bool) :=
  match o.kind with
  | .read | .prefetch | .stook | .cover => some (s.physSheaf n (s.homePhys o.disc o.dz o.q), false)
  | .write | .parity | .repair =>
    if o.verifying then o.wrote.head?.map fun v => (v.phys, false) else o.todo.head?.map fun w => (w.phys, true)

/-- The preference of R423 for the disc of a disc zone, smaller first. -/
def State.bindRank (s : State) (last : Option Nat) (d : Nat) : Nat :=
  match s.driveOf d with
  | some n =>
    let st := s.g Od.DRV_STATE n
    if st ≤ 1 then 0 else if st = 2 then 1 else 2
  | none =>
    match last with
    | some m => if magOf d ≠ m then 3 else 4
    | none => 4

/-- Bind a zone that leaves Empty to one of its namespace's reserved disc zones (R423). -/
def bindZone (s : State) (ns z : Nat) : State :=
  let e := s.zone ns z
  if e.bound.isSome then s
  else match s.host.ns.find? ns with
    | none => s
    | some m =>
      let best := m.reserved.foldl (fun (b : Option (Nat × Nat)) (c : Nat × Nat) =>
        match b with
        | none => some c
        | some b =>
          let rb := (s.bindRank m.lastMag b.1, b.1, b.2)
          let rc := (s.bindRank m.lastMag c.1, c.1, c.2)
          if rc.1 < rb.1 ∨ (rc.1 = rb.1 ∧ (rc.2.1 < rb.2.1 ∨ (rc.2.1 = rb.2.1 ∧ rc.2.2 < rb.2.2))) then some c else some b) none
      match best with
      | none => s
      | some c =>
        let s := { s with host := { s.host with ns := s.host.ns.insert ns { m with
          reserved := m.reserved.erase c, lastMag := some (magOf c.1) } } }
        (s.setZoneRaw ns z { e with bound := some c }).inc Od.NS_ZONES_BOUND ns

end Sys2Proof.Machine
end

