-- ==== Sys2Proof/Machine/Drive.lean ====
section
/-! DEFINITION. What several causes do to a drive: its angle state, its gates, loss of lock, faults and resets
(R192 to R196, R214 to R223, R239, R245, R264, R355). -/

namespace Sys2Proof.Machine

/-- The spindle leaves MEDIA_LOCK for OBSERVER (R239). -/
def mlockExit (s : State) (n : Drive) : State :=
  if s.g Od.SPIN_STATE n = 5 then
    (((s.p Od.SPIN_STATE n 4).inc Od.MLOCK_DROP_CNT n).pb Od.SPIN_FLAGS n 4 false).setMot (spindleOf n) fun m =>
      { m with lockVals := [], devTicks := 0 }
  else s

/-- Every queued event of a drive is discarded (R194). -/
def flushEvents (s : State) (n : Drive) : State :=
  s.setDv n fun d => { d with flush := true, toSend := [], outstanding := [], rx := none }

/-- The drive's angle enters a state; leaving LOCKED discards the events, and OBSERVER or NONE ends media lock
(R192 to R194, R239). -/
def setAngle (s : State) (n : Drive) (v : Nat) : State :=
  let old := s.g Od.ANGLE_STATE n
  let s := s.p Od.ANGLE_STATE n v
  let s := if old = 3 ∧ v ≠ 3 then flushEvents s n else s
  let s := if v ≤ 1 then mlockExit s n else s
  if v < 2 then s.setDv n fun d => { d with addrGood := 0, addrBad := 0 } else s

/-- The angle state when focus or tracking is open: OBSERVER while the observer turns with the spindle, else NONE
(R192, R193, R232). -/
def angleOpen (s : State) (n : Drive) : State :=
  let sp := s.g Od.SPIN_STATE n
  setAngle s n (if sp = 4 ∨ sp = 5 ∨ sp = 6 then 1 else 0)

/-- A running calibration ends without effect (R355): a sweep leaves every focus balance not done, a tracking
balance its layer. -/
def calAbort (s : State) (n : Drive) : State :=
  let c := s.g Od.CAL_STATE n
  if c = 0 ∨ c = 5 then s
  else
    let l := s.g Od.CUR_LAYER n
    ((s.p Od.CAL_STATE n 0).inc Od.CAL_ABORT_CNT n).setDv n fun d => { d with
      proc := .idle
      cal := { d.cal with
        eqLeft := 0
        focusDone := if c = 2 then 0 else d.cal.focusDone
        trackDone := if c = 3 then d.cal.trackDone &&& ~~~ BitVec.twoPow 4 l else d.cal.trackDone } }

/-- Open loops of a drive; the Winnower is disarmed (R215, R287). -/
def openLoops (s : State) (n : Drive) (focus : Bool) : State :=
  s.setDv n fun d => { d with
    focusClosed := d.focusClosed && !focus
    trackClosed := false
    tcmd := 0
    fcmd := if focus then 0 else d.fcmd
    hold := none, lg := 0, sumLow := 0
    fe := { d.fe with armed := false } }

/-- A write gate that is open closes before its sheaf is whole: the sheaf is replaced (R209, R215, R220, R327). -/
def closeWriteGate (s : State) (n : Drive) : State :=
  match s.drives[n].fe.gate with
  | some g =>
    if g.write then
      let s := s.emit (.gateClosed n (s.g Od.ANGLE_NOW n % 65536))
      writeBroken (s.setDv n fun d => { d with wgSeen := false, fe := { d.fe with gate := none, fifo := 0 } }) n
    else s
  | none => s

/-- What follows a loss of lock or a drive fault in the next superframe (R215): gates inhibited, events flushed,
the laser at read or off, loops opened. -/
def inhibitDrive (s : State) (n : Drive) (laserOff focus : Bool) : State :=
  let s := closeWriteGate s n
  let s := flushEvents s n
  let s := openLoops s n focus
  let s := s.setDv n fun d => { d with inhibit := true, laserMode := if laserOff then 0 else 1, proc := .idle }
  angleOpen s n

/-- Set a bit of DRIVE_FAULT; when it becomes non-zero its time is kept and the event raised (R219, R599). -/
def faultDrive (s : State) (n : Drive) (bit : Nat) : State :=
  let old := s.g Od.DRIVE_FAULT n
  let s := (s.pb Od.DRIVE_FAULT n bit true).p Od.DRIVE_SERVO_STATE n 9
  if old = 0 then
    raise (s.setDv n fun d => { d with faultAt := s.now }) (Src.driveFault n) (s.g Od.DRIVE_FAULT n)
  else s

/-- To stop a spindle (R245, R246): BRAKING at and above 180 rpm, SHORT_BRAKE below. -/
def spinBrake (s : State) (n : Drive) : State :=
  let st := s.g Od.SPIN_STATE n
  if st = 0 ∨ 6 ≤ st then s
  else
    let s := mlockExit s n
    let meas := (s.gi Od.SPIN_SPEED_MEAS n).toNat
    let s := if meas < rpmUnits 180 then s.p Od.SPIN_STATE n 7 else (s.p Od.SPIN_STATE n 6).p Od.SPIN_TARGET n meas
    let s := s.setMot (spindleOf n) fun m => { m with ticks := 0, lowTicks := 0, stopping := true, ramp := 0 }
    s.pb Od.SPIN_FLAGS n 2 false

/-- A Drive reset (R218, R256): the laser off, loops open, the spindle braked to D3. -/
def driveReset (s : State) (n : Drive) : State :=
  let s := calAbort s n
  let s := inhibitDrive s n true true
  let s := s.setDv n fun d => { d with cal := { d.cal with carry := false }, losses := [], wake := none }
  let s := s.p Od.SPIN_FAULT_CAUSE n 0
  let s := if s.g Od.SPIN_STATE n = 9 then s.p Od.SPIN_STATE n 7 else s
  let s := s.setMot (spindleOf n) fun m => { m with tripped := false }
  let s := spinBrake s n
  let s := s.p Od.DRIVE_SERVO_STATE n 0
  if s.g Od.SPIN_STATE n = 0 ∧ s.g Od.DRV_DISC n ≠ 0xFFFF then s.p Od.DRV_STATE n 3 else s

/-- A loss of lock of a kind of R214: counted, handled by R215, and, at LOCK_RETRY within the window, a Drive reset
with the fault of its kind (R214 to R217, R274, R355). `layer` says whether focus is affected. -/
def loseLock (s : State) (n : Drive) (kind : Nat) (layer : Bool) : State :=
  let s := raise (s.inc Od.LOCK_LOSS_CNT (4 * n + kind)) (Src.lockLoss n) kind
  let s := calAbort s n
  let s := inhibitDrive s n (kind == 3) (kind == 0 || kind == 3 || layer)
  let s := s.p Od.DRIVE_SERVO_STATE n 8
  let window := s.gs Od.LOCK_RETRY_WINDOW * 1000000000
  let s := s.setDv n fun d => { d with
    losses := s.now :: d.losses.filter fun t => decide (s.now ≤ t + window)
    proc := if d.focusClosed then .pullIn (s.g Od.REV_COUNT n) else .idle
    cal := { d.cal with carry := d.cal.carry && !(decide (kind ≤ 1)) } }
  if s.gs Od.LOCK_RETRY ≤ s.drives[n].losses.length then faultDrive (driveReset s n) n kind else s

/-- A record of a link partner in the violation log (R617): partner 8 a front end, 9 a stage; code 0 a retrain,
1 a reset. -/
def linkViol (s : State) (partner n code : Nat) : State := violation s partner 0xFF n 0 code []

/-- A Front-end reset begins: FE_RST_N low, the identity forgotten, the drive to D2 (R30, R139, R222). -/
def feReset (s : State) (n : Drive) : State :=
  let s := calAbort s n
  let s := inhibitDrive s n true true
  let s := s.setDv n fun d => { d with
    resetting := true, retraining := false, retrains := [], missUp := 0, bulk := [], sent := []
    fe := .fresh, rx := none, cal := { d.cal with carry := false } }
  let s := { s with
    pins := { s.pins with feRst := s.pins.feRst &&& ~~~ BitVec.twoPow 16 n }
    parts := { s.parts with feUp := s.parts.feUp &&& ~~~ BitVec.twoPow 16 n }
    scan := { s.scan with lost := s.scan.lost &&& ~~~ BitVec.twoPow 22 (1 + n) } }
  let s := ((s.p Od.RC_STATE n 0).p Od.DRIVE_SERVO_STATE n 1).p Od.FE_ID_SEEN n 0
  let s := setDom s ⟨5 + n.val, by omega⟩ .on
  let st := s.g Od.DRV_STATE n
  let s := if st ≤ 1 then (s.p Od.DRV_STATE n 2).setDv n fun d => { d with wake := some (2, s.now) } else s
  linkViol s 8 n 1

/-- A Giperlink retrain: counted, a link loss of lock, and at the third within 60 s a Front-end reset (R221,
R222). -/
def glRetrain (s : State) (n : Drive) : State :=
  if s.drives[n].retraining || s.drives[n].resetting then s
  else
    let s := linkViol (s.inc Od.GL_RETRAIN_CNT n) 8 n 0
    let s := loseLock s n 3 true
    let s := s.setDv n fun d => { d with
      retraining := true, missUp := 0
      retrains := s.now :: d.retrains.filter fun t => decide (s.now ≤ t + 60000000000) }
    if 3 ≤ s.drives[n].retrains.length then feReset s n else s

/-- The event that opens a gate on the place `phys`, when the drive's track reaches it in this revolution or the
next (R195, R299 to R301). -/
def gateEvent (s : State) (n : Drive) (phys kind id : Nat) : Option AngleEvent :=
  let sau := angleOf (slotWobbles * physSlot phys)
  let track := slotTrack (physSlot phys)
  let cur := s.g Od.CUR_TRACK n
  let pos := s.g Od.ANGLE_NOW n % 65536
  let ahead := (s.gi Od.SPIN_SPEED_MEAS n).toNat * 8 / 12800
  let rev := s.g Od.REV_COUNT n
  if track = cur ∧ pos + ahead ≤ sau then some ⟨kind, id, sau, rev % 65536, 344⟩
  else if track = cur + 1 then some ⟨kind, id, sau, (rev + 1) % 65536, 344⟩
  else none

/-- The place the drive works on next: its operation's, or the equaliser calibration's (R346). -/
def nextPlace (s : State) (n : Drive) : Option (Nat × Bool) :=
  let c := s.drives[n].cal
  if c.eqLeft ≠ 0 then some (physOf 0 (s.g Od.EQ_CAL_SHEAVES - c.eqLeft), false)
  else s.media.cur[n].bind fun o => o.next s n

/-- The speed allows a write gate (R242). -/
def writeSpeedOk (s : State) (n : Drive) : Bool :=
  decide ((s.gi Od.SPIN_SPEED_MEAS n).toNat * 200 ≤ rpmUnits (s.g Od.SPIN_WRITE_RPM) * 201)

/-- Schedule the gate of the drive's next place: only while LOCKED on the place's layer with nothing outstanding,
at most 8 events out, no inhibition, no write above the write speed (R194, R195, R242). -/
def schedGate (s : State) (n : Drive) : State :=
  let d := s.drives[n]
  match nextPlace s n with
  | none => s
  | some (phys, write) =>
    if s.g Od.ANGLE_STATE n = 3 ∧ s.g Od.CUR_LAYER n = physLayer phys ∧ s.g Od.DRIVE_FAULT n = 0 ∧
        d.toSend = [] ∧ d.outstanding = [] ∧ d.rx = none ∧ d.fe.gate = none ∧
        (write = false ∨ (writeSpeedOk s n = true ∧ s.g Od.PF_STATE = 0 ∧ s.gb Od.INTERLOCK_STATE 0 8 = false)) then
      match gateEvent s n phys (if write then 1 else 2) d.evtNext with
      | some e => s.setDv n fun d => { d with toSend := [e], evtNext := (d.evtNext + 1) % 256, inhibit := false }
      | none => s
    else s

/-- A wake that has reached D0: DRV_EXIT_LAT takes 7/8 of the old value and 1/8 of the exit, rounded (R436). -/
def wakeDone (s : State) (n : Drive) : State :=
  match s.drives[n].wake with
  | none => s
  | some (from_, t) =>
    let us := (s.now - t) / 1000
    let e := 5 * n + from_
    let old := s.g Od.DRV_EXIT_LAT e
    ((s.p Od.DRV_EXIT_LAT e ((14 * old + 2 * us + 8) / 16)).p Od.DRV_STATE n 0).setDv n fun d => { d with wake := none }

end Sys2Proof.Machine
end

