-- ==== Sys2Proof/Machine/Loop.lean ====
section
/-! DEFINITION. The arithmetic of the servo loops (R176 to R181), and the bulk cells of the links (R189, R363). -/

namespace Sys2Proof.Machine

/-- An integer divided by 2^sh, rounded to nearest, ties away from zero (R177). -/
def roundShift (v : Int) (sh : Nat) : Int :=
  let h : Int := 2 ^ (sh - 1)
  if v < 0 then -((-v + h) / 2 ^ sh) else (v + h) / 2 ^ sh

/-- Saturation at a `w`-bit signed range. -/
def satInt (w : Nat) (v : Int) : Int := clampInt (-(2 ^ (w - 1))) (2 ^ (w - 1) - 1) v

/-- One biquad in direct form II transposed (R178): its output and its states, which have 16 fraction bits. -/
def biquadStep (b0 b1 b2 a1 a2 : Int) (st : Int × Int) (x : Int) : Int × (Int × Int) :=
  let y := satInt 32 (roundShift (roundShift (b0 * x) 12 + st.1) 16)
  let s1 := satInt 48 (roundShift (b1 * x) 12 - roundShift (a1 * y) 12 + st.2)
  let s2 := satInt 48 (roundShift (b2 * x) 12 - roundShift (a2 * y) 12)
  (y, (s1, s2))

/-- Coefficient `j` of biquad `q` of loop `l` of drive `n` (R179). -/
def State.bqCoef (s : State) (n : Drive) (l q j : Nat) : Int := s.gsi Od.LOOP_BQ (80 * n + 20 * l + 5 * q + j)

/-- The loop's input in the unit of e (R177): loops 0 and 1 round the product once. -/
def loopIn (l : Fin 4) (gain trim e : Int) : Int :=
  if l.val ≤ 1 then satInt 32 (roundShift (e * gain * trim) 56)
  else satInt 32 (roundShift (satInt 32 (roundShift (e * gain) 28) * trim) 28)

/-- One sample of loop `l` of drive `n` (R177, R178, R181): the biquad states go on, the output is kept, and a clamped
output counts. -/
def loopStep (s : State) (n : Drive) (l : Fin 4) (e : Int) : State × Int :=
  let k := 4 * n.val + l.val
  let lp := s.drives[n].loops[l]
  let x := loopIn l (s.gsi Od.LOOP_IN_GAIN k) (s.gi Od.LOOP_TRIM k) e
  let r := (List.finRange 4).foldl (fun (r : Int × Vector (Int × Int) 4) (q : Fin 4) =>
    let (y, st) := biquadStep (s.bqCoef n l q 0) (s.bqCoef n l q 1) (s.bqCoef n l q 2) (s.bqCoef n l q 3)
      (s.bqCoef n l q 4) r.2[q] r.1
    (y, r.2.set q st)) (x, lp.bq)
  let raw := satInt 32 (roundShift (r.1 * s.gsi Od.LOOP_OUT_GAIN k) 28)
  let lo := s.gsi Od.LOOP_MIN k
  let hi := s.gsi Od.LOOP_MAX k
  let u := clampInt lo hi raw
  let s := if raw < lo ∨ hi < raw then s.inc Od.LOOP_SAT_CNT k else s
  (s.setDv n fun d => { d with loops := d.loops.set l ⟨r.2, u⟩ }, u)

/-! ### Bulk cells -/

/-- The characters of a bulk cell with `room` payload bytes (R189, R363): delimiter K27.7, TYPE, SEQ, LEN, payload,
CRC-32C of the characters from TYPE on. -/
def bulkChars (room : Nat) (c : BulkOut) : List Byte :=
  let body := leBytes 1 c.kind ++ leBytes 1 c.seq ++ leBytes 1 c.payload.length ++ padTo room c.payload
  0xFB#8 :: body ++ leBytes 4 (crc32c body)

/-- The cells of a frame that ACK_MAP leaves clear, and of these the ones that have been sent again 3 times already
(R189, R190). -/
def unacked (cells : List BulkOut) (ack : Nat) : List BulkOut × List BulkOut :=
  let miss := (cells.zipIdx.filter fun p => !ack.testBit p.2).map (·.1)
  ((miss.filter fun c => decide (c.resends < 3)).map fun c => { c with resends := c.resends + 1 },
    miss.filter fun c => decide (3 ≤ c.resends))

/-- A growing count against a limit per second (R221, R390): the times of the last second's errors. -/
def errorBurst (times : List Nat) (now : Nat) : List Nat := now :: times.filter fun t => decide (now < t + 1000000000)

end Sys2Proof.Machine
end

