-- ==== Sys2Proof/Machine/Record.lean ====
section
/-! DEFINITION. What a drive records and erases: laser powers, the write strategy, sheaves as channel bits and laser
pulses, and defect snapshots (R306, R323, R325, R331, R347 to R349). -/

namespace Sys2Proof.Machine

/-- The media type of the disc in a drive, as its magazine declares it (R23). -/
def State.mediaIn (s : State) (n : Drive) : Nat :=
  match s.media.disc[n] with
  | some i => i.media
  | none => s.discMedia (s.g Od.DRV_DISC n)

/-- The element of a power object for the layer under focus: 4 · (media − 1) + layer (R347, R351). -/
def State.powerIx (s : State) (n : Drive) (layer : Nat) : Nat := 4 * (s.mediaIn n - 1) + layer

/-- The laser pulses of a write gate, shaped by the write strategy of the disc's media type (R348). -/
def writePulses (s : State) (n : Drive) (layer : Nat) (bits : List Bool) : List Pulse :=
  let e := s.mediaIn n - 1
  let read := s.gs Od.READ_PWR (s.powerIx n layer)
  (nrzMarks bits).flatMap fun (t0, m) =>
    markPulses (s.gs Od.WS_FIRST_START e) (s.gs Od.WS_FIRST_W e) (s.gs Od.WS_MULTI_W e) (s.gs Od.WS_COOL_W e)
      (s.gs Od.WS_COOL_PWR e * read / 256) (s.g Od.WRITE_PWR_CUR (4 * n + layer)) t0 m

/-- Record one sheaf in a slot: its channel bits and pulses leave the drive (R306, R315, R348). -/
def recordSlot (s : State) (n : Drive) (phys : Nat) (m : Meta) (user : List Byte) : State :=
  let bits := recordBits (sheafFrames (physSlot phys) m user)
  { s with admin := { s.admin with sanitize := { s.admin.sanitize with cleanSince := false } } }.emit
    (.recorded n phys bits (writePulses s n (physLayer phys) bits))

/-- The metadata of the controller's own sheaves: no namespace and no stook (R319). -/
def ownMeta (s : State) (phys kind discId : Nat) : Meta :=
  { phys := phys, home := phys, valid := 0, kind := kind, flags := 0, time := s.utc, firstLba := 0, nsSlot := 0xFFFF
    family := 0xFFFF, pos := 0xFF, km := 0, discId := discId, dataCrc := 0 }

/-- The metadata of a sheaf of a write operation, at its write gate (R319, R327, R333, R336). -/
def sheafMeta (s : State) (o : MediaOp) (w : WSheaf) : Meta :=
  let parity := s.isParity o.disc
  let (fam, pos, km) := match s.stookOf o.disc with
    | some (f, p, k, m) => (f, p, k + 16 * m)
    | none => (0xFFFF, 0xFF, 0)
  let id := match s.driveOf o.disc with
    | some n => s.media.disc[n].elim 0 fun i => i.id
    | none => 0
  { phys := w.phys, home := w.home, valid := w.valid, kind := if parity then 4 else 3, flags := b2n (w.phys != w.home)
    time := s.utc, firstLba := if parity then 0 else w.lba, nsSlot := if parity then 0xFFFF else o.ns
    family := fam, pos := pos, km := km, discId := id, dataCrc := 0 }

/-- Write a new defect snapshot of the disc in a drive when its replacement list has changed and the list area has
room (R323, R325). -/
def writeSnapshot (s : State) (n : Drive) : State :=
  match s.media.disc[n] with
  | none => s
  | some i =>
    let parts := max 1 ((i.repl.length + 8183) / 8184)
    if i.changed && decide (i.listNext + parts ≤ 4096) then
      let s := s.each (List.range parts) fun s k =>
        recordSlot s n (physOf 0 (i.listNext + k)) (ownMeta s (physOf 0 (i.listNext + k)) 2 i.id)
          (snapshotBytes k parts i.spareNext.toList (slice (8184 * k) 8184 i.repl))
      s.setDisc n (some { i with changed := false, listNext := i.listNext + parts })
    else s
where
  /-- Entries `[lo, lo + n)` of the list. -/
  slice (lo k : Nat) (l : Keyed Nat) : List (Nat × Nat) := (l.drop lo).take k

end Sys2Proof.Machine
end

