-- ==== Sys2Proof/Machine/Axis.lean ====
section
/-! DEFINITION. Motion profiles, moves, stops, positions and retention records of the twenty axes (R358 to R389). -/

namespace Sys2Proof.Machine

/-! ### Profiles (R367, R368) -/

/-- A square root to 40 binary places, rounded down. -/
def sqrtRat (q : Rat) : Rat := (Nat.sqrt (q.num.toNat * 2 ^ 80 / q.den) : Rat) / 2 ^ 40

/-- The largest `x` below `2^bits` with `x^3` at most `v`. -/
def cbrtNat (v bits : Nat) : Nat :=
  (List.range bits).foldl (fun x i =>
    let y := x + 2 ^ (bits - 1 - i)
    if y * y * y ≤ v then y else x) 0

/-- A cube root to 40 binary places, rounded down. -/
def cbrtRat (q : Rat) : Rat := (cbrtNat (q.num.toNat * 2 ^ 120 / q.den) 90 : Rat) / 2 ^ 40

/-- A stretch of a profile: its duration in seconds, the acceleration at its start and its jerk. -/
abbrev Seg := Rat × Rat × Rat

/-- The trapezoid over a distance (R368): no cruise when the distance is below V²/A. -/
def trapezoid (dist v a : Rat) : List Seg :=
  if dist * a < v * v then
    let t := sqrtRat (dist / a)
    [(t, a, 0), (t, -a, 0)]
  else [(v / a, a, 0), ((dist - v * v / a) / v, 0, 0), (v / a, -a, 0)]

/-- The seven stretches of an S-curve with jerk time `tj`, plateau `tp`, peak acceleration `a` and cruise `tc`. -/
def sevenSegs (tj tp a j tc : Rat) : List Seg :=
  [(tj, 0, j), (tp, a, 0), (tj, a, -j), (tc, 0, 0), (tj, 0, -j), (tp, -a, 0), (tj, -a, j)]

/-- The S-curve over a distance (R368): the peak speed is lowered first, then the peak acceleration. -/
def sCurve (dist v a j : Rat) : List Seg :=
  let vmin := a * a / j
  let full := decide (vmin ≤ v)
  let tj := if full then a / j else sqrtRat (v / j)
  let tp := if full then v / a - tj else 0
  let half := v * (2 * tj + tp) / 2
  if 2 * half ≤ dist then sevenSegs tj tp (j * tj) j ((dist - 2 * half) / v)
  else
    let v1 := (sqrtRat (vmin * vmin + 4 * a * dist) - vmin) / 2
    if full ∧ vmin ≤ v1 then sevenSegs (a / j) (v1 / a - a / j) a j 0
    else
      let t := cbrtRat (dist / (2 * j))
      sevenSegs t 0 (j * t) j 0

/-- The profile of R368; none when the axis may not move at all. -/
def profile (dist : Rat) (v a j : Nat) : Option (List Seg) :=
  if v = 0 ∨ a = 0 then none else if j = 0 then some (trapezoid dist v a) else some (sCurve dist v a j)

/-- Position and speed at time `t` along a profile that starts at speed `v0`. -/
def profileFrom (v0 : Rat) (segs : List Seg) (t : Rat) : Rat × Rat :=
  let r := segs.foldl (fun (st : Rat × Rat × Rat) (g : Seg) =>
    let (x, v, t) := st
    let d := if t < g.1 then t else g.1
    (x + v * d + g.2.1 * d * d / 2 + g.2.2 * d * d * d / 6, v + g.2.1 * d + g.2.2 * d * d / 2, t - d)) (0, v0, t)
  (r.1, r.2.1)

/-- Position and speed at time `t` along a profile from rest. -/
def profileAt (segs : List Seg) (t : Rat) : Rat × Rat := profileFrom 0 segs t

/-- The deceleration of R368 from speed `v` to rest. -/
def decelSegs (v a j : Rat) : List Seg :=
  if j = 0 then [(v / a, -a, 0)]
  else if a * a / j ≤ v then [(a / j, 0, -j), (v / a - a / j, -a, 0), (a / j, -a, j)]
  else
    let t := sqrtRat (v / j)
    [(t, 0, -j), (t, -(j * t), j)]

/-- The duration of a profile in seconds. -/
def profileTime (segs : List Seg) : Rat := (segs.map (·.1)).sum

/-- The position in 1/65,536 unit, the speed in units per second, and whether the target is reached, at the end
of tick `k` of a move (R367). -/
def Move.at (m : Move) (k : Nat) : Int × Int × Bool :=
  let goal := m.target * 65536
  let dist : Rat := ((goal - m.start).natAbs : Rat) / 65536
  match profile dist m.v m.a m.j with
  | none => (m.start, 0, goal == m.start)
  | some segs =>
    let t : Rat := ((k - m.tick : Nat) : Rat) / 20000
    if profileTime segs ≤ t then (goal, 0, true)
    else
      let (x, v) := profileAt segs t
      let sgn : Int := if goal < m.start then -1 else 1
      (m.start + sgn * roundRat (x * 65536), sgn * roundRat v, false)

/-- Position, speed and whether rest is reached, at tick `k` of a stop that began at a position, speed and tick
(R375). -/
def haltAt (h : Int × Int × Nat) (a j k : Nat) : Int × Int × Bool :=
  let (p, v, t0) := h
  if a = 0 ∨ v = 0 then (p, 0, true)
  else
    let segs := decelSegs (v.natAbs : Rat) a j
    let total := (segs.map (·.1)).sum
    let t : Rat := ((k - t0 : Nat) : Rat) / 20000
    let (x, w) := profileFrom (v.natAbs : Rat) segs (if t < total then t else total)
    let sgn : Int := if v < 0 then -1 else 1
    (p + sgn * roundRat (x * 65536), if t < total then sgn * roundRat w else 0, decide (total ≤ t))

/-! ### Axes -/

def State.ax (s : State) (a : Axis) : AxisSt := s.motion.axes[a]

def State.setAx (s : State) (a : Axis) (f : AxisSt → AxisSt) : State :=
  { s with motion := { s.motion with axes := vmod s.motion.axes a f } }

def State.setStage (s : State) (i : Stage) (f : StageSt → StageSt) : State :=
  { s with motion := { s.motion with stages := vmod s.motion.stages i f } }

def State.setPicker (s : State) (f : Picker → Picker) : State :=
  { s with motion := { s.motion with picker := f s.motion.picker } }

/-- The stage that drives an axis (R358). -/
def axisStage (a : Axis) : Stage := if h : a.val < 16 then ⟨a.val / 4, by omega⟩ else 4

/-- A sled's drive. -/
def axisDrive (a : Axis) : Option Drive := if h : a.val < 16 then some ⟨a.val, h⟩ else none

def sledOf (n : Drive) : Axis := ⟨n.val, by omega⟩

/-- A value of the active image as stage `i` uses it: the former one until its next tick (R74). -/
def State.gm (s : State) (i : Stage) (o : Ob) (e : Nat := 0) : Nat :=
  Keyed.getD (s.stageImg[i].getD s.od) (o.el e) 0

def State.gmi (s : State) (i : Stage) (o : Ob) (e : Nat := 0) : Int := toInt o.bits (s.gm i o e)

/-- PICK_FAULT_CAUSE values. -/
def Cause.stall : Nat := 1
def Cause.limit : Nat := 2
def Cause.homeFail : Nat := 3
def Cause.jaw : Nat := 4
def Cause.orphan : Nat := 5
def Cause.lostDisc : Nat := 6
def Cause.link : Nat := 7
def Cause.carousel : Nat := 8

/-- The axis no longer knows where it is: POSITION LOST set, HOMED clear (R374, R388). -/
def loseAxis (s : State) (a : Axis) : State :=
  let s := (s.pb Od.MOT_FLAGS a 1 true).pb Od.MOT_FLAGS a 0 false
  if a = 16 then s.pb Od.CAR_FLAGS 0 1 true else s

/-- Put an axis on its stop ramp or profile stop (R375). The move is dropped; `again` keeps its target so that a
cleared stop lets it go on. -/
def stopAxis (s : State) (a : Axis) (k : StopKind) (again : Bool) : State :=
  match (s.ax a).move with
  | none => s
  | some m =>
    (s.p Od.MOT_STATE a 3).setAx a fun x => { x with
      stop := k, move := none, halt := some (x.pos, x.speed, s.g Od.MOT_TICK), after := .none
      resume := if again then some m.target else none }

/-- A picker fault (R394 to R396): the sequence stops, the picker axes go on their stop ramps, the state and cause
show it and the event is raised. -/
def pickFault (s : State) (cause : Nat) : State :=
  let s := (s.p Od.PICK_STATE 0 2).p Od.PICK_FAULT_CAUSE 0 cause
  let s := s.each ([16, 17, 18, 19] : List Axis) fun s a => stopAxis s a .ramp false
  let s := s.setPicker fun p => { p with seq := none, homing := 0, putBack := none }
  raise s Src.picker cause

/-- An axis fault: a sled's drive takes DRIVE_FAULT[5] and R215 and R219 apply; a picker axis faults the picker
(R369, R374, R379, R381). -/
def axisFault (s : State) (a : Axis) (cause : Nat) : State :=
  let s := (stopAxis s a .ramp false).p Od.MOT_STATE a 5
  match axisDrive a with
  | some n => faultDrive (inhibitDrive s n true true) n 5
  | none => pickFault s cause

/-- The stops that keep an axis from moving: the latched ESTOP stop and a power-fail sequence for all, the latched door stop for the
picker's axes (R42, R43, R46, R389). -/
def State.axisHeld (s : State) (a : Axis) : Bool :=
  s.gb Od.INTERLOCK_STATE 0 8 || s.g Od.PF_STATE != 0 ||
  (decide (16 ≤ a.val) && s.gb Od.INTERLOCK_STATE 0 9) || !s.driven

/-- The target lies within the axis's limits (R369). -/
def State.axisAllows (s : State) (a : Axis) (target : Int) : Bool :=
  decide (s.gmi (axisStage a) Od.MOT_POS_MIN a ≤ target) && decide (target ≤ s.gmi (axisStage a) Od.MOT_POS_MAX a)

/-- The carousel's way to an angle: the shorter direction, a tie in the negative one (R371). -/
def carouselGoal (fromPos : Int) (target : Nat) : Int :=
  let d := (target - fromPos) % 65536
  if d < 32768 then fromPos + d else fromPos + d - 65536

/-- A move starts on the values in force now (R367): refused outside the limits, kept for later while the axis is
held. -/
def beginMove (s : State) (a : Axis) (target : Int) (use : MoveFor) : State :=
  let i := axisStage a
  let free := use == .homeSeek || use == .homeRelease || use == .open_
  if s.axisHeld a then s.setAx a fun x => { x with resume := some target }
  else if !free && a ≠ 16 && !s.axisAllows a target then axisFault s a Cause.limit
  else
    let v := if use == .homeSeek then s.gm i Od.MOT_HOME_V a
      else if use == .homeRelease then s.gm i Od.MOT_HOME_V a / 8 else s.gm i Od.MOT_V_MAX a
    let m : Move := ⟨(s.ax a).pos, target, s.g Od.MOT_TICK, v, s.gm i Od.MOT_A_MAX a, s.gm i Od.MOT_J_MAX a, use⟩
    let s := (s.pb Od.MOT_FLAGS a 2 false).pb Od.MOT_FLAGS a 3 false
    (s.p Od.MOT_STATE a (if use == .homeSeek || use == .homeRelease then 4 else 2)).setAx a fun x => { x with
      move := some m, stop := .run, halt := none, after := .none, resume := none, energised := true }

/-! ### Retention records (R384 to R387) -/

/-- The valid retention record of an axis: the one with the newer SEQ (R384, R707). -/
def AxisSt.record (x : AxisSt) : Option MotRec :=
  match x.kept[0], x.kept[1] with
  | some a, some b => if newerSeq a.seq b.seq then some a else some b
  | some a, none => some a
  | none, some b => some b
  | none, none => none

/-- Write a new retention record into the other of the axis's two positions (R384, R385). -/
def writeRec (s : State) (a : Axis) (state disc discSlot : Nat) : State :=
  let x := s.ax a
  let seq := (x.record.elim 0 fun r => r.seq + 1) % 2 ^ 32
  let r : MotRec := ⟨state, seq, s.gi Od.MOT_POS a, s.g Od.MOT_USTEP a, s.gb Od.MOT_FLAGS a 0, disc, discSlot, s.utc⟩
  (s.setAx a fun x => { x with kept := if seq % 2 = 0 then x.kept.set 0 (some r) else x.kept.set 1 (some r) }).chestWrite
    Region.state (Pos.motion a seq)

/-- Disc and slot in the newest record of an axis. -/
def AxisSt.discOf (x : AxisSt) : Nat × Nat := x.record.elim (0, 0xFFFF) fun r => (r.disc, r.discSlot)

/-- A record for a change of DISC or DISC_SLOT (R385). -/
def writeDiscRec (s : State) (a : Axis) (disc slot : Nat) : State :=
  writeRec s a ((s.ax a).record.elim 1 fun r => r.state) disc slot

/-- The steppers of a stage (R18). -/
def stageSteppers (i : Stage) : List Axis :=
  if h : i.val < 4 then (List.finRange 4).map fun b => ⟨4 * i.val + b.val, by omega⟩ else [17, 18, 19]

/-- An orderly power-down of a stage's bridges (R386): steppers at rest, indices stored, coils off, RETAINED set and
a RETAINED record for each axis that was energised. -/
def bridgeDown (s : State) (i : Stage) : State :=
  let s := s.setStage i fun g => { g with pwrDown := true, energise := false }
  s.each (stageSteppers i) fun s a =>
    if (s.ax a).energised then
      let s := ((s.pb Od.MOT_FLAGS a 4 true).p Od.MOT_STATE a 0).p Od.MOT_I_NOW a 0
      let s := s.setAx a fun x => { x with energised := false, move := none, stop := .run, coil := 0 }
      let (d, l) := (s.ax a).discOf
      writeRec s a 2 d l
    else s

/-- Re-energise a stepper (R385, R387): an ENERGISED record first; a position that the stage's index or the record
contradicts is lost and the axis is to be homed. -/
def reEnergise (s : State) (a : Axis) (ustep : Option Nat) : State :=
  let x := s.ax a
  let pos := s.gi Od.MOT_POS a
  let good := match ustep, x.record with
    | some u, _ => decide ((u : Int) = pos % 1024)
    | none, some r => r.state == 2 && decide ((r.ustep : Int) = r.pos % 1024)
    | none, none => false
  let s := if ustep.isNone then match x.record with
    | some r => if good then ((s.pi Od.MOT_POS a r.pos).pb Od.MOT_FLAGS a 0 r.homed).setAx a fun x => { x with pos := r.pos * 65536 } else s
    | none => s else s
  let (d, l) := x.discOf
  let s := writeRec s a 1 d l
  let s := (s.pb Od.MOT_FLAGS a 4 false).p Od.MOT_STATE a 1
  let s := s.setAx a fun x => { x with energised := true }
  let s := s.setStage (axisStage a) fun g => { g with energise := true, pwrDown := false }
  if good then s else loseAxis s a

/-! ### Homing (R381 to R383) -/

/-- The input whose switch homes an axis: its stage and input number (R18). -/
def homeInput (a : Axis) : Option (Fin 8) :=
  if h : a.val < 16 then some ⟨a.val % 4, by omega⟩
  else if a = 17 then some 0 else if a = 18 then some 2 else if a = 16 then some 6 else none

/-- Input `i` of a stage is active. -/
def State.inputOn (s : State) (g : Stage) (i : Fin 8) : Bool := s.motion.stages[g].level.getLsbD i

/-- Begin to home an axis (R381, R383): a stepper whose switch is already active goes straight to the release. -/
def homeAxis (s : State) (a : Axis) : State :=
  let here := (s.ax a).pos / 65536
  let s := s.setAx a fun x => { x with homeFrom := some here }
  let range : Int := s.gm (axisStage a) Od.MOT_HOME_RANGE a
  match homeInput a with
  | none => s
  | some i =>
    if a = 16 then beginMove s a (here + range) .homeSeek
    else if s.inputOn (axisStage a) i then beginMove s a (here + range) .homeRelease
    else beginMove s a (here - range) .homeSeek

/-- A move of an axis: a lost stepper position is homed first and the move kept for later (R380, R387). -/
def startMove (s : State) (a : Axis) (target : Int) (use : MoveFor) : State :=
  if s.gb Od.MOT_FLAGS a 1 && a ≠ 19 && !s.axisHeld a then
    (homeAxis s a).setAx a fun x => { x with resume := some target }
  else beginMove s a target use

/-- Begin to home the picker: reach, then elevator, then carousel (R383). -/
def homePicker (s : State) : State :=
  let s := (s.p Od.PICK_STATE 0 3).setPicker fun p => { p with homing := 1, seq := none }
  homeAxis s 18

end Sys2Proof.Machine
end

