-- ==== Sys2Proof/Machine/Spindle.lean ====
section
/-! DEFINITION. The spindle's starting, stopping and faults, the voltage limit, and the carousel's resolver (R227 to
R256). -/

namespace Sys2Proof.Machine

/-- Drive `n` has work: an operation executes, waits for its disc, or a wake is under way. -/
def State.hasWork (s : State) (n : Drive) : Bool :=
  s.media.cur[n].isSome || s.drives[n].wake.isSome || s.drives[n].cal.req != 0 ||
  (s.g Od.DRV_DISC n != 0xFFFF && s.media.ops.any fun o => o.disc == s.g Od.DRV_DISC n)

/-- The motor of a drive or of the carousel as the controller holds it. -/
def State.mot (s : State) (m : Motor) : MotorSt := s.motion.motors[m]

/-- The measured speed of a spindle, in 1/256 SAU per tick; a negative measurement counts as none. -/
def State.spinMeas (s : State) (n : Drive) : Nat := (s.gi Od.SPIN_SPEED_MEAS n).toNat

/-- The part number of a motor's stage: 17 + i (R18). -/
def motorPart (m : Motor) : Fin 22 := if h : m.val < 16 then ⟨17 + m.val / 4, by omega⟩ else 21

/-- A spindle fault (R256): the cause, DRIVE_FAULT[6], R215 and R219, and the action of its cause. After an
overcurrent trip or a stop timeout the spindle coasts, and is in FAULT once it has stopped. -/
def spinFault (s : State) (n : Drive) (cause : Nat) : State :=
  let s := mlockExit s n
  let coasts := decide (5 ≤ cause)
  let s := (s.p Od.SPIN_FAULT_CAUSE n cause).p Od.SPIN_STATE n (if coasts then 8 else 9)
  let s := (s.pb Od.SPIN_FLAGS n 2 false).p Od.SPIN_TARGET n 0
  let s := s.setMot (spindleOf n) fun m => { m with tripped := coasts, stopping := false, ticks := 0, lowTicks := 0, iq := 0 }
  faultDrive (inhibitDrive s n true true) n 6

/-- HFI_ALIGN_DONE: after HFI_SETTLE ticks of ALIGN the SIGN pulses begin (R231 step 1). -/
def execHfiAlignDone (n : Drive) (s : State) : Out :=
  act s fun s =>
    if s.g Od.SPIN_STATE n = 1 ∧ s.g Od.HFI_SETTLE ≤ (s.mot (spindleOf n)).ticks then
      (s.p Od.SPIN_STATE n 2).setMot (spindleOf n) fun m => { m with ticks := 0 }
    else s

/-- The ratio of the larger to the smaller peak in thousandths; where the smaller is 0 or the ratio does not fit,
the spec states none and the value is free (R231). -/
def signRatio (s : State) (big small : Nat) : State × Nat :=
  if small = 0 ∨ 65535 < big * 1000 / small then (s.useFree, s.free 16) else (s, big * 1000 / small)

/-- HFI_SIGN_DECISION: the two pulses' peaks decide the 180° ambiguity, repeat ALIGN and SIGN up to 3 times in all, or
fault the spindle (R231 step 2, R256). -/
def execHfiSignDecision (n : Drive) (plus minus : Nat) (s : State) : Out :=
  act s fun s =>
    if s.g Od.SPIN_STATE n ≠ 2 then s
    else
      let big := max plus minus
      let small := min plus minus
      let (s, r) := signRatio s big small
      let s := s.p Od.HFI_SIGN_RATIO n r
      if 0 < big ∧ small * (100 + s.g Od.HFI_SIGN_MARGIN) ≤ big * 100 then
        (s.p Od.SPIN_STATE n 3).setMot (spindleOf n) fun m => { m with
          eangle := if plus < minus then (m.eangle + 32768) % 65536 else m.eangle, ticks := 0, ramp := 0 }
      else if 2 ≤ (s.mot (spindleOf n)).attempts then spinFault s n 1
      else (s.p Od.SPIN_STATE n 1).setMot (spindleOf n) fun m => { m with ticks := 0, attempts := m.attempts + 1 }

/-- The VLIM flag of a motor. -/
def State.vlim (s : State) (m : Motor) : Bool :=
  if m.val < 16 then s.gb Od.SPIN_FLAGS m 0 else s.gb Od.CAR_FLAGS 0 0

def State.setVlim (s : State) (m : Motor) (b : Bool) : State :=
  if m.val < 16 then s.pb Od.SPIN_FLAGS m 0 b else s.pb Od.CAR_FLAGS 0 0 b

/-- VOLTAGE_LIMIT_SET: MOD_INDEX has read 1,000 for VLIM_TICKS ticks (R243). -/
def execVoltageLimitSet (m : Motor) (s : State) : Out :=
  act s fun s =>
    if s.vlim m = false ∧ s.g Od.VLIM_TICKS ≤ (s.mot m).vHigh then
      let s := (s.setVlim m true).inc Od.VLIM_CNT m
      let s := s.setMot m fun x => { x with vlimTick := s.g Od.MOT_TICK }
      raise s (Src.voltageLimit m) (s.g Od.MOD_INDEX m)
    else s

/-- VOLTAGE_LIMIT_CLEAR: MOD_INDEX has read below 980 for VLIM_TICKS ticks; SETTLED clears too (R243, R244). -/
def execVoltageLimitClear (m : Motor) (s : State) : Out :=
  act s fun s =>
    if s.vlim m = true ∧ s.g Od.VLIM_TICKS ≤ (s.mot m).vLow then
      let s := s.setVlim m false
      if m.val < 16 then s.pb Od.SPIN_FLAGS m 2 false else s
    else s

/-- SPIN_SETTLED: VLIM for 100 ms and the speed within 0.2 % over 20 ms, so that the target becomes the measured speed
(R244). The speeds of the last 400 ticks are kept, newest first. -/
def execSpinSettled (n : Drive) (s : State) : Out :=
  act s fun s =>
    let m := s.mot (spindleOf n)
    let meas := s.gi Od.SPIN_SPEED_MEAS n
    let st := s.g Od.SPIN_STATE n
    if s.vlim (spindleOf n) = true ∧ 3 ≤ st ∧ st ≤ 5 ∧ m.vlimTick + 2000 ≤ s.g Od.MOT_TICK ∧ 400 ≤ m.speeds.length ∧
        (meas - m.speeds.getLastD 0).natAbs * 1000 < meas.natAbs * 2 then
      (s.p Od.SPIN_TARGET n meas.toNat).pb Od.SPIN_FLAGS n 2 true
    else s

/-- SPIN_BRAKE: a spindle whose drive is below D1 and has no operation is to stop (R245). -/
def execSpinBrake (n : Drive) (s : State) : Out :=
  act s fun s =>
    if s.media.cur[n] = none ∧ 2 ≤ s.g Od.DRV_STATE n then spinBrake s n else s

/-- A spindle that stands still: STOPPED, the drive in D3, or D4 without a disc; work starts it again (R246, R250). A
tripped or faulted spindle is in FAULT (R256). -/
def spinStopped (s : State) (n : Drive) : State :=
  let st := s.g Od.SPIN_STATE n
  let s := s.setDv n fun d => { d with laserMode := 0 }
  if st = 9 ∨ (s.mot (spindleOf n)).tripped = true then
    (s.p Od.SPIN_STATE n 9).setMot (spindleOf n) fun m => { m with tripped := false }
  else
    let s := ((s.p Od.SPIN_STATE n 0).p Od.SPIN_TARGET n 0).p Od.DRV_STATE n (if s.g Od.DRV_DISC n = 0xFFFF then 4 else 3)
    let s := angleOpen (openLoops (s.setDv n fun d => { d with proc := .idle }) n true) n
    let s := (s.p Od.DRIVE_SERVO_STATE n 0).setAx (sledOf n) fun x => { x with resume := none }
    if s.hasWork n then wakeDrive s n else s

/-- SPIN_STOPPED: below 20 rpm for 200 ms, 4,000 ticks (R246, R250). -/
def execSpinStopped (n : Drive) (s : State) : Out :=
  act s fun s =>
    let st := s.g Od.SPIN_STATE n
    if (st = 7 ∨ st = 8 ∨ st = 9) ∧ 4000 ≤ (s.mot (spindleOf n)).lowTicks then spinStopped s n else s

/-- SPIN_STOP_TIMEOUT: the spindle has not stopped in time (R247, R256). -/
def execSpinStopTimeout (n : Drive) (s : State) : Out :=
  act s fun s =>
    let st := s.g Od.SPIN_STATE n
    if st = 6 ∨ st = 7 then spinFault s n 6 else s

/-- SPIN_START_TIMEOUT: 240 rpm has not been reached in time (R256). -/
def execSpinStartTimeout (n : Drive) (s : State) : Out :=
  act s fun s =>
    let st := s.g Od.SPIN_STATE n
    if st = 1 ∨ st = 2 ∨ (st = 3 ∧ s.spinMeas n < rpmUnits 240) then spinFault s n 3 else s

/-- A spindle is driven again from its observer: the target rises from the measured speed (R248, R250). -/
def spinResume (s : State) (n : Drive) : State :=
  ((s.p Od.SPIN_STATE n 4).p Od.SPIN_TARGET n (s.spinMeas n)).setMot (spindleOf n) fun m => { m with
    stopping := false, ramp := 0, lowTicks := 0, ticks := 0 }

/-- BRAKE_REVERSE: work for a drive whose spindle is in BRAKING (R248). -/
def execBrakeReverse (n : Drive) (s : State) : Out :=
  act s fun s =>
    if s.g Od.SPIN_STATE n = 6 ∧ s.hasWork n = true ∧ s.driven = true ∧ s.g Od.DRIVE_FAULT n = 0 then
      wakeDrive (spinResume s n) n
    else s

/-- The carousel faults: CAR_STATE FAULT, its position lost, RES_FAULT_CNT, and the picker fault (R254, R255, R396). -/
def carouselFault (s : State) (openLoop : Bool) : State :=
  let s := loseAxis ((s.p Od.CAR_STATE 0 3).inc Od.RES_FAULT_CNT) 16
  let rate := 20000 * (s.ax 16).speed
  let s := if openLoop then s.setMot 16 fun m => { m with openRate := some rate } else s
  pickFault (stopAxis s 16 .ramp false) Cause.carousel

/-- OVERCURRENT: the stage has made the bridge high-impedance (R227, R256). A carousel trip faults the carousel. -/
def execOvercurrent (m : Motor) (s : State) : Out :=
  actPart (motorPart m) s fun s =>
    if h : m.val < 16 then
      let n : Drive := ⟨m.val, h⟩
      let st := s.g Od.SPIN_STATE n
      if 1 ≤ st ∧ st ≤ 7 then spinFault s n 5 else s
    else if s.g Od.CAR_STATE = 1 then
      let s := loseAxis (s.p Od.CAR_STATE 0 3) 16
      pickFault (s.setAx 16 fun x => { x with move := none, energised := false }) Cause.carousel
    else s

/-- RESOLVER_FAULT: RES_AMPL outside 500 to 1,500 for 3 ticks; the carousel stops open-loop (R254). -/
def execResolverFault (s : State) : Out :=
  act s fun s =>
    if 3 ≤ (s.mot 16).resBad ∧ (s.mot 16).openRate = none ∧ s.g Od.CAR_STATE ≠ 0 then carouselFault s true else s

end Sys2Proof.Machine
end

