-- ==== Sys2Proof/Machine/Crypto.lean ====
section
/-! DEFINITION. The cryptographic functions the spec names: SHA-256 and SHA-384 (FIPS 180-4), HMAC and the
counter-mode KDF (R151), AES-256 with key wrap (R152), XTS (R320) and GCM (R574), and the check value (R156). -/

namespace Sys2Proof.Machine

/-! ### SHA-2 -/

/-- The round constants of SHA-256. -/
def sha256K : List Word32 :=
  ([0x428A2F98, 0x71374491, 0xB5C0FBCF, 0xE9B5DBA5, 0x3956C25B, 0x59F111F1, 0x923F82A4, 0xAB1C5ED5] ++
  [0xD807AA98, 0x12835B01, 0x243185BE, 0x550C7DC3, 0x72BE5D74, 0x80DEB1FE, 0x9BDC06A7, 0xC19BF174] ++
  [0xE49B69C1, 0xEFBE4786, 0x0FC19DC6, 0x240CA1CC, 0x2DE92C6F, 0x4A7484AA, 0x5CB0A9DC, 0x76F988DA] ++
  [0x983E5152, 0xA831C66D, 0xB00327C8, 0xBF597FC7, 0xC6E00BF3, 0xD5A79147, 0x06CA6351, 0x14292967] ++
  [0x27B70A85, 0x2E1B2138, 0x4D2C6DFC, 0x53380D13, 0x650A7354, 0x766A0ABB, 0x81C2C92E, 0x92722C85] ++
  [0xA2BFE8A1, 0xA81A664B, 0xC24B8B70, 0xC76C51A3, 0xD192E819, 0xD6990624, 0xF40E3585, 0x106AA070] ++
  [0x19A4C116, 0x1E376C08, 0x2748774C, 0x34B0BCB5, 0x391C0CB3, 0x4ED8AA4A, 0x5B9CCA4F, 0x682E6FF3] ++
  [0x748F82EE, 0x78A5636F, 0x84C87814, 0x8CC70208, 0x90BEFFFA, 0xA4506CEB, 0xBEF9A3F7, 0xC67178F2]).map (BitVec.ofNat 32)

/-- The initial state of SHA-256. -/
def sha256Init : List Word32 :=
  ([0x6A09E667, 0xBB67AE85, 0x3C6EF372, 0xA54FF53A, 0x510E527F, 0x9B05688C, 0x1F83D9AB, 0x5BE0CD19]).map (BitVec.ofNat 32)

/-- The round constants of SHA-384. -/
def sha512K : List (BitVec 64) :=
  ([0x428A2F98D728AE22, 0x7137449123EF65CD, 0xB5C0FBCFEC4D3B2F, 0xE9B5DBA58189DBBC] ++
  [0x3956C25BF348B538, 0x59F111F1B605D019, 0x923F82A4AF194F9B, 0xAB1C5ED5DA6D8118] ++
  [0xD807AA98A3030242, 0x12835B0145706FBE, 0x243185BE4EE4B28C, 0x550C7DC3D5FFB4E2] ++
  [0x72BE5D74F27B896F, 0x80DEB1FE3B1696B1, 0x9BDC06A725C71235, 0xC19BF174CF692694] ++
  [0xE49B69C19EF14AD2, 0xEFBE4786384F25E3, 0x0FC19DC68B8CD5B5, 0x240CA1CC77AC9C65] ++
  [0x2DE92C6F592B0275, 0x4A7484AA6EA6E483, 0x5CB0A9DCBD41FBD4, 0x76F988DA831153B5] ++
  [0x983E5152EE66DFAB, 0xA831C66D2DB43210, 0xB00327C898FB213F, 0xBF597FC7BEEF0EE4] ++
  [0xC6E00BF33DA88FC2, 0xD5A79147930AA725, 0x06CA6351E003826F, 0x142929670A0E6E70] ++
  [0x27B70A8546D22FFC, 0x2E1B21385C26C926, 0x4D2C6DFC5AC42AED, 0x53380D139D95B3DF] ++
  [0x650A73548BAF63DE, 0x766A0ABB3C77B2A8, 0x81C2C92E47EDAEE6, 0x92722C851482353B] ++
  [0xA2BFE8A14CF10364, 0xA81A664BBC423001, 0xC24B8B70D0F89791, 0xC76C51A30654BE30] ++
  [0xD192E819D6EF5218, 0xD69906245565A910, 0xF40E35855771202A, 0x106AA07032BBD1B8] ++
  [0x19A4C116B8D2D0C8, 0x1E376C085141AB53, 0x2748774CDF8EEB99, 0x34B0BCB5E19B48A8] ++
  [0x391C0CB3C5C95A63, 0x4ED8AA4AE3418ACB, 0x5B9CCA4F7763E373, 0x682E6FF3D6B2B8A3] ++
  [0x748F82EE5DEFB2FC, 0x78A5636F43172F60, 0x84C87814A1F0AB72, 0x8CC702081A6439EC] ++
  [0x90BEFFFA23631E28, 0xA4506CEBDE82BDE9, 0xBEF9A3F7B2C67915, 0xC67178F2E372532B] ++
  [0xCA273ECEEA26619C, 0xD186B8C721C0C207, 0xEADA7DD6CDE0EB1E, 0xF57D4F7FEE6ED178] ++
  [0x06F067AA72176FBA, 0x0A637DC5A2C898A6, 0x113F9804BEF90DAE, 0x1B710B35131C471B] ++
  [0x28DB77F523047D84, 0x32CAAB7B40C72493, 0x3C9EBE0A15C9BEBC, 0x431D67C49C100D4C] ++
  [0x4CC5D4BECB3E42B6, 0x597F299CFC657E2A, 0x5FCB6FAB3AD6FAEC, 0x6C44198C4A475817]).map (BitVec.ofNat 64)

/-- The initial state of SHA-384. -/
def sha384Init : List (BitVec 64) :=
  ([0xCBBB9D5DC1059ED8, 0x629A292A367CD507, 0x9159015A3070DD17, 0x152FECD8F70E5939] ++
  [0x67332667FFC00B31, 0x8EB44A8768581511, 0xDB0C2E0D64F98FA7, 0x47B5481DBEFA4FA4]).map (BitVec.ofNat 64)

/-- The rotation amounts of one member of the family: Σ0, Σ1, then σ0 and σ1 with their shifts. -/
structure ShaRot where
  s0 : Nat × Nat × Nat
  s1 : Nat × Nat × Nat
  r0 : Nat × Nat × Nat
  r1 : Nat × Nat × Nat

def sha256Rot : ShaRot := ⟨(2, 13, 22), (6, 11, 25), (7, 18, 3), (17, 19, 10)⟩
def sha512Rot : ShaRot := ⟨(28, 34, 39), (14, 18, 41), (1, 8, 7), (19, 61, 6)⟩

variable {w : Nat}

def shaRotr3 (t : Nat × Nat × Nat) (x : BitVec w) : BitVec w :=
  x.rotateRight t.1 ^^^ x.rotateRight t.2.1 ^^^ x.rotateRight t.2.2

def shaRotShr (t : Nat × Nat × Nat) (x : BitVec w) : BitVec w :=
  x.rotateRight t.1 ^^^ x.rotateRight t.2.1 ^^^ (x >>> t.2.2)

/-- The message schedule: `win` holds the last 16 words, oldest first; one word per round is appended. -/
def shaRounds (rot : ShaRot) : List (BitVec w) → List (BitVec w) → List (BitVec w) → List (BitVec w)
  | [], _, st => st
  | k :: ks, win, st =>
    match st with
    | [a, b, c, d, e, f, g, h] =>
      let wt := win.headD 0
      let t1 := h + shaRotr3 rot.s1 e + ((e &&& f) ^^^ (~~~e &&& g)) + k + wt
      let t2 := shaRotr3 rot.s0 a + ((a &&& b) ^^^ (a &&& c) ^^^ (b &&& c))
      let nw := wt + shaRotShr rot.r0 (win.getD 1 0) + win.getD 9 0 + shaRotShr rot.r1 (win.getD 14 0)
      shaRounds rot ks (win.drop 1 ++ [nw]) [t1 + t2, a, b, c, d + t1, e, f, g]
    | _ => st

/-- Big-endian words of a byte string. -/
def beWords (w n : Nat) (bs : List Byte) : List (BitVec w) :=
  (List.range n).map fun i => BitVec.ofNat w (ofBe (slice (w / 8 * i) (w / 8) bs))

/-- One block of the compression function. -/
def shaBlock (rot : ShaRot) (ks st : List (BitVec w)) (block : List Byte) : List (BitVec w) :=
  List.zipWith (· + ·) st (shaRounds rot ks (beWords w 16 block) st)

/-- Absorb `n` whole blocks. -/
def shaBlocks (rot : ShaRot) (ks : List (BitVec w)) : Nat → List (BitVec w) → List Byte → List (BitVec w)
  | 0, st, _ => st
  | n + 1, st, bs => shaBlocks rot ks n (shaBlock rot ks st (bs.take (2 * w))) (bs.drop (2 * w))

/-- The padding of a message of `len` bytes with blocks of `b` bytes and a length field of `l` bytes. -/
def shaPad (b l len : Nat) : List Byte :=
  0x80#8 :: List.replicate ((b - (len + 1 + l) % b) % b) 0#8 ++ beBytes l (8 * len)

def wordBytes (st : List (BitVec w)) : List Byte := st.flatMap fun x => beBytes (w / 8) x.toNat

/-- SHA-256 (FIPS 180-4). -/
def sha256 (bs : List Byte) : List Byte :=
  let m := bs ++ shaPad 64 8 bs.length
  wordBytes (shaBlocks sha256Rot sha256K (m.length / 64) sha256Init m)

/-- SHA-384 (FIPS 180-4). -/
def sha384 (bs : List Byte) : List Byte :=
  let m := bs ++ shaPad 128 16 bs.length
  (wordBytes (shaBlocks sha512Rot sha512K (m.length / 128) sha384Init m)).take 48

/-- HMAC-SHA-256 with a key of at most 64 bytes. -/
def hmac256 (key msg : List Byte) : List Byte :=
  let k := padTo 64 key
  sha256 (k.map (· ^^^ 0x5C#8) ++ sha256 (k.map (· ^^^ 0x36#8) ++ msg))

/-- The counter-mode KDF of SP 800-108 for one 256-bit key (R151). The counter and the length are 32 bits,
most significant byte first: DEDUCED, log entry 39. -/
def kdfCounter (secret label ctx : List Byte) : List Byte :=
  hmac256 secret (beBytes 4 1 ++ label ++ [0#8] ++ ctx ++ beBytes 4 256)

/-! ### AES-256 -/

/-- Multiplication by x in the field of AES. -/
def aesDouble (a : Byte) : Byte := if a.getLsbD 7 then (a <<< 1) ^^^ 0x1B#8 else a <<< 1

def aesMul (a b : Byte) : Byte :=
  (List.range 8).foldl (fun acc i => aesDouble acc ^^^ (if b.getLsbD (7 - i) then a else 0#8)) 0#8

def aesPow (a : Byte) : Nat → Byte
  | 0 => 1#8
  | n + 1 => aesMul a (aesPow a n)

/-- The S-box: inversion and the affine map. -/
def aesSub (a : Byte) : Byte :=
  let b := aesPow a 254
  b ^^^ b.rotateLeft 1 ^^^ b.rotateLeft 2 ^^^ b.rotateLeft 3 ^^^ b.rotateLeft 4 ^^^ 0x63#8

/-- The inverse S-box. -/
def aesSubInv (a : Byte) : Byte := aesPow (a.rotateLeft 1 ^^^ a.rotateLeft 3 ^^^ a.rotateLeft 6 ^^^ 0x05#8) 254

def xorBytes (a b : List Byte) : List Byte := List.zipWith (· ^^^ ·) a b

/-- The key schedule of AES-256 as 60 words of 4 bytes; `n` words are still to be made, `i` is the next. -/
def aesExpand : Nat → Nat → List (List Byte) → List (List Byte)
  | 0, _, ws => ws
  | n + 1, i, ws =>
    let prev := ws.getLastD []
    let t :=
      if i % 8 = 0 then
        match (prev.drop 1 ++ prev.take 1).map aesSub with
        | a :: r => (a ^^^ aesPow 2#8 (i / 8 - 1)) :: r
        | [] => []
      else if i % 8 = 4 then prev.map aesSub else prev
    aesExpand n (i + 1) (ws ++ [xorBytes (ws.getD (i - 8) []) t])

/-- The fifteen round keys of 16 bytes. -/
def aesKeys (key : List Byte) : List (List Byte) :=
  let ws := aesExpand 52 8 ((List.range 8).map fun i => slice (4 * i) 4 key)
  (List.range 15).map fun r => ((ws.drop (4 * r)).take 4).flatten

/-- Row shift: byte r + 4c comes from column (c + k·r) mod 4. -/
def aesShift (k : Nat) (st : List Byte) : List Byte :=
  (List.range 16).map fun i => st.getD (i % 4 + 4 * ((i / 4 + k * (i % 4)) % 4)) 0#8

/-- Column mixing with the circulant of the four given coefficients. -/
def aesMix (m : List Byte) (st : List Byte) : List Byte :=
  (List.range 16).map fun i =>
    (List.range 4).foldl (fun acc j =>
      acc ^^^ aesMul (m.getD ((j + 4 - i % 4) % 4) 0#8) (st.getD (4 * (i / 4) + j) 0#8)) 0#8

/-- Encrypt one block with the round keys that follow the first. -/
def aesEncRounds : List (List Byte) → List Byte → List Byte
  | [], st => st
  | [k], st => xorBytes (aesShift 1 (st.map aesSub)) k
  | k :: ks, st => aesEncRounds ks (xorBytes (aesMix [2#8, 3#8, 1#8, 1#8] (aesShift 1 (st.map aesSub))) k)

/-- AES-256 encryption of one block. -/
def aesEnc (key block : List Byte) : List Byte :=
  match aesKeys key with
  | k :: ks => aesEncRounds ks (xorBytes block k)
  | [] => block

/-- Decrypt one block with the round keys before the last, last first. -/
def aesDecRounds : List (List Byte) → List Byte → List Byte
  | [], st => st
  | [k], st => xorBytes ((aesShift 3 st).map aesSubInv) k
  | k :: ks, st => aesDecRounds ks (aesMix [14#8, 11#8, 13#8, 9#8] (xorBytes ((aesShift 3 st).map aesSubInv) k))

/-- AES-256 decryption of one block. -/
def aesDec (key block : List Byte) : List Byte :=
  match (aesKeys key).reverse with
  | k :: ks => aesDecRounds ks (xorBytes block k)
  | [] => block

/-- The six passes of RFC 3394 key wrap over `n` 8-byte registers, step `t` next. -/
def wrapSteps (kek : List Byte) : Nat → Nat → List Byte → List (List Byte) → List Byte × List (List Byte)
  | 0, _, a, r => (a, r)
  | m + 1, t, a, r =>
    let n := r.length
    let i := (t - 1) % n
    let b := aesEnc kek (a ++ r.getD i [])
    wrapSteps kek m (t + 1) (xorBytes (b.take 8) (beBytes 8 t)) (r.set i (b.drop 8))

/-- AES key wrap of a 32-byte secret with the default initial value (R152). -/
def keyWrap (kek secret : List Byte) : List Byte :=
  let r := (List.range 4).map fun i => slice (8 * i) 8 secret
  let (a, r) := wrapSteps kek 24 1 (List.replicate 8 0xA6#8) r
  a ++ r.flatten

/-! ### XTS (R320) -/

/-- Multiplication of a tweak by α: the value is little-endian with polynomial x^128 + x^7 + x^2 + x + 1. -/
def xtsDouble (t : BitVec 128) : BitVec 128 := if t.getLsbD 127 then (t <<< 1) ^^^ 0x87#128 else t <<< 1

/-- `n` whole blocks of a data unit under the tweak `t`. -/
def xtsBlocks (f : List Byte → List Byte) : Nat → BitVec 128 → List Byte → List Byte
  | 0, _, _ => []
  | n + 1, t, bs =>
    let tb := leBytes 16 t.toNat
    xorBytes (f (xorBytes (bs.take 16) tb)) tb ++ xtsBlocks f n (xtsDouble t) (bs.drop 16)

/-- AES-256-XTS of one data unit, its number a 128-bit little-endian value (R320). -/
def xts (f : List Byte → List Byte → List Byte) (dataKey tweakKey : List Byte) (du : Nat) (bs : List Byte) : List Byte :=
  xtsBlocks (f dataKey) (bs.length / 16) (BitVec.ofNat 128 (ofLe (aesEnc tweakKey (leBytes 16 du)))) bs

def xtsEncrypt := xts aesEnc
def xtsDecrypt := xts aesDec

/-! ### GCM (R574) -/

/-- Multiplication in GF(2^128) as GCM takes it: bit 127 of the value is the coefficient of x^0. -/
def ghashMul (x y : BitVec 128) : BitVec 128 :=
  ((List.range 128).foldl (fun (p : BitVec 128 × BitVec 128) i =>
    let z := if x.getLsbD (127 - i) then p.1 ^^^ p.2 else p.1
    let v := if p.2.getLsbD 0 then (p.2 >>> 1) ^^^ (0xE1#128 <<< 120) else p.2 >>> 1
    (z, v)) (0#128, y)).1

/-- GHASH over `n` blocks. -/
def ghash (h : BitVec 128) : Nat → BitVec 128 → List Byte → BitVec 128
  | 0, y, _ => y
  | n + 1, y, bs => ghash h n (ghashMul (y ^^^ BitVec.ofNat 128 (ofBe (bs.take 16))) h) (bs.drop 16)

/-- Zero padding to a whole number of 16-byte blocks. -/
def pad16 (bs : List Byte) : List Byte := bs ++ List.replicate ((16 - bs.length % 16) % 16) 0#8

/-- Counter-mode key stream applied to `n` blocks, the counter at `c`. -/
def gctr (key iv : List Byte) : Nat → Nat → List Byte → List Byte
  | 0, _, _ => []
  | n + 1, c, bs => xorBytes (bs.take 16) (aesEnc key (iv ++ beBytes 4 c)) ++ gctr key iv n (c + 1) (bs.drop 16)

/-- The GCM tag of a ciphertext. -/
def gcmTag (key iv aad ct : List Byte) : List Byte :=
  let h := BitVec.ofNat 128 (ofBe (aesEnc key (List.replicate 16 0#8)))
  let m := pad16 aad ++ pad16 ct ++ beBytes 8 (8 * aad.length) ++ beBytes 8 (8 * ct.length)
  xorBytes (beBytes 16 (ghash h (m.length / 16) 0#128 m).toNat) (aesEnc key (iv ++ beBytes 4 1))

/-- The ciphertext or plaintext of a message: GCM's key stream starts at counter 2. -/
def gcmCrypt (key iv bs : List Byte) : List Byte := gctr key iv ((bs.length + 15) / 16) 2 bs

end Sys2Proof.Machine
end

