-- ==== Sys2Proof/Machine/Cache.lean ====
section
/-! DEFINITION. The Shelf and the Hayloft (R497 to R511), the Sideboard's snoop (R516), and the keys under which a
sheaf's blocks are encrypted (R151, R320). -/

namespace Sys2Proof.Machine

/-! ### Shelf -/

/-- The Shelf set of a block (R498). -/
def shelfSet (ns lba : Nat) : Nat := (lba % 512) ^^^ (2 * ns % 512)

/-- A way that holds cached lines: one outside the write-staging partition (R497). -/
def State.cachedWay (s : State) (w : Nat) : Bool := !s.gb Od.SHELF_STAGE_WAYS 0 w

/-- The Shelf line of a crib's block, if held: its position, 12 · set + way (R500). -/
def shelfFind (s : State) (c ns lba : Nat) : Option Nat :=
  ((List.range 12).map fun w => 12 * shelfSet ns lba + w).find? fun k =>
    s.cachedWay (k % 12) &&
    (match s.cache.shelf.find? k with
    | some l => l.tag == c && l.ns == ns && l.key == lba
    | none => false)

/-- Set or invalidate a Shelf line; SHELF_LINES follows. -/
def State.setShelf (s : State) (k : Nat) (l : Option Line) : State :=
  let s := match s.cache.shelf.find? k with
    | some o => s.sub Od.SHELF_LINES o.tag 1
    | none => s
  match l with
  | some l => ({ s with cache := { s.cache with shelf := s.cache.shelf.insert k l } }).inc Od.SHELF_LINES l.tag
  | none => { s with cache := { s.cache with shelf := s.cache.shelf.erase k } }

/-- A block a transfer to a paused connection still reads (R508). -/
def State.pinned (s : State) (ns lba : Nat) : Bool :=
  s.net.conns.any fun c => c.2.pins.any fun p => p.1 == ns && decide (p.2.1 ≤ lba ∧ lba < p.2.1 + p.2.2)

/-- The victim among candidate ways from the set's pointer: the first invalid one, else the first of the highest age
(R508). -/
def pickVictim (ways ptr : Nat) (cand : Nat → Bool) (line : Nat → Option Line) : Option Nat :=
  let c := ((List.range ways).map fun i => (ptr + i) % ways).filter cand
  match c.find? fun w => (line w).isNone with
  | some w => some w
  | none =>
    let top := c.foldl (fun m w => max m ((line w).elim 0 fun l => l.age)) 0
    c.find? fun w => (line w).elim false fun l => l.age == top

/-- A Shelf victim is offered to the Hayloft, unless the queue is full (R511). -/
def offerLine (s : State) (l : Line) : State :=
  if 32 ≤ s.cache.offers.length ∨ s.g Od.HAYLOFT_SIZE = 0 then s.inc Od.HAY_OFFER_CNT 5
  else { s with cache := { s.cache with
    offers := s.cache.offers ++ [⟨l.tag, l.ns, l.key, l.streamed, Keyed.getD l.blocks 0 zeroBlock⟩] } }

/-- A Rake operation other than PREFETCH is busy on this block: a fill is not installed (R523). -/
def State.raked (s : State) (c ns lba : Nat) : Bool :=
  (s.cache.rakes ++ s.cache.rakeRun.toList).any fun r =>
    (r.crib == 0 || r.crib == c) &&
    (r.op == 4 || (r.op != 3 && r.nsid == ns + 1 && decide (r.slba ≤ lba ∧ lba < r.slba + r.nlb)))

/-- Fill one block into the Shelf for crib `c`; with no candidate it is transferred without entering (R500, R507,
R508, R510). -/
def shelfFill (s : State) (c ns lba : Nat) (data : List Byte) (age : Nat) (streamed : Bool) : State :=
  if s.raked c ns lba || (shelfFind s c ns lba).isSome then s
  else
    let set := shelfSet ns lba
    let line (w : Nat) := s.cache.shelf.find? (12 * set + w)
    let cand (w : Nat) : Bool := s.cachedWay w && s.gb Od.CRIB_SHELF_WAYS c w &&
      (match line w with
      | some l => !s.pinned l.ns l.key
      | none => true)
    match pickVictim 12 (Keyed.getD s.cache.shelfPtr set 0) cand line with
    | none => s.inc Od.SHELF_BYPASS_CNT
    | some w =>
      let s := match line w with
        | some l => offerLine s l
        | none => s
      let s := s.setShelf (12 * set + w) (some ⟨c, ns, lba, age, streamed, [(0, data)]⟩)
      { s with cache := { s.cache with shelfPtr := Keyed.put s.cache.shelfPtr set ((w + 1) % 12) 0 } }

/-! ### Hayloft -/

/-- Hayloft sets (R497). -/
def State.haySets (s : State) : Nat := s.g Od.HAYLOFT_SIZE * 1024

/-- The Hayloft set of a line (R498, R499): tag 63 is keyed by disc, layer and slot. -/
def haySet (s : State) (tag ns key : Nat) : Nat :=
  if s.haySets = 0 then 0
  else if tag = 63 then key % s.haySets
  else (key + 40503 * ns) % s.haySets

/-- The key of a tag-63 line: slot + 976,640 × (4d + layer) (R499). -/
def devKey (d phys : Nat) : Nat := physSlot phys + 976640 * (4 * d + physLayer phys)

/-- The element of HAYLOFT_LINES for a tag. -/
def tagElement (tag : Nat) : Nat := if tag = 63 then 33 else tag

/-- The Hayloft line of a sheaf, if held: its position, 16 · set + way. -/
def hayFind (s : State) (tag ns key : Nat) : Option Nat :=
  if s.haySets = 0 then none
  else ((List.range 16).map fun w => 16 * haySet s tag ns key + w).find? fun k =>
    match s.cache.hay.find? k with
    | some l => l.tag == tag && l.ns == ns && l.key == key
    | none => false

/-- Set or invalidate a Hayloft line; HAYLOFT_LINES follows. -/
def State.setHay (s : State) (k : Nat) (l : Option Line) : State :=
  let s := match s.cache.hay.find? k with
    | some o => s.sub Od.HAYLOFT_LINES (tagElement o.tag) 1
    | none => s
  match l with
  | some l => ({ s with cache := { s.cache with hay := s.cache.hay.insert k l } }).inc Od.HAYLOFT_LINES (tagElement l.tag)
  | none => { s with cache := { s.cache with hay := s.cache.hay.erase k } }

/-- The line allowance of a tag (R501). -/
def hayAllowance (s : State) (tag : Nat) : Nat :=
  16 * (if tag = 63 then s.g Od.HAYLOFT_DEV_QUOTA else s.g Od.CRIB_HAYLOFT_QUOTA tag)

/-- The Hayloft victim for a fill of `tag` in a set (R501, R508). -/
def hayVictim (s : State) (tag set : Nat) : Option Nat :=
  let line (w : Nat) := s.cache.hay.find? (16 * set + w)
  let room := decide (s.g Od.HAYLOFT_LINES (tagElement tag) < hayAllowance s tag)
  let cand (w : Nat) : Bool := (s.mem.gone.find? (16 * set + w)).isNone && match line w with
    | some l => (room || l.tag == tag) &&
        !(l.tag != 63 && (List.range 16).any fun i => (l.blocks.find? i).isSome && s.pinned l.ns (16 * l.key + i) &&
            (shelfFind s l.tag l.ns (16 * l.key + i)).isNone)
    | none => room
  pickVictim 16 (Keyed.getD s.cache.hayPtr set 0) cand line

/-- Write sub-blocks into a Hayloft line, which is taken under R508 when the sheaf has none. The second component says
whether they were kept. -/
def hayPut (s : State) (tag ns key : Nat) (blocks : Keyed (List Byte)) (age : Nat) (streamed : Bool) : State × Bool :=
  if s.haySets = 0 then (s, false)
  else match hayFind s tag ns key with
    | some k =>
      match s.cache.hay.find? k with
      | some l => (s.setHay k (some { l with blocks := blocks.foldl (fun m p => m.insert p.1 p.2) l.blocks }), true)
      | none => (s, false)
    | none =>
      let set := haySet s tag ns key
      match hayVictim s tag set with
      | none => (s, false)
      | some w =>
        let s := s.setHay (16 * set + w) (some ⟨tag, ns, key, age, streamed, blocks⟩)
        ({ s with cache := { s.cache with hayPtr := Keyed.put s.cache.hayPtr set ((w + 1) % 16) 0 } }, true)

/-- A Hayloft fill of a sheaf (R506): counted as retained or not. Blocks under a busy Rake operation are left out
(R523). -/
def hayFill (s : State) (tag ns key : Nat) (blocks : Keyed (List Byte)) (age : Nat) (streamed : Bool) : State :=
  let blocks := if tag = 63 then blocks else blocks.filter fun b => !s.raked tag ns (16 * key + b.1)
  if blocks = [] then s
  else
    let (s, kept) := hayPut s tag ns key blocks age streamed
    s.inc Od.HAY_FILL_CNT (if kept then 0 else 1)

/-- A hit sets a line's age to 0 and clears STREAMED (R509). -/
def Line.hit (l : Line) : Line := { l with age := 0, streamed := false }

/-- Look one block up in both levels for crib `c` (R504, R509): a hit in the Hayloft fills the Shelf. -/
def cacheLookup (s : State) (c ns lba : Nat) (streamed : Bool) : State × Option (List Byte) :=
  match (shelfFind s c ns lba).bind fun k => (s.cache.shelf.find? k).map fun l => (k, l) with
  | some (k, l) => ((s.inc Od.SHELF_HIT_CNT c).setShelf k (some l.hit), some (Keyed.getD l.blocks 0 zeroBlock))
  | none =>
    let s := s.inc Od.SHELF_MISS_CNT c
    match (hayFind s c ns (lba / 16)).bind fun k =>
        (s.cache.hay.find? k).bind fun l => (l.blocks.find? (lba % 16)).map fun d => (k, l, d) with
    | some (k, l, d) =>
      let s := (s.inc Od.HAY_HIT_CNT c).setHay k (some l.hit)
      (shelfFill s c ns lba d (if streamed then 3 else 0) streamed, some d)
    | none => (s.inc Od.HAY_MISS_CNT c, none)

/-- Invalidate every block for which a test of tag, namespace and LBA holds, in both levels (R522, R524); a Hayloft
line with no sub-block left becomes invalid. Victims that wait to be offered go with them (R518). -/
def cacheDrop (s : State) (p : Nat → Nat → Nat → Bool) : State :=
  let s : State := { s with cache := { s.cache with offers := s.cache.offers.filter fun o => !p o.tag o.ns o.lba } }
  let s := s.each s.cache.shelf fun s (k, l) => if p l.tag l.ns l.key then s.setShelf k none else s
  s.each s.cache.hay fun s (k, l) =>
    if l.tag = 63 then s
    else
      let left := l.blocks.filter fun b => !p l.tag l.ns (16 * l.key + b.1)
      if left.length = l.blocks.length then s
      else s.setHay k (if left = [] then none else some { l with blocks := left })

/-- The internal INVALIDATE of a namespace (R524). -/
def invalidateNs (s : State) (ns : Nat) : State := cacheDrop s fun _ n _ => n == ns

/-- The internal INVALIDATE of a zone (R524). -/
def invalidateZone (s : State) (ns z : Nat) : State := cacheDrop s fun _ n lba => n == ns && lba / zoneBlocks == z

/-- Every line with any tag becomes invalid (R524). -/
def invalidateTags (s : State) : State :=
  let s : State := { s with cache := { s.cache with offers := [] } }
  let s := s.each s.cache.shelf fun s (k, _) => s.setShelf k none
  s.each s.cache.hay fun s (k, _) => s.setHay k none

/-! ### Keys and blocks -/

/-- The XTS data key of a namespace (R151): from its secret, none while it has none. -/
def State.dataKey (s : State) (ns : Nat) : List Byte :=
  kdfCounter (Keyed.getD s.keys.secrets ns []) (asciiBytes "KDATA") [BitVec.ofNat 8 ns]

def State.tweakKey (s : State) (ns : Nat) : List Byte :=
  kdfCounter (Keyed.getD s.keys.secrets ns []) (asciiBytes "KTWEAK") [BitVec.ofNat 8 ns]

/-- The user area of a sheaf of namespace `ns` from its blocks by index: each valid block encrypted under its data unit
number, the others zero (R320). -/
def sealBlocks (s : State) (ns firstLba : Nat) (blocks : Keyed (List Byte)) : List Byte :=
  let dk := s.dataKey ns
  let tk := s.tweakKey ns
  (List.range 16).flatMap fun i =>
    match blocks.find? i with
    | some b => xtsEncrypt dk tk (firstLba + i) (padTo 4096 b)
    | none => zeroBlock

/-- The valid blocks of a user area, decrypted (R320). -/
def openBlocks (s : State) (ns firstLba valid : Nat) (user : List Byte) : Keyed (List Byte) :=
  let dk := s.dataKey ns
  let tk := s.tweakKey ns
  ((List.range 16).filter valid.testBit).map fun i => (i, xtsDecrypt dk tk (firstLba + i) (slice (4096 * i) 4096 user))

end Sys2Proof.Machine
end

