-- ==== Sys2Proof/Machine/Staging.lean ====
section
/-! DEFINITION. The clean eviction path, the write path from the host to a drive, the ageing sweeps and the Rake
(R334, R428, R509, R511 to R517, R521 to R524). -/

namespace Sys2Proof.Machine

/-- HAYLOFT_OFFER: the outcome of the first waiting offer (R511). -/
def execHayloftOffer (s : State) : Out :=
  act s fun s =>
    match s.cache.offers with
    | [] => s
    | o :: rest =>
      let s := { s with cache := { s.cache with offers := rest } }
      let key := o.lba / 16
      let blocks : Keyed (List Byte) := [(o.lba % 16, o.data)]
      if s.haySets = 0 then s.inc Od.HAY_OFFER_CNT 5
      else if o.streamed then s.inc Od.HAY_OFFER_CNT 3
      else match (hayFind s o.tag o.ns key).bind fun k => s.cache.hay.find? k with
        | some l =>
          if (l.blocks.find? (o.lba % 16)).isSome then s.inc Od.HAY_OFFER_CNT 2
          else if s.raked o.tag o.ns o.lba then s
          else (hayPut s o.tag o.ns key blocks 2 false).1.inc Od.HAY_OFFER_CNT 0
        | none =>
          if s.raked o.tag o.ns o.lba then s
          else
            let (s, kept) := hayPut s o.tag o.ns key blocks 2 false
            s.inc Od.HAY_OFFER_CNT (if kept then 1 else 4)

/-- One line older (R509). -/
def Line.older (l : Line) : Line := { l with age := min 3 (l.age + 1) }

/-- SHELF_AGE_SWEEP: a pass over the Shelf (R509). -/
def execShelfAgeSweep (s : State) : Out :=
  act s fun s => { s with cache := { s.cache with shelf := s.cache.shelf.map fun p => (p.1, p.2.older) } }

/-- HAYLOFT_AGE_SWEEP: a pass over the Hayloft (R509). -/
def execHayloftAgeSweep (s : State) : Out :=
  act s fun s => { s with cache := { s.cache with hay := s.cache.hay.map fun p => (p.1, p.2.older) } }

/-! ### The write path -/

/-- Lines of the write-staging partition (R497). -/
def State.stageLines (s : State) : Nat := 512 * ((List.range 12).filter fun w => s.gb Od.SHELF_STAGE_WAYS 0 w).length

/-- Commands in Shelf staging, in admission order (R513). -/
def State.staged (s : State) : List Ctx := s.host.ctxs.filter fun x => x.isWrite && x.stage == 0 && x.result.isNone && x.nlb != 0

/-- HAYLOFT_STAGE_RESERVE: the first of them, when its data has all arrived, reserves its Hayloft staging buffers in one step
(R513). -/
def execHayloftStageReserve (s : State) : Out :=
  act s fun s =>
    match s.staged with
    | [] => s
    | x :: _ =>
      if x.blocks.length = x.nlb ∧ s.g Od.HAY_STAGE_USED + x.sheaves ≤ 16384 * s.g Od.HAYLOFT_STAGE_SIZE then
        (s.add Od.HAY_STAGE_USED 0 x.sheaves).setCtx x.id fun x => { x with stage := 1 }
      else s

/-- A staged block of a command: the Sideboard's if it holds it, and then it counts, else the Hayloft staging
buffer's (R516). -/
def stagedBlock (s : State) (x : Ctx) (lba : Nat) : State × Option (List Byte) :=
  match s.cache.side.find? fun e => e.ctx == x.id && e.block == lba with
  | some e => (s.inc Od.SIDEBOARD_SNOOP_CNT, some e.data)
  | none => (s, Keyed.find? (Keyed.getD s.cache.stage x.id []) lba)

/-- Put a block into a command's Hayloft staging buffers. -/
def stagePut (s : State) (id lba : Nat) (data : List Byte) : State :=
  { s with cache := { s.cache with
    stage := s.cache.stage.insert id (Keyed.insert (Keyed.getD s.cache.stage id []) lba data) } }

/-- Blocks before a command's first in its first sheaf: they are written again with it (R428). -/
def Ctx.before (x : Ctx) : List Nat := (List.range (x.lba % 16)).map fun i => x.lba / 16 * 16 + i

/-- A block as the caches hold it, without a lookup's effects. -/
def heldBlock (s : State) (c ns lba : Nat) : Option (List Byte) :=
  match (shelfFind s c ns lba).bind fun k => s.cache.shelf.find? k with
  | some l => l.blocks.find? 0
  | none => ((hayFind s c ns (lba / 16)).bind fun k => s.cache.hay.find? k).bind fun l => l.blocks.find? (lba % 16)

/-- One sheaf of a command, as it goes onto the disc: the command's blocks and those before it (R320, R428). -/
def writeSheaf (s : State) (x : Ctx) (d z first : Nat) : State × WSheaf :=
  let r := (List.range 16).foldl (fun (r : State × Keyed (List Byte)) i =>
    let (s, b) := stagedBlock r.1 x (first + i)
    match b with
    | some b => (s, Keyed.insert r.2 i b)
    | none => (s, r.2)) (s, [])
  let q := first % zoneBlocks / 16
  let home := s.homePhys d z q
  (mediaUses r.1 3, {
    q := q, home := home, phys := home, user := sealBlocks s x.ns first r.2
    valid := r.2.foldl (fun v p => v + 2 ^ p.1) 0, lba := first, tries := 0, erased := s.discMedia d != 2 })

/-- Hand the oldest write of a zone to its drive, once every block of it has left Shelf staging. The blocks before it in
its first sheaf come from the caches or, as class-D work, from the disc (R427, R428, R516). -/
def handZone (s : State) (ns z : Nat) : State :=
  match s.zoneWrites ns z with
  | [] => s
  | x :: _ =>
    match (s.zone ns z).bound with
    | none => s
    | some (d, dz) =>
      if x.stage ≠ 1 ∨ x.left ≠ 0 ∨ x.result.isSome = true then s
      else
        let s := s.each x.before fun s lba =>
          if (Keyed.find? (Keyed.getD s.cache.stage x.id []) lba).isSome then s
          else match heldBlock s x.crib ns lba with
            | some b => stagePut s x.id lba b
            | none => s
        let first := x.lba / 16 * 16
        let op : MediaOp := {
          id := 0, kind := .write, disc := d, dz := dz, q := first % zoneBlocks / 16, cls := x.cls, time := 0
          ctxs := [x.id], ns := ns, tag := x.crib, lr := false, rereads := 0, age := 1, streamed := false, todo := []
          wrote := [], verifying := false, lba := first, good := [] }
        if x.before.any fun lba => (Keyed.find? (Keyed.getD s.cache.stage x.id []) lba).isNone then
          if x.landing = 0 then
            let s := (s.inc Od.HAY_LAND_USED).setCtx x.id fun x => { x with landing := 1 }
            queueOp s { op with kind := .cover }
          else s
        else
          let r := (List.range x.sheaves).foldl (fun (r : State × List WSheaf) i =>
            let (s, w) := writeSheaf r.1 x d dz (first + 16 * i)
            (s, r.2 ++ [w])) (s, [])
          queueOp (r.1.setCtx x.id fun x => { x with stage := 2 }) { op with todo := r.2 }

/-- SIDEBOARD_MOVE: the next staging line of the first command in Hayloft staging moves into a free Sideboard entry
(R514). -/
def execSideboardMove (s : State) : Out :=
  act s fun s =>
    match s.host.ctxs.find? fun x => x.isWrite && x.stage == 1 && x.left != 0 with
    | none => s
    | some x =>
      if s.cache.side.length < 64 then
        let i := x.nlb - x.left
        let e : SideEntry := ⟨x.id, x.lba + i, padTo 4096 (Keyed.getD x.blocks i zeroBlock)⟩
        let s := { s with cache := { s.cache with side := s.cache.side ++ [e] } }
        let s := (s.inc Od.SIDEBOARD_USED).sub Od.STAGE_LINES_USED 0 1
        let s := s.setCtx x.id fun x => { x with left := x.left - 1 }
        if x.left = 1 then handZone s x.ns x.zone else s
      else s

/-- SIDEBOARD_DRAM_WRITE: the oldest Sideboard entry is written to Hayloft staging and becomes free (R514). -/
def execSideboardDramWrite (s : State) : Out :=
  act s fun s =>
    match s.cache.side with
    | [] => s
    | e :: rest =>
      (stagePut { s with cache := { s.cache with side := rest } } e.ctx e.block e.data).sub Od.SIDEBOARD_USED 0 1

/-- A verified command's blocks become clean Hayloft lines before its buffers are released (R506, R507, R515). -/
def installWrite (s : State) (x : Ctx) : State :=
  s.each (List.range x.sheaves) fun s i =>
    let key := x.lba / 16 + i
    let blocks := ((List.range 16).filter fun b => decide (x.lba ≤ 16 * key + b ∧ 16 * key + b < x.lba + x.nlb)).map fun b =>
      (b, padTo 4096 (Keyed.getD x.blocks (16 * key + b - x.lba) zeroBlock))
    hayFill s x.crib x.ns key blocks 1 false

/-! ### The Rake -/

/-- A write of RAKE_GO[c] (R521). -/
def rakeGo (s : State) (c : Nat) : State :=
  if s.g Od.RAKE_BUSY c = 1 then s.inc Od.RAKE_IGNORED_CNT c
  else
    let o : RakeOp := ⟨c, s.g Od.RAKE_OP c, s.g Od.RAKE_NSID c, s.g Od.RAKE_SLBA c, s.g Od.RAKE_NLB c, 0⟩
    { s with cache := { s.cache with rakes := s.cache.rakes ++ [o] } }.p Od.RAKE_BUSY c 1

/-- What stops a Rake operation before it starts (R523): 0 nothing. -/
def rakeCheck (s : State) (r : RakeOp) : Nat :=
  if r.op = 4 then 0
  else
    let ns := if r.nsid = 0 then none else s.host.ns.find? (r.nsid - 1)
    match ns with
    | none => 1
    | some n =>
      if r.crib ≠ 0 ∧ n.attached ≠ some r.crib then 1
      else if r.nlb = 0 ∨ n.zones * zoneBlocks < r.slba + r.nlb then 2
      else if r.op = 3 ∧ s.dev ≠ .serving then 4
      else 0

/-- The blocks a Rake operation reaches (R522). -/
def RakeOp.reaches (r : RakeOp) (tag ns lba : Nat) : Bool :=
  tag != 63 && (r.crib == 0 || tag == r.crib) &&
  (r.op == 4 || (ns + 1 == r.nsid && decide (r.slba ≤ lba ∧ lba < r.slba + r.nlb)))

/-- The mark of the Rake's own sheaf reads among the commands an operation serves. -/
def rakeMark (c : Nat) : Nat := 2 ^ 40 + c

/-- A prefetch of one sheaf into the Hayloft as class-D work, skipped when it is held whole or not below the write
pointer (R431, R522). -/
def prefetchSheaf (s : State) (ns key age : Nat) (streamed : Bool) (mark : List Nat) : State :=
  let z := 16 * key / zoneBlocks
  let e := s.zone ns z
  match e.bound, s.host.ns.find? ns with
  | some (d, dz), some n =>
    let tag := n.attached.getD 0
    let valid := e.wp - 16 * key % zoneBlocks
    let whole := ((hayFind s tag ns key).bind fun k => s.cache.hay.find? k).elim false fun l => l.blocks.length == min 16 valid
    if valid = 0 ∨ whole = true then s
    else queueOp s {
      id := 0, kind := .prefetch, disc := d, dz := dz, q := 16 * key % zoneBlocks / 16, cls := 3, time := 0
      ctxs := mark, ns := ns, tag := tag, lr := false, rereads := 0, age := age, streamed := streamed, todo := []
      wrote := [], verifying := false, lba := 16 * key, good := [] }
  | _, _ => s

/-- The next queued Rake operation of a kind becomes the running one and has its effect (R522). -/
def rakeStart (s : State) (op : Nat) (f : State → RakeOp → State) : State :=
  match s.cache.rakeRun, s.cache.rakes with
  | none, r :: rest =>
    if r.op = op then
      let st := rakeCheck s r
      let s := { s with cache := { s.cache with rakes := rest, rakeRun := some { r with status := st } } }
      if st = 0 then f s r else s
    else s
  | _, _ => s

/-- INVALIDATE (R522). -/
def execInvalidate (s : State) : Out := act s fun s => rakeStart s 1 fun s r => cacheDrop s r.reaches

/-- DEMOTE (R522). -/
def execDemote (s : State) : Out :=
  act s fun s => rakeStart s 2 fun s r => { s with cache := { s.cache with
    shelf := s.cache.shelf.map fun p => (p.1, if r.reaches p.2.tag p.2.ns p.2.key then { p.2 with age := 3 } else p.2)
    hay := s.cache.hay.map fun p => (p.1,
      if p.2.blocks.any fun b => r.reaches p.2.tag p.2.ns (16 * p.2.key + b.1) then { p.2 with age := 3 } else p.2) } }

/-- PREFETCH (R522). -/
def execPrefetch (s : State) : Out :=
  act s fun s => rakeStart s 3 fun s r =>
    s.each (List.range ((r.slba + r.nlb + 15) / 16 - r.slba / 16)) fun s i =>
      prefetchSheaf s (r.nsid - 1) (r.slba / 16 + i) 1 false [rakeMark r.crib]

/-- INVALIDATE_ALL (R522). -/
def execInvalidateAll (s : State) : Out := act s fun s => rakeStart s 4 fun s r => cacheDrop s r.reaches

/-- A sheaf read of a crib's Rake operation is still to come. -/
def rakeReading (s : State) (c : Nat) : Bool :=
  let mine (o : MediaOp) : Bool := o.ctxs.contains (rakeMark c)
  s.media.ops.any mine || s.media.cur.any (fun o => o.elim false mine) || s.media.rebuilds.any fun r => mine r.op

/-- A Rake operation ends with its status (R523, R600). -/
def rakeEnd (s : State) (c st : Nat) : State := raiseCrib ((s.p Od.RAKE_STATUS c st).p Od.RAKE_BUSY c 0) c 3 st

/-- RAKE_DONE: the running operation has ended; one whose RAKE_OP names no operation ends with nothing done (R523). -/
def execRakeDone (s : State) : Out :=
  act s fun s =>
    match s.cache.rakeRun with
    | some r =>
      if r.op = 3 ∧ r.status = 0 ∧ rakeReading s r.crib = true then s
      else rakeEnd { s with cache := { s.cache with rakeRun := none } } r.crib r.status
    | none =>
      match s.cache.rakes with
      | r :: rest => if r.op = 0 then rakeEnd { s with cache := { s.cache with rakes := rest } } r.crib 0 else s
      | [] => s

/-- The Rake operations for which a test holds end with ABORTED, and their reads with them (R523). -/
def rakeAbort (s : State) (p : RakeOp → Bool) : State :=
  let hit := (s.cache.rakes ++ s.cache.rakeRun.toList).filter p
  let s := { s with cache := { s.cache with
    rakes := s.cache.rakes.filter fun r => !p r
    rakeRun := s.cache.rakeRun.filter fun r => !p r } }
  let marks := hit.map fun r => rakeMark r.crib
  let s := { s with media := { s.media with
    ops := s.media.ops.filter fun o => !(o.kind == MediaKind.prefetch && o.ctxs.any marks.contains) } }
  s.each hit fun s r => rakeEnd s r.crib 3

end Sys2Proof.Machine
end

