-- ==== Sys2Proof/Machine/Zones.lean ====
section
/-! DEFINITION. Zone management (R421 to R427, R331, R334, R430): opening, closing, finishing and resetting zones, and the
commands that wait until a zone is quiet or a drive has come to a state (R424, R432). -/

namespace Sys2Proof.Machine

/-- A zone leaves Empty: it is bound, and its state set (R423). -/
def zoneEnter (s : State) (ns z : Nat) (st : ZoneSt) : State :=
  let s := bindZone s ns z
  s.setZoneRaw ns z { s.zone ns z with st := st }

/-- Whether one more zone may become open, or active (R421). -/
def openRoom (s : State) (ns : Nat) : Bool := decide ((s.zonesWith ns ZoneSt.isOpen).length < 8)
def activeRoom (s : State) (ns : Nat) : Bool := decide ((s.zonesWith ns ZoneSt.active).length < 8)

/-- Write the table entries of some zones, then post a completion (R425, R711). -/
def zonesKeep (s : State) (ns : Nat) (zs : List Nat) (c : Cpl) : State :=
  let r := zs.foldl (fun (r : State × Option Nat) z =>
    let (s, made) := r.1.chestPut Region.zone (zonePos ns z) []
    (s, if made then r.2 else some (zonePos ns z))) (s, none)
  match r.2 with
  | none => r.1.post c
  | some pos => (r.1.chestPut Region.zone pos [.completion c]).1

/-- What is known of a KDF-2E disc zone's replacements goes with its reset (R331). -/
def dropReplacements (s : State) (d dz : Nat) : State :=
  match s.driveOf d with
  | none => s
  | some n =>
    match s.media.disc[n] with
    | none => s
    | some i =>
      let m := mediaOf i.media
      let first := m.homeSlot dz 0
      let keep := i.repl.filter fun p =>
        !(physLayer p.1 == m.zoneLayer dz && decide (first ≤ physSlot p.1 ∧ physSlot p.1 < first + 65536))
      s.setDisc n (some { i with repl := keep, changed := i.changed || keep.length != i.repl.length })

/-- A reset of a member zone on KDF-2E: every stook of the zone that had its parity counts as unprotected again (R334). -/
def stookReset (s : State) (d dz : Nat) : State :=
  match s.stookOf d with
  | none => s
  | some (f, _, _, _) =>
    let lo := f * 2 ^ 32 + dz * 2 ^ 16
    let hit := s.media.parity.filter fun p => decide (lo ≤ p.1 ∧ p.1 < lo + 65536)
    let s := s.each hit fun s p =>
      if (Keyed.find? s.media.unprot p.1).isSome then s
      else { s with media := { s.media with unprot := Keyed.insert s.media.unprot p.1 () } }.inc Od.STOOK_UNPROT f
    { s with media := { s.media with parity := s.media.parity.filter fun p => !decide (lo ≤ p.1 ∧ p.1 < lo + 65536) } }

/-- The disc zone holds a written sheaf (R424). -/
def State.written (s : State) (d dz : Nat) : Bool := Keyed.getD s.media.hwm (64 * d + dz) 0 != 0

/-- A reset of this zone takes one more free disc zone (R424): KDF-4W with a written sheaf. -/
def resetTakes (s : State) (ns z : Nat) : Bool :=
  match (s.zone ns z).bound with
  | some (d, dz) => s.discMedia d != 2 && s.written d dz
  | none => false

/-- Change a namespace's reserved disc zones. -/
def setReserved (s : State) (ns : Nat) (f : List (Nat × Nat) → List (Nat × Nat)) : State :=
  match s.host.ns.find? ns with
  | some n => { s with host := { s.host with ns := s.host.ns.insert ns { n with reserved := f n.reserved } } }
  | none => s

/-- A zone becomes Empty with write pointer 0 (R424, R473): on KDF-2E its binding is kept, on KDF-4W a written disc zone
is spent, and one not written is reserved again. -/
def emptyZone (s : State) (ns z : Nat) : State :=
  let e := s.zone ns z
  match e.bound with
  | none => s.setZoneRaw ns z { e with wp := 0, st := .empty }
  | some (d, dz) =>
    if s.discMedia d = 2 then
      let s := stookReset (dropReplacements s d dz) d dz
      let s := { s with media := { s.media with hwm := Keyed.erase s.media.hwm (64 * d + dz) } }
      s.setZoneRaw ns z { e with wp := 0, st := .empty }
    else
      let s := if s.written d dz then s.spend d dz else setReserved s ns fun r => r ++ [(d, dz)]
      (s.setZoneRaw ns z { e with bound := none, wp := 0, st := .empty }).sub Od.NS_ZONES_BOUND ns 1

/-- Reserve up to `k` more free disc zones for a namespace, and how many that were (R422, R424, R473). -/
def reserveZones (s : State) (ns k : Nat) : State × Nat :=
  match s.host.ns.find? ns with
  | none => (s, 0)
  | some n =>
    let free := (s.freeDiscZones n.media n.stookOnly).take k
    (setReserved s ns fun r => r ++ free, free.length)

/-- Zone Reset of some zones (R424, R524): with too few free disc zones it changes nothing. -/
def resetZones (s : State) (ns : Nat) (zs : List Nat) : Option State :=
  match s.host.ns.find? ns with
  | none => none
  | some n =>
    let takes := (zs.filter (resetTakes s ns)).length
    if takes ≠ 0 ∧ (s.freeDiscZones n.media n.stookOnly).length < takes then none
    else
      let s := s.each zs fun s z => emptyZone (invalidateZone s ns z) ns z
      some (reserveZones s ns takes).1

/-- The zones a Zone Management Send names: one, or with Select All those in the states it applies to. -/
def sendZones (s : State) (ns z : Nat) (all : Bool) (p : ZoneSt → Bool) : List Nat :=
  if all then s.zonesWith ns p else [z]

/-- A command before `x` still works on the zones that `x` names. -/
def zoneBusy (s : State) (x : Ctx) (all writesOnly : Bool) : Bool :=
  s.host.ctxs.any fun y =>
    decide (y.id < x.id) && y.ns == x.ns && (all || y.zone == x.zone) &&
    (y.isWrite || (!writesOnly && (match y.op with
    | .read .. => true
    | _ => false)))

/-- The completion of a context. -/
def Ctx.cpl (x : Ctx) (st : Status) (dnr : Option Bool := none) : Cpl := ⟨x.queue, x.cid, st, dnr, 0, 0, none, 0⟩

/-- Do a deferred Zone Finish or Zone Reset, or end a Zone Warm whose drive has arrived (R424, R432). -/
def settleOne (s : State) (x : Ctx) : State :=
  match x.op with
  | .zoneFinish _ all =>
    if zoneBusy s x all true then s
    else
      let zs := sendZones s x.ns x.zone all ZoneSt.active
      let s := s.each zs fun s z => s.setZoneRaw x.ns z { s.zone x.ns z with st := .full }
      zonesKeep (s.dropCtx x.id) x.ns zs (x.cpl .success)
  | .zoneReset _ all =>
    if zoneBusy s x all false then s
    else
      let zs := sendZones s x.ns x.zone all fun st => st.active || st == .full
      match resetZones s x.ns zs with
      | some s => zonesKeep (s.dropCtx x.id) x.ns zs (x.cpl .success)
      | none => (s.dropCtx x.id).post (x.cpl .capacityExceeded true)
  | .warm _ want =>
    match (s.zone x.ns x.zone).bound with
    | none => endCtx s x .success
    | some (d, _) =>
      if (s.zone x.ns x.zone).offline then endCtx s x .zoneIsOffline true
      else match s.driveOf d with
        | none => s
        | some n => if s.g Od.DRV_STATE n ≤ want ∧ s.drives[n].wake = none then endCtx s x .success else s
  | _ => s

/-- The stage value of a command that waits for its zone or its drive. -/
def waitStage : Nat := 9

/-- A function has an admitted command on a queue for which a test holds. -/
def queueBusy (s : State) (f : Crib) (p : Nat → Bool) : Bool :=
  s.host.ctxs.any fun x => match x.queue with
    | .sq g q => g == f && p q
    | .conn _ => false

/-- Open connections, in all and by crib, are reported (R463). -/
def connCount (s : State) : State :=
  let live := s.net.conns.filter fun p => !p.2.closed
  let s := s.p Od.NVT_CONN_COUNT 0 live.length
  s.each (List.range 33) fun s c => s.p Od.NVT_CONN_CRIB c (live.filter fun p => p.2.crib == some c).length

/-- Closed connections go once their last command has ended (R463). -/
def connSweep (s : State) : State :=
  { s with net := { s.net with conns := s.net.conns.filter fun p =>
      !p.2.closed || s.host.ctxs.any fun x => x.queue == .conn p.1 } }

/-- Deletions whose queue has no admitted command left take effect and complete; a shutdown whose function has none left
is complete (R407, R409). -/
def settleQueues (s : State) : State :=
  let due := s.host.dels.filter fun d => !queueBusy s d.1 fun q => q == d.2.2
  let s := { s with host := { s.host with dels := s.host.dels.filter fun d => queueBusy s d.1 fun q => q == d.2.2 } }
  let s := s.each due fun s d =>
    (s.setCtl d.1 fun g => { g with sqs := Keyed.erase g.sqs d.2.2 }).complete (.sq d.1 0) d.2.1 .success
  let busy (i : Nat) : Bool := s.host.ctxs.any fun x => match x.queue with
    | .conn k => ((s.net.conns.find? k).bind fun c => c.cntlid) == some i
    | .sq .. => false
  let done (p : Nat × Assoc) : Nat × Assoc :=
    if p.2.ctl.shst = 1 ∧ busy p.1 = false then (p.1, { p.2 with ctl := { p.2.ctl with shst := 2 } }) else p
  let s : State := { s with net := { s.net with assocs := s.net.assocs.map done } }
  s.each (List.finRange 33) fun s (f : Crib) =>
    if s.host.ctl[f].shst = 1 ∧ queueBusy s f (fun _ => true) = false then s.setCtl f fun g => { g with shst := 2 } else s

/-- Do what deferred commands have become ready. -/
def settle (s : State) : State :=
  let s := s.each (s.host.ctxs.filter fun x => x.stage == waitStage) fun s x =>
    match s.ctx? x.id with
    | some x => settleOne s x
    | none => s
  connSweep (settleQueues s)

end Sys2Proof.Machine
end

