-- ==== Sys2Proof/Machine/Motion.lean ====
section
/-! DEFINITION. Stops, stalls, limits, switch latches, homing, retention and the picker (R369 to R397), and the stage
links (R388 to R391). -/

namespace Sys2Proof.Machine

/-- The part number of stage `i` in the test-port table. -/
def stagePart (i : Stage) : Fin 22 := ⟨17 + i.val, by omega⟩

/-- The axis stands still: no move, no stop, nothing held back. -/
def State.atRest (s : State) (a : Axis) : Bool :=
  (s.ax a).move.isNone && (s.ax a).stop == .run && (s.ax a).resume.isNone

/-! ### Picker moves (R392 to R394) -/

def Pick.car : Axis := 16
def Pick.elev : Axis := 17
def Pick.reach : Axis := 18
def Pick.jaw : Axis := 19

/-- The angle the carousel turns to for a magazine (R371): CAR_MAG_BASE + round(m × 65,536 / 24). -/
def State.magAngle (s : State) (m : Nat) : Nat := (s.gm 4 Od.CAR_MAG_BASE + (m * 131072 + 24) / 48) % 65536

/-- The elevator position of library slot `d` (R393). -/
def State.slotElev (s : State) (d : Nat) : Int :=
  s.gmi 4 Od.PICK_ELEV_SLOT0 + (d % 64 : Nat) * s.gmi 4 Od.PICK_ELEV_PITCH

/-- Turn the carousel to a magazine in the shorter direction. -/
def turnTo (s : State) (m : Nat) : State :=
  startMove s Pick.car (carouselGoal ((s.ax Pick.car).pos / 65536) (s.magAngle m)) .sequence

/-- Set the jaw's position where it stands at its open limit (R382). -/
def jawOpened (s : State) : State :=
  let p := s.gmi 4 Od.MOT_HOME_POS 19
  (((s.pi Od.MOT_POS 19 p).pb Od.MOT_FLAGS 19 1 false).p Od.MOT_STATE 19 1).setAx Pick.jaw fun x => { x with
    pos := p * 65536, homeFrom := none, after := .none, move := none, stop := .run }

/-- Open the jaw: in the negative direction to its open limit (R382). -/
def openJaw (s : State) : State :=
  if s.inputOn 4 4 then jawOpened s
  else
    let here := (s.ax Pick.jaw).pos / 65536
    beginMove (s.setAx Pick.jaw fun x => { x with homeFrom := some here }) Pick.jaw
      (here - (s.gm 4 Od.MOT_HOME_RANGE 19 : Int)) .open_

/-- The moves of one step of a picker sequence (R393, R394); steps 20 and 21 leave an empty slot again. -/
def pickIssue (s : State) : State :=
  match s.motion.picker.seq with
  | none => s
  | some (r, k) =>
    let toSlot (s : State) := startMove (turnTo s (magOf r.disc)) Pick.elev (s.slotElev r.disc) .sequence
    let toDrive (s : State) := startMove s Pick.elev (s.gmi 4 Od.PICK_DRV_ELEV r.drive) .sequence
    let reach (s : State) (t : Int) := startMove s Pick.reach t .sequence
    let sledHome (s : State) :=
      if h : r.drive < 16 then
        let a : Axis := ⟨r.drive, by omega⟩
        let home := s.gmi (axisStage a) Od.MOT_HOME_POS a
        if (s.ax a).pos = home * 65536 then s else startMove s a home .sequence
      else s
    match k with
    | 1 => sledHome (if r.load then toSlot s else toDrive s)
    | 2 => openJaw (reach s (if r.load then s.gmi 4 Od.PICK_REACH_MAG else s.gmi 4 Od.PICK_REACH_DRV))
    | 3 => startMove s Pick.jaw (s.gmi 4 Od.PICK_JAW_GRIP) .sequence
    | 4 => reach s 0
    | 5 => if r.load then toDrive s else toSlot s
    | 6 => reach s (if r.load then s.gmi 4 Od.PICK_REACH_DRV else s.gmi 4 Od.PICK_REACH_MAG)
    | 7 => openJaw s
    | 8 => reach s 0
    | 20 => openJaw s
    | 21 => reach s 0
    | _ => s

/-- The sequence goes to step `k` and its moves start. -/
def pickStep (s : State) (r : PickReq) (k : Nat) : State :=
  pickIssue (s.setPicker fun p => { p with seq := some (r, k) })

/-- Put the disc in the jaw back into slot `d` (R397). -/
def putBackStart (s : State) (d : Nat) : State :=
  let s := (s.p Od.PICK_STATE 0 1).p Od.PICK_CARRY 0 d
  pickStep (s.setPicker fun p => { p with putBack := some d, stalled := false }) ⟨false, d, 0, s.now, .admin⟩ 5

/-- The check of input 5 against the jaw record (R397). -/
def jawCheck (s : State) : State :=
  let (has, d) := (s.ax Pick.jaw).discOf
  if s.inputOn 4 5 then
    if has = 1 ∧ d ≠ 0xFFFF then putBackStart s d else pickFault s Cause.orphan
  else if has = 1 then pickFault s Cause.lostDisc
  else s

/-- Picker homing has finished: the fault is cleared and a carried disc is put back (R383, R395, R397). -/
def pickerHomed (s : State) : State :=
  let s := ((s.p Od.PICK_STATE 0 0).p Od.PICK_FAULT_CAUSE 0 0).setPicker fun p => { p with homing := 0 }
  if s.isDev .starting then s
  else if s.inputOn 4 5 then jawCheck s
  else if (s.ax Pick.jaw).discOf.1 = 1 then
    (writeDiscRec s Pick.jaw 0 0xFFFF).p Od.PICK_CARRY 0 0xFFFF
  else s

/-! ### Homing and coming to rest (R381 to R383) -/

/-- An axis is homed: picker homing goes on, an interrupted step is repeated, or a waiting move starts. -/
def homeDone (s : State) (a : Axis) : State :=
  let s := ((s.pb Od.MOT_FLAGS a 0 true).pb Od.MOT_FLAGS a 1 false).p Od.MOT_STATE a 1
  let s := s.setAx a fun x => { x with homeFrom := none, after := .none, move := none, stop := .run }
  let h := s.motion.picker.homing
  if h = 1 ∧ a = Pick.reach then homeAxis (s.setPicker fun p => { p with homing := 2 }) Pick.elev
  else if h = 2 ∧ a = Pick.elev then homeAxis (s.setPicker fun p => { p with homing := 3 }) Pick.car
  else if h = 3 ∧ a = Pick.car then
    pickerHomed ((s.pb Od.CAR_FLAGS 0 1 false).p Od.CAR_STATE 0 1)
  else
    let s := if a = Pick.car then (s.pb Od.CAR_FLAGS 0 1 false).p Od.CAR_STATE 0 1 else s
    if 16 ≤ a.val ∧ s.motion.picker.seq.isSome then pickIssue (s.setAx a fun x => { x with resume := none })
    else match (s.ax a).resume with
      | some t => startMove s a t .plain
      | none => s

/-- An axis has come to rest after a stop: what was to follow it (R381, R382). -/
def restAxis (s : State) (a : Axis) : State :=
  let x := s.ax a
  let s := (s.p Od.MOT_STATE a (if s.g Od.MOT_STATE a = 5 then 5 else 1)).setAx a fun x => { x with
    stop := .run, halt := none, speed := 0, after := .none }
  match x.after with
  | .none => s
  | .release => beginMove s a (x.pos / 65536 + (s.gm (axisStage a) Od.MOT_HOME_RANGE a : Int)) .homeRelease
  | .homed l =>
    let d := s.gmi (axisStage a) Od.MOT_HOME_POS a - l
    homeDone ((s.pi Od.MOT_POS a (s.gi Od.MOT_POS a + d)).setAx a fun x => { x with pos := x.pos + d * 65536 }) a
  | .opened => jawOpened s

/-- Homing of an axis has failed (R381, R396). -/
def homingFail (s : State) (a : Axis) : State :=
  let s := s.setAx a fun x => { x with homeFrom := none, resume := none, move := none }
  axisFault s a Cause.homeFail

/-- HOMING: a stepper axis whose position is lost is homed (R380, R381, R387). -/
def execHoming (a : Axis) (s : State) : Out :=
  act s fun s =>
    if a ≠ 16 ∧ a ≠ 19 ∧ (s.gb Od.MOT_FLAGS a 1 = true ∨ s.gb Od.MOT_FLAGS a 0 = false) ∧ (s.ax a).homeFrom = none ∧
        s.axisHeld a = false then
      homeAxis s a
    else s

/-- HOMING_FAIL: a homing step has run its whole range without its edge (R381, R396). -/
def execHomingFail (a : Axis) (s : State) : Out :=
  act s fun s =>
    let x := s.ax a
    if x.homeFrom.isSome ∧ x.move = none ∧ x.stop = .run ∧ (s.g Od.MOT_STATE a = 4 ∨ a = 19) then homingFail s a else s

/-- CAROUSEL_HOMING: the carousel turns until an index edge is latched (R383). -/
def execCarouselHoming (s : State) : Out :=
  act s fun s =>
    if s.gb Od.MOT_FLAGS 16 0 = false ∧ (s.ax 16).homeFrom = none ∧ s.axisHeld 16 = false ∧
        (s.motion.picker.homing = 0 ∨ s.motion.picker.homing = 3) then
      homeAxis s 16
    else s

/-! ### Moves, stalls and limits -/

/-- MOVE_START: a move that was held back starts on the values in force now (R46, R367). -/
def execMoveStart (a : Axis) (s : State) : Out :=
  act s fun s =>
    match (s.ax a).resume with
    | some t => if (s.ax a).stop = .run ∧ s.axisHeld a = false then startMove s a t .sequence else s
    | none => s

/-- A write of MOT_HALT[a]: 1 stops the axis on its profile stop (R375). -/
def motHalt (s : State) (a : Axis) : State := stopAxis s a .profile false

/-- MOT_HALT (R375). -/
def execMotHalt (a : Axis) (s : State) : Out := actWrite 0 Od.MOT_HALT a (fun s => (motHalt s a, 0)) s

/-- A stage's stall (R374): the position is lost; a sled faults its drive, a picker axis is homed once and its step
repeated. The jaw is homed by opening, which it may not do with a disc in it (R382). -/
def stalled (s : State) (a : Axis) : State :=
  let s := (loseAxis s a).pb Od.MOT_FLAGS a 2 true
  let s := (s.inc Od.MOT_STALL_CNT a).setAx a fun x => { x with move := none, stop := .run, speed := 0, stallRun := 0 }
  match axisDrive a with
  | some _ => axisFault s a Cause.stall
  | none =>
    if s.motion.picker.seq.isSome && !s.motion.picker.stalled && s.motion.picker.homing == 0 &&
        !(a == 19 && s.inputOn 4 5) then
      let s := s.setPicker fun p => { p with stalled := true }
      if a = 19 then openJaw s else homeAxis s a
    else pickFault s Cause.stall

/-- STALL: for MOT_STALL_N current periods the axis has run at the ceiling with the load angle of a stall (R374). -/
def execStall (a : Axis) (s : State) : Out :=
  actPart (stagePart (axisStage a)) s fun s =>
    if a ≠ 16 ∧ (s.ax a).move.isSome ∧ s.gm (axisStage a) Od.MOT_STALL_N a ≤ (s.ax a).stallRun then stalled s a else s

/-- A limit stop (R379): the first step of homing and a jaw opening go on from it; the second step of homing, which runs away from its
switch, has no edge to wait for any more and fails; any other move ends as an axis fault. -/
def limited (s : State) (a : Axis) : State :=
  match (s.ax a).move with
  | none => s
  | some m =>
    let s := (stopAxis s a .ramp false).pb Od.MOT_FLAGS a 3 true
    match m.use with
    | .homeSeek => s.setAx a fun x => { x with after := .release }
    | .open_ => s.setAx a fun x => { x with after := .opened }
    | .homeRelease => homingFail s a
    | _ => axisFault (s.inc Od.MOT_LIMIT_CNT a) a Cause.limit

/-- LIMIT_STOP (R379). -/
def execLimitStop (a : Axis) (s : State) : Out :=
  actPart (stagePart (axisStage a)) s fun s => if a = 16 then s else limited s a

/-! ### Switches (R377, R378, R380, R383) -/

/-- The axis whose home switch an input is. -/
def homeAxisOf (i : Stage) (input : Fin 8) : Option Axis :=
  if i.val < 4 then (if h : input.val < 4 then some ⟨(4 * i.val + input.val) % 20, by omega⟩ else none)
  else if input = 0 then some 17 else if input = 2 then some 18 else none

/-- The index check of R255, and the end of carousel homing (R383). -/
def indexEdge (s : State) (pos : Int) : State :=
  let angle := (pos % 65536).toNat
  match (s.ax 16).move with
  | some m =>
    if m.use = .homeSeek then
      let ofs := ofInt 16 ((angle : Int) - s.gm 4 Od.CAR_INDEX_ANGLE)
      let s := stopAxis (s.p Od.CAR_HOME_OFS 0 ofs) 16 .profile false
      s.setAx 16 fun x => { x with after := .homed (s.gmi 4 Od.MOT_HOME_POS 16), pos := toInt 16 (s.g Od.CAR_ANGLE + 65536 - ofs) * 65536 }
    else check s angle
  | none => check s angle
where
  /-- Compare the latched angle, measured after CAR_HOME_OFS, with CAR_INDEX_ANGLE. -/
  check (s : State) (angle : Nat) : State :=
    let d := toInt 16 (angle + 131072 - s.g Od.CAR_HOME_OFS - s.gm 4 Od.CAR_INDEX_ANGLE)
    if s.gb Od.MOT_FLAGS 16 0 && decide (s.gm 4 Od.CAR_INDEX_TOL < d.natAbs) && s.g Od.CAR_STATE != 3 then
      carouselFault s false
    else s

/-- A home-switch edge (R380, R381). -/
def homeEdge (s : State) (a : Axis) (rising : Bool) (pos : Int) : State :=
  let x := s.ax a
  match x.move with
  | some m =>
    if m.use = .homeSeek then
      if rising && a == 18 then (stopAxis s a .ramp false).setAx a fun x => { x with after := .release } else s
    else if m.use = .homeRelease then
      if rising then s else (stopAxis s a .profile false).setAx a fun x => { x with after := .homed pos }
    else cross s a pos
  | none => if x.homeFrom.isSome then s else cross s a pos
where
  /-- A homed axis crosses its home switch outside homing. -/
  cross (s : State) (a : Axis) (pos : Int) : State :=
    let i := axisStage a
    if s.gb Od.MOT_FLAGS a 0 && (s.ax a).homeFrom.isNone &&
        decide (s.gm i Od.MOT_HOME_TOL a < (pos - s.gmi i Od.MOT_HOME_POS a).natAbs) then loseAxis s a else s

/-- A latch record reaches the controller (R378): its tick is extended to 64 bits, the last latch kept, and the
switch's meaning follows. -/
def switchLatch (s : State) (i : Stage) (input : Fin 8) (rising : Bool) (tick sub : Nat) (pos : Int) : State :=
  let e := 8 * i.val + input.val
  let now := s.g Od.MOT_TICK
  let t := now - (now + 65536 - tick % 65536) % 65536
  let s := ((s.pi Od.MOT_LATCH_POS e pos).p Od.MOT_LATCH_TICK e t).p Od.MOT_LATCH_SUB e (sub % 64 + 128 * b2n rising)
  let s := s.setStage i fun g => { g with latches := g.latches.filter fun l => !(l.1 == input.val && l.2.2.1 == tick && l.2.2.2.1 == sub) }
  if i = 4 ∧ input = 6 then indexEdge s pos
  else match homeAxisOf i input with
    | some a => homeEdge s a rising pos
    | none => s

/-- SWITCH_LATCH (R378). -/
def execSwitchLatch (i : Stage) (input : Fin 8) (rising : Bool) (tick sub : Nat) (pos : Int) (s : State) : Out :=
  actPart (stagePart i) s fun s => switchLatch s i input rising tick sub pos

/-- SWITCH_INPUT_EDGE: a stage accepts a new level and latches it (R377). The record waits until the controller has
received it. -/
def execSwitchInputEdge (i : Stage) (input : Fin 8) (rising : Bool) (tick sub : Nat) (pos : Int) (s : State) : Out :=
  actPart (stagePart i) s fun s =>
    let b := BitVec.twoPow 8 input
    s.setStage i fun g =>
      if g.level.getLsbD input == rising then g
      else { g with
        level := if rising then g.level ||| b else g.level &&& ~~~ b
        latches := g.latches ++ [(input.val, rising, tick % 65536, sub % 50, pos)] }

/-! ### Retention and bus loss (R385 to R389, R681) -/

/-- Every stepper of a stage stands still. -/
def State.stageAtRest (s : State) (i : Stage) : Bool :=
  (stageSteppers i).all fun a => (s.ax a).move.isNone && (s.ax a).stop == .run

/-- A Stage reset begins: STG_RST_N low, the identity forgotten (R30, R391). Positions whose indices were not stored are lost; spindles coast. -/
def stageResetBegin (s : State) (i : Stage) : State :=
  let s := s.each (stageSteppers i) fun s a => if (s.ax a).energised then loseAxis s a else s
  let s := s.each (stageSteppers i) fun s a => (s.p Od.MOT_STATE a 0).setAx a fun x => { x with
    energised := false, move := none, stop := .run, coil := 0 }
  let s := coast s i
  let s := s.setStage i fun g => { g with
    resetting := true, retraining := false, resetWanted := false, retrains := [], missUp := 0, bulk := [], sent := []
    linkHold := false, linkLost := false, energise := false }
  let s := { s with
    pins := { s.pins with stgRst := s.pins.stgRst &&& ~~~ BitVec.twoPow 5 i }
    parts := { s.parts with stageUp := s.parts.stageUp &&& ~~~ BitVec.twoPow 5 i }
    scan := { s.scan with lost := s.scan.lost &&& ~~~ BitVec.twoPow 22 (17 + i) } }
  linkViol (s.p Od.STAGE_ID_SEEN i 0) 9 i 1
where
  /-- The three-phase bridges of a stage are high-impedance: what turns coasts (R249). -/
  coast (s : State) (i : Stage) : State :=
    if i = 4 then
      if s.g Od.CAR_STATE = 1 then (s.p Od.CAR_STATE 0 2).setAx 16 fun x => { x with move := none, stop := .run } else s
    else s.each (List.finRange 16) fun s n =>
      let st := s.g Od.SPIN_STATE n
      if n.val / 4 = i.val ∧ 1 ≤ st ∧ st ≤ 7 then
        let s := mlockExit s n
        (s.p Od.SPIN_STATE n 8).setMot (spindleOf n) fun m => { m with iq := 0, lowTicks := 0 }
      else s

/-- The bridges of a stage are high-impedance (R249). -/
def coastStage (s : State) (i : Stage) : State := stageResetBegin.coast s i

/-- The coils of a stage are cut without an orderly power-down: its positions are lost (R388). -/
def cutStage (s : State) (i : Stage) : State :=
  s.each (stageSteppers i) fun s a =>
    (loseAxis (s.p Od.MOT_STATE a 0) a).setAx a fun x => { x with
      energised := false, move := none, stop := .run, speed := 0, coil := 0, homeFrom := none }

/-- The state asks for the bridges of a stage to be powered down (R386, R389, R391, R685). -/
def State.powerDownWanted (s : State) (i : Stage) : Bool :=
  s.g Od.PF_STATE == 1 || s.motion.stages[i].resetWanted ||
  !(s.isDev .serving || s.isDev .draining || s.isDev .starting)

/-- BRIDGE_POWER_DOWN: an orderly power-down of a stage at rest (R386, R389); a Stage reset that waited for it begins. -/
def execBridgePowerDown (i : Stage) (s : State) : Out :=
  act s fun s =>
    if s.powerDownWanted i && s.stageAtRest i then
      let s := bridgeDown s i
      if s.motion.stages[i].resetWanted then stageResetBegin s i else s
    else s

/-- RE_ENERGISE: a stepper is energised at its retained index, or loses its position (R387). -/
def execReEnergise (a : Axis) (ustep : Option Nat) (s : State) : Out :=
  act s fun s =>
    let i := axisStage a
    let g := s.motion.stages[i]
    if a ≠ 16 ∧ (s.ax a).energised = false ∧ s.stageDeclared i = true ∧ s.pins.bridgeEn.getLsbD i = true ∧
        s.powerDownWanted i = false ∧ g.vbusCut = false ∧ g.resetting = false ∧ g.retraining = false then
      reEnergise (s.setStage i fun g => { g with linkLost := false }) a ustep
    else s

/-- VBUS_LOSS: VBUS below 30 V for 2 current periods (R388, R681). -/
def execVbusLoss (i : Stage) (s : State) : Out :=
  actPart (stagePart i) s fun s => coastStage (cutStage (s.setStage i fun g => { g with vbusCut := true }) i) i

/-- VBUS_RETURN: VBUS above 33 V; the bridges drive again once commanded (R681). -/
def execVbusReturn (i : Stage) (s : State) : Out :=
  actPart (stagePart i) s fun s => s.setStage i fun g => { g with vbusCut := false }

/-- LINK_HOLD: two downstream A-cells missed; steppers on their stop ramps, then the bridges high-impedance (R388). -/
def execLinkHold (i : Stage) (s : State) : Out :=
  actPart (stagePart i) s fun s =>
    let s := s.each (stageSteppers i) fun s a => stopAxis s a .ramp true
    coastStage (s.setStage i fun g => { g with linkHold := true, missDown := max 2 g.missDown }) i

/-- LINK_LOST: 800 downstream A-cells missed; the coils are cut and positions lost (R388). -/
def execLinkLost (i : Stage) (s : State) : Out :=
  actPart (stagePart i) s fun s =>
    coastStage (cutStage (s.setStage i fun g => { g with linkHold := true, linkLost := true, missDown := max 800 g.missDown }) i) i

/-! ### Stage links (R390, R391) -/

/-- A stage link retrain; the third within 60 s becomes a Stage reset (R390, R391). -/
def stageRetrain (s : State) (i : Stage) : State :=
  let g := s.motion.stages[i]
  if g.retraining || g.resetting then s
  else
    let s := linkViol (s.inc Od.SL_RETRAIN_CNT i) 9 i 0
    let s := raise s (Src.stageLink i) 0
    let s := s.setStage i fun g => { g with
      retraining := true, missUp := 0
      retrains := s.now :: g.retrains.filter fun t => decide (s.now ≤ t + 60000000000) }
    if 3 ≤ s.motion.stages[i].retrains.length then stageResetBegin s i else s

/-- STAGE_A_CELL_MISSED: counted; four in a row retrain the link (R390). The loops of the stage hold their outputs. -/
def stageMissed (s : State) (i : Stage) : State :=
  let s := (s.inc Od.SL_MISS_CNT i).setStage i fun g => { g with missUp := g.missUp + 1 }
  if 4 ≤ s.motion.stages[i].missUp then stageRetrain s i else s

def execStageACellMissed (i : Stage) (s : State) : Out :=
  act s fun s =>
    let g := s.motion.stages[i]
    if g.retraining || g.resetting || !s.parts.stageUp.getLsbD i then s else stageMissed s i

/-- STAGE_LINK_ALIGNED: a retrain restores alignment (R391). -/
def execStageLinkAligned (i : Stage) (s : State) : Out :=
  act s fun s => s.setStage i fun g => if g.retraining then { g with retraining := false, missUp := 0 } else g

/-- STAGE_RETRAIN_TIMEOUT: not aligned within 20 ms (R391). -/
def execStageRetrainTimeout (i : Stage) (s : State) : Out :=
  act s fun s => if s.motion.stages[i].retraining then stageResetBegin s i else s

/-- A write of STAGE_RESET[s]: a Stage reset after R386 (R391). -/
def stageReset (s : State) (i : Stage) : State :=
  if s.stageDeclared i then
    let s := s.each (stageSteppers i) fun s a => stopAxis s a .profile false
    if s.stageAtRest i then stageResetBegin (bridgeDown s i) i else s.setStage i fun g => { g with resetWanted := true }
  else s

/-- STAGE_RESET (R391). -/
def execStageReset (i : Stage) (s : State) : Out := actWrite 0 Od.STAGE_RESET i (fun s => (stageReset s i, 0)) s

/-- STAGE_RESET_RELEASE: after 1 ms STG_RST_N is high and the link trains; the identity word is awaited (R391). -/
def execStageResetRelease (i : Stage) (s : State) : Out :=
  act s fun s =>
    if s.motion.stages[i].resetting ∧ s.stageDeclared i = true ∧ s.pwr.railOut = 0 then
      { s with pins := { s.pins with stgRst := s.pins.stgRst ||| BitVec.twoPow 5 i } }
    else s

/-! ### The picker (R392 to R397, R434) -/

/-- A request that names a drive is queued or running for it. -/
def State.pickBusy (s : State) (n : Drive) : Bool :=
  (s.motion.picker.queue.any fun r => r.drive == n.val) ||
  (match s.motion.picker.seq with
  | some (r, _) => r.drive == n.val && s.motion.picker.putBack.isNone
  | none => false)

/-- A drive that holds a disc may be taken for another: in D2 or D3 with nothing to do (R434). -/
def State.takable (s : State) (n : Drive) : Bool :=
  let st := s.g Od.DRV_STATE n
  s.driveDeclared n && s.g Od.DRV_DISC n != 0xFFFF && (st == 2 || st == 3) && s.g Od.DRIVE_FAULT n == 0 &&
  s.media.cur[n].isNone && !s.pickBusy n && !(s.media.ops.any fun o => o.disc == s.g Od.DRV_DISC n)

/-- The drive a load request takes, and whether its disc goes back first (R434). -/
def State.loadDrive (s : State) : Option (Drive × Bool) :=
  match (List.finRange 16).find? fun (n : Drive) =>
      s.driveDeclared n && s.g Od.DRV_DISC n == 0xFFFF && s.g Od.DRIVE_FAULT n == 0 && !s.pickBusy n with
  | some n => some (n, false)
  | none =>
    let rel (n : Drive) : Nat := if (s.media.disc[n].elim false fun i => i.released) then 0 else 1
    ((List.finRange 16).filter s.takable).foldl (fun (b : Option (Drive × Bool)) n =>
      match b with
      | none => some (n, true)
      | some (m, _) =>
        if rel n < rel m ∨ (rel n = rel m ∧ s.media.lastEnd[n] < s.media.lastEnd[m]) then some (n, true) else b) none

/-- Give the loads that wait a drive, in order (R434); a disc that is in a drive by now needs none. -/
def serveLoads (s : State) : State :=
  s.each s.motion.loads fun s r =>
    let drop (s : State) : State := { s with motion := { s.motion with loads := s.motion.loads.filter fun x => x.disc != r.disc } }
    if (s.driveOf r.disc).isSome then drop s
    else match s.loadDrive with
      | none => s
      | some (n, evict) =>
        let s := drop s
        let s := if evict then
            let s := spinBrake s n
            s.setPicker fun p => { p with queue := p.queue ++ [⟨false, s.g Od.DRV_DISC n, n, s.now, .evict⟩] }
          else s
        s.setPicker fun p => { p with queue := p.queue ++ [{ r with drive := n.val }] }

/-- A request that can start now (R393). -/
def State.pickReady (s : State) (r : PickReq) : Bool :=
  if h : r.drive < 16 then
    let n : Drive := ⟨r.drive, h⟩
    if r.load then s.g Od.DRV_DISC n == 0xFFFF && s.g Od.DRIVE_FAULT n == 0
    else s.g Od.DRV_DISC n == r.disc && s.g Od.SPIN_STATE n == 0 && s.media.cur[n].isNone &&
      (s.g Od.DRIVE_FAULT n == 0 || r.why == .restore)
  else false

/-- The carousel travel to a request's magazine. -/
def State.pickTravel (s : State) (r : PickReq) : Nat :=
  let here := (s.ax Pick.car).pos / 65536
  (carouselGoal here (s.magAngle (magOf r.disc)) - here).natAbs

/-- The request served next (R392). -/
def State.pickNext (s : State) : Option PickReq :=
  let ready := s.motion.picker.queue.filter s.pickReady
  let old := ready.filter fun r => decide (r.time + s.gm 4 Od.PICK_AGE_MAX * 1000000000 < s.now)
  let least (l : List PickReq) (f : PickReq → Nat × Nat) : Option PickReq :=
    l.foldl (fun (b : Option PickReq) r => match b with
      | none => some r
      | some q => if (f r).1 < (f q).1 ∨ ((f r).1 = (f q).1 ∧ (f r).2 < (f q).2) then some r else b) none
  match least old fun r => (r.time, r.disc) with
  | some r => some r
  | none => least ready fun r => (s.pickTravel r, r.disc)

/-- PICKER_SEQUENCE_START: with the picker free, loads take drives and the next request's sequence starts (R392,
R434). -/
def execPickerSequenceStart (s : State) : Out :=
  act s fun s =>
    if s.g Od.PICK_STATE = 0 ∧ s.motion.picker.seq = none ∧ s.axisHeld Pick.car = false ∧ s.g Od.PF_STATE = 0 then
      let s := serveLoads s
      match s.pickNext with
      | none => s
      | some r =>
        let s := (s.setPicker fun p => { p with queue := p.queue.erase r, stalled := false }).p Od.PICK_STATE 0 1
        let s := s.inc Od.LIFE_PICK_SEQ
        pickStep s r 1
    else s

/-- The sequence has ended (R393 step 9). -/
def pickEnd (s : State) : State :=
  (s.p Od.PICK_STATE 0 0).setPicker fun p => { p with seq := none, stalled := false, putBack := none }

/-- A declared slot is empty: its zones go Offline and what waits for the disc ends (R394, R430). -/
def slotEmpty (s : State) (d : Nat) : State :=
  let s := s.inc Od.PICK_EMPTY_CNT
  let s := { s with host := { s.host with zones := s.host.zones.map fun p =>
      if (p.2.bound.elim false fun b => b.1 == d) then (p.1, { p.2 with offline := true }) else p } }
  let s := failDisc s d .zoneIsOffline true
  if s.media.restores.contains d then
    { s.p Od.DISC_RESTORE_RESULT d 2 with media := { s.media with restores := s.media.restores.erase d } }
  else s

/-- Disc `d` is in drive `n` (R393 step 8): recognition and calibrations start anew. -/
def discIn (s : State) (n : Drive) (d time : Nat) : State :=
  let s := writeDiscRec s (sledOf n) 1 d
  let s := ((((setHolder s n 0).p Od.DRV_DISC n d).p Od.DRV_STATE n 3).p Od.DRV_DISC_ID n 0).p Od.CAL_FLAGS n 0
  let s := (setMedia (s.setDisc n none) n 1 0).setDv n fun x => { x with
    wake := some (4, time), cal := { x.cal with focusDone := 0, trackDone := 0, carry := false, eqDone := false } }
  let s := portArrive (s.p Od.CUR_LAYER n 0) n
  spinStart s n

/-- Every layer's calibration values of a drive return to none (R341). -/
def calForget (s : State) (n : Drive) : State :=
  let s := s.each (List.range 4) fun s l =>
    (((s.p Od.CAL_FO_OFS (4 * n + l) 0).p Od.CAL_TR_OFS (4 * n + l) 0).p Od.CAL_FO_TRIM (4 * n + l) 0x10000000).p
      Od.CAL_TR_TRIM (4 * n + l) 0x10000000
  s.setDv n fun d => { d with cal := { d.cal with focusDone := 0, trackDone := 0, eqDone := false } }

/-- The disc has left drive `n` (R341, R393). -/
def discOut (s : State) (n : Drive) : State :=
  let s := calForget s n
  let s := writeDiscRec s (sledOf n) 0 0xFFFF
  let s := (((setHolder s n 0).p Od.DRV_DISC n 0xFFFF).p Od.DRV_STATE n 4).p Od.DRV_DISC_ID n 0
  (setMedia (s.setDisc n none) n 0 0).setDv n fun x => { x with wake := none }

/-- The end of a step: what it did, and the next (R393, R394). -/
def pickStepDone (s : State) (r : PickReq) (k : Nat) : State :=
  let closed := s.inputOn 4 5
  let drv (s : State) (f : Drive → State) : State := if h : r.drive < 16 then f ⟨r.drive, h⟩ else s
  match k with
  | 1 => pickStep (if r.load then s else drv s (writeSnapshot s)) r 2
  | 3 =>
    if closed then
      let s := (writeDiscRec s Pick.jaw 1 r.disc).p Od.PICK_CARRY 0 r.disc
      pickStep (if r.load then s else drv s (discOut s)) r 4
    else if r.load then pickStep s r 20
    else pickFault s Cause.jaw
  | 7 =>
    if closed then pickFault s Cause.jaw
    else
      let s := if r.load then drv s (fun n => discIn s n r.disc r.time) else s
      let s := (writeDiscRec s Pick.jaw 0 0xFFFF).p Od.PICK_CARRY 0 0xFFFF
      pickStep s r 8
  | 8 => pickEnd s
  | 20 => pickStep s r 21
  | 21 => slotEmpty (pickEnd s) r.disc
  | k => pickStep s r (k + 1)

/-- The moves of the running step have ended. -/
def State.pickStill (s : State) (r : PickReq) : Bool :=
  (([16, 17, 18, 19] : List Axis).all fun a => s.atRest a && (s.ax a).homeFrom.isNone) &&
  (if h : r.drive < 16 then s.motion.picker.putBack.isSome || s.atRest ⟨r.drive, by omega⟩ else true)

/-- PICKER_STEP_DONE (R393). -/
def execPickerStepDone (s : State) : Out :=
  act s fun s => settle <|
    match s.motion.picker.seq with
    | some (r, k) => if s.g Od.PICK_STATE = 1 ∧ s.pickStill r = true then pickStepDone s r k else s
    | none => s

/-- A write of PICK_RESET: 1 homes the picker and clears its fault, but for ORPHAN (R395, R396). A sequence that runs
goes on to its end (R392). -/
def pickReset (s : State) : State :=
  let st := s.g Od.PICK_STATE
  if st = 1 ∨ st = 3 ∨ (st = 2 ∧ s.g Od.PICK_FAULT_CAUSE = Cause.orphan) then s
  else
    let s := s.setMot 16 fun m => { m with openRate := none }
    homePicker (s.p Od.PICK_FAULT_CAUSE 0 0)

/-- PICK_RESET (R395). -/
def execPickReset (s : State) : Out := actWrite 0 Od.PICK_RESET 0 (fun s => (pickReset s, 0)) s

/-- A write of PICK_PLACE: places an orphan disc in a declared, empty slot and clears ORPHAN (R397). A slot whose disc
is in a drive is not empty. -/
def pickPlace (s : State) (d : Nat) : State × Nat :=
  if !s.discDeclared d || (s.driveOf d).isSome then (s, 0x07)
  else if s.g Od.PICK_STATE = 2 ∧ s.g Od.PICK_FAULT_CAUSE = Cause.orphan then
    let s := writeDiscRec (s.p Od.PICK_FAULT_CAUSE 0 0) Pick.jaw 1 d
    (jawCheck s, 0)
  else (s, 0)

/-- PICK_PLACE (R397). -/
def execPickPlace (d : Nat) (s : State) : Out :=
  actWrite 0 Od.PICK_PLACE 0 (fun s => pickPlace s d) s

end Sys2Proof.Machine
end

