-- ==== Sys2Proof/Machine/Servo.lean ====
section
/-! DEFINITION. The drive servo's procedures: focus, layer jumps, tracking, seeks, holds, angle events, drive faults
and the Giperlink's faults (R192 to R223, R260 to R264). -/

namespace Sys2Proof.Machine

/-- The part number of front end `n` in the test-port table. -/
def fePart (n : Drive) : Fin 22 := ⟨1 + n.val, by omega⟩

/-- The command `DEFECT_LOOKBACK` periods before the sample (R210): a lookback of 0 takes the command sent last. -/
def lookback (s : State) (n : Drive) : Int × Int :=
  let h := s.drives[n].hist
  h.getD (s.gs Od.DEFECT_LOOKBACK) (h.getLastD (s.drives[n].fcmd, s.drives[n].tcmd))

/-! ### Focus and tracking -/

/-- The speed condition of R199. -/
def focusSpeed (s : State) (n : Drive) : Bool :=
  let v := s.gi Od.SPIN_SPEED_MEAS n
  let near (t : Nat) : Bool := decide ((v - (t : Int)).natAbs * 100 ≤ 2 * t)
  near (rpmUnits (s.speedRequest n)) || (s.gb Od.SPIN_FLAGS n 2 && near (s.g Od.SPIN_TARGET n))

/-- The drive is to be focused: in D0 or D1, or on its way there. -/
def State.focusWanted (s : State) (n : Drive) : Bool :=
  (decide (s.g Od.DRV_STATE n ≤ 1) || s.drives[n].wake.isSome) && s.g Od.DRIVE_FAULT n == 0

/-- Acquisition may start (R199). -/
def State.focusReady (s : State) (n : Drive) : Bool :=
  let d := s.drives[n]
  s.g Od.ANGLE_STATE n == 1 && focusSpeed s n && s.focusWanted n && !d.focusClosed && d.hold.isNone && !d.retraining &&
  !d.resetting && !d.fe.selfSafe && s.driven &&
  (match d.proc with
  | .sweep .. | .jump .. => false
  | _ => true)

/-- The layer the drive is to focus on: that of its next place, else the one under focus last. -/
def wantLayer (s : State) (n : Drive) : Nat :=
  match nextPlace s n with
  | some (p, _) => physLayer p
  | none => s.g Od.CUR_LAYER n % 4

/-- A focus sweep starts (R199 step 1). -/
def sweepStart (s : State) (n : Drive) (attempt : Nat) (cal : Bool) : State :=
  (s.p Od.DRIVE_SERVO_STATE n 2).setDv n fun d => { d with
    proc := .sweep attempt false false 0 false 0 cal, fcmd := s.gsi Od.FOCUS_SWEEP_START, tcmd := 0, laserMode := 1
    focusClosed := false, trackClosed := false, inhibit := true }

/-- FOCUS_ACQUISITION: a sweep towards the target layer (R199). A disc whose focus balance is not done gets its
calibration sweep first (R342, R353). -/
def execFocusAcquisition (n : Drive) (s : State) : Out :=
  act s fun s =>
    if s.focusReady n && s.drives[n].cal.focusDone == 15 then
      sweepStart (s.setDv n fun d => { d with target := wantLayer s n }) n 1 false
    else s

/-- The per-layer offsets and trims of the layer under focus go into the loops (R340). -/
def calCopy (s : State) (n : Drive) (layer : Nat) : State :=
  let e := 4 * n.val + layer
  (((s.p Od.LOOP_OFFSET (4 * n) (s.g Od.CAL_FO_OFS e)).p Od.LOOP_TRIM (4 * n) (s.g Od.CAL_FO_TRIM e)).p
    Od.LOOP_OFFSET (4 * n + 1) (s.g Od.CAL_TR_OFS e)).p Od.LOOP_TRIM (4 * n + 1) (s.g Od.CAL_TR_TRIM e)

/-- The focus loop closes on a layer (R199 step 4, R200 step 5, R340); tracking is pulled in next (R202). -/
def focusClose (s : State) (n : Drive) (layer : Nat) : State :=
  let s := calCopy ((s.p Od.CUR_LAYER n layer).p Od.DRIVE_SERVO_STATE n 3) n layer
  s.setDv n fun d => { d with
    focusClosed := true, layerCheck := true, target := layer, sumLow := 0, xings := []
    proc := .pullIn (s.g Od.REV_COUNT n) }

/-- The crossing rate measured from TRACK_XING over 250 servo periods, 1 ms (R202). -/
def crossingRate (s : State) (n : Drive) : Nat :=
  let x := s.drives[n].xings
  (x.headD 0 + 65536 - x.getLastD 0) % 65536

/-- The tracking balance of the layer under focus is done (R344). -/
def State.balanceDone (s : State) (n : Drive) : Bool := s.drives[n].cal.trackDone.getLsbD (s.g Od.CUR_LAYER n)

/-- TRACKING_PULL_IN: the loop closes at a zero crossing of the slope for the track type, at a low enough crossing rate
(R202); the Winnower is armed (R287). While a long seek moves the sled it stays open (R206). -/
def execTrackingPullIn (n : Drive) (s : State) : Out :=
  act s fun s =>
    let d := s.drives[n]
    let waits := match d.proc with
      | .pullIn _ => s.balanceDone n
      | .seek .. => true
      | _ => false
    if d.focusClosed && !d.trackClosed && waits && (s.ax (sledOf n)).move.isNone && d.hold.isNone &&
        decide (crossingRate s n ≤ s.gs Od.TRACK_PULLIN_RATE) then
      (s.p Od.DRIVE_SERVO_STATE n 4).setDv n fun d => { d with
        trackClosed := true, lg := 0
        proc := match d.proc with
          | .seek t k _ => .seek t k false
          | _ => .idle
        fe := { d.fe with armed := true, settle := s.gf n Od.WIN_ARM_SETTLE } }
    else s

/-- TRACK_PULL_IN_TIMEOUT: no pull-in within 4 revolutions (R202, R214). -/
def execTrackPullInTimeout (n : Drive) (s : State) : Out :=
  act s fun s =>
    match s.drives[n].proc with
    | .pullIn rev => if rev + 4 ≤ s.g Od.REV_COUNT n ∧ s.balanceDone n = true then loseLock s n 1 false else s
    | _ => s

/-- WOBBLE_LOCK: focus and tracking closed and the wobble PLL locked (R192). -/
def execWobbleLock (n : Drive) (s : State) : Out :=
  actPart (fePart n) s fun s =>
    let d := s.drives[n]
    if d.focusClosed && d.trackClosed && s.g Od.ANGLE_STATE n == 1 then
      (setAngle s n 2).setDv n fun d => { d with addrGood := 0, addrBad := 0 }
    else s

/-- Tracking opens for a jump or a seek: the angle falls to OBSERVER and the Winnower is disarmed (R193, R287). -/
def openTracking (s : State) (n : Drive) : State :=
  angleOpen (s.setDv n fun d => { d with trackClosed := false, tcmd := 0, lg := 0, fe := { d.fe with armed := false } }) n

/-- LAYER_JUMP: one layer towards the drive's next place (R200). While DEFECT holds the loops the kick waits. -/
def execLayerJump (n : Drive) (s : State) : Out :=
  act s fun s =>
    let d := s.drives[n]
    let cur := s.g Od.CUR_LAYER n
    let want := wantLayer s n
    let busy := match d.proc with
      | .sweep .. | .jump .. => true
      | _ => false
    if d.focusClosed && d.hold.isNone && !busy && want != cur && d.fe.gate.isNone then
      let up := decide (cur < want)
      let s := openTracking s n
      (s.p Od.DRIVE_SERVO_STATE n 6).setDv n fun d => { d with
        focusClosed := false, target := if up then cur + 1 else cur - 1
        proc := .jump up 0 (s.gs Od.LAYER_KICK_T) 0 0, cal := { d.cal with carry := false } }
    else s

/-- LAYER_JUMP_TIMEOUT: focus has not closed within LAYER_JUMP_WINDOW periods of the kick (R200). The whole of R199 is
run for the target layer. -/
def execLayerJumpTimeout (n : Drive) (s : State) : Out :=
  act s fun s =>
    match s.drives[n].proc with
    | .jump _ _ _ _ since => if s.gs Od.LAYER_JUMP_WINDOW ≤ since then sweepStart s n 1 false else s
    | _ => s

/-- LAND_GROOVE_SWITCH: at the switching angle the sign of tracking is inverted and the loop held (R203); in D1 a back
jump of one track is made instead (R204). -/
def execLandGrooveSwitch (n : Drive) (s : State) : Out :=
  act s fun s =>
    let d := s.drives[n]
    if d.focusClosed && d.trackClosed && decide (2 ≤ s.g Od.ANGLE_STATE n) then
      let held := match d.hold with
        | some h => h.track
        | none => (lookback s n).2
      if s.g Od.DRV_STATE n = 1 then
        (s.useFree).setDv n fun d => { d with lg := s.gs Od.LG_HOLD_SAMPLES, lgCmd := toInt 16 (s.free 16) }
      else
        (s.inc Od.CUR_TRACK n).setDv n fun d => { d with land := !d.land, lg := s.gs Od.LG_HOLD_SAMPLES, lgCmd := held }
    else s

/-! ### Seeks -/

/-- The track the drive's next place lies on, and the distance to it; none while there is none on this layer. -/
def seekWay (s : State) (n : Drive) : Option (Nat × Int) :=
  (nextPlace s n).bind fun (p, _) =>
    if physLayer p = s.g Od.CUR_LAYER n then
      some (slotTrack (physSlot p), (slotTrack (physSlot p) : Int) - s.g Od.CUR_TRACK n)
    else none

/-- A seek may start: tracking closed, nothing else running, the place neither on this track nor the next. -/
def State.seekReady (s : State) (n : Drive) : Bool :=
  let d := s.drives[n]
  d.focusClosed && d.trackClosed && d.hold.isNone && d.proc == .idle && d.fe.gate.isNone && d.outstanding.isEmpty &&
  s.g Od.ANGLE_STATE n == 3

/-- Revolution the seek starts from: one before the place, so that the preamble is still to come. -/
def seekGoal (t : Nat) (d : Int) : Option (Nat × Int) := if d = 0 ∨ d = 1 then none else some (t, d)

/-- FINE_SEEK: a short seek on the tracking actuator (R205). -/
def execFineSeek (n : Drive) (s : State) : Out :=
  act s fun s =>
    match (seekWay s n).bind fun (t, d) => seekGoal t d with
    | some (t, d) =>
      if s.seekReady n && decide (d.natAbs ≤ s.gs Od.SEEK_SHORT_MAX) then
        ((openTracking s n).p Od.DRIVE_SERVO_STATE n 5).setDv n fun x => { x with proc := .seek t 1 false, land := decide (t % 2 = 1) }
      else s
    | none => s

/-- Microsteps of a long seek (R206): round(D × 240,000 / SLED_PM_PER_USTEP). -/
def seekMicrosteps (s : State) (d : Int) : Int := roundRat ((d * 240000 : Int) / (max 1 (s.gs Od.SLED_PM_PER_USTEP) : Rat))

/-- LONG_SEEK: the sled moves by a profile with tracking open (R206). -/
def execLongSeek (n : Drive) (s : State) : Out :=
  act s fun s =>
    match (seekWay s n).bind fun (t, d) => seekGoal t d with
    | some (t, d) =>
      if s.seekReady n && decide (s.gs Od.SEEK_SHORT_MAX < d.natAbs) then
        let s := ((openTracking s n).p Od.DRIVE_SERVO_STATE n 5).setDv n fun x => { x with proc := .seek t 0 true, land := decide (t % 2 = 1) }
        startMove s (sledOf n) ((s.ax (sledOf n)).pos / 65536 + seekMicrosteps s d) .seek
      else s
    | none => s

/-- The track an address word names (R303). -/
def wordTrack (w : Nat) : Nat := revOf (slotWobbles * fieldOf w 19 0 + 48 * fieldOf w 30 22)

/-- SEEK_END: the first address word after a seek (R205 to R208). On the target the seek ends, and is late when its
sheaf's preamble lies nearer than SEEK_MARGIN; elsewhere another fine seek follows, up to SEEK_FINE_ATTEMPTS. -/
def execSeekEnd (n : Drive) (word : Nat) (s : State) : Out :=
  actPart (fePart n) s fun s =>
    let d := s.drives[n]
    match d.proc with
    | .seek t tries _ =>
      if d.trackClosed then
        let here := wordTrack word
        let s := s.p Od.CUR_TRACK n here
        if here = t then
          let s := (s.p Od.DRIVE_SERVO_STATE n 4).setDv n fun d => { d with proc := .idle }
          match nextPlace s n with
          | some (p, _) =>
            let sau := angleOf (slotWobbles * physSlot p)
            let ahead := (sau + 65536 - s.g Od.ANGLE_NOW n % 65536) % 65536
            if ahead < s.gs Od.SEEK_MARGIN then s.inc Od.ANGLE_SLIP_CNT n else s
          | none => s
        else if tries < s.gs Od.SEEK_FINE_ATTEMPTS then
          (openTracking s n).setDv n fun d => { d with proc := .seek t (tries + 1) false }
        else loseLock s n 2 false
      else s
    | _ => s

/-! ### Holds -/

/-- DEFECT_HOLD_MAX_EXPIRY: the hold ends and tracking is lost, focus too when SUM is low (R212). The SUM seen last is
judged by the count of low periods. -/
def execDefectHoldMaxExpiry (n : Drive) (s : State) : Out :=
  act s fun s =>
    match s.drives[n].hold with
    | some h =>
      if s.gs Od.DEFECT_HOLD_MAX ≤ h.count then
        let low := decide (0 < s.drives[n].sumLow)
        let s := (s.inc Od.DEFECT_HOLD_OVER_CNT n).setDv n fun d => { d with hold := none }
        let s := loseLock s n 1 false
        if low then loseLock s n 0 true else s
      else s
    | none => s

/-! ### Angle events -/

/-- Forget an event once the front end has reported it. -/
def eventDone (s : State) (n : Drive) (id : Nat) : State :=
  s.setDv n fun d => { d with outstanding := d.outstanding.filter fun e => e.id != id }

/-- The event is gone from the front end's queue and is the last done. -/
def feTake (s : State) (n : Drive) (id : Nat) (late : Bool) : State :=
  s.setDv n fun d => { d with fe := { d.fe with
    events := d.fe.events.filter fun e => e.id != id, doneId := id % 256, late := late } }

/-- A read or scan gate opens: AGC, acquisition, syncs and counts start anew on the settings now in force (R268,
R276, R296). -/
def readGateOpen (s : State) (n : Drive) (e : AngleEvent) : State :=
  let layer := s.g Od.CUR_LAYER n
  let fe := s.drives[n].fe
  let gain := if fe.gainLayer = some layer then (if h : layer < 4 then fe.gains[layer] else 150) else 150
  let carried := s.g Od.EQ_ADAPT == 2 && s.drives[n].cal.carry
  let init := (List.range 15).map fun t => s.gi Od.EQ_TAPS_INIT (15 * n + t)
  let eq := match s.drives[n].cal.eqTaps with
    | some l => l.map (toInt 16)
    | none => init
  let taps := if s.drives[n].cal.eqLeft ≠ 0 then eq
    else if carried then (List.range 15).map fun t => s.gi Od.EQ_TAPS (15 * n + t) else init
  (s.p Od.RC_STATE n 1).setDv n fun d => { d with fe := { d.fe with
    gate := some ⟨e, false⟩, lockBit := 0, syncPos := 1920, frame := 0, fly := 0, syncMiss := 0, syncLoss := 0
    flagFrom := none, fifoRead := [], overrun := false, spans := [], critBytes := Vector.replicate 6 0, flagBytes := 0
    gains := if h : layer < 4 then d.fe.gains.set layer gain else d.fe.gains, gainLayer := some layer
    det := { Detector.fresh with taps := taps }, img := none } }

/-- The write gate of an event opens on the head sheaf: the sheaf goes onto the disc, or its slot is erased first
(R191, R261, R331). -/
def writeGateOpen (s : State) (n : Drive) (e : AngleEvent) : State :=
  let s := s.setDv n fun d => { d with fe := { d.fe with gate := some ⟨e, true⟩ } }
  match s.media.cur[n] with
  | none => s
  | some o =>
    match o.todo with
    | [] => s
    | w :: _ =>
      let k := 64 * o.disc + o.dz
      let s := if Keyed.getD s.media.hwm k 0 ≤ w.q then
          { s with media := { s.media with hwm := Keyed.insert s.media.hwm k (w.q + 1) } } else s
      if s.drives[n].laserMode = 3 then s.emit (.erased n w.phys)
      else recordSlot s n w.phys (sheafMeta s o w) w.user

/-- ANGLE_EVENT_EXECUTE: the counter of a front end reaches an event (R191, R195, R261, R268, R294, R295). -/
def execAngleEventExecute (n : Drive) (id : Nat) (s : State) : Out :=
  actPart (fePart n) s fun s =>
    let fe := s.drives[n].fe
    match fe.events.find? fun e => e.id == id with
    | none => s
    | some e =>
      let s := feTake s n id false
      let dark := fe.selfSafe || fe.laserFault || s.drives[n].rail5Low || !s.pins.laserEn.getLsbD n
      if e.kind = 1 then
        if dark || s.drives[n].inhibit || s.drives[n].laserMode ≤ 1 then s
        else if fe.fifo < 82560 then s.setDv n fun d => { d with fe := { d.fe with underrun := true } }
        else writeGateOpen s n e
      else if e.kind = 2 ∨ e.kind = 5 then
        match fe.gate with
        | some g => if g.write then feTake s n id true else s
        | none => if dark then s else readGateOpen s n e
      else if e.kind = 3 then
        match fe.gate with
        | some g => if g.write then s else s.setDv n fun d => { d with fe := { d.fe with stepWaiting := some e } }
        | none => s.setDv n fun d => { d with fe := { d.fe with power := e.arg % 16384 }, laserPwr := e.arg % 16384 }
      else s

/-- A late event: the operation is scheduled one revolution later (R196). -/
def lateEvent (s : State) (n : Drive) (id : Nat) : State :=
  if s.drives[n].outstanding.any fun e => e.id == id then
    ((eventDone s n id).inc Od.ANGLE_SLIP_CNT n).setDv n fun d => { d with rx := none }
  else s

/-- EVT_LATE: an event whose angle has passed is discarded and reported (R196). -/
def execEvtLate (n : Drive) (id : Nat) (s : State) : Out :=
  actPart (fePart n) s fun s =>
    if (s.drives[n].fe.events.any fun e => e.id == id) || (s.drives[n].outstanding.any fun e => e.id == id) then
      lateEvent (feTake s n id true) n id
    else s

/-! ### Faults and resets -/

/-- A write of DRIVE_RESET[n] (R218): a Drive reset that also clears DRIVE_FAULT; a disc in FAULT goes back to its slot
(R322). -/
def driveResetWrite (s : State) (n : Drive) : State :=
  if s.driveDeclared n then
    let s := (driveReset s n).p Od.DRIVE_FAULT n 0
    let s := s.p Od.DRIVE_SERVO_STATE n 0
    if s.g Od.MEDIA_STATE n = 4 ∧ s.pickBusy n = false then
      s.setPicker fun p => { p with queue := p.queue ++ [⟨false, s.g Od.DRV_DISC n, n, s.now, .admin⟩] }
    else s
  else s

/-- DRIVE_RESET (R218). -/
def execDriveReset (n : Drive) (s : State) : Out := actWrite 0 Od.DRIVE_RESET n (fun s => (driveResetWrite s n, 0)) s

/-- DRIVE_FAULT_TIMEOUT: what waits for a faulted drive, or for a faulted picker, fails with Internal Error (R219, R395,
R438). -/
def driveFaultTimeout (who : Option Drive) (s : State) : State :=
  settle <|
    match who with
    | some n =>
      if s.g Od.DRIVE_FAULT n ≠ 0 then
        let s := match s.media.cur[n] with
          | some o => endOp (if o.kind = .stook then rebuildPass s o else failOp s o .internalError false) n
          | none => s
        if s.g Od.DRV_DISC n = 0xFFFF then s else failDisc s (s.g Od.DRV_DISC n) .internalError false
      else s
    | none =>
      if s.g Od.PICK_STATE = 2 then
        let ds := (s.motion.loads ++ s.motion.picker.queue.filter fun r => r.load).map (·.disc)
        let s := { s with motion := { s.motion with loads := [] } }
        let s := s.setPicker fun p => { p with queue := p.queue.filter fun r => !r.load }
        s.each ds fun s d => failDisc s d .internalError false
      else s

/-- SELF_SAFE: a front end has missed six downstream A-cells (R220): the laser off, the gate closed, its queue
discarded, the actuators ramped to 0; not while its port sleeps (R691). The controller learns of it from FE_STATUS. -/
def execSelfSafe (n : Drive) (s : State) : Out :=
  actPart (fePart n) s fun s =>
    let p := s.pwr.dom[(⟨5 + n.val, by omega⟩ : Fin 21)]
    if p = .off ∨ p = .exiting then s
    else
    let s := closeWriteGate s n
    (s.p Od.RC_STATE n 0).setDv n fun d => { d with fe := { d.fe with
      selfSafe := true, gate := none, events := [], missDown := max 6 d.fe.missDown, power := 0 } }

/-- GIPERLINK_ALIGNED: a retrain restores alignment in both directions; SELF_SAFE ends (R216, R220, R222). -/
def execGiperlinkAligned (n : Drive) (s : State) : Out :=
  act s fun s =>
    if s.drives[n].retraining then
      s.setDv n fun d => { d with retraining := false, missUp := 0, sent := [], fe := { d.fe with selfSafe := false, missDown := 0 } }
    else s

/-- GIPERLINK_RETRAIN_TIMEOUT: a retrain or a wake has not aligned within 20 ms (R222, R691). -/
def execGiperlinkRetrainTimeout (n : Drive) (s : State) : Out :=
  act s fun s =>
    if s.drives[n].retraining || s.pwr.dom[(⟨5 + n.val, by omega⟩ : Fin 21)] == .exiting then feReset s n else s

/-- A write of FE_RESET[n] (R222). -/
def feResetWrite (s : State) (n : Drive) : State := if s.driveDeclared n then feReset s n else s

/-- FE_RESET (R222). -/
def execFeReset (n : Drive) (s : State) : Out := actWrite 0 Od.FE_RESET n (fun s => (feResetWrite s n, 0)) s

/-- FE_RESET_RELEASE: after 1 ms FE_RST_N is high; the link trains, the dark offset runs and the identity word is
awaited (R222, R339). -/
def execFeResetRelease (n : Drive) (s : State) : Out :=
  act s fun s =>
    if s.drives[n].resetting ∧ s.driveDeclared n = true ∧ s.pwr.railOut = 0 then
      ({ s with pins := { s.pins with feRst := s.pins.feRst ||| BitVec.twoPow 16 n } }).p Od.CAL_STATE n 1
    else s

/-- LASER_FAULT: the front end turns its laser off and closes its gate (R263). -/
def execLaserFault (n : Drive) (s : State) : Out :=
  actPart (fePart n) s fun s =>
    let s := closeWriteGate s n
    (s.p Od.RC_STATE n 0).setDv n fun d => { d with fe := { d.fe with laserFault := true, gate := none, power := 0 } }

/-- An A-cell reports LASER_FAULT (R264). -/
def laserReport (s : State) (n : Drive) : State :=
  if s.gb Od.DRIVE_FAULT n 4 then s
  else faultDrive (inhibitDrive (s.inc Od.LASER_FAULT_CNT n) n true true) n 4

end Sys2Proof.Machine
end

