-- ==== Sys2Proof/Machine/Superframe.lean ====
section
/-! DEFINITION. The Giperlink superframe: what the controller sends every 4 µs, what it takes from an upstream A-cell,
and bulk cells (R184 to R196, R199, R200, R210 to R215, R220, R221). -/

namespace Sys2Proof.Machine

/-! ### Downstream -/

/-- The Giperlink carries superframes: its front end has answered, no retrain or reset runs, and the port does not
sleep (R691). -/
def State.glUp (s : State) (n : Drive) : Bool :=
  s.parts.feUp.getLsbD n && !s.drives[n].retraining && !s.drives[n].resetting &&
  (let p := s.pwr.dom[(⟨5 + n.val, by omega⟩ : Fin 21)]
   p == .on || p == .entering)

/-- Gates are inhibited for the whole device: a power-fail sequence or an ESTOP stop (R42, R686). -/
def State.gatesHeld (s : State) : Bool := s.g Od.PF_STATE != 0 || s.gb Od.INTERLOCK_STATE 0 8

/-- LASER_MODE and LASER_CMD of a drive (R260, R261, R347, R349, R351). -/
def laserCommand (s : State) (n : Drive) : Nat × Nat :=
  let d := s.drives[n]
  let layer := s.g Od.CUR_LAYER n % 4
  let cal := match d.proc with
    | .sweep _ _ _ _ _ _ c => c
    | _ => false
  let least := (List.range (mediaOf (s.mediaIn n)).layers).foldl (fun m l => min m (s.gs Od.READ_PWR (s.powerIx n l)))
    (s.gs Od.READ_PWR (s.powerIx n 0))
  let pwr := match d.laserMode with
    | 0 => 0
    | 1 => if d.laserPwr ≠ 0 then d.laserPwr else if cal then least else s.gs Od.READ_PWR (s.powerIx n layer)
    | 2 => s.g Od.WRITE_PWR_CUR (4 * n + layer)
    | _ => s.gs Od.ERASE_PWR layer
  (d.laserMode, pwr % 16384 + 16384 * b2n (d.laserMode == 1 && s.gs Od.READ_HFM == 1))

/-- The downstream A-cell of a drive (R186). -/
def driveCell (s : State) (n : Drive) : List Byte :=
  let d := s.drives[n]
  let (mode, cmd) := laserCommand s n
  let ev := d.toSend.head?
  let e := ev.getD ⟨0, 0, 0, 0, 0⟩
  padTo 64 (leBytes 2 (ofInt 16 d.fcmd) ++ leBytes 2 (ofInt 16 d.tcmd) ++ leBytes 2 cmd ++ leBytes 1 mode ++
    leBytes 1 (b2n (d.inhibit || s.gatesHeld) + 2 * b2n d.flush + 4 * b2n d.angleSet.isSome) ++
    leBytes 1 e.kind ++ leBytes 1 e.id ++ leBytes 2 e.sau ++ leBytes 2 e.rev ++ leBytes 4 e.arg ++
    leBytes 4 (d.angleSet.getD 0))

/-- A focus sweep goes on by one step for the next superframe; when FOCUS_CMD has reached its end the next sweep starts, or focus is
lost (R199). A calibration sweep stays there (R342). -/
def sweepNext (s : State) (n : Drive) : State :=
  let d := s.drives[n]
  match d.proc with
  | .sweep attempt _ _ _ _ _ cal =>
    if s.gsi Od.FOCUS_SWEEP_END ≤ d.fcmd then
      if cal then s
      else if attempt < s.gs Od.FOCUS_ATTEMPTS then sweepStart s n (attempt + 1) false
      else loseLock s n 0 true
    else s.setDv n fun d => { d with fcmd := min (s.gsi Od.FOCUS_SWEEP_END) (d.fcmd + s.gs Od.FOCUS_SWEEP_STEP) }
  | _ => s

/-- The commands of one servo period that no loop computes: the kick and brake of a layer jump, and a fine seek's, whose values the
spec does not state (R200, R205). -/
def stepProcs (s : State) (n : Drive) : State :=
  let d := s.drives[n]
  match d.proc with
  | .jump up phase left fe since =>
    let kick := s.gsi Od.LAYER_KICK
    let base := d.loops[0].out
    let toward := if up then -kick else kick
    let since := since + 1
    match phase with
    | 0 => s.setDv n fun d => { d with
        fcmd := satInt 16 (base + toward), proc := if left ≤ 1 then .jump up 1 0 0 since else .jump up 0 (left - 1) fe since }
    | 2 => s.setDv n fun d => { d with
        fcmd := satInt 16 (base - toward), proc := if left ≤ 1 then .jump up 3 0 fe since else .jump up 2 (left - 1) fe since }
    | _ => s.setDv n fun d => { d with fcmd := base, proc := .jump up phase left fe since }
  | .seek _ _ long =>
    if d.trackClosed || long then s
    else (s.useFree).setDv n fun d => { d with tcmd := toInt 16 (s.free 16) }
  | _ => s

/-- Send one drive its superframe; what was said once is taken back, and the front end holds what it received (R185,
R186, R189, R195, R262). -/
def driveSend (s : State) (n : Drive) : State :=
  if s.glUp n then
    let s := stepProcs s n
    let d := s.drives[n]
    let bulk := d.bulk.take 8
    let (mode, cmd) := laserCommand s n
    let s := s.emit (.superframe n (s.sf % 65536) 1 d.ackOut (driveCell s n) (bulk.map (bulkChars 92)))
    let s := s.setDv n fun d =>
      let fe := d.fe
      let ev := d.toSend.head?
      { d with
        hist := ((d.fcmd, d.tcmd) :: d.hist).take 16
        toSend := d.toSend.drop 1
        outstanding := if d.flush then [] else d.outstanding ++ ev.toList
        flush := false, angleSet := none, ackOut := d.ackNext, ackNext := 0
        bulk := d.bulk.drop 8, sent := (bulk :: d.sent).take 4
        fe := if d.rail3Low then fe else { fe with
          events := if d.flush then [] else fe.events ++ ev.toList
          power := cmd % 16384, readPower := if mode = 1 then cmd % 16384 else fe.readPower
          laserFault := (fe.laserFault && mode != 0) || d.rail5Low, missDown := 0
          settle := fe.settle - 1 } }
    let s := if s.gatesHeld || s.drives[n].inhibit then closeWriteGate s n else s
    sweepNext s n
  else s

/-- SUPERFRAME_SEND: downstream superframe k of every Giperlink (R184). A committed image is in force in the servo array
from here on (R74). -/
def execSuperframeSend (s : State) : Out :=
  act s fun s =>
    let s := { s with servoImg := none }
    let s := s.each (List.finRange 16) driveSend
    { s with sf := s.sf + 1 }

/-! ### Upstream -/

/-- The fields of an upstream A-cell (R187). -/
structure UpCell where
  fe : Int
  te : Int
  sum : Nat
  angle : Nat
  status : Nat
  doneId : Nat
  xing : Nat
  word : Nat
  wordSau : Nat
  wordSeq : Nat
  deriving DecidableEq, Repr

def UpCell.parse (c : List Byte) : UpCell :=
  let u (at_ n : Nat) : Nat := ofLe (slice at_ n c)
  { fe := toInt 16 (u 0 2), te := toInt 16 (u 2 2), sum := u 4 2, angle := u 8 4, status := u 16 1, doneId := u 17 1
    xing := u 18 2, word := u 20 4, wordSau := u 24 2, wordSeq := u 26 1 }

def UpCell.bit (c : UpCell) (i : Nat) : Bool := c.status.testBit i

/-- ANGLE_NOW, REV_COUNT and LIFE_DRV_REV from the 16-bit revolution of the cell (R198, R708). -/
def angleUp (s : State) (n : Drive) (angle : Nat) : State :=
  let old := s.g Od.ANGLE_NOW n
  let revs := (angle / 65536 + 65536 - old / 65536) % 65536
  let s := (s.p Od.ANGLE_NOW n angle).setDv n fun d => { d with angleAt := s.now }
  if s.g Od.ANGLE_STATE n = 0 ∨ 32768 ≤ revs then s else (s.add Od.REV_COUNT n revs).add Od.LIFE_DRV_REV n revs

/-- Distance of two angles in SAU modulo a revolution. -/
def sauApart (a b : Nat) : Nat := (toInt 16 (a + 65536 - b % 65536)).natAbs

/-- LOCKED is entered (R193, R238): ANGLE_SET moves the counter by a shift, MLOCK_OFS follows so that the electrical angle
does not move, and a wake has reached D0. -/
def angleLock (s : State) (n : Drive) (shift : Nat) : State :=
  let a := s.g Od.ANGLE_NOW n
  let a' := a / 65536 * 65536 + (a + shift) % 65536
  let pp := s.gs Od.SPIN_POLE_PAIRS n
  let s := (s.p Od.ANGLE_NOW n a').p Od.MLOCK_OFS n ((s.g Od.MLOCK_OFS n + pp * (65536 - shift % 65536)) % 65536)
  let s := s.setMot (spindleOf n) fun m => { m with
    lastAngle := m.lastAngle / 65536 * 65536 + (m.lastAngle + shift) % 65536, lockVals := [] }
  let s := (setAngle s n 3).setDv n fun d => { d with angleSet := some a', addrBad := 0 }
  settle (wakeDone s n)

/-- A newly decoded address word (R192, R193, R201, R305). -/
def addressUp (s : State) (n : Drive) (c : UpCell) : State :=
  let slot := fieldOf c.word 19 0
  let unit := fieldOf c.word 30 22
  let layer := fieldOf c.word 21 20
  let fmt := unitAngle slot unit
  let d := s.drives[n]
  let s := s.p Od.CUR_TRACK n (wordTrack c.word)
  let s := s.setDv n fun d => { d with addrLast := c.wordSau, land := decide (wordTrack c.word % 2 = 1) }
  if d.layerCheck && layer != d.target then
    loseLock (s.setDv n fun d => { d with layerCheck := false }) n 2 true
  else
    let s := (s.p Od.CUR_LAYER n layer).setDv n fun d => { d with layerCheck := false }
    match s.g Od.ANGLE_STATE n with
    | 2 =>
      let ofs := (c.wordSau + 65536 - fmt) % 65536
      if d.addrGood = 1 ∧ sauApart ofs d.addrOfs ≤ 64 then angleLock s n ((65536 - ofs) % 65536)
      else s.setDv n fun d => { d with addrGood := 1, addrOfs := ofs }
    | 3 =>
      let bad := if sauApart c.wordSau fmt ≤ 64 then 0 else d.addrBad + 1
      let s := s.setDv n fun d => { d with addrBad := bad }
      if 4 ≤ bad then loseLock (setAngle s n 2) n 2 false else s
    | _ => s

/-- Words that failed to decode, seen by the angle that has passed since the last one (R193). -/
def addressGap (s : State) (n : Drive) (angle : Nat) : State :=
  let d := s.drives[n]
  if s.g Od.ANGLE_STATE n = 3 ∧ d.hold = none ∧ d.addrSeq.isSome then
    let unit := 48 * 65536 / revWobbles (s.g Od.CUR_TRACK n) + 1
    let missed := ((angle + 65536 - d.addrLast) % 65536) / unit - 1
    if 4 ≤ d.addrBad + missed ∧ missed ≠ 0 then loseLock (setAngle s n 2) n 2 false else s
  else s

/-- The length of a whole write gate in SAU, from the angle it opened at (R306). -/
def gateSau (s : State) (n : Drive) : Nat := 1002984 / 72 * 65536 / revWobbles (s.g Od.CUR_TRACK n)

/-- A write gate has closed with its sheaf whole: the sheaf waits for its verification, or its slot is erased (R326,
R331). -/
def writeGateDone (s : State) (n : Drive) : State :=
  let erase := s.drives[n].laserMode == 3
  let s := s.setDv n fun d => { d with wgSeen := false, laserMode := 1, fe := { d.fe with gate := none, fifo := if erase = true then d.fe.fifo else 0 } }
  match s.media.cur[n] with
  | none => s
  | some o =>
    match o.todo with
    | [] => s
    | w :: rest =>
      if erase then s.setCur n (some { o with todo := { w with erased := true } :: rest })
      else s.setCur n (some { o with todo := rest, wrote := o.wrote ++ [w], verifying := rest.isEmpty })

/-- WG_OPEN of the cell against the gate the front end opened (R209, R220, Case 8): a gate that closes before its angle
is through has not recorded its sheaf. -/
def writeGateUp (s : State) (n : Drive) (c : UpCell) : State :=
  let d := s.drives[n]
  match d.fe.gate with
  | some g =>
    if g.write then
      let start := g.ev.rev * 65536 + g.ev.sau
      let run := (c.angle + 2 ^ 32 - start) % 2 ^ 32
      if gateSau s n ≤ run ∧ run < 2 ^ 31 then writeGateDone s n
      else if c.bit 2 then s.setDv n fun d => { d with wgSeen := true }
      else if d.wgSeen then closeWriteGate s n
      else s
    else s
  | none => s

/-- EVT_DONE_ID, EVT_LATE and FIFO_UNDERRUN (R191, R195, R196, R327). -/
def eventsUp (s : State) (n : Drive) (c : UpCell) : State :=
  match s.drives[n].outstanding.find? fun e => e.id == c.doneId with
  | none => s
  | some e =>
    if c.bit 4 then lateEvent s n e.id
    else
      let s := eventDone s n e.id
      if e.kind = 1 ∧ c.bit 5 = true then
        writeBroken (s.setDv n fun d => { d with fe := { d.fe with underrun := false } }) n
      else if e.kind = 3 then s.setDv n fun d => { d with laserPwr := e.arg % 16384 }
      else s

/-- Focus sweeps: the surface, the layers' S-curves, and the zero crossing that closes the loop (R199, R342). -/
def sweepUp (s : State) (n : Drive) (c : UpCell) : State :=
  match s.drives[n].proc with
  | .sweep attempt surface onSurface curves onLayer fe cal =>
    let min_ := s.gs Od.FOCUS_SUM_MIN
    let surf := s.gs Od.FOCUS_SUM_SURF
    let layers := (mediaOf (s.mediaIn n)).layers
    if surface then
      let enter := decide (min_ ≤ c.sum) && !onLayer
      let curves' := if enter then curves + 1 else curves
      let on := decide (min_ ≤ c.sum)
      let layer := layers - curves'
      let cross := decide (fe < 0 ∧ 0 ≤ c.fe) || decide (0 < fe ∧ c.fe ≤ 0)
      let d := s.drives[n]
      if !cal && on && !enter && layer == d.target && cross then focusClose s n layer
      else
        let rec_ (l : List (Int × Int)) : List (Int × Int) :=
          if !cal || !on then l
          else if enter then l ++ [(c.fe, c.fe)]
          else modifyAt l (l.length - 1) fun (a, b) => (max a c.fe, min b c.fe)
        s.setDv n fun d => { d with
          proc := .sweep attempt true false curves' on c.fe cal, cal := { d.cal with sweepFe := rec_ d.cal.sweepFe } }
    else
      let on := decide (surf ≤ c.sum ∧ c.sum < min_)
      let seen := onSurface && decide (c.sum < surf)
      s.setDv n fun d => { d with proc := .sweep attempt seen on curves false c.fe cal }
  | .jump up phase left fe since =>
    match phase with
    | 1 =>
      if c.fe.natAbs < fe.natAbs ∧ fe ≠ 0 then
        s.setDv n fun d => { d with proc := .jump up 2 (s.gs Od.LAYER_KICK_T) c.fe since }
      else s.setDv n fun d => { d with proc := .jump up 1 left c.fe since }
    | 3 =>
      let cross := decide (fe < 0 ∧ 0 ≤ c.fe) || decide (0 < fe ∧ c.fe ≤ 0)
      if cross ∧ s.gs Od.FOCUS_SUM_MIN ≤ c.sum then focusClose s n s.drives[n].target
      else s.setDv n fun d => { d with proc := .jump up 3 left c.fe since }
    | _ => s
  | .balance _ =>
    -- The peaks of each half cycle of TE (R344).
    let d := s.drives[n]
    let wider (p : Option (Int × Int)) : Option (Int × Int) := match p with
      | none => some (c.te, c.te)
      | some (a, b) => some (max a c.te, min b c.te)
    let turn := match d.xings with
      | _ :: x :: _ => x != c.xing
      | _ => false
    s.setDv n fun d => { d with cal := { d.cal with
      teAll := wider d.cal.teAll
      teHalf := if turn then d.cal.teHalf ++ d.cal.teCur.toList else d.cal.teHalf
      teCur := if turn then some (c.te, c.te) else wider d.cal.teCur } }
  | _ => s

/-- The defect hold of one servo period (R210, R211, R286, R287). -/
def holdUp (s : State) (n : Drive) (c : UpCell) : State :=
  let d := s.drives[n]
  let defect := c.bit 0
  match d.hold with
  | none =>
    if defect && (d.focusClosed || d.trackClosed) then
      let (f, t) := lookback s n
      s.setDv n fun d => { d with hold := some ⟨1, 0, f, t⟩, fcmd := if d.focusClosed then f else d.fcmd, tcmd := if d.trackClosed then t else d.tcmd }
    else s
  | some h =>
    let clear := if defect then 0 else h.clear + 1
    if s.gs Od.DEFECT_EXIT ≤ clear then
      (s.inc Od.DEFECT_HOLD_CNT n).setDv n fun d => { d with hold := none, addrLast := c.angle % 65536 }
    else s.setDv n fun d => { d with hold := some { h with count := h.count + 1, clear := clear } }

/-- The focus and tracking loops of one servo period (R176, R203, R210). -/
def loopsUp (s : State) (n : Drive) (c : UpCell) : State :=
  let d := s.drives[n]
  if d.hold.isSome then s.setDv n fun d => { d with lg := d.lg - 1 }
  else
    let s := if d.focusClosed then
        let (s, u) := loopStep s n 0 (c.fe - s.gi Od.LOOP_OFFSET (4 * n))
        s.setDv n fun d => { d with fcmd := satInt 16 u }
      else s
    if d.trackClosed then
      if d.lg ≠ 0 then s.setDv n fun d => { d with lg := d.lg - 1, tcmd := d.lgCmd }
      else
        let e := c.te - s.gi Od.LOOP_OFFSET (4 * n + 1)
        let (s, u) := loopStep s n 1 (if d.land then -e else e)
        s.setDv n fun d => { d with tcmd := satInt 16 u }
    else s

/-- Focus and tracking are judged lost (R214). -/
def lossUp (s : State) (n : Drive) (c : UpCell) : State :=
  let d := s.drives[n]
  let low := if d.focusClosed && decide (c.sum < s.gs Od.FOCUS_LOST_SUM) then d.sumLow + 1 else 0
  let moved := match d.xings with
    | _ :: x :: _ => x != c.xing
    | _ => false
  let s := s.setDv n fun d => { d with sumLow := low }
  if d.hold.isSome then s
  else if d.focusClosed && decide (s.gs Od.FOCUS_LOST_N ≤ low) then loseLock s n 0 true
  else if d.trackClosed && moved && d.lg == 0 && d.proc == .idle then loseLock s n 1 false
  else s

/-- The coded bytes of the head sheaf go to the front end's FIFO before its gate (R189, R191). -/
def loadWrite (s : State) (n : Drive) : State :=
  match s.media.cur[n] with
  | none => s
  | some o =>
    match o.todo with
    | [] => s
    | w :: _ =>
      let d := s.drives[n]
      if d.fe.fifo = 0 && d.fe.gate.isNone && (d.bulk.all fun b => b.kind != 2) && (d.sent.all fun l => l.all fun b => b.kind != 2) then
        let bytes := (sheafFrames (physSlot w.phys) (sheafMeta s o w) w.user).flatten
        let cells := (chunks 898 92 bytes).zipIdx.map fun (p, i) => (⟨(d.seqNext + i) % 256, 2, p, 0⟩ : BulkOut)
        s.setDv n fun d => { d with bulk := d.bulk ++ cells, seqNext := (d.seqNext + 898) % 256 }
      else s

/-- Schedule the drive's next gate, once its sheaf's bytes are in the FIFO (R191, R194, R195). A KDF-2E slot is erased in
a revolution before (R331). -/
def serveDrive (s : State) (n : Drive) : State :=
  match nextPlace s n with
  | none => s
  | some (_, write) =>
    let s := if write then loadWrite s n else s
    if write && decide (s.drives[n].fe.fifo < 82560) then s
    else
      let had := s.drives[n].toSend
      let s := schedGate s n
      if s.drives[n].toSend = had then s
      else
        let erase : Bool := s.media.cur[n].elim false fun o => o.todo.head?.elim false fun w => !w.erased
        s.setDv n fun d => { d with
          laserMode := if write = true then (if erase = true then 3 else 2) else 1, laserPwr := 0
          rx := if write = true then d.rx else d.toSend.head?.map fun e => ⟨e.id % 16, [], none, none⟩ }

/-- Cells of the superframe before the last that ACK_MAP leaves clear go out again, or their sheaf's write waits for a
later revolution (R189, R190). -/
def driveAck (s : State) (n : Drive) (ack : Nat) : State :=
  let (again, lost) := unacked (s.drives[n].sent.getD 2 []) ack
  let s := s.setDv n fun d => { d with bulk := again ++ d.bulk }
  if lost.any fun c => c.kind == 2 then
    s.setDv n fun d => { d with bulk := d.bulk.filter fun c => c.kind != 2, fe := { d.fe with fifo := 0 } }
  else s

/-- The servo array's work on one good A-cell (R177, R187, R192 to R215, R264). -/
def cellUp (s : State) (n : Drive) (c : UpCell) : State :=
  let s := angleUp s n c.angle
  let s := s.setDv n fun d => { d with missUp := 0, xings := (c.xing :: d.xings).take 251 }
  if c.bit 6 then laserReport s n
  else if c.bit 1 then glRetrain s n
  else
    let s := eventsUp (writeGateUp s n c) n c
    let s := holdUp s n c
    let s := sweepUp s n c
    let s := loopsUp s n c
    let s := s.setDv n fun d => { d with trackMean := (d.trackMean.1 + d.tcmd, d.trackMean.2 + 1) }
    let s := lossUp s n c
    let s := if s.drives[n].addrSeq ≠ some c.wordSeq ∧ s.drives[n].trackClosed = true then
        addressUp (s.setDv n fun d => { d with addrSeq := some c.wordSeq }) n c
      else addressGap s n (c.angle % 65536)
    serveDrive s n

/-- An upstream A-cell is missed (R221): the loops hold their commands, and the eighth in a row retrains the link. -/
def cellMissed (s : State) (n : Drive) : State :=
  let (f, t) := lookback s n
  let s := (s.inc Od.GL_MISS_CNT n).setDv n fun d =>
    let first := d.missUp == 0 && d.hold.isNone
    { d with
      missUp := d.missUp + 1, hold := d.hold.map fun h => { h with count := h.count + 1 }
      fcmd := if first && d.focusClosed then f else d.fcmd, tcmd := if first && d.trackClosed then t else d.tcmd }
  if 8 ≤ s.drives[n].missUp then glRetrain s n else s

/-- UPSTREAM_A_CELL (R188): the first copy whose CRC matches is used, the repeat counts, and with neither the cell is
missed. -/
def execUpstreamACell (n : Drive) (status ack : Nat) (first second : CellCopy) (s : State) : Out :=
  actPart (fePart n) s fun s =>
    if !s.glUp n then s
    else
      let ok (c : CellCopy) : Bool := crc32c c.bytes == c.crc
      if !ok first && !ok second then cellMissed s n
      else
        let s := if ok first then s else s.inc Od.GL_REPEAT_CNT n
        let s := cellUp (driveAck s n ack) n (UpCell.parse (padTo 64 (if ok first then first.bytes else second.bytes)))
        if status.testBit 1 then glRetrain s n else s

/-- UPSTREAM_A_CELL_MISSED (R221). -/
def execUpstreamACellMissed (n : Drive) (s : State) : Out :=
  act s fun s => if s.glUp n then cellMissed s n else s

end Sys2Proof.Machine
end

