-- ==== Sys2Proof/Machine/Codec.lean ====
section
/-! DEFINITION. What the controller makes of a sheaf it has read: decoding, rereads and rebuilds, verification of what it
wrote, parity, and the recognition of a disc (R312, R316 to R336, R351, R352, R430, R438, R504 to R507, R515). -/

namespace Sys2Proof.Machine

/-- The 344 frames of a gate's cells, bytes with their chaff flags; a cell that never came is erased (R280). -/
def rxFrames (rx : RxGate) : List (List (Byte × Bool)) :=
  chunks 344 240 ((List.range 1032).flatMap fun i =>
    match rx.cells.find? i with
    | some p => (List.range 80).map fun j => (p.getD (2 + j) 0#8, (p.getD (82 + j / 8) 0#8).getLsbD (j % 8))
    | none => List.replicate 80 (0#8, true))

/-- Count the rows of a judged read (R316). -/
def countRows (s : State) (n : Drive) (r : SheafRead) : State :=
  (s.add Od.CODEC_ROW_CORR_CNT n (r.rows.filter fun w => w.data.isSome && decide (0 < w.e)).length).add
    Od.CODEC_ROW_ERASED_CNT n (r.rows.filter fun w => w.data.isNone).length

/-- The key of a stook (R333). -/
def stookKey (f z q : Nat) : Nat := f * 2 ^ 32 + z * 2 ^ 16 + q

/-- The disc at a position of a family (R332). -/
def State.stookDisc (s : State) (f p : Nat) : Option Nat :=
  (List.range 1536).find? fun d => let w := s.g Od.DISC_STOOK d
    w.testBit 31 && fieldOf w 9 0 == f && fieldOf w 13 10 == p

/-- Every parity sheaf of a stook is written and verified (R334). -/
def State.parityWritten (s : State) (f z q : Nat) : Bool :=
  let m := fieldOf (s.g Od.STOOK_FAM_KM f) 6 4
  let v := Keyed.getD s.media.parity (stookKey f z q) 0
  decide (0 < m) && (List.range m).all v.testBit

/-- How soon a member's disc can be read (R335 step 1); none when its drive has a fault. -/
def memberRank (s : State) (d : Nat) : Option Nat :=
  match s.driveOf d with
  | none => some 3
  | some n =>
    if s.g Od.DRIVE_FAULT n ≠ 0 then none
    else
      let st := s.g Od.DRV_STATE n
      some (if st ≤ 1 then 0 else if st = 2 then 1 else 2)

/-- The members of a family but one, in rank order (R335 step 1). -/
def rankMembers (s : State) (f lost : Nat) : List (Nat × Nat) :=
  let km := s.g Od.STOOK_FAM_KM f
  let members := ((List.range (fieldOf km 3 0 + fieldOf km 6 4)).filter (· ≠ lost)).filterMap fun p =>
    (s.stookDisc f p).bind fun d => (memberRank s d).map fun r => (r, p, d)
  (List.range 4).flatMap fun r => (members.filter fun m => m.1 == r).map (·.2)

/-- The sheaf at (d, z, q) belongs to a stook whose parity is written (R318). -/
def rebuildable (s : State) (o : MediaOp) : Option (Nat × Nat) :=
  match s.stookOf o.disc with
  | some (f, p, _, _) => if s.parityWritten f o.dz o.q then some (f, p) else none
  | none => none

/-! ### A decoded sheaf -/

/-- Give a waiting Read its blocks of a sheaf and free the landing buffer (R504, R505). -/
def deliverTo (s : State) (o : MediaOp) (blocks : Keyed (List Byte)) (id : Nat) : State :=
  match s.ctx? id with
  | none => s
  | some x =>
    let mine := (List.range 16).filter fun i => decide (x.lba ≤ o.lba + i ∧ o.lba + i < x.lba + x.nlb) &&
      (Keyed.find? x.blocks (o.lba + i - x.lba)).isNone
    let s := s.each mine fun s i =>
      let data := Keyed.getD blocks i zeroBlock
      let s := if (Keyed.find? blocks i).isSome then
          shelfFill s x.crib o.ns (o.lba + i) data (if x.streaming then 3 else 0) x.streaming else s
      s.setCtx id fun x => { x with blocks := Keyed.insert x.blocks (o.lba + i - x.lba) data }
    let s := s.setCtx id fun x => { x with left := x.left - 1, landing := x.landing - 1 }
    readSettle (s.sub Od.HAY_LAND_USED 0 1) id

/-- The sheaf an operation was for is there: its blocks are decrypted, filled into the Hayloft, and given to what waits
(R320, R428, R504 to R507). -/
def deliverSheaf (s : State) (o : MediaOp) (firstLba valid : Nat) (user : List Byte) : State :=
  let blocks := openBlocks s o.ns firstLba valid user
  let s := mediaUses s 3
  match o.kind with
  | .read | .prefetch =>
    let s := hayFill s o.tag o.ns (o.lba / 16) blocks o.age o.streamed
    s.each o.ctxs (fun s id => deliverTo s o blocks id) |> fun s => deliverJobs s o (some blocks)
  | .cover =>
    s.each o.ctxs fun s id =>
      match s.ctx? id with
      | none => s
      | some x =>
        let s := s.each x.before fun s lba => stagePut s id lba (Keyed.getD blocks (lba % 16) zeroBlock)
        let s := (s.sub Od.HAY_LAND_USED 0 1).setCtx id fun x => { x with landing := 0 }
        handZone s x.ns x.zone
  | _ => s

/-- The reads of an operation fail (R318, R438): a write that needed the sheaf's earlier blocks fails too. -/
def failSheaf (s : State) (o : MediaOp) : State :=
  if o.kind = .cover then failOp s o .writeFault true
  else failOp s o .unrecoveredRead true

/-- The sheaf an operation reads is uncorrectable: it is rebuilt from its stook, or its read fails; a rebuild passes the
member over (R318, R335, R414). -/
def sheafLost (s : State) (n : Drive) (o : MediaOp) : State :=
  let s := endOp (s.inc Od.SHEAF_UNCORR_CNT n) n
  if o.kind = .stook then rebuildPass s o
  else match if o.lr then none else rebuildable s o with
    | some (f, p) => rebuildNext s ⟨f, o.dz, o.q, o.disc, [], rankMembers s f p, o⟩
    | none => failSheaf s o

/-- A member of a stook has decoded: one that names another place is passed over (R335 step 2). Its user area is kept
under tag 63 (R499). -/
def memberRead (s : State) (o : MediaOp) (m : Meta) (user : List Byte) : State :=
  match s.media.rebuilds.find? fun r => some r.family == o.ctxs[0]? && r.dz == o.dz && r.q == o.q && some r.disc == o.ctxs[2]? with
  | none => s
  | some r =>
    let km := s.g Od.STOOK_FAM_KM r.family
    let p := o.ctxs.getD 1 0
    if m.family ≠ r.family ∨ m.pos ≠ p ∨ m.km ≠ km then rebuildPass s o
    else
      let s := hayFill s 63 0 (devKey o.disc m.phys) ((List.range 16).map fun i => (i, slice (4096 * i) 4096 user)) 1 false
      let r := { r with have_ := r.have_ ++ [(p, user)], toRead := r.toRead.drop 1 }
      if fieldOf km 3 0 ≤ r.have_.length then
        { s with media := { s.media with rebuilds := s.media.rebuilds.map fun x => if x.same r then r else x } }
      else rebuildNext s r

/-- SHEAF_DECODE: the operation's sheaf has been read (R312, R316 to R318, R292). -/
def execSheafDecode (n : Drive) (s : State) : Out :=
  act s fun s => settle <|
    match s.media.cur[n], s.drives[n].rx with
    | some o, some rx =>
      if o.todo ≠ [] ∨ o.verifying = true then s
      else if 3 ≤ s.drives[n].acqFails then sheafLost s n o
      else if rx.status ≠ some 0 then s
      else
        let phys := s.physSheaf n (s.homePhys o.disc o.dz o.q)
        let r := readSheaf (s.g Od.INNER_TRUST) (physSlot phys) (rxFrames rx)
        let s := countRows s n r
        match r.sheaf with
        | some (m, user) =>
          let s := endOp s n
          if o.kind = .stook then memberRead s o m user else deliverSheaf s o m.firstLba m.valid user
        | none =>
          if !o.lr && decide (o.rereads < s.g Od.REREAD_MAX) then
            (s.setCur n (some { o with rereads := o.rereads + 1 })).setDv n fun d => { d with rx := none }
          else sheafLost s n o
    | _, _ => s

/-! ### Stooks -/

/-- Take a rebuild off the list. -/
def rebuildEnd (s : State) (r : Rebuild) : State :=
  { s with media := { s.media with rebuilds := s.media.rebuilds.filter fun x => !x.same r } }

/-- One sheaf to be written on a member disc as class-D work: parity, or a rebuilt sheaf (R334, R336). -/
def memberWrite (s : State) (r : Rebuild) (kind : MediaKind) (user : List Byte) : State :=
  let home := s.homePhys r.disc r.dz r.q
  queueOp s { r.op with
    kind := kind, disc := r.disc, dz := r.dz, q := r.q, cls := 3, ctxs := [], rereads := 0, verifying := false, wrote := [], good := []
    todo := [⟨r.q, home, home, user, 0xFFFF, r.op.lba, 0, s.discMedia r.disc != 2⟩] }

/-- STOOK_SOLVE: with k members read, the lost user area is solved for (R333, R335 step 3, R336); for a parity member
the parity follows from the data (R334). -/
def execStookSolve (f : Nat) (z q disc : Nat) (s : State) : Out :=
  act s fun s => settle <|
    match s.media.rebuilds.find? fun r => r.family == f && r.dz == z && r.q == q && r.disc == disc with
    | none => s
    | some r =>
      let k := fieldOf (s.g Od.STOOK_FAM_KM f) 3 0
      let p := fieldOf (s.g Od.DISC_STOOK disc) 13 10
      if r.have_.length < k then s
      else match stookRebuild k p r.have_ with
        | none => s
        | some user =>
          let s := rebuildEnd (mediaUses s 1) r
          if r.op.kind = .parity then memberWrite s r .parity user
          else
            let s := raise (s.inc Od.STOOK_RECON_CNT f) Src.stookRebuilt f
            let s := deliverSheaf s r.op r.op.lba 0xFFFF user
            if s.g Od.STOOK_REPAIR = 1 then memberWrite s r .repair user else s

/-- STOOK_REBUILD_FAIL: the ranked members have run out (R335 step 4, R438). Parity that cannot be computed stays
unwritten. -/
def execStookRebuildFail (f : Nat) (z q disc : Nat) (s : State) : Out :=
  act s fun s => settle <|
    match s.media.rebuilds.find? fun r => r.family == f && r.dz == z && r.q == q && r.disc == disc with
    | none => s
    | some r =>
      if r.toRead = [] ∧ r.have_.length < fieldOf (s.g Od.STOOK_FAM_KM f) 3 0 then
        let s := rebuildEnd s r
        if r.op.kind = .parity then s
        else failSheaf (raise (s.inc Od.STOOK_FAIL_CNT f) Src.stookFail f) r.op
      else s

/-- What a data member gives to stook (f, z, q) (R334): its sheaf verified whole (`some true`), zeros beyond a zone that
accepts no further writes (`some false`), or nothing yet. -/
def memberReady (s : State) (d z q : Nat) : Option Bool :=
  match List.find? (fun (p : Nat × ZoneEnt) => p.2.bound == some (d, z)) s.host.zones with
  | some (_, e) =>
    if 16 * (q + 1) ≤ e.wp then some true
    else if e.st = .full ∧ e.wp ≤ 16 * q then some false
    else none
  | none =>
    if s.discZoneSpent d z then some (decide (q < Keyed.getD s.media.hwm (64 * d + z) 0)) else none

/-- STOOK_PARITY_WRITE: every data member of a stook is ready and its parity is not written, so it is computed, for one
parity member after the other, from members in the Hayloft or read from their discs (R333, R334). -/
def execStookParityWrite (f : Nat) (z q : Nat) (s : State) : Out :=
  act s fun s =>
    let km := s.g Od.STOOK_FAM_KM f
    let k := fieldOf km 3 0
    let key := stookKey f z q
    let first := !s.media.unprot.any fun u => decide (stookKey f z 0 ≤ u.1 ∧ u.1 < key)
    let data := (List.range k).map fun p => (s.stookDisc f p).bind fun d => (memberReady s d z q).map fun r => (p, d, r)
    if (Keyed.find? s.media.unprot key).isSome && first && data.all Option.isSome && k != 0 &&
        (s.media.rebuilds.all fun r => !(r.family == f && r.dz == z && r.q == q)) then
      s.each (List.range (fieldOf km 6 4)) fun s j =>
        match s.stookDisc f (k + j) with
        | none => s
        | some disc =>
          if (Keyed.getD s.media.parity key 0).testBit j then s
          else
            let held (d : Nat) : Option (List Byte) :=
              ((hayFind s 63 0 (devKey d (s.homePhys d z q))).bind fun h => s.cache.hay.find? h).map fun l =>
                (List.range 16).flatMap fun i => Keyed.getD l.blocks i zeroBlock
            let mem := data.filterMap id
            let have_ := mem.filterMap fun (p, d, w) =>
              if w then (held d).map fun u => (p, u) else some (p, List.replicate 65536 0#8)
            let toRead := (mem.filter fun (_, d, w) => w && (held d).isNone).map fun (p, d, _) => (p, d)
            let op : MediaOp := {
              id := 0, kind := .parity, disc := disc, dz := z, q := q, cls := 3, time := 0, ctxs := [], ns := 0xFFFF, tag := 63
              lr := false, rereads := 0, age := 1, streamed := false, todo := [], wrote := [], verifying := false, lba := 0, good := [] }
            rebuildNext s ⟨f, z, q, disc, have_, toRead, op⟩
    else s

/-! ### Verification -/

/-- The largest number of errors and erasures in a kept row is within a limit (R326): an erased row is judged by the
other conditions. -/
def rowsWithin (r : SheafRead) (limit : Nat) : Bool := r.rows.all fun w => w.data.isNone || decide (2 * w.e + w.f ≤ limit)

/-- A written sheaf verifies (R326). -/
def verifies (s : State) (r : SheafRead) : Bool :=
  rowsWithin r (s.g Od.VERIFY_ROW_LIMIT) &&
  ([0, 1].all fun h => decide (((r.half h).filter fun w => w.data.isNone).length ≤ s.g Od.VERIFY_ERASED_ROWS)) &&
  r.sheaf.isSome

/-- The write power follows a verify read's asymmetry (R352). -/
def powerAdjust (s : State) (n : Drive) (layer : Nat) : State :=
  let e := 4 * n.val + layer
  let pe := s.powerIx n layer
  let asym := s.gi Od.RC_ASYM n
  let a : Rat := (asym : Rat) / (16 * (s.g Od.AGC_TARGET : Rat))
  let step : Rat := (s.g Od.WCAL_STEP_MAX : Rat) / 100
  let change := max (-step) (min step (-(a * (s.g Od.WCAL_GAIN : Rat) / 256)))
  let p := roundRat ((s.g Od.WRITE_PWR_CUR e : Rat) * (1 + change))
  let lo : Int := s.g Od.WRITE_PWR_MIN pe
  let hi : Int := s.g Od.WRITE_PWR_MAX pe
  let s := (s.p Od.WRITE_PWR_CUR e (clampInt lo hi p).toNat).pi Od.WCAL_ASYM e asym
  let s := s.inc Od.WCAL_COUNT e
  if p < lo ∨ hi < p then s.pb Od.CAL_FLAGS n 3 true else s

/-- The write pointer moves over the sheaves verified in order from it; at the end of the zone it is Full (R425 to
R427). -/
def advance (s : State) (ns z : Nat) (good : Keyed Nat) : State :=
  let e := s.zone ns z
  let wp := good.foldl (fun wp g => if 16 * g.1 ≤ wp ∧ wp < g.2 then g.2 else wp) e.wp
  s.setZoneRaw ns z { e with wp := wp, st := if wp = zoneBlocks then .full else e.st }

/-- A verified data sheaf on a data member: its stook holds data that no parity protects yet (R334). -/
def stookUnprotect (s : State) (o : MediaOp) (w : WSheaf) : State :=
  match s.stookOf o.disc with
  | none => s
  | some (f, _, _, _) =>
    let key := stookKey f o.dz w.q
    if (Keyed.find? s.media.unprot key).isSome || s.parityWritten f o.dz w.q then s
    else { s with media := { s.media with unprot := Keyed.insert s.media.unprot key () } }.inc Od.STOOK_UNPROT f

/-- A verified parity sheaf (R334). -/
def parityVerified (s : State) (o : MediaOp) : State :=
  match s.stookOf o.disc with
  | none => s
  | some (f, p, k, _) =>
    let key := stookKey f o.dz o.q
    let v := putBit (Keyed.getD s.media.parity key 0) (p - k) true
    let s := { s with media := { s.media with parity := Keyed.put s.media.parity key v 0 } }
    let s := if s.g Od.STOOK_WRITTEN f = 1 then s else (s.p Od.STOOK_WRITTEN f 1).chestWrite Region.state (Pos.stook f)
    if s.parityWritten f o.dz o.q && (Keyed.find? s.media.unprot key).isSome then
      { s with media := { s.media with unprot := Keyed.erase s.media.unprot key } }.sub Od.STOOK_UNPROT f 1
    else s

/-- What a verified sheaf means to its operation (R324, R334, R336, R425). -/
def sheafVerified (s : State) (n : Drive) (o : MediaOp) (w : WSheaf) : State × MediaOp :=
  let s := match s.media.disc[n] with
    | some i => if w.phys ≠ w.home then s.setDisc n (some { i with repl := Keyed.insert i.repl w.home w.phys, changed := true }) else s
    | none => s
  match o.kind with
  | .write =>
    let o := { o with good := Keyed.insert o.good w.q (16 * w.q + ((List.range 16).filter w.valid.testBit).length) }
    (stookUnprotect (advance s o.ns (w.lba / zoneBlocks) o.good) o w, o)
  | .parity => (parityVerified s o, o)
  | _ => (s, o)

/-- An operation whose sheaves have all verified ends its command (R427, R515), and the zone's next write is handed over. -/
def writeEnd (s : State) (n : Drive) (o : MediaOp) : State :=
  let s := endOp s n
  s.each o.ctxs fun s id =>
    match s.ctx? id with
    | none => s
    | some x => handZone (endWrite (installWrite s x) x .success none) x.ns x.zone

/-- SHEAF_VERIFY: the first sheaf to be verified has been read (R326, R327, R352). -/
def execSheafVerify (n : Drive) (s : State) : Out :=
  act s fun s => settle <|
    match s.media.cur[n], s.drives[n].rx with
    | some o, some rx =>
      match o.wrote with
      | [] => s
      | w :: rest =>
        let failed := decide (3 ≤ s.drives[n].acqFails)
        if o.verifying = false ∨ (rx.status ≠ some 0 ∧ failed = false) then s
        else
          let r := readSheaf (s.g Od.INNER_TRUST) (physSlot w.phys) (rxFrames rx)
          let s := if failed then s else powerAdjust (countRows s n r) n (physLayer w.phys)
          let s := s.setDv n fun d => { d with rx := none, acqFails := 0 }
          let next (s : State) (o : MediaOp) : State :=
            if o.wrote = [] ∧ o.todo = [] then writeEnd s n o
            else s.setCur n (some { o with verifying := decide (o.wrote ≠ []) })
          if !failed && verifies s r then
            let (s, o) := sheafVerified s n o w
            next s { o with wrote := rest }
          else
            match replaceSheaf s n o w true with
            | (s, some w) => next s { o with wrote := rest, todo := o.todo ++ [w] }
            | (s, none) => endOp s n
    | _, _ => s

/-! ### Disc recognition -/

/-- What a slot holds; one not listed is blank. -/
def slotAt (disc : List (Nat × SlotRead)) (phys : Nat) : SlotRead :=
  match disc.find? fun p => p.1 == phys with
  | some p => p.2
  | none => .blank

/-- The metadata and user area of a slot, when it decodes (R318). -/
def slotSheaf : SlotRead → Option (Meta × List Byte)
  | .sheaf md user => (Meta.parse md).map fun m => (m, padTo 65536 user)
  | _ => none

/-- The first disc information copy that decodes (R321, R322): media, layers, identifier and slots of a layer. -/
def discInfoOf (disc : List (Nat × SlotRead)) : Option (Nat × Nat × Nat × Nat) :=
  (List.range 16).findSome? fun k =>
    (slotSheaf (slotAt disc (physOf 0 k))).bind fun (m, u) =>
      if m.kind = 1 ∧ u.take 4 = asciiBytes "KDFI" then
        some (ofLe (slice 4 1 u), ofLe (slice 5 1 u), ofLe (slice 8 8 u), ofLe (slice 24 4 u))
      else none

/-- The first blank slot of the list area by binary search (R324 step 1). -/
def firstBlank (disc : List (Nat × SlotRead)) : Nat :=
  ((List.range 13).foldl (fun (r : Nat × Nat) _ =>
    if r.1 < r.2 then
      let mid := (r.1 + r.2) / 2
      if slotAt disc (physOf 0 mid) = .blank then (r.1, mid) else (mid + 1, r.2)
    else r) (16, 4096)).1

/-- One part of a snapshot at a slot: part, parts, the high-water marks and the entries (R323). -/
def snapshotPart (disc : List (Nat × SlotRead)) (k : Nat) : Option (Nat × Nat × List Nat × List (Nat × Nat)) :=
  (slotSheaf (slotAt disc (physOf 0 k))).bind fun (m, u) =>
    if m.kind = 2 ∧ u.take 4 = asciiBytes "KDFL" then
      some (ofLe (slice 4 2 u), ofLe (slice 6 2 u), (List.range 4).map fun l => ofLe (slice (16 + 4 * l) 4 u),
        (List.range (min 8184 (ofLe (slice 8 4 u)))).map fun e => (ofLe (slice (64 + 8 * e) 4 u), ofLe (slice (68 + 8 * e) 4 u)))
    else none

/-- The snapshot that starts at a slot, when all its parts decode before `last` (R324 step 1). -/
def snapshotAt (disc : List (Nat × SlotRead)) (last k : Nat) : Option (List Nat × List (Nat × Nat)) :=
  match snapshotPart disc k with
  | some (0, parts, hwm, _) =>
    if parts ≠ 0 ∧ k + parts ≤ last then
      let ps := (List.range parts).map fun i => (snapshotPart disc (k + i)).filter fun p => p.1 == i && p.2.1 == parts
      if ps.all Option.isSome then some (hwm, ps.flatMap fun p => p.elim [] fun q => q.2.2.2) else none
    else none
  | _ => none

/-- The spare slots of a layer from `k` on: entries found, and the slot after the last one not blank; eight blank slots
in a row end the scan (R324 steps 2 and 3). -/
def spareScan (disc : List (Nat × SlotRead)) (layer : Nat) : Nat → Nat → Nat → Nat → Keyed Nat → Keyed Nat × Nat
  | 0, _, _, next, repl => (repl, next)
  | fuel + 1, k, blanks, next, repl =>
    if 8 ≤ blanks then (repl, next)
    else
      let p := physOf layer k
      match slotAt disc p with
      | .blank => spareScan disc layer fuel (k + 1) (blanks + 1) next repl
      | r =>
        let repl := match slotSheaf r with
          | some (m, _) => if (m.kind = 3 ∨ m.kind = 4) ∧ m.flags % 2 = 1 then Keyed.insert repl m.home p else repl
          | none => repl
        spareScan disc layer fuel (k + 1) 0 (k + 1) repl

/-- The replacement list of a disc that has reached READY (R324). -/
def buildList (media id : Nat) (disc : List (Nat × SlotRead)) : DiscInfo :=
  let m := mediaOf media
  let last := firstBlank disc
  let snap := ((List.range (last - 16)).findSome? fun i => snapshotAt disc last (last - 1 - i)).getD
    (List.replicate 4 m.spareFirst, [])
  let repl : Keyed Nat := snap.2.foldl (fun r e => Keyed.insert r e.1 e.2) []
  let r := (List.finRange 4).foldl (fun (r : Keyed Nat × Vector Nat 4) (l : Fin 4) =>
    if l.val < m.layers then
      let from_ := snap.1.getD l m.spareFirst
      let (repl, next) := spareScan disc l (m.slots - from_) from_ 0 from_ r.1
      (repl, r.2.set l next)
    else r) (repl, Vector.replicate 4 m.slots)
  ⟨id, media, r.1, r.2, false, last, false, false⟩

/-- The logical sheaf of a home place has been written since its zone was last reset (R331): older replacements on KDF-2E
are no entries. -/
def stillWritten (s : State) (d home : Nat) : Bool :=
  let m := mediaOf (s.discMedia d)
  if physSlot home < 4096 then true
  else
    let z := physLayer home * m.zones + (physSlot home - 4096) / 65536
    decide ((physSlot home - 4096) % 65536 < Keyed.getD s.media.hwm (64 * d + z) 0)

/-- Write powers as a disc reaches READY, or by request (R351, R354). -/
def powersInit (s : State) (n : Drive) (clear : Bool) : State :=
  s.each (List.range 4) fun s l =>
    let s := s.p Od.WRITE_PWR_CUR (4 * n + l) (s.g Od.WRITE_PWR_INIT (s.powerIx n l))
    if clear then (s.p Od.WCAL_ASYM (4 * n + l) 0).p Od.WCAL_COUNT (4 * n + l) 0 else s

/-- The check of a restored disc (R430): the first written sheaf of its lowest bound zone that holds one. -/
def restoreCheck (s : State) (n : Drive) (d : Nat) (disc : List (Nat × SlotRead)) : Bool :=
  let zones := (List.range 56).filterMap fun z =>
    if Keyed.getD s.media.hwm (64 * d + z) 0 = 0 then none
    else (List.find? (fun (p : Nat × ZoneEnt) => p.2.bound == some (d, z)) s.host.zones).map fun p => (z, p.1 / 2 ^ 32)
  match zones.head? with
  | none => true
  | some (z, ns) =>
    match slotSheaf (slotAt disc (s.physSheaf n (s.homePhys d z 0))), s.media.disc[n] with
    | some (m, _), some i => m.nsSlot == ns && m.discId == i.id
    | _, _ => false

/-- A restore of the disc in a drive ends (R430). -/
def restoreEnd (s : State) (n : Drive) (d : Nat) (good : Bool) : State :=
  if s.media.restores.contains d then
    let s := { s with media := { s.media with restores := s.media.restores.filter (· ≠ d) } }
    let s := s.p Od.DISC_RESTORE_RESULT d (if good then 1 else 3)
    if good then
      s.each s.host.zones fun s (k, e) =>
        if e.bound.elim false fun b => b.1 == d then { s with host := { s.host with zones := Keyed.insert s.host.zones k { e with offline := false } } } else s
    else s.setPicker fun p => { p with queue := p.queue ++ [⟨false, d, n, s.now, .restore⟩] }
  else s

/-- DISC_RECOGNITION: the disc information copies of a loaded disc, its snapshots and its spare slots have been read; what
each of those slots holds is `disc` (R39, R322, R324, R351, R430). -/
def execDiscRecognition (n : Drive) (disc : List (Nat × SlotRead)) (s : State) : Out :=
  act s fun s =>
    let d := s.g Od.DRV_DISC n
    if s.g Od.MEDIA_STATE n = 1 ∧ s.drives[n].cal.eqDone = true ∧ s.g Od.CAL_STATE n = 0 ∧ s.g Od.ANGLE_STATE n = 3 then
      match discInfoOf disc with
      | some (media, layers, id, slots) =>
        if media = s.discMedia d ∧ layers = (mediaOf media).layers ∧ slots = (mediaOf media).slots then
          let i := buildList media id disc
          let i := if media = 2 then { i with repl := i.repl.filter fun p => stillWritten s d p.1 } else i
          let s := s.setDisc n (some i)
          let s := setMedia (s.p Od.DRV_DISC_ID n id) n 2 0
          let s := spareReport (powersInit s n true) n
          restoreEnd s n d (restoreCheck s n d disc)
        else restoreEnd (faultDrive (setMedia s n 4 1) n 7) n d false
      | none =>
        if (List.range 16).all fun k => slotAt disc (physOf 0 k) == .blank then restoreEnd (setMedia s n 3 0) n d false
        else restoreEnd (faultDrive (setMedia s n 4 2) n 7) n d false
    else s

end Sys2Proof.Machine
end

