-- ==== Sys2Proof/Machine/ReadChannel.lean ====
section
/-! DEFINITION. The read channel of a front end behind its ADC, the Winnower, and what the controller takes from bulk
cells: READ_DATA cells and read summaries (R189, R190, R221, R265 to R296, R346, R363, R390). -/

namespace Sys2Proof.Machine

/-- Change a front end. -/
def State.setFe (s : State) (n : Drive) (f : FrontEnd → FrontEnd) : State := s.setDv n fun d => { d with fe := f d.fe }

/-- A read gate is open. -/
def FrontEnd.reading (f : FrontEnd) : Bool := f.gate.elim false fun g => !g.write

/-! ### Gate close -/

/-- A read gate closes: EQ_TAPS shows the taps in use, a mode-2 equaliser carries them, and a LASER_STEP that waited is
executed (R274, R290, R295). -/
def readGateClose (s : State) (n : Drive) : State :=
  let fe := s.drives[n].fe
  if fe.reading then
    let s := s.p Od.RC_STATE n 0
    let s := s.each fe.det.taps.zipIdx fun s (c, t) => s.pi Od.EQ_TAPS (15 * n + t) c
    let s := s.setDv n fun d => { d with cal := { d.cal with carry := true } }
    let s := s.setFe n fun f => { f with gate := none, spans := [] }
    match fe.stepWaiting with
    | some e => s.setDv n fun d => { d with
        laserPwr := e.arg % 16384, fe := { d.fe with stepWaiting := none, power := e.arg % 16384 } }
    | none => s
  else s

/-- ACQ_FAIL: no lock up to bit 1,280 (R271). The summary that says so comes in a MESSAGE cell. -/
def execAcqFail (n : Drive) (s : State) : Out :=
  actPart (fePart n) s fun s =>
    if s.drives[n].fe.reading && s.drives[n].fe.lockBit == 0 then readGateClose s n else s

/-- READ_FIFO_OVERRUN: demodulation of the gate stops (R282). -/
def execReadFifoOverrun (n : Drive) (s : State) : Out :=
  actPart (fePart n) s fun s =>
    if s.drives[n].fe.reading then s.setFe n fun f => { f with overrun := true } else s

/-- READ_GATE_ABORT: EVT_FLUSH or SELF_SAFE closes an open read gate (R293). -/
def execReadGateAbort (n : Drive) (s : State) : Out :=
  actPart (fePart n) s fun s => readGateClose s n

/-! ### Timing, gain and lock -/

/-- The timing loop over phase errors in 1/256 UI (R269). -/
def timingLoop (kp ki : Nat) (st : Rat × Rat) (errs : List Int) : Rat × Rat :=
  errs.foldl (fun (st : Rat × Rat) e =>
    let x : Rat := (e : Rat) / 256
    let f := st.1 + x / 2 ^ ki
    (f, st.2 + x / 2 ^ kp + f)) st

/-- One 0.5 dB step of the VGA towards a target (R265, R268). -/
def gainStep (gain : Nat) (mean target : Rat) : Nat :=
  if mean < target then min 315 (gain + 5) else if target < mean then gain - 5 else gain

/-- The mean of a list of amplitudes. -/
def meanNat (l : List Nat) : Rat := if l = [] then 0 else (l.sum : Rat) / l.length

/-- The front end's gain on the layer of its gate. -/
def feGain (s : State) (n : Drive) : Nat :=
  match s.drives[n].fe.gainLayer with
  | some l => if h : l < 4 then s.drives[n].fe.gains[l] else 150
  | none => 150

def setFeGain (s : State) (n : Drive) (g : Nat) : State :=
  s.setFe n fun f => match f.gainLayer with
    | some l => if h : l < 4 then { f with gains := f.gains.set l g } else f
    | none => f

/-- PREAMBLE_LOCK: the check at channel bit `bit` over the preceding 128 channel bits, with their phase errors in 1/256 UI
and their sample magnitudes (R268 to R270). While a criterion is asserted the loops hold (R285). -/
def execPreambleLock (n : Drive) (bit : Nat) (errs : List Int) (amps : List Nat) (s : State) : Out :=
  actPart (fePart n) s fun s =>
    let fe := s.drives[n].fe
    if fe.reading && fe.lockBit == 0 && decide (640 ≤ bit ∧ bit ≤ 1280 ∧ bit % 128 = 0) then
      let held := fe.crit != 0
      let target : Rat := s.gf n Od.AGC_TARGET
      let s := if held then s else
        let gain := (chunks 8 16 amps).foldl (fun g a => if a = [] then g else gainStep g (meanNat a) target) (feGain s n)
        let (f, ph) := timingLoop (s.gf n Od.TR_KP_ACQ) (s.gf n Od.TR_KI_ACQ) (fe.det.f, fe.det.phase) errs
        setFeGain (s.setFe n fun x => { x with det := { x.det with f := f, phase := ph } }) n gain
      let mean := meanNat amps
      let tol : Rat := target * (s.gf n Od.ACQ_AMPL_TOL : Rat) / 100
      if meanNat (errs.map Int.natAbs) ≤ (s.gf n Od.ACQ_PHASE_MAX : Rat) ∧ target - tol ≤ mean ∧ mean ≤ target + tol then
        (s.p Od.RC_STATE n (if held then 3 else 2)).setFe n fun x => { x with lockBit := bit }
      else s
    else s

/-! ### Detector -/

/-- The target's coefficients and half their sum (R275). -/
def readTarget (t : Nat) : List Int × Int :=
  match t with
  | 1 => ([1, 2, 1], 2)
  | 2 => ([1, 2, 2, 1], 3)
  | _ => ([1, 2, 2, 2, 1], 4)

/-- The level sum Σ h_i · a_(k−i) of symbols, newest first. -/
def levelSum (h : List Int) (syms : List Bool) : Int :=
  (h.zip syms).foldl (fun acc p => acc + if p.2 then p.1 else -p.1) 0

/-- The last four symbols of a path as a state number. -/
def pathState (syms : List Bool) : Nat :=
  (syms.take 4).zipIdx.foldl (fun v p => if p.1 then v + 2 ^ p.2 else v) 0

/-- A run just ended has at least two symbols, the d = 1 constraint (R275). -/
def runOk (a : Bool) (syms : List Bool) : Bool :=
  match syms with
  | x :: y :: _ => a == x || x == y
  | _ => true

/-- One step of the detector on an equalised value times 4,096: paths of least metric into each state, of equal ones the
one from the lower state (R275). -/
def viterbi (h : List Int) (half target : Int) (paths : List (Nat × Int × List Bool)) (y : Int) :
    List (Nat × Int × List Bool) :=
  let paths := if paths = [] then [(0, 0, [false, false, false, false])] else paths
  let next := paths.flatMap fun (_, m, syms) => [false, true].filterMap fun a =>
    if runOk a syms then
      let d := half * y - 4096 * target * levelSum h (a :: syms)
      some (pathState (a :: syms), m + d * d, (a :: syms).take 72)
    else none
  (List.range 16).filterMap fun st =>
    (next.filter fun p => p.1 == st).foldl (fun (b : Option (Nat × Int × List Bool)) p =>
      match b with
      | none => some p
      | some b => if p.2.1 < b.2.1 then some p else some b) none

/-- The path of least metric. -/
def bestPath (paths : List (Nat × Int × List Bool)) : List Bool :=
  (paths.foldl (fun (b : Option (Nat × Int × List Bool)) p =>
    match b with
    | none => some p
    | some b => if p.2.1 < b.2.1 then some p else some b) none).elim [] fun p => p.2.2

/-- The settings one gate runs on (R296). -/
structure GateSet where
  h : List Int
  half : Int
  target : Int
  mu : Nat
  freeze : Nat
  adapt : Bool
  deriving DecidableEq, Repr

/-- One sample through the equaliser, the detector and the adaptation (R272, R273, R275). `hold` is R285's hold. -/
def feedSample (g : GateSet) (hold : Bool) (d : Detector) (x : Int) : Detector :=
  let xs := (x :: d.xs).take 96
  let y := ((d.taps.zip xs).map fun p => p.1 * p.2).sum
  let paths := viterbi g.h g.half g.target d.paths y
  let low := (paths.map fun p => p.2.1).foldl min ((paths.head?.map fun p => p.2.1).getD 0)
  let paths := paths.map fun p => (p.1, p.2.1 - low, p.2.2)
  let ys := (y :: d.ys).take 72
  let fed := d.fed + 1
  let best := bestPath paths
  let d := { d with xs := xs, ys := ys, paths := paths, fed := fed }
  let d :=
    if 64 < fed then
      let sym := best.getD 64 d.sym
      { d with bits := d.bits ++ [sym != d.sym], sym := sym }
    else d
  if g.adapt && !hold && fed % 16 == 0 && decide (80 ≤ fed) then
    let free := (List.range 15).filter fun t => !g.freeze.testBit t
    let t := ((List.range 15).map fun i => (d.tapAt + i) % 15).find? free.contains
    match t with
    | none => d
    | some t =>
      let err : Rat := (ys.getD 64 0 : Rat) / 4096 - (g.target : Rat) / g.half * levelSum g.h (best.drop 64)
      let step := roundRat (4096 * err * (xs.getD (64 + t) 0 : Rat) / 2 ^ g.mu)
      { d with tapAt := (t + 1) % 15, taps := modifyAt d.taps t fun c => clampInt (-32768) 32767 (c - step) }
  else d

/-- The settings of the gate open in a front end (R275, R296, R346). -/
def gateSet (s : State) (n : Drive) : GateSet :=
  let (h, half) := readTarget (s.gf n Od.READ_TARGET (s.powerIx n (s.g Od.CUR_LAYER n % 4)))
  { h := h, half := half, target := s.gf n Od.AGC_TARGET, mu := s.gf n Od.EQ_MU_SHIFT, freeze := s.gf n Od.EQ_FREEZE
    adapt := s.gf n Od.EQ_ADAPT != 0 || s.drives[n].cal.eqLeft != 0 }

/-! ### Frames -/

/-- The position of the least distance to a sync within a window of a prediction, if it is small enough (R276): the
earliest of equal ones. Positions count from the first undemodulated bit. -/
def findSync (bits : List Bool) (base pred win tol : Nat) : Option Nat :=
  let cand := ((List.range (2 * win + 1)).map fun i => pred + i - win).filter fun p => decide (base ≤ p)
  (cand.foldl (fun (b : Option (Nat × Nat)) p =>
    let d := syncDistance ((bits.drop (p - base)).take 30)
    match b with
    | none => some (p, d)
    | some (q, e) => if d < e then some (p, d) else some (q, e)) none).bind fun (p, d) => if d ≤ tol then some p else none

/-- A channel bit of a span extended by the guard (R284). -/
def CritSpan.covers (c : CritSpan) (guard lo hi : Nat) : Bool :=
  decide (c.first ≤ hi + guard) && (match c.last with
  | some l => decide (lo ≤ l + guard)
  | none => true)

/-- FRAME_SYNC: the samples of the ADC up to the end of a frame, and the phase errors of its tracking in 1/256 UI. The
frame's sync is accepted or flywheeled, and its bytes demodulated with their chaff flags (R268, R269, R276 to R278, R284,
R285). -/
def frameStep (n : Drive) (samples : List Int) (errs : List Int) (s : State) : State :=
  let fe := s.drives[n].fe
  let hold := fe.crit != 0
  let det := samples.foldl (feedSample (gateSet s n) hold) fe.det
  let s := s.setFe n fun f => { f with det := det }
  -- AGC and timing in tracking.
  let s := if hold then s else
    let level : Rat := meanNat (det.ys.map fun y => y.natAbs / 4096)
    let ideal : Rat := meanNat ((List.range 68).map fun i =>
      (levelSum (gateSet s n).h ((bestPath det.paths).drop i) * (gateSet s n).target / (gateSet s n).half).natAbs)
    let gain := (List.range (samples.length / 256)).foldl (fun g _ => gainStep g level ideal) (feGain s n)
    let (f, ph) := timingLoop (s.gf n Od.TR_KP_TRK) (s.gf n Od.TR_KI_TRK) (det.f, det.phase) errs
    setFeGain (s.setFe n fun x => { x with det := { x.det with f := f, phase := ph } }) n gain
  let pred := if fe.frame = 0 then 1920 else fe.syncPos + 2910
  let lost := decide (s.gf n Od.SYNC_MISS_MAX ≤ fe.fly)
  let win := if lost then s.gf n Od.SYNC_REACQ_WIN else s.gf n Od.SYNC_WIN
  if fe.overrun || decide (det.base + det.bits.length < pred + win + 2910) then s
  else
    let found := findSync det.bits det.base pred win (s.gf n Od.SYNC_TOL)
    let pos := found.getD pred
    let fly := if found.isSome then 0 else fe.fly + 1
    let newLoss := found.isNone && fly == s.gf n Od.SYNC_MISS_MAX
    let bytes := demodulate ((det.bits.drop (pos + 30 - det.base)).take 2880)
    let guard := s.gf n Od.WIN_GUARD_BITS
    let crits (i : Nat) : List Nat :=
      ((fe.spans.filter fun c => c.covers guard (pos + 30 + 12 * i) (pos + 41 + 12 * i)).map fun c => c.crit).dedup
    let sync := found.isNone && decide (s.gf n Od.SYNC_MISS_MAX ≤ fly)
    let out := bytes.zipIdx.map fun (b, i) => (b.1, b.2 || sync || crits i != [], b.2, crits i)
    let back := if newLoss then 240 * (fly - 1) else 0
    let keep := fe.fifoRead.length - back
    let fifo := fe.fifoRead.take keep ++ ((fe.fifoRead.drop keep).map fun b => (b.1, true)) ++ out.map fun b => (b.1, b.2.1)
    let count (k : Nat) : Nat :=
      if k < 4 then (out.filter fun b => b.2.2.2.contains k).length
      else if k = 4 then (out.filter fun b => b.2.2.1).length
      else if sync then 240 + back else 0
    let flagged := (out.filter fun b => b.2.1).length + ((fe.fifoRead.drop keep).filter fun b => !b.2).length
    let s := s.setFe n fun f => { f with
      syncPos := pos, frame := f.frame + 1, fly := fly
      syncMiss := f.syncMiss + b2n found.isNone, syncLoss := f.syncLoss + b2n newLoss
      flagFrom := if found.isSome then none else if newLoss then some (f.frame + 1 - fly) else f.flagFrom
      fifoRead := fifo, flagBytes := f.flagBytes + flagged
      critBytes := Vector.ofFn fun k => f.critBytes[k] + count k
      det := { f.det with bits := f.det.bits.drop (pos + 2600 - f.det.base), base := max f.det.base (pos + 2600) } }
    if fe.gate.elim false fun g => decide (g.ev.arg ≤ fe.frame + 1) then readGateClose s n else s

/-- FRAME_SYNC (R276). -/
def execFrameSync (n : Drive) (samples : List Int) (errs : List Int) (s : State) : Out :=
  actPart (fePart n) s fun s =>
    if s.drives[n].fe.reading && s.drives[n].fe.lockBit != 0 then frameStep n samples errs s else s

/-! ### Winnower -/

/-- A criterion's judgement of its measured value against its reference (R283): whether it asserts, and whether it
releases. ENV: the short and the long envelope. SAT: saturated samples of the last 16. SPIKE: the largest difference within
the last 2 µs, in normalised codes. PM: the mean branch metric over 64 bits and its long-term mean. -/
def criterion (s : State) (n : Drive) (crit : Fin 4) (value ref : Nat) : Bool × Bool :=
  match crit with
  | 0 => (decide (value * 256 < ref * s.gf n Od.WIN_ENV_DROP), decide (ref * s.gf n Od.WIN_ENV_REL ≤ value * 256))
  | 1 => (decide (s.gf n Od.WIN_SAT_N ≤ value), decide (value < s.gf n Od.WIN_SAT_N))
  | 2 => (decide (s.gf n Od.WIN_SPIKE < value), decide (value ≤ s.gf n Od.WIN_SPIKE))
  | 3 => (decide (ref * s.gf n Od.WIN_PM_LIMIT < value * 16), decide (value * 16 ≤ ref * s.gf n Od.WIN_PM_LIMIT))

/-- A criterion is evaluated at all (R283, R288): PM only in TRACKING within an open read gate, SAT and PM not while write
or erase power is emitted. -/
def critEvaluated (s : State) (n : Drive) (crit : Fin 4) : Bool :=
  let fe := s.drives[n].fe
  let writing := fe.gate.elim false fun g => g.write
  match crit with
  | 3 => fe.reading && s.g Od.RC_STATE n != 1
  | 1 => !writing
  | _ => true

/-- WINNOWER_CRITERION: a criterion is judged at a channel bit (R283 to R288): it flags bytes, holds the read channel, and
criteria 1 and 3 of an armed Winnower set DEFECT, which closes an open write gate (R209, R287). -/
def execWinnowerCriterion (n : Drive) (crit : Fin 4) (value ref bit : Nat) (s : State) : Out :=
  actPart (fePart n) s fun s =>
    let fe := s.drives[n].fe
    let was := fe.crit.getLsbD crit
    let (up, down) := criterion s n crit value ref
    if !was && up && critEvaluated s n crit then
      let s := s.setFe n fun f => { f with
        crit := f.crit ||| BitVec.twoPow 4 crit
        spans := if f.reading then f.spans ++ [⟨crit, bit, none⟩] else f.spans
        wasTracking := if f.crit = 0 then s.g Od.RC_STATE n == 2 else f.wasTracking }
      let s := if fe.reading then s.p Od.RC_STATE n 3 else s
      if (crit.val = 0 ∨ crit.val = 2) ∧ fe.armed = true ∧ fe.settle = 0 then closeWriteGate s n else s
    else if was && down then
      let s := s.setFe n fun f => { f with
        crit := f.crit &&& ~~~ BitVec.twoPow 4 crit
        spans := f.spans.map fun c => if c.crit == crit.val && c.last.isNone then { c with last := some bit } else c }
      if s.drives[n].fe.crit = 0 ∧ fe.reading = true then
        s.p Od.RC_STATE n (if s.drives[n].fe.lockBit ≠ 0 then 2 else 1)
      else s
    else s

/-! ### What the controller receives -/

/-- A READ_DATA cell's payload (R280, R281): kept for its gate. -/
def readDataCell (s : State) (n : Drive) (payload : List Byte) : State :=
  let hdr := ofLe (payload.take 2)
  let idx := fieldOf hdr 10 0
  match s.drives[n].rx with
  | some rx =>
    if rx.tag = fieldOf hdr 15 12 ∧ idx < 1032 ∧ rx.status = none then
      s.setDv n fun d => { d with rx := some { rx with
        cells := Keyed.insert rx.cells idx (padTo 92 payload), last := if hdr.testBit 11 then some idx else rx.last } }
    else s
  | none => s

/-- READ_DATA_CELL (R280). -/
def execReadDataCell (n : Drive) (payload : List Byte) (s : State) : Out :=
  actPart (fePart n) s fun s => readDataCell s n payload

/-- A gate of the equaliser calibration has ended (R346). -/
def eqGateDone (s : State) (n : Drive) (ok : Bool) (rms : Nat) : State :=
  let taps := (List.range 15).map fun t => s.g Od.EQ_TAPS (15 * n + t)
  s.setDv n fun d => { d with rx := none, cal := { d.cal with
    eqLeft := d.cal.eqLeft - 1
    eqTaps := if ok then some taps else d.cal.eqTaps
    eqJitter := if ok then rms else d.cal.eqJitter
    eqUsed := d.cal.eqUsed + b2n ok } }

/-- A read summary (R290 to R292, R346). -/
def readSummary (s : State) (n : Drive) (m : List Byte) : State :=
  let u (at_ k : Nat) : Nat := ofLe (slice at_ k m)
  let st := u 2 1
  let s := readGateClose s n
  let s := s.inc Od.RC_GATE_CNT n
  let s := match st with
    | 1 => s.inc Od.RC_ACQ_FAIL_CNT n
    | 2 => s.inc Od.RC_ABORT_CNT n
    | 3 => s.inc Od.RC_OVERRUN_CNT n
    | _ => s
  let s := (s.add Od.RC_SYNC_MISS_CNT n (u 6 2)).add Od.RC_SYNC_LOSS_CNT n (u 8 2)
  let s := s.each (List.range 6) fun s k => s.add Od.RC_FLAG_BYTES (8 * n + k) (u (14 + 4 * k) 4)
  let mine : Bool := s.drives[n].rx.elim false fun rx => rx.tag == u 1 1 % 16 && rx.status.isNone
  let got : Nat := bif mine then (s.drives[n].rx.elim 0 fun rx => 80 * rx.cells.length) else 0
  let s := (s.add Od.RC_FLAG_BYTES (8 * n + 6) (u 10 4)).add Od.RC_FLAG_BYTES (8 * n + 7) got
  let s := if st = 0 then
      (((s.p Od.RC_PHASE_RMS n (u 38 2)).p Od.RC_ASYM n (u 40 2)).p Od.RC_BASELINE n (u 42 2)).p Od.RC_AGC_GAIN n (u 44 2)
    else s
  if !mine then s
  else if s.drives[n].cal.eqLeft ≠ 0 then eqGateDone s n (st == 0) (u 38 2)
  else
    let fails := if st = 1 then s.drives[n].acqFails + 1 else 0
    s.setDv n fun d => { d with
      acqFails := fails
      rx := if st = 0 ∨ 3 ≤ fails then d.rx.map fun rx => { rx with status := some st } else none }

/-- READ_SUMMARY (R291). -/
def execReadSummary (n : Drive) (payload : List Byte) (s : State) : Out :=
  actPart (fePart n) s fun s => readSummary s n (padTo 92 payload)

/-- A cell whose CRC does not match: counted, and the link retrained when errors come too fast (R189, R221). -/
def glCrcBad (s : State) (n : Drive) : State :=
  let s := s.inc Od.GL_CRC_CNT n
  let s := s.setDv n fun d => { d with crcTimes := errorBurst d.crcTimes s.now }
  if s.g Od.GL_ERR_LIMIT ≤ s.drives[n].crcTimes.length then glRetrain (s.setDv n fun d => { d with crcTimes := [] }) n else s

/-- The same on a stage link (R363, R390). -/
def slCrcBad (s : State) (i : Stage) : State :=
  let s := s.inc Od.SL_CRC_CNT i
  let s := s.setStage i fun g => { g with crcTimes := errorBurst g.crcTimes s.now }
  if s.g Od.SL_ERR_LIMIT ≤ s.motion.stages[i].crcTimes.length then stageRetrain (s.setStage i fun g => { g with crcTimes := [] }) i else s

/-- The CRC of a bulk cell with `room` payload bytes matches. -/
def bulkOk (room : Nat) (c : List Byte) : Bool :=
  c.length == room + 8 && crc32c (slice 1 (room + 3) c) == ofLe (slice (room + 4) 4 c)

/-- BULK_CELL: a bulk cell arrives at either end of a Giperlink (links 0 to 15) or of a stage link (16 to 20), at place
`slot` of its superframe or tick (R189, R191, R280, R290, R363). A cell that arrives well is acknowledged; a downstream
one, in the front end, fills its write FIFO. -/
def execBulkCell (link : Fin 21) (down : Bool) (slot : Fin 8) (cell : List Byte) (s : State) : Out :=
  act s fun s =>
    let kind := ofLe (slice 1 1 cell)
    let len := ofLe (slice 3 1 cell)
    if h : link.val < 16 then
      let n : Drive := ⟨link.val, h⟩
      if !s.glUp n then s
      else if !bulkOk 92 cell then glCrcBad s n
      else if down then
        if kind = 2 then s.setFe n fun f => { f with fifo := min 98304 (f.fifo + len) } else s
      else
        let s := s.setDv n fun d => { d with ackNext := putBit d.ackNext slot.val true }
        let payload := slice 4 (min 92 len) cell
        if kind = 1 then readDataCell s n payload
        else if kind = 3 ∧ ofLe (payload.take 1) = 0x20 then readSummary s n (padTo 92 payload)
        else s
    else
      let i : Stage := ⟨link.val - 16, by omega⟩
      if !bulkOk 70 cell then slCrcBad s i
      else if down then s
      else s.setStage i fun g => { g with ackNext := putBit g.ackNext slot.val true }

/-- BULK_CELL_RESEND_EXHAUSTED: a cell was not acknowledged after its third resend (R190): a READ_DATA cell ends that
revolution's read of the sheaf, a WRITE_DATA cell puts its write off to a later revolution. -/
def execBulkCellResendExhausted (n : Drive) (readData : Bool) (s : State) : Out :=
  act s fun s =>
    if readData then s.setDv n fun d => { d with rx := none }
    else
      let write (e : AngleEvent) : Bool := e.kind == 1
      s.setDv n fun d => { d with
        bulk := d.bulk.filter fun c => c.kind != 2, toSend := d.toSend.filter fun e => !write e
        fe := { d.fe with fifo := 0 } }

end Sys2Proof.Machine
end

