-- ==== Sys2Proof/Machine/Calib.lean ====
section
/-! DEFINITION. Calibrations (R338 to R346, R353 to R356). -/

namespace Sys2Proof.Machine

/-- DARK_OFFSET_DONE: the means of the three servo ADCs with the laser off (R339). -/
def execDarkOffsetDone (n : Drive) (fe te sum : Int) (s : State) : Out :=
  actPart (fePart n) s fun s =>
    if s.g Od.CAL_STATE n = 1 then
      (((s.pi Od.FE_DARK (3 * n) fe).pi Od.FE_DARK (3 * n + 1) te).pi Od.FE_DARK (3 * n + 2) sum).p Od.CAL_STATE n 0
    else s

/-- CAL_STATE after a calibration: PENDING while a request waits (R354). -/
def calIdle (s : State) (n : Drive) : State := s.p Od.CAL_STATE n (if s.drives[n].cal.req ≠ 0 then 5 else 0)

/-- A calibration sweep starts (R342). -/
def calSweep (s : State) (n : Drive) : State :=
  (sweepStart (s.p Od.CAL_STATE n 2) n 1 true).setDv n fun d => { d with cal := { d.cal with sweepFe := [] } }

/-- CAL_SWEEP: before the first acquisition after a load, and wherever the focus balance is not done (R342, R353,
R355). -/
def execCalSweep (n : Drive) (s : State) : Out :=
  act s fun s =>
    if s.focusReady n && s.drives[n].cal.focusDone != 15 && s.g Od.CAL_STATE n == 0 then calSweep s n else s

/-- A trim as raw / 2^28: a nominal amplitude over a measured one, clamped to 0.25 to 4.0, and whether the clamp acts
(R343, R345). -/
def trimOf (nom : Nat) (pp : Int) : Int × Bool :=
  if pp ≤ 0 then (4 * 2 ^ 28, true)
  else
    let r : Rat := (nom : Rat) / (pp : Rat)
    if r < 1 / 4 then (2 ^ 26, true) else if 4 < r then (2 ^ 30, true) else (roundRat (r * 2 ^ 28), false)

/-- CAL_SWEEP_DONE: the sweep has reached its end; offsets and trims of the layers seen are stored (R343). -/
def execCalSweepDone (n : Drive) (s : State) : Out :=
  act s fun s =>
    match s.drives[n].proc with
    | .sweep _ _ _ _ _ _ true =>
      if s.gsi Od.FOCUS_SWEEP_END ≤ s.drives[n].fcmd then
        let layers := (mediaOf (s.mediaIn n)).layers
        let seen := s.drives[n].cal.sweepFe
        let s := s.each seen.zipIdx fun s ((hi, lo), j) =>
          if j < layers then
            let e := 4 * n.val + (layers - 1 - j)
            let (t, c) := trimOf (s.g Od.CAL_FO_PP_NOM) (hi - lo)
            let s := ((s.pi Od.CAL_FO_OFS e ((hi + lo).tdiv 2)).pi Od.CAL_FO_PP e (hi - lo)).pi Od.CAL_FO_TRIM e t
            if c then s.pb Od.CAL_FLAGS n 0 true else s
          else s
        let s := if seen.length < layers then s.pb Od.CAL_FLAGS n 4 true else s
        calIdle (s.setDv n fun d => { d with proc := .idle, cal := { d.cal with focusDone := 15, sweepFe := [] } }) n
      else s
    | _ => s

/-- TRACKING_BALANCE: tracking is about to be pulled in on a layer whose balance is not done (R344). -/
def execTrackingBalance (n : Drive) (s : State) : Out :=
  act s fun s =>
    let d := s.drives[n]
    let waits := match d.proc with
      | .pullIn _ => true
      | _ => false
    if d.focusClosed && !d.trackClosed && waits && !s.balanceDone n && d.hold.isNone && (s.ax (sledOf n)).move.isNone then
      (s.p Od.CAL_STATE n 3).setDv n fun d => { d with
        proc := .balance (s.g Od.REV_COUNT n), cal := { d.cal with teHalf := [], teCur := none, teAll := none } }
    else s

/-- The mean of a list of samples. -/
def meanInt (l : List Int) : Rat := if l = [] then 0 else (l.sum : Rat) / l.length

/-- TRACKING_BALANCE_DONE: after CAL_TE_REVS revolutions the offset and trim of the layer are stored (R345). A half cycle
whose larger swing is up gives a positive peak, one whose larger swing is down a negative peak. -/
def execTrackingBalanceDone (n : Drive) (s : State) : Out :=
  act s fun s =>
    match s.drives[n].proc with
    | .balance rev =>
      if rev + s.g Od.CAL_TE_REVS ≤ s.g Od.REV_COUNT n then
        let c := s.drives[n].cal
        let l := s.g Od.CUR_LAYER n % 4
        let e := 4 * n.val + l
        let pos := (c.teHalf.filter fun p => decide (-p.2 ≤ p.1)).map (·.1)
        let neg := (c.teHalf.filter fun p => decide (p.1 < -p.2)).map (·.2)
        let all := c.teAll.getD (0, 0)
        let pm : Rat := if pos = [] then all.1 else meanInt pos
        let nm : Rat := if neg = [] then all.2 else meanInt neg
        let ofs := (pm + nm) / 2
        let ofs : Int := if ofs < 0 then -((-ofs).floor) else ofs.floor
        let pp := pm - nm
        let (t, clamp) := if pp ≤ 0 then ((2 ^ 30 : Int), true)
          else
            let r : Rat := (s.g Od.CAL_TE_PP_NOM : Rat) / pp
            if r < 1 / 4 then (2 ^ 26, true) else if 4 < r then (2 ^ 30, true) else (roundRat (r * 2 ^ 28), false)
        let s := ((s.pi Od.CAL_TR_OFS e ofs).p Od.CAL_TR_PP e (clampInt 0 65535 (roundRat pp)).toNat).pi Od.CAL_TR_TRIM e t
        let s := s.p Od.CAL_TR_XINGS e (min 65535 c.teHalf.length)
        let s := if clamp then s.pb Od.CAL_FLAGS n 1 true else s
        let s := s.setDv n fun d => { d with
          proc := .pullIn (s.g Od.REV_COUNT n), xings := []
          cal := { d.cal with trackDone := d.cal.trackDone ||| BitVec.twoPow 4 l, teHalf := [], teCur := none, teAll := none } }
        calIdle (calCopy s n l) n
      else s
    | _ => s

/-- The equaliser calibration starts (R346). -/
def eqStart (s : State) (n : Drive) : State :=
  (s.p Od.CAL_STATE n 4).setDv n fun d => { d with cal := { d.cal with
    eqLeft := s.g Od.EQ_CAL_SHEAVES, eqTaps := none, eqJitter := 0, eqUsed := 0, eqDone := true } }

/-- EQ_CALIBRATION: after address lock on L0 of a disc just loaded (R346, R353). -/
def execEqCalibration (n : Drive) (s : State) : Out :=
  act s fun s =>
    if s.g Od.MEDIA_STATE n = 1 ∧ s.drives[n].cal.eqDone = false ∧ s.g Od.ANGLE_STATE n = 3 ∧ s.g Od.CUR_LAYER n = 0 ∧
        s.g Od.CAL_STATE n = 0 then eqStart s n
    else s

/-- EQ_CALIBRATION_DONE: its last gate has ended (R346). -/
def execEqCalibrationDone (n : Drive) (s : State) : Out :=
  act s fun s =>
    let c := s.drives[n].cal
    if s.g Od.CAL_STATE n = 4 ∧ c.eqLeft = 0 then
      let s := s.p Od.CAL_EQ_USED n c.eqUsed
      let s := match c.eqTaps with
        | some taps =>
          (s.each taps.zipIdx fun s (v, t) => s.p Od.EQ_TAPS_INIT (15 * n + t) v).p Od.CAL_EQ_JITTER n c.eqJitter
        | none => s.pb Od.CAL_FLAGS n 2 true
      calIdle (s.setDv n fun d => { d with cal := { d.cal with eqTaps := none } }) n
    else s

/-- A write of CAL_REQUEST[n] (R354): discarded while the disc is not READY; requests merge until they are taken. -/
def calRequest (s : State) (n : Drive) (bits : Nat) : State :=
  if s.g Od.MEDIA_STATE n = 2 ∧ bits % 8 ≠ 0 then
    let s := s.setDv n fun d => { d with cal := { d.cal with req := d.cal.req ||| (bits % 8) } }
    if s.g Od.CAL_STATE n = 0 then s.p Od.CAL_STATE n 5 else s
  else s

/-- SERVO (R354). -/
def execServo (n : Drive) (s : State) : Out := actWrite 0 Od.CAL_REQUEST n (fun s => (calRequest s n 1, 0)) s

/-- EQ (R354). -/
def execEq (n : Drive) (s : State) : Out := actWrite 0 Od.CAL_REQUEST n (fun s => (calRequest s n 2, 0)) s

/-- WPWR (R354). -/
def execWpwr (n : Drive) (s : State) : Out := actWrite 0 Od.CAL_REQUEST n (fun s => (calRequest s n 4, 0)) s

/-- CAL_REQUEST_START: the operation on the drive has ended (R354): write power first, then the servo calibrations, then
the equaliser. Requests for a disc that is not READY any more are discarded. -/
def execCalRequestStart (n : Drive) (s : State) : Out :=
  act s fun s =>
    let req := s.drives[n].cal.req
    if req = 0 ∨ s.g Od.CAL_STATE n ≠ 5 ∨ (s.media.cur[n]).isSome = true then s
    else
      let take (s : State) (r : Nat) : State := s.setDv n fun d => { d with cal := { d.cal with req := r } }
      if s.g Od.MEDIA_STATE n ≠ 2 then calIdle (take s 0) n
      else
        let s := if req.testBit 2 then powersInit (take s (req % 4)) n false else s
        let req := req % 4
        if req.testBit 0 then
          let s := take s (req - 1)
          let s := openLoops s n true
          let s := s.setDv n fun d => { d with cal := { d.cal with trackDone := 0, focusDone := 0 } }
          calSweep (angleOpen s n) n
        else if req.testBit 1 then
          if s.g Od.ANGLE_STATE n = 3 then eqStart (take s 0) n else s
        else calIdle s n

end Sys2Proof.Machine
end

