-- ==== Sys2Proof/Machine/HostIo.lean ====
section
/-! DEFINITION. The I/O commands of a function's queues and of NVMe/TCP connections: admission, checks and effects (R408,
R413 to R415, R418, R419, R422 to R432, R439, R440, R504 to R512), and the doorbells. -/

namespace Sys2Proof.Machine

/-! ### Checks -/

/-- What stops a command that names a namespace because of an admin operation (R478, R485, R486, R496). -/
def adminGate (s : State) (ns : Option Nat) : Option Status :=
  if s.admin.sanitize.state = 2 then some .sanitizeInProgress
  else if s.admin.sanitize.state = 3 then some .sanitizeFailed
  else match ns with
    | some n =>
      if s.g Od.NS_FORMAT_STATE n = 1 then some .formatInProgress
      else if s.g Od.NS_FORMAT_STATE n = 2 then some .namespaceNotReady
      else none
    | none => none

/-- The node of a queue in a violation record. -/
def queueNode : IoQueue → Nat
  | .sq _ q => q
  | .conn _ => 0

/-- A violation by a host command of kind `k` (R442). -/
def ioViol (s : State) (q : IoQueue) (k : Nat) : State := hqViol s (s.queueCrib q) k (s.queueCrib q) (queueNode q)

/-- A Read, Write or Zone Append (R414). -/
def opMoves : IoOp → Bool
  | .read .. | .write .. | .append .. => true
  | _ => false

/-- A Threshing Job, which names no namespace (R550). -/
def opJob : IoOp → Bool
  | .job .. => true
  | _ => false

/-- A number no namespace has: what a Threshing Job holds in place of a namespace. -/
def noNs : Nat := 2 ^ 32

/-- The checks every command goes through, and the namespace it names (R148, R408, R414, R440, R478, R485, R554). -/
def ioCheck (s : State) (q : IoQueue) (hdr : IoHdr) (op : IoOp) : State × Except (Status × Option Bool) Nat :=
  match op with
  | .invalid _ => (s, .error (.invalidOpcode, none))
  | _ =>
    let c := s.queueCrib q
    let psdtBad := match q with
      | .sq .. => hdr.psdt != 0
      | .conn _ => false
    match adminGate s none with
    | some st => (s, .error (st, none))
    | none =>
      if hdr.fuse ≠ 0 ∨ hdr.reserved = true then (ioViol s q 3, .error (.invalidField, none))
      else if hdr.prpBad then (ioViol s q 2, .error (.invalidPrpOffset, none))
      else if opMoves op && (hdr.prinfo != 0 || psdtBad) then (s, .error (.invalidField, none))
      else if opJob op then
        if s.g Od.CRIB_SEQ_MAX c = 0 then (s, .error (.invalidOpcode, none)) else (s, .ok noNs)
      else match s.nsOf c hdr.nsid with
        | none => (cribViol s c 2, .error (.invalidNamespace, none))
        | some (n, _) =>
          match adminGate s (some n) with
          | some st => (s, .error (st, none))
          | none => (s, .ok n)

/-! ### Reads -/

/-- The disc a zone's commands wait for is marked empty (R430). -/
def State.zoneOffline (s : State) (ns z : Nat) : Bool := (s.zone ns z).state == .offline

/-- The range has a hint of access frequency 2h or 3h (R431, R507). -/
def State.hinted (s : State) (c ns lba nlb : Nat) : Bool :=
  s.cache.hints.any fun h => h.1 == c && h.2.1 == ns && decide (lba < h.2.2.1 + h.2.2.2 ∧ h.2.2.1 < lba + nlb)

/-- Follow a queue's run of sequential Reads (R507): whether this Read belongs to a streaming run. -/
def streamStep (s : State) (q : IoQueue) (ns lba nlb : Nat) : State × Bool :=
  let old := s.cache.streams.find? fun t => t.queue == q
  let follows := old.elim false fun t => t.ns == ns && t.next == lba
  let run := if follows then old.elim 0 (fun t => t.run) + nlb else nlb
  let det := s.g Od.STREAM_DETECT
  ({ s with cache := { s.cache with streams := ⟨q, ns, lba + nlb, run⟩ :: s.cache.streams.filter fun t => t.queue != q } },
    follows && det != 0 && decide (det ≤ run))

/-- Ask for the read of one sheaf for a command: it joins a read of the sheaf that has not started, else it is queued
(R433, R437). -/
def readSheafFor (s : State) (x : Ctx) (key : Nat) (lr streamed : Bool) : State :=
  match (s.zone x.ns x.zone).bound with
  | none => s
  | some (d, dz) =>
    let q := 16 * key % zoneBlocks / 16
    let same (o : MediaOp) : Bool :=
      o.kind == MediaKind.read && o.disc == d && o.dz == dz && o.q == q && o.ns == x.ns && o.tag == x.crib && o.lr == lr
    if s.media.ops.any same then
      let join (o : MediaOp) : MediaOp := if same o then { o with ctxs := o.ctxs ++ [x.id], cls := min o.cls x.cls } else o
      { s with media := { s.media with ops := s.media.ops.map join } }
    else queueOp s {
      id := 0, kind := .read, disc := d, dz := dz, q := q, cls := x.cls, time := 0, ctxs := [x.id], ns := x.ns, tag := x.crib
      lr := lr, rereads := 0, age := if streamed then 3 else 0, streamed := streamed, todo := [], wrote := []
      verifying := false, lba := 16 * key, good := [] }

/-- The lookups of an admitted Read, and the sheaves it needs from disc (R429, R504, R505). -/
def readStart (s : State) (x : Ctx) (lr : Bool) : State :=
  let (s, run) := streamStep s x.queue x.ns x.lba x.nlb
  let streamed := run || s.hinted x.crib x.ns x.lba x.nlb
  let wp := x.zone * zoneBlocks + (s.zone x.ns x.zone).wp
  let r := (List.range x.nlb).foldl (fun (r : State × Keyed (List Byte) × List Nat) i =>
    let (s, got, miss) := r
    let lba := x.lba + i
    if wp ≤ lba then (s, Keyed.insert got i zeroBlock, miss)
    else
      let (s, b) := cacheLookup s x.crib x.ns lba streamed
      match b with
      | some b => (s, Keyed.insert got i b, miss)
      | none => (s, got, if miss.contains (lba / 16) then miss else miss ++ [lba / 16])) (s, [], [])
  let (s, got, miss) := r
  let s := s.sub Od.HAY_LAND_USED 0 (x.sheaves - miss.length)
  let x := { x with blocks := got, left := miss.length, landing := miss.length, streaming := streamed }
  let s := s.setCtx x.id fun _ => x
  readSettle (s.each miss fun s key => readSheafFor s x key lr streamed) x.id

/-! ### Writes -/

/-- The status of a Write or Zone Append at a place, none when it is admitted (R415, R421, R426). -/
def writeCheck (s : State) (ns z nlb : Nat) (at_ : Option Nat) : Option Status :=
  let e := s.zone ns z
  let adm := s.admission ns z
  match e.state with
  | .offline => some .zoneIsOffline
  | .full => some .zoneIsFull
  | st =>
    if zoneBlocks < adm + nlb then some .zoneBoundary
    else if at_.elim false fun a => a != adm then some .zoneInvalidWrite
    else if st = .empty ∧ activeRoom s ns = false then some .tooManyActive
    else if st.isOpen = false ∧ openRoom s ns = false then some .tooManyOpen
    else none

/-- A zone that a write opens: bound when it was Empty, Implicitly Opened unless already open (R423). -/
def writeOpens (s : State) (ns z : Nat) : State :=
  match (s.zone ns z).st with
  | .empty => zoneEnter s ns z .implicitOpen
  | .closed => s.setZoneRaw ns z { s.zone ns z with st := .implicitOpen }
  | _ => s

/-! ### Zone report -/

/-- A zone state as ZNS encodes it (R425). -/
def ZoneSt.code : ZoneSt → Nat
  | .empty => 1 | .implicitOpen => 2 | .explicitOpen => 3 | .closed => 4 | .full => 14 | .offline => 15

/-- The zones a reporting option lists (R413). -/
def reportsZone (opt : Nat) (st : ZoneSt) : Bool :=
  match opt with
  | 0 => true
  | 1 => st == .empty
  | 2 => st == .implicitOpen
  | 3 => st == .explicitOpen
  | 4 => st == .closed
  | 5 => st == .full
  | 7 => st == .offline
  | _ => false

/-- The zone report (R413): its header and descriptors, cut to the bytes asked for. -/
def zoneReport (s : State) (ns first opt : Nat) (partial_ : Bool) (bytes zones : Nat) : List Byte :=
  let hit := (List.range zones).filter fun z => decide (first ≤ z) && reportsZone opt (s.zone ns z).state
  let room := (bytes - 64) / 64
  let count := if partial_ then min room hit.length else hit.length
  let desc (z : Nat) : List Byte :=
    let e := s.zone ns z
    padTo 64 (leBytes 1 2 ++ leBytes 1 (16 * e.state.code) ++ leBytes 6 0 ++ leBytes 8 zoneBlocks ++
      leBytes 8 (z * zoneBlocks) ++ leBytes 8 (z * zoneBlocks + e.wp))
  (padTo 64 (leBytes 8 count) ++ (hit.take room).flatMap desc).take bytes

/-- What Zone Locate returns (R425, R432). -/
def locateBytes (s : State) (ns z : Nat) : List Byte :=
  match (s.zone ns z).bound with
  | none => leBytes 4 0 ++ leBytes 1 0xFF ++ leBytes 1 4 ++ leBytes 2 0 ++ leBytes 4 0 ++ leBytes 4 0
  | some (d, dz) =>
    let bind := d + dz * 2048 + 2 ^ 31
    match s.driveOf d with
    | some n =>
      let st := s.g Od.DRV_STATE n
      leBytes 4 bind ++ leBytes 1 n ++ leBytes 1 st ++ leBytes 2 0 ++ leBytes 4 (s.g Od.DRV_EXIT_LAT (5 * n + st)) ++
        leBytes 4 (s.media.ops.filter fun o => o.disc == d).length
    | none => leBytes 4 bind ++ leBytes 1 0xFF ++ leBytes 1 4 ++ leBytes 2 0 ++ leBytes 4 (s.g Od.DRV_EXIT_LAT 4) ++ leBytes 4 0

/-- Zone Release (R432): a drive with no queued operation enters D3, and its disc is first to be evicted. -/
def releaseZone (s : State) (ns z : Nat) : State :=
  match (s.zone ns z).bound.bind fun b => s.driveOf b.1 with
  | none => s
  | some n =>
    if s.hasWork n then s
    else
      let s := s.setDisc n ((s.media.disc[n]).map fun i => { i with released := true })
      if 3 ≤ s.g Od.DRV_STATE n then s
      else
        let s := (openLoops s n true).setDv n fun d => { d with laserMode := 0, wake := none }
        spinBrake ((angleOpen s n).p Od.DRV_STATE n 2) n

/-! ### Running a command -/

/-- Blocks of a namespace. -/
def Ns.blocks (n : Ns) : Nat := n.zones * zoneBlocks

/-- Admit a command that has passed its checks (R413 to R432). `x` is its context, not yet kept. -/
def ioRun (s : State) (x : Ctx) (n : Ns) : State :=
  let done (s : State) (st : Status) (dnr : Option Bool := none) : State := s.complete x.queue x.cid st dnr
  let keep (s : State) (x : Ctx) : State := { s with host := { s.host with ctxs := s.host.ctxs ++ [x] } }
  let range (lba nlb : Nat) (f : Nat → State) : State :=
    if nlb = 0 ∨ 256 < nlb then done s .invalidField
    else if n.blocks < lba + nlb then done s .lbaOutOfRange
    else if lba / zoneBlocks ≠ (lba + nlb - 1) / zoneBlocks then done s .zoneBoundary
    else if s.g Od.NS_KEY_STATE x.ns ≠ 1 then done s .namespaceNotReady true
    else f (lba / zoneBlocks)
  let write (z lba nlb : Nat) (data : Option (List Byte)) : State :=
    let s := (writeOpens s x.ns z).add Od.STAGE_LINES_USED 0 nlb
    let blocks : Keyed (List Byte) := match data with
      | some d => (chunks nlb 4096 d).zipIdx.map fun (b, i) => (i, padTo 4096 b)
      | none => []
    keep s { x with zone := z, lba := lba, nlb := nlb, blocks := blocks, left := nlb }
  let zoned (lba : Nat) (start : Bool) (f : Nat → State) : State :=
    if n.blocks ≤ lba then done s .lbaOutOfRange
    else if start && lba % zoneBlocks != 0 then done s .invalidField
    else f (lba / zoneBlocks)
  match x.op with
  | .flush => done s .success
  | .read lba nlb lr =>
    range lba nlb fun z =>
      if s.zoneOffline x.ns z then done s .zoneIsOffline true
      else
        let x := { x with zone := z, lba := lba, nlb := nlb }
        readStart ((keep s x).add Od.HAY_LAND_USED 0 x.sheaves) x lr
  | .write lba nlb data =>
    range lba nlb fun z =>
      match writeCheck s x.ns z nlb (some (lba % zoneBlocks)) with
      | some .zoneIsOffline => done s .zoneIsOffline true
      | some st => done s st
      | none => write z lba nlb data
  | .append lba nlb data =>
    if nlb = 0 ∨ 256 < nlb ∨ lba % zoneBlocks ≠ 0 then done s .invalidField
    else if n.blocks ≤ lba then done s .lbaOutOfRange
    else if s.g Od.NS_KEY_STATE x.ns ≠ 1 then done s .namespaceNotReady true
    else
      let z := lba / zoneBlocks
      match writeCheck s x.ns z nlb none with
      | some .zoneIsOffline => done s .zoneIsOffline true
      | some st => done s st
      | none => write z (lba + s.admission x.ns z) nlb data
  | .dsm ad ranges =>
    if ad then done s .invalidField
    else
      let s := s.each ranges fun s r =>
        let s := if r.freq = 2 ∨ r.freq = 3 then
            { s with cache := { s.cache with hints := (x.crib, x.ns, r.slba, r.nlb) :: s.cache.hints } } else s
        if r.sr then
          s.each (List.range ((r.slba + r.nlb + 15) / 16 - r.slba / 16)) fun s i =>
            if n.blocks ≤ 16 * (r.slba / 16 + i) then s
            else
              let hot := r.freq == 2 || r.freq == 3
              prefetchSheaf s x.ns (r.slba / 16 + i) (if hot then 3 else 1) hot []
        else s
      done s .success
  | .zoneClose lba all =>
    zoned lba (!all) fun z =>
      let st := (s.zone x.ns z).state
      if !all && !st.isOpen && st != .closed then done s .zoneInvalidTransition
      else
        let zs := sendZones s x.ns z all ZoneSt.isOpen
        let s := s.each zs fun s z => s.setZoneRaw x.ns z { s.zone x.ns z with st := .closed }
        zonesKeep s x.ns zs (x.cpl .success)
  | .zoneOpen lba all =>
    zoned lba (!all) fun z =>
      let e := s.zone x.ns z
      let zs := sendZones s x.ns z all fun st => st == .closed
      let grow := zs.filter fun z => !(s.zone x.ns z).state.isOpen
      if !all && (e.state == .full || e.state == .offline) then done s .zoneInvalidTransition
      else if 8 < (s.zonesWith x.ns ZoneSt.isOpen).length + grow.length then done s .tooManyOpen
      else if !all && e.state == .empty && !activeRoom s x.ns then done s .tooManyActive
      else
        let s := s.each zs fun s z =>
          if (s.zone x.ns z).st = .empty then zoneEnter s x.ns z .explicitOpen
          else s.setZoneRaw x.ns z { s.zone x.ns z with st := .explicitOpen }
        zonesKeep s x.ns zs (x.cpl .success)
  | .zoneFinish lba all =>
    zoned lba (!all) fun z =>
      if !all && (s.zone x.ns z).state == .offline then done s .zoneInvalidTransition
      else settle (keep s { x with zone := z, stage := waitStage })
  | .zoneReset lba all =>
    zoned lba (!all) fun z =>
      if !all && (s.zone x.ns z).state == .offline then done s .zoneInvalidTransition
      else settle (keep s { x with zone := z, stage := waitStage })
  | .zoneReceive lba action opt part bytes =>
    zoned lba false fun z =>
      if action ≠ 0 then done s .invalidField
      else done (hostSend s x (zoneReport s x.ns z opt part bytes n.zones)) .success
  | .job .. => keep s x
  | .warm lba want =>
    zoned lba false fun z =>
      if want ≠ 1 ∧ want ≠ 2 then done s .invalidField
      else match (s.zone x.ns z).bound with
        | none => done s .success
        | some (d, _) =>
          let s := keep s { x with zone := z, stage := waitStage }
          let s := match s.driveOf d with
            | some n => if want < s.g Od.DRV_STATE n then wakeDrive s n else s
            | none => if s.zoneOffline x.ns z then s else askLoad s d .media
          settle s
  | .release lba => zoned lba false fun z => done (releaseZone s x.ns z) .success
  | .locate lba => zoned lba false fun z => done (hostSend s x (locateBytes s x.ns z)) .success
  | .invalid _ => done s .invalidOpcode

/-- Bytes that a command on a connection still waits for: a write's, or a job's descriptor and payload. -/
def Ctx.wants (x : Ctx) : Nat :=
  match x.op with
  | .write .. | .append .. => if x.blocks.length < x.nlb && x.result.isNone then 4096 * x.nlb else 0
  | .job cdw10 _ none => min cdw10 1048576
  | _ => 0

/-- The R2Ts that a connection's commands may have: at most MAXR2T + 1 each, of at most 131,072 bytes, for the bytes not yet
asked for (R460). -/
def r2tFill (s : State) (k : Nat) : State :=
  s.each (s.host.ctxs.filter fun x => x.queue == .conn k && x.wants != 0) fun s x =>
    match s.net.conns.find? k with
    | none => s
    | some c =>
      if c.closed then s
      else
        let total := x.wants
        let out := (c.r2ts.filter fun r => r.cid == x.cid).length
        let (asked, got, buf) := Keyed.getD c.bufs x.cid (0, 0, List.replicate total 0)
        let want := min (c.maxR2t + 1 - out) ((total - asked + 131071) / 131072)
        let new : List R2t := (List.range want).map fun i =>
          let off := asked + 131072 * i
          ⟨x.cid, (c.nextTag + i) % 65536, off, min 131072 (total - off), 0⟩
        let s := { s with net := { s.net with conns := s.net.conns.insert k { c with
          r2ts := c.r2ts ++ new, nextTag := (c.nextTag + want) % 65536
          bufs := Keyed.insert c.bufs x.cid (min total (asked + 131072 * want), got, buf) } } }
        s.each new fun s r => netSend s k (.net c.port (.r2t c.peer r.cid r.ttag r.offset r.len))

/-- The context of an admitted command, before what the command itself fills in. -/
def newCtx (s : State) (q : IoQueue) (hdr : IoHdr) (op : IoOp) (ns : Nat) : Ctx where
  id := s.host.nextCtx
  queue := q
  crib := s.queueCrib q
  cid := hdr.cid
  cls := s.queueClass q
  op := op
  ns := ns
  zone := 0
  lba := 0
  nlb := 0
  blocks := []
  left := 0
  started := false
  stage := 0
  result := none
  landing := 0
  streaming := false

/-- A command whose entry has been taken: its checks, then its effect (R408, R413). A Threshing Job is kept until a sequencer
is assigned to it (R554). -/
def ioAdmit (s : State) (q : IoQueue) (hdr : IoHdr) (op : IoOp) : State :=
  let bump (s : State) : State := { s with host := { s.host with nextCtx := s.host.nextCtx + 1 } }
  let r2t (s : State) : State := match q with
    | .conn k => r2tFill s k
    | .sq .. => s
  match ioCheck s q hdr op with
  | (s, .error (st, dnr)) => s.complete q hdr.cid st dnr
  | (s, .ok ns) =>
    match op with
    | .job cdw10 rest0 data =>
      let x := newCtx s q hdr (.job cdw10 (rest0 && hdr.nsid == 0) data) noNs
      r2t { bump s with host := { (bump s).host with ctxs := s.host.ctxs ++ [x] } }
    | _ =>
      match s.host.ns.find? ns with
      | none => s
      | some n => r2t (ioRun (bump s) (newCtx s q hdr op ns) n)

/-- What a command needs before it is fetched: a context, and staging lines or landing buffers (R419, R505, R512). -/
def ioRoom (s : State) (q : IoQueue) (op : IoOp) : Bool :=
  s.ctxFree (s.queueCrib q) &&
  (match op with
  | .write _ nlb _ | .append _ nlb _ => decide (256 < nlb) || decide (s.g Od.STAGE_LINES_USED + nlb ≤ s.stageLines)
  | .read lba nlb _ =>
    decide (256 < nlb) || decide (s.g Od.HAY_LAND_USED + ((lba + nlb + 15) / 16 - lba / 16) ≤ 16 * s.g Od.HAYLOFT_LAND)
  | _ => true)

/-- Entries of a queue that wait for admission. -/
def State.waitingOn (s : State) (q : IoQueue) : List Waiting := s.host.waiting.filter fun w => w.queue == q

/-- The host has made an entry for this command: one more than those that wait (R439, R460). -/
def State.offered (s : State) (q : IoQueue) : Bool :=
  match q with
  | .sq f qid =>
    match s.host.ctl[f].sqs.find? qid with
    | some sq => decide ((s.waitingOn q).length < (sq.tail + sq.size - sq.head) % sq.size) && qid != 0
    | none => false
  | .conn k => (s.net.conns.find? k).elim false fun c => c.qid != 0 && c.crib.isSome && !c.closed

/-- An entry of a submission queue, or a capsule: admitted when it is the queue's next and can be given what it needs,
else it waits (R419, R460). -/
def ioSubmit (s : State) (q : IoQueue) (hdr : IoHdr) (op : IoOp) : State :=
  if !s.offered q then s
  else if s.fetching q && (s.waitingOn q).isEmpty && ioRoom s q op then
    match s.takeEntry q with
    | some s => ioAdmit s q hdr op
    | none => s
  else { s with host := { s.host with waiting := s.host.waiting ++ [⟨q, hdr, op⟩] } }

/-- COMMAND_ADMISSION: what waited is admitted where it can be, one command by the arbiter of R161 and R418; and commands
that waited for their zone or drive are looked at again. -/
def execCommandAdmission (s : State) : Out :=
  act s fun s =>
    let s := settle s
    let heads := s.host.waiting.foldl (fun (l : List Waiting) w => if l.any fun v => v.queue == w.queue then l else l ++ [w]) []
    let ready := heads.filter fun w => s.fetching w.queue && ioRoom s w.queue w.op
    let cands := ready.map fun w => (s.queueClass w.queue, s.queueCrib w.queue)
    let (pick, turn) := drrPick s s.host.turn cands
    match pick with
    | none => s
    | some (k, c) =>
      let mine := ready.filter fun w => s.queueClass w.queue == k && s.queueCrib w.queue == c
      let key (w : Waiting) : Nat := match w.queue with
        | .sq _ q => q
        | .conn i => 65536 + i
      let last := Keyed.getD turn.queue (64 * k + c) 0
      match (mine.filter fun w => decide (last < key w)).foldl (fun (b : Option Waiting) w =>
          match b with
          | none => some w
          | some b => if key w < key b then some w else some b) none <|> mine.foldl (fun (b : Option Waiting) w =>
          match b with
          | none => some w
          | some b => if key w < key b then some w else some b) none with
      | none => s
      | some w =>
        let s := { s with host := { s.host with
          turn := { turn with queue := Keyed.put turn.queue (64 * k + c) (key w) 0 }
          waiting := s.host.waiting.erase w } }
        match s.takeEntry w.queue with
        | some s => ioAdmit s w.queue w.hdr w.op
        | none => s

/-- FLUSH (R413). -/
def execFlush (q : IoQueue) (hdr : IoHdr) (s : State) : Out := act s fun s => ioSubmit s q hdr .flush

/-- WRITE (R413, R426). -/
def execWrite (q : IoQueue) (hdr : IoHdr) (slba nlb : Nat) (data : Option (List Byte)) (s : State) : Out :=
  act s fun s => ioSubmit s q hdr (.write slba nlb data)

/-- READ (R413, R504). -/
def execRead (q : IoQueue) (hdr : IoHdr) (slba nlb : Nat) (lr : Bool) (s : State) : Out :=
  act s fun s => ioSubmit s q hdr (.read slba nlb lr)

/-- DATASET_MANAGEMENT (R431). -/
def execDatasetManagement (q : IoQueue) (hdr : IoHdr) (ad : Bool) (ranges : List DsmRange) (s : State) : Out :=
  act s fun s => ioSubmit s q hdr (.dsm ad ranges)

/-- ZONE_CLOSE (R413). -/
def execZoneClose (q : IoQueue) (hdr : IoHdr) (slba : Nat) (all : Bool) (s : State) : Out :=
  act s fun s => ioSubmit s q hdr (.zoneClose slba all)

/-- ZONE_FINISH (R413). -/
def execZoneFinish (q : IoQueue) (hdr : IoHdr) (slba : Nat) (all : Bool) (s : State) : Out :=
  act s fun s => ioSubmit s q hdr (.zoneFinish slba all)

/-- ZONE_OPEN (R413, R423). -/
def execZoneOpen (q : IoQueue) (hdr : IoHdr) (slba : Nat) (all : Bool) (s : State) : Out :=
  act s fun s => ioSubmit s q hdr (.zoneOpen slba all)

/-- ZONE_RESET (R424). -/
def execZoneReset (q : IoQueue) (hdr : IoHdr) (slba : Nat) (all : Bool) (s : State) : Out :=
  act s fun s => ioSubmit s q hdr (.zoneReset slba all)

/-- ZONE_MANAGEMENT_RECEIVE (R413). -/
def execZoneManagementReceive (q : IoQueue) (hdr : IoHdr) (slba action opt : Nat) (part : Bool) (bytes : Nat) (s : State) : Out :=
  act s fun s => ioSubmit s q hdr (.zoneReceive slba action opt part bytes)

/-- ZONE_APPEND (R413, R426). -/
def execZoneAppend (q : IoQueue) (hdr : IoHdr) (zslba nlb : Nat) (data : Option (List Byte)) (s : State) : Out :=
  act s fun s => ioSubmit s q hdr (.append zslba nlb data)

/-- THRESHING_JOB (R413, R550, R554). -/
def execThreshingJob (q : IoQueue) (hdr : IoHdr) (cdw10 : Nat) (rest0 : Bool) (data : Option (List Byte)) (s : State) : Out :=
  act s fun s => ioSubmit s q hdr (.job cdw10 rest0 data)

/-- ZONE_WARM (R432). -/
def execZoneWarm (q : IoQueue) (hdr : IoHdr) (lba want : Nat) (s : State) : Out :=
  act s fun s => ioSubmit s q hdr (.warm lba want)

/-- ZONE_RELEASE (R432). -/
def execZoneRelease (q : IoQueue) (hdr : IoHdr) (lba : Nat) (s : State) : Out :=
  act s fun s => ioSubmit s q hdr (.release lba)

/-- ZONE_LOCATE (R432). -/
def execZoneLocate (q : IoQueue) (hdr : IoHdr) (lba : Nat) (s : State) : Out :=
  act s fun s => ioSubmit s q hdr (.locate lba)

/-! ### Doorbells -/

/-- An asynchronous event about a doorbell, with its count and record (R439, R442). -/
def doorbellBad (s : State) (f : Crib) (qid : Nat) (value : Bool) : State :=
  asyncEvent (hqViol s f (b2n value) f qid) f (if value then .invalidDoorbellValue else .invalidDoorbellRegister)

/-- SQ_TAIL_DOORBELL: the tail is recorded, or the write ignored (R439). -/
def execSqTailDoorbell (f : Crib) (qid tail : Nat) (s : State) : Out :=
  act s fun s =>
    match s.host.ctl[f].sqs.find? qid with
    | none => doorbellBad s f qid false
    | some q =>
      if q.size ≤ tail then doorbellBad s f qid true
      else s.setCtl f fun g => { g with sqs := g.sqs.insert qid { q with tail := tail } }

/-- Completions that waited for a free entry are posted (R172). -/
def cqDrain (s : State) (f : Crib) (qid : Nat) : State :=
  match s.host.ctl[f].cqs.find? qid with
  | none => s
  | some q =>
    let room := (q.head + q.size - q.tail - 1) % q.size
    let out := q.waiting.take room
    let s := s.setCtl f fun g => { g with cqs := g.cqs.insert qid { q with
      waiting := q.waiting.drop room, tail := (q.tail + out.length) % q.size } }
    s.each out fun s c =>
      let s := s.emit (.cqe c)
      if q.ien then s.msix f q.vec else s

/-- CQ_HEAD_DOORBELL: entries are freed; a head outside the queue, or past what was posted, is refused (R172, R439). -/
def execCqHeadDoorbell (f : Crib) (qid head : Nat) (s : State) : Out :=
  act s fun s =>
    match s.host.ctl[f].cqs.find? qid with
    | none => doorbellBad s f qid false
    | some q =>
      if q.size ≤ head ∨ (q.tail + q.size - q.head) % q.size < (head + q.size - q.head) % q.size then doorbellBad s f qid true
      else cqDrain (s.setCtl f fun g => { g with cqs := g.cqs.insert qid { q with head := head } }) f qid

/-! ### Drives and discs -/

/-- The predicted start of an operation on a drive: its seek, then the wait for its sheaf's preamble at the measured
speed, in ns (R433 step 3). `seek` is the seek time measured for its distance (R208). -/
def predicted (s : State) (n : Drive) (o : MediaOp) (seek : Nat) : Nat :=
  let v := (s.gi Od.SPIN_SPEED_MEAS n).toNat
  let phys := (o.next s n).elim 0 fun p => p.1
  let land := s.g Od.ANGLE_NOW n % 65536 + v * seek / 12800000
  let wait := (angleOf (slotWobbles * physSlot phys) + 65536 * (1 + land / 65536) - land) % 65536
  if v = 0 then seek else seek + wait * 12800000 / v

/-- The operation a drive takes next (R433). -/
def nextOp (s : State) (n : Drive) (seeks : List (Nat × Nat)) : Option MediaOp :=
  let d := s.g Od.DRV_DISC n
  let mine := s.media.ops.filter fun o => o.disc == d
  let least (l : List MediaOp) (f : MediaOp → Nat × Nat) : Option MediaOp :=
    l.foldl (fun (b : Option MediaOp) o => match b with
      | none => some o
      | some b => if (f o).1 < (f b).1 ∨ ((f o).1 = (f b).1 ∧ (f o).2 < (f b).2) then some o else some b) none
  let old := mine.filter fun o => decide (o.time + s.g Od.MQ_AGE_MAX * 1000000 < s.now)
  if old ≠ [] then least old fun o => (o.time, o.id)
  else
    let top := mine.foldl (fun m o => min m o.cls) 9
    least (mine.filter fun o => o.cls == top) fun o =>
      (predicted s n o (((seeks.find? fun p => p.1 == o.id).map fun p => p.2).getD 0), physSlot ((o.next s n).elim 0 fun p => p.1))

/-- A logical sheaf written before is written again into a spare slot (R327); without one the write fails (R329). -/
def placeSheaves (s : State) (n : Drive) (o : MediaOp) : State × Option MediaOp :=
  o.todo.foldl (fun (r : State × Option MediaOp) w =>
    match r with
    | (s, none) => (s, none)
    | (s, some p) =>
      if w.phys = w.home ∧ w.q < Keyed.getD s.media.hwm (64 * o.disc + o.dz) 0 then
        match replaceSheaf s n o w false with
        | (s, some w) => (s, some { p with todo := p.todo ++ [w] })
        | (s, none) => (s, none)
      else (s, some { p with todo := p.todo ++ [w] })) (s, some { o with todo := [] })

/-- MEDIA_OP_START: the next operation of a drive's queue starts (R433). `seeks` holds the seek times the controller has
measured for the distances of the queued operations, in ns (R208). Loads that wait are given a drive (R434). -/
def execMediaOpStart (n : Drive) (seeks : List (Nat × Nat)) (s : State) : Out :=
  act s fun s =>
    let s := serveLoads s
    if s.media.cur[n] = none ∧ s.g Od.DRV_STATE n = 0 ∧ s.g Od.MEDIA_STATE n = 2 ∧ s.g Od.DRIVE_FAULT n = 0 ∧
        s.g Od.CAL_STATE n = 0 ∧ s.drives[n].cal.req = 0 then
      match nextOp s n seeks with
      | none => s
      | some o =>
        let s := { s with media := { s.media with ops := s.media.ops.filter fun p => p.id != o.id } }
        let s := s.each o.ctxs fun s id => s.setCtx id fun x => { x with started := true }
        match placeSheaves s n o with
        | (s, some o) => (s.setCur n (some o)).setDv n fun d => { d with rx := none, acqFails := 0 }
        | (s, none) => settle s
    else s

/-- DRIVE_IDLE_TIMEOUT: a drive with nothing to do moves down one state (R204, R435). -/
def execDriveIdleTimeout (n : Drive) (s : State) : Out :=
  act s fun s =>
    if s.media.cur[n] = none ∧ s.hasWork n = false ∧ s.g Od.DRIVE_FAULT n = 0 ∧ s.g Od.DRV_DISC n ≠ 0xFFFF ∧
        s.drives[n].wake = none then
      let s := { s with media := { s.media with idleFrom := s.media.idleFrom.set n s.now } }
      match s.g Od.DRV_STATE n with
      | 0 => settle (s.p Od.DRV_STATE n 1)
      | 1 =>
        let s := (openLoops s n true).setDv n fun d => { d with laserMode := 0, proc := .idle }
        settle ((angleOpen s n).p Od.DRV_STATE n 2)
      | 2 => spinBrake s n
      | 3 =>
        if s.pickBusy n then s
        else s.setPicker fun p => { p with queue := p.queue ++ [⟨false, s.g Od.DRV_DISC n, n, s.now, .evict⟩] }
      | _ => s
    else s

/-- A write of 1 to DISC_RESTORE[d] (R430): a load of the slot, unless one runs. -/
def discRestore (s : State) (d : Nat) : State :=
  if s.media.restores.contains d then s
  else
    let s := { s with media := { s.media with restores := s.media.restores ++ [d] } }
    askLoad (s.p Od.DISC_RESTORE_RESULT d 4) d .restore

/-- DISC_RESTORE (R430). -/
def execDiscRestore (d : Fin 1536) (s : State) : Out := actWrite 0 Od.DISC_RESTORE d (fun s => (discRestore s d, 0)) s

end Sys2Proof.Machine
end

