-- ==== Sys2Proof/Machine/Keys.lean ====
section
/-! DEFINITION. Namespace keys and job keys (R151 to R158). -/

namespace Sys2Proof.Machine

/-- The Chest position of the record a key operation writes. -/
def keyPos (s : State) (n : Nat) : Nat := Pos.key n (s.g Od.NS_KEY_VER n + 1)

/-- A key operation starts (R154): 1 GENERATE, 2 LOAD, 3 DESTROY. The record is written with the next version, and
NS_KEY_STATE reads BUSY until it has been read back. -/
def keyStart (s : State) (n kind : Nat) : State :=
  let secret := if kind = 1 then Config.drawnSecret s.keys.draws else if kind = 2 then s.blob Od.NS_KEY_DATA n else []
  let draws := if kind = 1 then s.keys.draws + 1 else s.keys.draws
  let s := { s with keys := { s.keys with
    draws := draws, ops := Keyed.insert s.keys.ops n ⟨kind, s.g Od.NS_KEY_STATE n, secret⟩ } }
  (s.p Od.NS_KEY_STATE n 3).chestWrite Region.state (keyPos s n)

/-- A write of NS_KEY_CTRL[n] (R154, R686). -/
def keyCtrl (s : State) (n kind : Nat) : State × Nat :=
  if s.g Od.PF_STATE ≠ 0 then (s, 0x0A)
  else if s.g Od.NS_KEY_STATE n = 3 then (s, 0x0C)
  else if kind = 2 ∧ (s.blob Od.NS_KEY_DATA n).length ≠ 32 then (s, 0x06)
  else (keyStart s n kind, 0)

/-- GENERATE, by crib `who` (R154). -/
def execGenerate (who : Crib) (n : Fin 256) (s : State) : Out := actWrite who Od.NS_KEY_CTRL n (fun s => keyCtrl s n 1) s

/-- LOAD, by crib `who` (R154). -/
def execLoad (who : Crib) (n : Fin 256) (s : State) : Out := actWrite who Od.NS_KEY_CTRL n (fun s => keyCtrl s n 2) s

/-- DESTROY, by crib `who` (R154). -/
def execDestroy (who : Crib) (n : Fin 256) (s : State) : Out := actWrite who Od.NS_KEY_CTRL n (fun s => keyCtrl s n 3) s

/-- NS_KEY_KCV of an active key (R156): three bytes of the encryption of zeros, the first in [7:0]. -/
def kcvOf (s : State) (n : Nat) : Nat := ofLe ((aesEnc (s.dataKey n) (List.replicate 16 0#8)).take 3)

/-- The crib that a namespace slot belongs to, if it is attached. -/
def State.slotCrib (s : State) (n : Nat) : Nat := ((s.host.ns.find? n).bind fun x => x.attached).getD 0

/-- The record of a key operation has been read back: the operation takes effect, its internal invalidation first (R154,
R155, R524); a record that does not read back leaves the key as it was (R155). Either way NS_KEY_STATE leaves BUSY
(R600). -/
def keyReadBack (s : State) (n : Nat) (ok : Bool) : State :=
  match s.keys.ops.find? n with
  | none => s
  | some op =>
    let s := { s with keys := { s.keys with ops := Keyed.erase s.keys.ops n } }
    let s :=
      if ok then
        let s := invalidateNs s n
        let ver := (s.g Od.NS_KEY_VER n + 1) % 2 ^ 32
        let dead := op.kind == 3
        let wrapped := if dead then List.replicate 40 0#8 else keyWrap Config.keyEncryptionKey op.secret
        let s := { s with keys := { s.keys with
          recs := Keyed.insert s.keys.recs n ⟨s.slotCrib n, if dead then 2 else 1, ver, wrapped⟩
          secrets := if dead then Keyed.erase s.keys.secrets n else Keyed.insert s.keys.secrets n op.secret } }
        let s := (s.p Od.NS_KEY_STATE n (if dead then 2 else 1)).p Od.NS_KEY_VER n ver
        let s := s.p Od.NS_KEY_KCV n (if dead then 0 else kcvOf s n)
        s.setBlob Od.NS_KEY_DATA n (List.replicate (s.blob Od.NS_KEY_DATA n).length 0#8)
      else s.p Od.NS_KEY_STATE n op.before
    raiseCrib s (s.slotCrib n) 4 (n + 256 * s.g Od.NS_KEY_STATE n)

/-- A write of JOB_KEY_DATA[e] (R158). -/
def jobKeyWrite (s : State) (e : Nat) (data : List Byte) : State × Nat :=
  if data.length ≠ 32 then (s, 0x06)
  else ({ s with keys := { s.keys with jobKeys := Keyed.insert s.keys.jobKeys e data } }, 0)

/-- JOB_KEY_DATA: crib `c`'s job key `k` is written, by that crib or by crib 0 (R158). -/
def execJobKeyData (who c : Crib) (k : Fin 8) (data : List Byte) (s : State) : Out :=
  actWrite who Od.JOB_KEY_DATA (8 * c + k) (fun s => jobKeyWrite s (8 * c + k) data) s

end Sys2Proof.Machine
end

