-- ==== Sys2Proof/Machine/HostAdmin.lean ====
section
/-! DEFINITION. Admin commands of a function or an association, and what a host does to a function's controller: enabling,
shutdown, keep-alive, MSI-X and configuration requests (R399 to R412, R416, R417, R420, R422, R424, R441, R485, R488,
R489). -/

namespace Sys2Proof.Machine

/-! ### Controllers and their admin queues -/

/-- Change the controller a queue belongs to. -/
def State.modCtl (s : State) (q : IoQueue) (g : NvmeCtl → NvmeCtl) : State :=
  match q with
  | .sq f _ => s.setCtl f g
  | .conn k =>
    match (s.net.conns.find? k).bind fun c => c.cntlid with
    | some i => match s.net.assocs.find? i with
      | some a => { s with net := { s.net with assocs := s.net.assocs.insert i { a with ctl := g a.ctl } } }
      | none => s
    | none => s

/-- An enabled controller becomes ready when its crib is ACTIVE and Booting has ended: its admin queues exist (R109, R144,
R406). -/
def ctlReady (s : State) (f : Crib) : State :=
  let g := s.host.ctl[f]
  if g.en && !g.rdy && s.g Od.CRIB_STATE f == 1 && !s.isDev .booting then
    s.setCtl f fun g => { g with
      rdy := true
      sqs := [(0, ⟨g.aqa % 4096 + 1, 0, 0, 0, 0⟩)]
      cqs := [(0, ⟨g.aqa / 65536 % 4096 + 1, 0, 0, 0, true, []⟩)] }
  else s

/-- The admin queue of the queue's controller is served (R109, R126, R131, R407, R441, R463, R686). -/
def adminServed (s : State) (q : IoQueue) : Bool :=
  let ready := (s.ctlOf q).elim false fun g => g.rdy && !g.cfs
  let serving := s.isDev .serving && s.g Od.PF_STATE == 0 && s.g Od.CRIB_STATE (s.queueCrib q) == 1
  match q with
  | .sq f qid => qid == 0 && ready && (if f.val = 0 then !s.isDev .off && !s.isDev .booting else serving)
  | .conn k => ready && serving && (s.net.conns.find? k).elim false fun c => c.qid == 0 && !c.closed

/-- A function on its own queue is the PF (R409). -/
def onPf : IoQueue → Bool
  | .sq f _ => f.val == 0
  | .conn _ => false

/-- An admin command: taken when its queue is served, has the entry and a context is free; else it stays in its queue
(R168, R419). While a Sanitize runs, only what R485 lists is accepted; then the checks of R440; then the command. -/
def adminTake (s : State) (q : IoQueue) (hdr : IoHdr) (duringSanitize : Bool) (f : State → State) : State :=
  if !adminServed s q || !s.ctxFree (s.queueCrib q) then s
  else match s.takeEntry q with
    | none => s
    | some s =>
      if !duringSanitize && s.admin.sanitize.state == 2 then s.complete q hdr.cid .sanitizeInProgress
      else if hdr.fuse ≠ 0 ∨ hdr.reserved = true then (ioViol s q 3).complete q hdr.cid .invalidField
      else if hdr.prpBad then (ioViol s q 2).complete q hdr.cid .invalidPrpOffset
      else f s

/-- The completion of an admin command. -/
def adminDone (s : State) (q : IoQueue) (hdr : IoHdr) (st : Status) (dw0 : Nat := 0) : State := s.complete q hdr.cid st none dw0

/-- Data returned for an admin command, then its completion. -/
def adminData (s : State) (q : IoQueue) (hdr : IoHdr) (data : List Byte) : State :=
  let s := match q with
    | .sq .. => s.emit (.hostData q hdr.cid data)
    | .conn k => netSend s k (.hostData q hdr.cid data)
  adminDone s q hdr .success

/-- The queue is an admin queue. -/
def isAdmin (s : State) : IoQueue → Bool
  | .sq _ q => q == 0
  | .conn k => (s.net.conns.find? k).elim false fun c => c.qid == 0

/-- INVALID_COMMAND_OPCODE (R408). -/
def execInvalidCommandOpcode (q : IoQueue) (hdr : IoHdr) (opcode : Nat) (s : State) : Out :=
  act s fun s =>
    if isAdmin s q then adminTake s q hdr true fun s => adminDone s q hdr .invalidOpcode
    else ioSubmit s q hdr (.invalid opcode)

/-! ### The queue pool (R416, R417) -/

/-- I/O connections bound to crib `c`, closed ones counted until their commands have ended (R416, R463). -/
def connUnits (s : State) (c : Nat) : Nat := (s.net.conns.filter fun p => p.2.crib == some c && p.2.qid != 0).length

/-- Units of one kind held by crib `c`: its I/O submission queues, or its I/O completion queues, and its connections. -/
def sqUnits (s : State) (c : Crib) : Nat := (s.host.ctl[c].sqs.filter fun p => p.1 != 0).length + connUnits s c
def cqUnits (s : State) (c : Crib) : Nat := (s.host.ctl[c].cqs.filter fun p => p.1 != 0).length + connUnits s c

/-- Crib `c` may draw one more unit of a kind (R416). -/
def unitFree (s : State) (c : Crib) (held : Crib → Nat) : Bool :=
  let used := ((List.finRange 33).map held).sum
  let owed := ((List.finRange 33).map fun o =>
    if o = c ∨ s.cribEnabled o = false then 0 else s.g Od.CRIB_QP_MIN o - held o).sum
  decide (held c < s.g Od.CRIB_QP_MAX c ∧ used + owed < 192)

/-- The QIDs a controller may create (R401, R417): 1 to what Set Features granted, and no more than the doorbells. -/
def qidOk (g : NvmeCtl) (qid : Nat) (cq : Bool) : Bool :=
  let cap := match g.nq with
    | some n => (if cq then n / 65536 else n % 65536) + 1
    | none => 511
  decide (1 ≤ qid ∧ qid ≤ min 511 cap)

/-- CREATE_IO_SQ (R405, R409, R416, R417). -/
def execCreateIoSq (q : IoQueue) (hdr : IoHdr) (qid size cqid prio : Nat) (pc : Bool) (s : State) : Out :=
  act s fun s => adminTake s q hdr true fun s =>
    match q with
    | .conn _ => adminDone s q hdr .invalidOpcode
    | .sq f _ =>
      let g := s.host.ctl[f]
      if !qidOk g qid false || (g.sqs.find? qid).isSome then adminDone s q hdr .invalidQueueId
      else if size < 2 ∨ 4096 < size then adminDone s q hdr .invalidQueueSize
      else if !pc then adminDone s q hdr .invalidField
      else if cqid = 0 ∨ (g.cqs.find? cqid).isNone then adminDone s q hdr .completionQueueInvalid
      else if !unitFree s f (sqUnits s) then adminDone (hqViol s f 5 f qid) q hdr .invalidQueueId
      else adminDone (s.setCtl f fun g => { g with sqs := g.sqs.insert qid ⟨size, 0, 0, cqid, prio⟩ }) q hdr .success

/-- CREATE_IO_CQ (R402, R405, R409, R416, R417). -/
def execCreateIoCq (q : IoQueue) (hdr : IoHdr) (qid size vec : Nat) (ien pc : Bool) (s : State) : Out :=
  act s fun s => adminTake s q hdr true fun s =>
    match q with
    | .conn _ => adminDone s q hdr .invalidOpcode
    | .sq f _ =>
      let g := s.host.ctl[f]
      if !qidOk g qid true || (g.cqs.find? qid).isSome then adminDone s q hdr .invalidQueueId
      else if size < 2 ∨ 4096 < size then adminDone s q hdr .invalidQueueSize
      else if !pc then adminDone s q hdr .invalidField
      else if 64 ≤ vec then adminDone s q hdr .invalidVector
      else if !unitFree s f (cqUnits s) then adminDone (hqViol s f 5 f qid) q hdr .invalidQueueId
      else adminDone (s.setCtl f fun g => { g with cqs := g.cqs.insert qid ⟨size, 0, 0, vec, ien, []⟩ }) q hdr .success

/-- DELETE_IO_SQ: entries not admitted are dropped, and the command completes once the admitted ones have (R409). -/
def execDeleteIoSq (q : IoQueue) (hdr : IoHdr) (qid : Nat) (s : State) : Out :=
  act s fun s => adminTake s q hdr true fun s =>
    match q with
    | .conn _ => adminDone s q hdr .invalidOpcode
    | .sq f _ =>
      if qid = 0 ∨ (s.host.ctl[f].sqs.find? qid).isNone ∨ (s.host.dels.any fun d => d.1 == f && d.2.2 == qid) = true then
        adminDone s q hdr .invalidQueueId
      else settleQueues { s with host := { s.host with
        waiting := s.host.waiting.filter fun w => w.queue != .sq f qid
        dels := s.host.dels ++ [(f, hdr.cid, qid)] } }

/-- DELETE_IO_CQ (R409): refused while a submission queue still names it. -/
def execDeleteIoCq (q : IoQueue) (hdr : IoHdr) (qid : Nat) (s : State) : Out :=
  act s fun s => adminTake s q hdr true fun s =>
    match q with
    | .conn _ => adminDone s q hdr .invalidOpcode
    | .sq f _ =>
      let g := s.host.ctl[f]
      if qid = 0 ∨ (g.cqs.find? qid).isNone then adminDone s q hdr .invalidQueueId
      else if g.sqs.any fun p => p.2.cq == qid then adminDone s q hdr .queueDeletionOrder
      else adminDone (s.setCtl f fun g => { g with cqs := Keyed.erase g.cqs qid }) q hdr .success

/-! ### Identify and log pages -/

/-- Bytes put over a structure at an offset. -/
def overlay (bs : List Byte) (at_ : Nat) (v : List Byte) : List Byte := bs.take at_ ++ v ++ bs.drop (at_ + v.length)

/-- A structure of `n` bytes: the fields the spec states, over free values. -/
def stated (s : State) (n : Nat) (fields : List (Nat × List Byte)) : List Byte :=
  fields.foldl (fun bs f => overlay bs f.1 f.2) (leBytes n (s.free (8 * n)))

/-- Identify Controller (R405, R459, R475, R483); the places of the fields are those of the NVMe 2.0 structure. -/
def identifyCtl (s : State) (q : IoQueue) : List Byte :=
  let fabric := match q with
    | .sq .. => []
    | .conn _ => [(1792, leBytes 4 516), (1796, leBytes 4 1)]
  stated s 4096 ([(77, leBytes 1 8), (80, leBytes 4 0x20000), (258, leBytes 1 3), (259, leBytes 1 3), (262, leBytes 1 63),
    (320, leBytes 2 10), (328, leBytes 4 (1 + 2 + 2 ^ 29)), (516, leBytes 4 256), (520, leBytes 2 4), (522, leBytes 2 0)
    , (524, leBytes 1 4), (525, leBytes 1 0), (536, leBytes 4 0)] ++ fabric)

/-- Identify Namespace (R421, R422, R429): size, capacity, the one format, of 4 KiB blocks without metadata, and DLFEAT: blocks
not written read as zeros. -/
def identifyNs (s : State) (n : Ns) : List Byte :=
  stated s 4096 [(0, leBytes 8 n.blocks), (8, leBytes 8 n.blocks), (25, leBytes 1 0), (26, leBytes 1 0),
    (33, leBytes 1 1), (128, leBytes 4 (12 * 65536))]

/-- Identify Namespace of the Zoned command set (R415, R421): OZCS, MAR, MOR, ZSZE and ZDES. -/
def identifyZns (s : State) : List Byte :=
  stated s 4096 [(2, leBytes 2 0), (4, leBytes 4 7), (8, leBytes 4 7), (2816, leBytes 8 zoneBlocks), (2824, leBytes 1 0)]

/-- A list of namespace IDs above one given. -/
def nsList (s : State) (above : Nat) (p : Ns → Bool) : List Byte :=
  padTo 4096 (((s.host.ns.filter fun e => decide (above < e.1 + 1) && p e.2).take 1024).flatMap fun e => leBytes 4 (e.1 + 1))

/-- IDENTIFY (R405, R410, R421). -/
def execIdentify (q : IoQueue) (hdr : IoHdr) (cns csi : Nat) (s : State) : Out :=
  act s fun s => adminTake s q hdr true fun s =>
    let c := s.queueCrib q
    let mine (n : Ns) : Bool := n.attached == some c
    let give (bs : List Byte) : State := adminData s.useFree q hdr bs
    let ns (f : Ns → List Byte) : State := match s.nsOf c hdr.nsid with
      | some (_, n) => give (f n)
      | none => adminDone (cribViol s c 2) q hdr .invalidNamespace
    let any : Option Ns := if hdr.nsid = 0 then none else s.host.ns.find? (hdr.nsid - 1)
    match cns with
    | 0x00 => ns (identifyNs s)
    | 0x01 => give (identifyCtl s q)
    | 0x02 => give (nsList s hdr.nsid mine)
    | 0x03 => ns fun _ => stated s 4096 []
    | 0x05 => if csi = 2 then ns fun _ => identifyZns s else adminDone s q hdr .invalidField
    | 0x06 => if csi = 2 then give (stated s 4096 [(0, leBytes 1 8)]) else adminDone s q hdr .invalidField
    | 0x07 => give (nsList s hdr.nsid fun n => mine n && csi == 2)
    | 0x1C => give (stated s 4096 [])
    | 0x10 => if onPf q then give (nsList s hdr.nsid fun _ => true) else adminDone s q hdr .invalidField
    | 0x11 =>
      if onPf q then match any with
        | some n => give (identifyNs s n)
        | none => adminDone (cribViol s c 2) q hdr .invalidNamespace
      else adminDone s q hdr .invalidField
    | 0x12 =>
      if onPf q then match any with
        | some n => give (stated s 4096 [(0, leBytes 2 (b2n n.attached.isSome))])
        | none => adminDone (cribViol s c 2) q hdr .invalidNamespace
      else adminDone s q hdr .invalidField
    | _ => adminDone s q hdr .invalidField

/-- Slots a Block Erase would erase, and the discs it would have to load (R472, R489). -/
def eraseWork (s : State) : Nat × Nat :=
  let bound := s.host.zones.filterMap fun p => p.2.bound.bind fun b => if s.discMedia b.1 = 2 then some b else none
  ((bound.map fun b => Keyed.getD s.media.hwm (64 * b.1 + b.2) 0).sum,
    ((bound.map (·.1)).eraseDups.filter fun d => (s.driveOf d).isNone).length)

/-- The Sanitize Status log page (R488, R489). Times are rounded up to the second. -/
def sanitizeLog (s : State) : List Byte :=
  let z := s.admin.sanitize
  let prog := match s.admin.ops.find? fun o => o.kind == 2 with
    | some o => if z.state = 2 then 65536 * o.done / max 1 o.total else 0xFFFF
    | none => 0xFFFF
  let n := s.host.ns.length
  let (slots, loads) := eraseWork s
  let drives := max 1 ((List.range 16).filter fun i => s.driveDeclared i).length
  let crypto := 40 * n
  let erase := crypto + slots * 60000 / (max 1 (s.g Od.SPIN_WRITE_RPM) * drives) + 16000 * loads
  padTo 512 (leBytes 2 prog ++ leBytes 2 (z.state + 256 * b2n z.cleanSince) ++ leBytes 4 z.cdw10 ++ leBytes 4 0xFFFFFFFF ++
    leBytes 4 ((erase + 999) / 1000) ++ leBytes 4 ((crypto + 999) / 1000))

/-- The composite temperature in whole kelvins: the highest element of TEMP_CTRL (R702). -/
def compositeKelvin (s : State) : Nat :=
  (((List.range 4).foldl (fun m i => max m (s.gi Od.TEMP_CTRL i)) (s.gi Od.TEMP_CTRL 0) + 2730) / 10).toNat

/-- GET_LOG_PAGE (R411, R488, R702). -/
def execGetLogPage (q : IoQueue) (hdr : IoHdr) (lid bytes offset : Nat) (s : State) : Out :=
  act s fun s => adminTake s q hdr true fun s =>
    let give (s : State) (bs : List Byte) : State := adminData s.useFree q hdr (padTo bytes (slice offset bytes bs))
    let g := (s.ctlOf q).getD NvmeCtl.fresh
    match lid with
    | 0x01 => give s ((List.range 64).flatMap fun i => match g.errs[i]? with
      | some (k, qid, cid) => stated s 64 [(0, leBytes 8 (k + 1)), (8, leBytes 2 qid), (10, leBytes 2 cid)]
      | none => List.replicate 64 0#8)
    | 0x02 => give s (stated s 512 [(1, leBytes 2 (compositeKelvin s))])
    | 0x04 => give (s.modCtl q fun g => { g with changedNs := [] }) (padTo 4096 (g.changedNs.flatMap fun n => leBytes 4 n))
    | 0x05 => give s (stated s 4096 [])
    | 0x81 => if onPf q then give s (sanitizeLog s) else adminDone s q hdr .invalidField
    | 0xBF => give s (stated s 4096 [])
    | _ => adminDone s q hdr .invalidField

/-! ### Abort, features, events, keep alive -/

/-- What has started for a command (R420): a media operation, or the picker moves its disc. -/
def ctxStarted (s : State) (x : Ctx) : Bool :=
  x.started || (match s.motion.picker.seq, (s.zone x.ns x.zone).bound with
    | some (r, _), some (d, _) => r.load && r.disc == d && !x.isWrite
    | _, _ => false)

/-- The submission queue of the same controller with a QID. -/
def sameCtl (s : State) (q : IoQueue) (qid : Nat) : Option IoQueue :=
  match q with
  | .sq f _ => some (.sq f qid)
  | .conn k =>
    let id := (s.net.conns.find? k).bind fun c => c.cntlid
    (s.net.conns.find? k).bind fun _ =>
      (List.find? (fun (p : Nat × Conn) => p.2.cntlid == id && p.2.qid == qid && !p.2.closed) s.net.conns).map fun p => .conn p.1

/-- ABORT (R420). -/
def execAbort (q : IoQueue) (hdr : IoHdr) (qid cid : Nat) (s : State) : Out :=
  act s fun s => adminTake s q hdr true fun s =>
    let no (s : State) := adminDone s q hdr .success 1
    let yes (s : State) := adminDone s q hdr .success 0
    match sameCtl s q qid with
    | none => no s
    | some t =>
      match s.host.ctxs.find? fun x => x.queue == t && x.cid == cid with
      | some x => if ctxStarted s x || x.result.isSome then no s else yes (endCtx s x .abortRequested)
      | none =>
        match s.host.waiting.find? fun w => w.queue == t && w.hdr.cid == cid with
        | some w =>
          let s := { s with host := { s.host with waiting := s.host.waiting.erase w } }
          yes (((s.takeEntry t).getD s).complete t cid .abortRequested)
        | none =>
          if qid = 0 ∧ ((s.ctlOf q).elim [] fun g => g.aers).contains cid = true then
            yes ((s.modCtl q fun g => { g with aers := g.aers.erase cid }).complete t cid .abortRequested)
          else match s.admin.formats.find? fun f => f.queue == t && f.cid == cid && !f.started with
            | some f => yes (({ s with admin := { s.admin with formats := s.admin.formats.erase f } }).complete t cid .abortRequested)
            | none => no s

/-- The features of R412. -/
def featureIds : List Nat := [0x01, 0x02, 0x04, 0x07, 0x08, 0x09, 0x0B, 0x0F]

/-- SET_FEATURES (R408, R412, R417). -/
def execSetFeatures (q : IoQueue) (hdr : IoHdr) (fid value : Nat) (save : Bool) (s : State) : Out :=
  act s fun s => adminTake s q hdr true fun s =>
    let most := s.g Od.CRIB_QP_MAX (s.queueCrib q) - 1
    if !featureIds.contains fid || save then adminDone s q hdr .invalidField
    else match fid with
      | 0x02 => if value % 32 ≠ 0 then adminDone s q hdr .invalidField else adminDone s q hdr .success
      | 0x07 =>
        if ((s.ctlOf q).bind fun g => g.nq).isSome then adminDone s q hdr .commandSequence
        else
          let n := min most (value % 65536) + 65536 * min most (value / 65536 % 65536)
          adminDone (s.modCtl q fun g => { g with nq := some n }) q hdr .success n
      | 0x0F => adminDone (s.modCtl q fun g => { g with kato := value % 2 ^ 32 }) q hdr .success
      | _ => adminDone (s.modCtl q fun g => { g with feats := Keyed.put g.feats fid (value % 2 ^ 32) 0 }) q hdr .success

/-- GET_FEATURES (R408, R412, R417): the current value. -/
def execGetFeatures (q : IoQueue) (hdr : IoHdr) (fid sel : Nat) (s : State) : Out :=
  act s fun s => adminTake s q hdr true fun s =>
    let most := s.g Od.CRIB_QP_MAX (s.queueCrib q) - 1
    if !featureIds.contains fid || sel != 0 then adminDone s q hdr .invalidField
    else
      let g := (s.ctlOf q).getD NvmeCtl.fresh
      adminDone s q hdr .success (match fid with
        | 0x02 => 0
        | 0x07 => most + 65536 * most
        | 0x0F => g.kato
        | _ => Keyed.getD g.feats fid 0)

/-- ASYNCHRONOUS_EVENT_REQUEST (R405, R409, R439): at most 4 outstanding; an event kept answers it at once. -/
def execAsynchronousEventRequest (q : IoQueue) (hdr : IoHdr) (s : State) : Out :=
  act s fun s => adminTake s q hdr true fun s =>
    let g := (s.ctlOf q).getD NvmeCtl.fresh
    match g.kept with
    | e :: rest => (s.modCtl q fun g => { g with kept := rest }).post ⟨q, hdr.cid, .success, none, 0, 0, some e, 0⟩
    | [] =>
      if 4 ≤ g.aers.length then adminDone s q hdr .asyncLimit
      else s.modCtl q fun g => { g with aers := g.aers ++ [hdr.cid] }

/-- KEEP_ALIVE (R409, R441): the timer starts again; the timer's time is not modelled. -/
def execKeepAlive (q : IoQueue) (hdr : IoHdr) (s : State) : Out :=
  act s fun s => adminTake s q hdr true fun s => adminDone s q hdr .success

/-- KEEP_ALIVE_EXPIRY of a function whose admin queue is served (R441, R442). -/
def execKeepAliveExpiry (f : Crib) (s : State) : Out :=
  act s fun s =>
    if adminServed s (.sq f 0) && s.host.ctl[f].kato != 0 then
      hqViol (s.setCtl f fun g => { g with cfs := true }) f 4 f 0
    else s

/-! ### Namespaces -/

/-- NAMESPACE_CREATE (R409, R421, R422): the lowest free slot, its disc zones reserved and its key generated. -/
def execNamespaceCreate (q : IoQueue) (hdr : IoHdr) (csi flbas nsze ncap media stookOnly : Nat) (s : State) : Out :=
  act s fun s => adminTake s q hdr false fun s =>
    if !onPf q then adminDone s q hdr .invalidOpcode
    else if csi ≠ 2 ∨ flbas ≠ 0 ∨ ncap ≠ nsze ∨ nsze % zoneBlocks ≠ 0 ∨ (media ≠ 1 ∧ media ≠ 2) ∨ 1 < stookOnly then
      adminDone s q hdr .invalidField
    else
      let zones := nsze / zoneBlocks
      let free := s.freeDiscZones media (stookOnly == 1)
      if free.length < zones then adminDone s q hdr .insufficientCapacity
      else match (List.range 256).find? fun i => (s.host.ns.find? i).isNone && s.g Od.NS_KEY_STATE i != 3 with
        | none => adminDone s q hdr .idUnavailable
        | some i =>
          let n : Ns := { zones := zones, media := media, stookOnly := stookOnly == 1, attached := none
                          reserved := free.take zones, lastMag := none }
          let s := { s with host := { s.host with ns := s.host.ns.insert i n } }
          let s := ((s.p Od.NS_ZONES_BOUND i 0).p Od.NS_FORMAT_STATE i 0).p Od.NS_ZONES_SHORT i 0
          adminDone (keyStart s i 1) q hdr .success (i + 1)

/-- A namespace that goes away: its written KDF-4W disc zones become spent, the others free, its lines and zone entries
go, and its key is destroyed (R424, R524). Commands still working on it end with Invalid Namespace or Format; a sheaf
operation already on a drive finishes for no command. -/
def deleteNs (s : State) (i : Nat) : State :=
  match s.host.ns.find? i with
  | none => s
  | some n =>
    let s := s.each (s.host.ctxs.filter fun x => x.ns == i && !x.isWrite) fun s x => endCtx s x .invalidNamespace
    let s := s.each (s.host.ctxs.filter fun x => x.ns == i && x.isWrite) fun s x =>
      if (s.ctx? x.id).isSome then ((s.releaseStaging x).dropCtx x.id).complete x.queue x.cid .invalidNamespace else s
    let quiet (o : MediaOp) : MediaOp := if o.ns = i ∧ o.kind = MediaKind.write then { o with kind := .repair, ctxs := [] } else o
    let s := { s with media := { s.media with
      ops := s.media.ops.filter fun o => !(o.ns == i && (o.kind == MediaKind.read || o.kind == MediaKind.prefetch || o.kind == MediaKind.write || o.kind == MediaKind.cover))
      cur := s.media.cur.map fun o => o.map quiet } }
    let s := invalidateNs s i
    let s := s.each (List.range n.zones) fun s z => match (s.zone i z).bound with
      | some (d, dz) => if s.discMedia d ≠ 2 ∧ s.written d dz = true then s.spend d dz else s
      | none => s
    let s := { s with host := { s.host with
      ns := Keyed.erase s.host.ns i, zones := s.host.zones.filter fun p => p.1 / 2 ^ 32 != i } }
    let s := s.each (List.range ((n.zones + 5) / 6)) fun s k => s.chestWrite Region.zone (i * 2 ^ 16 + k)
    let s := ((s.p Od.NS_ZONES_BOUND i 0).p Od.NS_FORMAT_STATE i 0).p Od.NS_ZONES_SHORT i 0
    keyStart s i 3

/-- NAMESPACE_DELETE (R409, R424): one namespace, or all. -/
def execNamespaceDelete (q : IoQueue) (hdr : IoHdr) (s : State) : Out :=
  act s fun s => adminTake s q hdr false fun s =>
    if !onPf q then adminDone s q hdr .invalidOpcode
    else if hdr.nsid = 0xFFFFFFFF ∧ (s.host.ns.any fun p => s.g Od.NS_FORMAT_STATE p.1 == 1) = true then
      adminDone s q hdr .formatInProgress
    else if hdr.nsid = 0xFFFFFFFF then adminDone (s.each (s.host.ns.map (·.1)) deleteNs) q hdr .success
    else if hdr.nsid = 0 ∨ (s.host.ns.find? (hdr.nsid - 1)).isNone then adminDone s q hdr .invalidNamespace
    else if s.g Od.NS_FORMAT_STATE (hdr.nsid - 1) = 1 then adminDone s q hdr .formatInProgress
    else adminDone (deleteNs s (hdr.nsid - 1)) q hdr .success

/-- A function's namespaces have changed: noted for its changed-namespace list, with the notice where the host has asked
for it (R411, R412). -/
def nsChanged (s : State) (f : Crib) (nsid : Nat) : State :=
  let s := s.setCtl f fun g => { g with changedNs := (g.changedNs.erase nsid ++ [nsid]).take 1024 }
  if (Keyed.getD s.host.ctl[f].feats 0x0B 0).testBit 8 then asyncEvent s f .namespaceChanged else s

/-- NAMESPACE_ATTACHMENT: attach to, or detach from, the functions named; one function per namespace, at most 8
namespaces per function (R409). -/
def execNamespaceAttachment (q : IoQueue) (hdr : IoHdr) (attach : Bool) (fns : List Crib) (s : State) : Out :=
  act s fun s => adminTake s q hdr false fun s =>
    let i := hdr.nsid - 1
    if !onPf q then adminDone s q hdr .invalidOpcode
    else match (if hdr.nsid = 0 then none else s.host.ns.find? i), fns with
      | none, _ => adminDone s q hdr .invalidNamespace
      | some n, [f] =>
        let held := (s.host.ns.filter fun p => p.2.attached == some f.val).length
        let set (a : Option Nat) := { s with host := { s.host with ns := s.host.ns.insert i { n with attached := a } } }
        if s.g Od.NS_FORMAT_STATE i = 1 then adminDone s q hdr .formatInProgress
        else if attach then
          if n.attached.isSome then adminDone s q hdr .alreadyAttached
          else if 8 ≤ held then adminDone s q hdr .attachLimit
          else adminDone (nsChanged (set (some f.val)) f hdr.nsid) q hdr .success
        else if n.attached ≠ some f.val then adminDone s q hdr .notAttached
        else adminDone (nsChanged (set none) f hdr.nsid) q hdr .success
      | some _, _ => adminDone s q hdr .invalidField

/-! ### The function seen from the host -/

/-- The function is there: the PF, or a VF that the host has enabled (R400). -/
def State.fnThere (s : State) (f : Crib) : Bool := decide (f.val ≤ s.host.numVfs)

/-- CC_EN_SET: CC.EN goes from 0 to 1 (R144, R406, R417). -/
def execCcEnSet (f : Crib) (cc aqa : Nat) (s : State) : Out :=
  act s fun s =>
    if s.host.ctl[f].en || !s.fnThere f || s.boot.crs then s
    else ctlReady (s.setCtl f fun _ => { NvmeCtl.fresh with en := true, cc := cc, aqa := aqa }) f

/-- CC_SHN: a shutdown request; it is complete once every admitted command of the function has completed (R407). -/
def execCcShn (f : Crib) (shn : Nat) (s : State) : Out :=
  act s fun s =>
    if s.host.ctl[f].rdy && (shn == 1 || shn == 2) then settleQueues (s.setCtl f fun g => { g with shst := 1 }) else s

/-- A command's queue is gone: its completion goes nowhere (R404, R463). -/
def orphan (f : Crib) (q : IoQueue) : IoQueue :=
  match q with
  | .sq g i => if g = f then .sq g (65536 + i) else q
  | .conn _ => q

/-- The reset of a function's NVMe controller: its queues go, without completions for their commands (R404, R406). -/
def ctlReset (s : State) (f : Crib) : State :=
  let s := s.setCtl f fun _ => NvmeCtl.fresh
  { s with
    host := { s.host with
      waiting := s.host.waiting.filter fun w => orphan f w.queue == w.queue
      dels := s.host.dels.filter fun d => d.1 != f
      ctxs := s.host.ctxs.map fun x => { x with queue := orphan f x.queue } }
    admin := { s.admin with formats := s.admin.formats.map fun x => { x with queue := orphan f x.queue } }
    cache := { s.cache with streams := s.cache.streams.filter fun t => orphan f t.queue == t.queue } }

/-- MSIX_TABLE_WRITE: an entry's address, data and mask; a message that waited is sent when the mask clears (R401, R613). -/
def execMsixTableWrite (f : Crib) (vec : Fin 64) (addr data : Nat) (masked : Bool) (s : State) : Out :=
  act s fun s =>
    if !s.fnThere f || s.boot.crs then s
    else
      let fn := s.fns[f]
      let send := !masked && fn.vpend.getLsbD vec
      let s := { s with fns := s.fns.set f { fn with
        vtab := Keyed.insert fn.vtab vec (addr, data)
        vmask := if masked then fn.vmask ||| BitVec.twoPow 64 vec else fn.vmask &&& ~~~ BitVec.twoPow 64 vec
        vpend := if send then fn.vpend &&& ~~~ BitVec.twoPow 64 vec else fn.vpend } }
      if send then s.msix f vec else s

/-- PCIE_CONFIG_REQUEST: retry status until firmware runs; else answered, with Bus Master Enable and the number of
enabled VFs where the request writes them (R108, R144, R400, R604, R613). What waited for Bus Master Enable is sent when it is
set. A function that is absent answers as none. -/
def execPcieConfigRequest (f : Crib) (bme : Option Bool) (vfs : Option Nat) (s : State) : Out :=
  act s fun s =>
    if s.boot.crs then s.emit (.pcie f 1)
    else if !s.fnThere f then s.emit (.pcie f 2)
    else
      let s := match vfs with
        | some n => if f.val = 0 then { s with host := { s.host with numVfs := min n 32 } } else s
        | none => s
      let s := match bme with
        | some b =>
          let s := { s with fns := vmod s.fns f fun x => { x with bme := b } }
          let due := (s.fns[f]).vpend &&& ~~~ (s.fns[f]).vmask
          let s := s.when b fun s =>
            ({ s with fns := vmod s.fns f fun x => { x with vpend := x.vpend &&& x.vmask } } : State).each (List.range 64) fun s v =>
              if due.getLsbD v then s.msix f v else s
          s.each (List.range 8) fun s r => if b && ringOwner s r == some f.val then ringDrain s r else s
        | none => s
      s.emit (.pcie f 0)

/-- PERST_N_RELEASE: the link trains to the rate and width that both ends and the board give (R399, R725). -/
def execPerstNRelease (rate width : Nat) (s : State) : Out :=
  act s fun s => s.p Od.PCIE_LINK 0 (min 5 (max 1 rate) + 16 * min 8 (max 1 width))

/-- PEER_BAR_REQUEST: a request to a BAR from another requester completes with Unsupported Request (R403). -/
def execPeerBarRequest (f : Crib) (s : State) : Out := act s fun s => s.emit (.pcie f 2)

end Sys2Proof.Machine
end

