-- ==== Sys2Proof/Machine/AdminOps.lean ====
section
/-! DEFINITION. Format NVM, Sanitize and certification: their steps, the progress journal and resuming (R471 to R496). -/

namespace Sys2Proof.Machine

/-! ### Operations and the journal -/

def State.setAdmin (s : State) (f : AdminSt → AdminSt) : State := { s with admin := f s.admin }

/-- The operation of a journal stream. -/
def State.adminOp? (s : State) (st : Nat) : Option AdminOp := s.admin.ops.find? fun o => o.stream == st

def State.setOp (s : State) (o : AdminOp) : State :=
  s.setAdmin fun a => { a with ops := a.ops.map fun p => if p.stream == o.stream then o else p }

/-- SANACT of a Sanitize. -/
def AdminOp.sanact (o : AdminOp) : Nat := o.cdw10 % 8

/-- The steps an operation runs, in order (R471, R480). -/
def AdminOp.steps (o : AdminOp) : List Nat :=
  if o.kind = 1 then (if o.ses = 0 then [1, 5, 6] else if o.ses = 1 then [1, 2, 3, 4, 5, 6] else [1, 2, 4, 5, 6])
  else if o.kind = 2 then (if o.sanact = 2 then [1, 2, 3, 4, 5, 6] else [1, 2, 4, 5, 6])
  else [1, 2, 3, 4, 5, 6]

/-- The slots that ERASE covers in a namespace, as disc and home slot: every recorded sheaf of its bound KDF-2E disc zones,
below the write pointer (R472). -/
def eraseList (s : State) (i : Nat) : List (Nat × Nat) :=
  match s.host.ns.find? i with
  | none => []
  | some n => (List.range n.zones).flatMap fun z =>
    match (s.zone i z).bound with
    | some (d, dz) =>
      if s.discMedia d = 2 then (List.range (((s.zone i z).wp + 15) / 16)).map fun q => (d, s.homePhys d dz q) else []
    | none => []

/-- The units of one namespace's ERASE: one per 1,024 slots (R488). -/
def eraseUnits (s : State) (i : Nat) : Nat := ((eraseList s i).length + 1023) / 1024

/-- Units in an operation (R488); a certification counts its slots. -/
def totalUnits (s : State) (o : AdminOp) : Nat :=
  if o.kind = 3 then o.units.length
  else (o.units.map fun i =>
    (o.steps.filter (· != 3)).length + (if o.steps.contains 3 then eraseUnits s i else 0)).sum

/-- The library slot or namespace slot an operation works on. -/
def AdminOp.current (o : AdminOp) : Nat := o.units.getD o.unit 0

/-- Write a journal record of an operation (R490 to R492); a record about to be overwritten that is the newest of a
running operation is first copied to the head. -/
def journalPut (s : State) (o : AdminOp) (state fail phys : Nat) : State :=
  let push (s : State) (r : JournalRec) : State :=
    let seq := (s.g Od.JOURNAL_SEQ + 1) % 2 ^ 32
    ((s.setAdmin fun a => { a with journal := ({ r with seq := seq } :: a.journal).take 8192 }).p Od.JOURNAL_SEQ 0 seq).chestWrite
      Region.journal (seq % 8192)
  let last := if 8192 ≤ s.admin.journal.length then s.admin.journal.getLast? else none
  let s := match last with
    | some r =>
      if r.state = 1 ∧ ((s.admin.journal.dropLast).any fun p => p.opId == r.opId) = false then push s r else s
    | none => s
  push s {
    seq := 0, op := o.kind, step := o.step, stream := o.stream, state := state, opId := o.opId
    scope := if o.kind = 2 then o.cdw10 else if o.kind = 1 then (if o.units.length = 1 then o.current + 1 else 0xFFFFFFFF) else 0
    unit := o.current, func := o.func, ses := if o.kind = 1 then o.ses else 0, pos := phys, done := o.done
    total := o.total, time := s.utc, fail := fail }

/-- The stream's objects follow its operation. -/
def opReport (s : State) (o : AdminOp) (state : Nat) : State :=
  ((s.p Od.ADMIN_OP_STATE o.stream state).p Od.ADMIN_OP_KIND o.stream o.kind).p Od.ADMIN_OP_PROG o.stream
    (min 65535 (65536 * o.done / max 1 o.total))

/-- NS_FORMAT_STATE changes (R600). -/
def setFormat (s : State) (i v : Nat) : State :=
  if s.g Od.NS_FORMAT_STATE i = v then s
  else raiseCrib (s.p Od.NS_FORMAT_STATE i v) (s.slotCrib i) 5 (i + 256 * v)

/-- A Format NVM command whose operations have all ended completes (R477). -/
def formatSettle (s : State) (id : Nat) : State :=
  match s.admin.formats.find? fun f => f.id == id with
  | some f =>
    if f.ops = 0 ∧ f.format = false ∧ f.certify = false then
      (s.setAdmin fun a => { a with formats := a.formats.filter fun g => g.id != id }).complete f.queue f.cid
        (if f.failed then .internalError else .success)
    else s
  | none => s

/-- An operation ends: the final record, its stream's objects, the event, and what waits for it (R472, R477, R487). -/
def opEnd (s : State) (o : AdminOp) (fail : Nat) : State :=
  let bad := fail != 0 || o.bad != []
  let s := journalPut s o (if bad then 3 else 2) fail 0
  let s := (opReport s o (if bad then 4 else 3)).p Od.ADMIN_OP_FAIL o.stream fail
  let s := s.setAdmin fun a => { a with ops := a.ops.filter fun p => p.stream != o.stream }
  let s := raise s Src.adminDone (o.stream + 2 ^ 32 * o.opId)
  if o.kind = 2 then
    let s := s.setAdmin fun a => { a with sanitize := { a.sanitize with
      state := if bad then 3 else 1, cleanSince := !bad } }
    asyncEvent s 0 .sanitizeCompleted
  else match o.cmd with
    | some id => formatSettle (s.setAdmin fun a => { a with formats := a.formats.map fun f =>
        if f.id == id then { f with ops := f.ops - 1, failed := f.failed || bad } else f }) id
    | none => s

/-! ### Step ZONES (R473) -/

/-- Every zone of a namespace becomes Empty; what cannot be backed any more is Offline, highest first (R473). -/
def zonesStep (s : State) (i : Nat) : State :=
  match s.host.ns.find? i with
  | none => s
  | some n =>
    let s := s.each (List.range n.zones) fun s z =>
      let s := emptyZone s i z
      s.setZoneRaw i z { s.zone i z with offline := false, st := .empty }
    let backed (s : State) : Nat :=
      ((List.range n.zones).filter fun z => (s.zone i z).bound.isSome).length + ((s.host.ns.find? i).elim 0 fun m => m.reserved.length)
    let s := (reserveZones s i (n.zones - backed s)).1
    let short := n.zones - backed s
    let free := (List.range n.zones).reverse.filter fun z => (s.zone i z).bound.isNone
    let s := s.each (free.take short) fun s z => s.setZoneRaw i z { s.zone i z with st := .offline }
    let s := s.each (List.range ((n.zones + 5) / 6)) fun s k => s.chestWrite Region.zone (i * 2 ^ 16 + k)
    s.p Od.NS_ZONES_SHORT i short

/-! ### Running the steps -/

/-- Enter the current step for the current unit: its record, then what it does at once (R472, R491). -/
def opEnter (s : State) (o : AdminOp) : State :=
  let o := { o with pos := 0, tried := false, keyTries := 0 }
  let i := o.current
  let s := journalPut (opReport (s.setOp o) o 1) o 1 0 (if o.step = 3 ∧ o.kind ≠ 3 then ((eraseList s i).head?.elim 0 fun p => p.2) else 0)
  if o.kind = 3 then s
  else match o.step with
    | 1 => rakeAbort (invalidateNs (setFormat s i 1) i) fun r => r.op != 4 && r.nsid == i + 1
    | 5 => zonesStep s i
    | _ => s

/-- The next step and unit after the current one; units that ended badly are passed over (R471, R472). -/
def opNext (o : AdminOp) : Option AdminOp :=
  let rest := (List.range o.units.length).filter fun k => !o.bad.contains (o.units.getD k 0)
  match rest.find? fun k => decide (o.unit < k) with
  | some k => some { o with unit := k }
  | none =>
    match o.steps.find? fun t => decide (o.step < t), rest.head? with
    | some t, some k => some { o with step := t, unit := k }
    | _, _ => none

/-- The current step is done for the current unit. -/
def opAdvance (s : State) (o : AdminOp) (units : Nat) : State :=
  let o := { o with done := o.done + units }
  let s := if o.step = 6 then setFormat s o.current 0 else s
  match opNext o with
  | some p => opEnter s p
  | none => opEnd s o 0

/-- The current step has failed for the current unit (R486, R496): a Sanitize ends, its namespaces stay failed; a Format
NVM goes on with its other namespaces. -/
def opFail (s : State) (o : AdminOp) (fail : Nat) : State :=
  if o.kind = 2 then opEnd (s.each o.units fun s i => if s.g Od.NS_FORMAT_STATE i = 1 then setFormat s i 2 else s) o fail
  else
    let s := setFormat (journalPut s o 1 fail 0) o.current 2
    let o := { o with bad := o.bad ++ [o.current] }
    let s := (s.setOp o).p Od.ADMIN_OP_FAIL o.stream fail
    match opNext o with
    | some p => opEnter s p
    | none => opEnd s o fail

/-- Admin operations advance: not while Held, and not while the power-fail sequence runs (R495, R686). -/
def State.adminRuns (s : State) : Bool := (s.isDev .serving || s.isDev .draining) && s.g Od.PF_STATE == 0

/-- The drive that can work on disc `d` now: holding it, in D0, recognised as one of the given states, and idle. -/
def adminDrive (s : State) (d : Nat) (media : List Nat) : Option Drive :=
  match s.driveOf d with
  | some n =>
    if s.g Od.DRV_STATE n = 0 ∧ media.contains (s.g Od.MEDIA_STATE n) ∧ s.media.cur[n] = none ∧ s.g Od.DRIVE_FAULT n = 0 then some n
    else none
  | none => none

/-- Ask for a disc, or wake the drive that holds it. -/
def adminCall (s : State) (d : Nat) (why : PickFor) : State :=
  match s.driveOf d with
  | some n => if s.g Od.DRV_STATE n ≠ 0 ∧ s.drives[n].wake = none then wakeDrive s n else s
  | none => askLoad s d why

/-- A load of disc `d` is asked for or under way. -/
def loadAsked (s : State) (d : Nat) : Bool :=
  (s.motion.loads ++ s.motion.picker.queue ++ (s.motion.picker.seq.map (·.1)).toList).any fun r => r.load && r.disc == d

/-- Erase one slot in a drive: the home slot, and the spare slot that the replacement list names for it (R331, R472). -/
def eraseSlot (s : State) (n : Drive) (home : Nat) : State :=
  let s := s.emit (.erased n home)
  match s.media.disc[n].bind fun i => i.repl.find? home with
  | some p => s.emit (.erased n p)
  | none => s

/-- One step of a Format NVM or Sanitize (R471, R472). `lost` says that the disc the step needs could not be loaded. -/
def opStep (s : State) (o : AdminOp) (lost : Bool) : State :=
  let i := o.current
  match o.step with
  | 2 =>
    if 2 ≤ o.keyTries then opFail s o 3
    else if s.g Od.NS_KEY_STATE i = 2 ∧ o.tried = true then opAdvance s o 1
    else if s.g Od.NS_KEY_STATE i = 3 then s
    else keyStart (s.setOp { o with tried := true }) i 3
  | 4 =>
    if 2 ≤ o.keyTries then opFail s o 3
    else if s.g Od.NS_KEY_STATE i = 1 ∧ o.tried = true then opAdvance s o 1
    else if s.g Od.NS_KEY_STATE i = 3 then s
    else keyStart (s.setOp { o with tried := true }) i 1
  | 3 =>
    let l := eraseList s i
    match l[o.pos]? with
    | none => opAdvance s o (if o.pos % 1024 = 0 then 0 else 1)
    | some (d, home) =>
      match adminDrive s d [2] with
      | some n =>
        let s := eraseSlot s n home
        let p := o.pos + 1
        let o := { o with pos := p, done := o.done + b2n (p % 1024 == 0) }
        let s := opReport (s.setOp o) o 1
        if p % 1024 = 0 then journalPut s o 1 0 ((l[p]?).elim home fun x => x.2) else s
      | none =>
        if lost && (s.driveOf d).isNone && !loadAsked s d then opFail s o 2
        else opReport (adminCall s d .admin) o 2
  | 5 =>
    if (List.range ((((s.host.ns.find? i).elim 0 fun n => n.zones) + 5) / 6)).any fun k => s.chestWaiting Region.zone (i * 2 ^ 16 + k)
    then s else opAdvance s o 1
  | _ => opAdvance s o 1

/-! ### Format NVM (R475 to R479) -/

/-- A new operation in a free stream: its START records and effects begin (R471, R479). -/
def opStart (s : State) (o : AdminOp) : State :=
  let id := s.admin.nextId
  let o := { o with opId := id }
  let o := { o with total := totalUnits s o }
  let s := s.setAdmin fun a => { a with ops := a.ops ++ [o], nextId := id + 1 }
  opEnter ((s.p Od.ADMIN_OP_ID o.stream id).p Od.ADMIN_OP_FAIL o.stream 0) o

def freeStream (s : State) : Option Nat := (List.range 8).find? fun k => (s.adminOp? k).isNone

/-- An operation that has not started. -/
def AdminOp.new (kind stream ses cdw10 func : Nat) (units : List Nat) (cmd : Option Nat) : AdminOp :=
  { stream := stream, opId := 0, kind := kind, ses := ses, cdw10 := cdw10, func := func, units := units, unit := 0, step := 1
    pos := 0, done := 0, total := 0, tried := false, keyTries := 0, bad := [], cmd := cmd, scan := [], discId := 0
    formatTime := 0, good := 0 }

/-- Start what waiting Format NVM commands can start, in arrival order (R479). -/
def formatsStart (s : State) : State :=
  s.each s.admin.formats fun s f =>
    let s := if f.format && !(f.units.any fun i => s.g Od.NS_FORMAT_STATE i == 1) then
        match freeStream s with
        | some k => opStart (s.setAdmin fun a => { a with formats := a.formats.map fun g =>
            if g.id == f.id then { g with format := false, started := true } else g })
              (AdminOp.new 1 k f.ses 0 f.func f.units (some f.id))
        | none => s
      else s
    if f.certify then
      match freeStream s with
      | some k => opStart (s.setAdmin fun a => { a with formats := a.formats.map fun g =>
          if g.id == f.id then { g with certify := false, started := true } else g })
            (AdminOp.new 3 k 0 0 f.func (below 1536 fun d => s.g Od.CERT_SEL d == 1) (some f.id))
      | none => s
    else s

/-- FORMAT_NVM (R475 to R479). -/
def execFormatNvm (q : IoQueue) (hdr : IoHdr) (lbaf mset pi pil ses : Nat) (s : State) : Out :=
  act s fun s => adminTake s q hdr false fun s =>
    let c := s.queueCrib q
    let all := hdr.nsid == 0xFFFFFFFF
    let units := if all then (s.host.ns.filter fun p => p.2.attached == some c).map (·.1)
      else match s.nsOf c hdr.nsid with
        | some (i, _) => [i]
        | none => []
    let certify := all && onPf q && (below 1536 fun d => s.g Od.CERT_SEL d == 1) != []
    if lbaf ≠ 0 ∨ mset ≠ 0 ∨ pi ≠ 0 ∨ pil ≠ 0 ∨ 2 < ses then adminDone s q hdr .invalidField
    else if all = false ∧ units = [] then adminDone (cribViol s c 2) q hdr .invalidNamespace
    else if units.any fun i => s.g Od.NS_FORMAT_STATE i == 1 then adminDone s q hdr .formatInProgress
    else
      let id := s.host.nextCtx
      let f : FormatCmd := {
        id := id, queue := q, cid := hdr.cid, func := c, ses := ses, units := units, format := units != [], certify := certify
        ops := b2n (units != []) + b2n certify, failed := false, started := false }
      let s := { s with host := { s.host with nextCtx := id + 1 }, admin := { s.admin with formats := s.admin.formats ++ [f] } }
      formatSettle (formatsStart s) id

/-! ### Sanitize (R483 to R487) -/

/-- The checks of a Sanitize of the PF, before its action (R409, R483, R484). -/
def sanitizeTake (s : State) (q : IoQueue) (hdr : IoHdr) (ndas : Bool) (f : State → State) : State :=
  adminTake s q hdr true fun s =>
    if !onPf q then adminDone s q hdr .invalidOpcode
    else if ndas then adminDone s q hdr .invalidField
    else if s.admin.sanitize.state = 2 then adminDone s q hdr .sanitizeInProgress
    else f s

/-- EXIT_FAILURE_MODE (R483): what SSTAT reads after the failed state has been cleared is not stated. -/
def execExitFailureMode (q : IoQueue) (hdr : IoHdr) (ndas : Bool) (s : State) : Out :=
  act s fun s => sanitizeTake s q hdr ndas fun s =>
    let z := s.admin.sanitize
    if z.state = 3 ∧ z.ause = true then
      adminDone (s.setAdmin fun a => { a with sanitize := { z with state := s.free 1 } }).useFree q hdr .success
    else adminDone s q hdr .sanitizeFailed

/-- OVERWRITE (R483). -/
def execOverwrite (q : IoQueue) (hdr : IoHdr) (ndas : Bool) (s : State) : Out :=
  act s fun s => sanitizeTake s q hdr ndas fun s => adminDone s q hdr .invalidField

/-- A Sanitize is accepted (R483 to R485): the caches go, the first records are written, the command completes. What it does to
jobs, job keys and Granary windows is the Threshing Floor's. -/
def sanitizeStart (s : State) (q : IoQueue) (hdr : IoHdr) (cdw10 : Nat) (ause : Bool) : State :=
  let s := s.setAdmin fun a => { a with sanitize := ⟨2, ause, cdw10, false⟩ }
  let s := invalidateTags s
  let o := AdminOp.new 2 0 0 cdw10 0 (s.host.ns.map (·.1)) none
  adminDone (if o.units = [] then
    opEnd ((s.setAdmin fun a => { a with nextId := a.nextId + 1 }).p Od.ADMIN_OP_ID 0 s.admin.nextId) { o with opId := s.admin.nextId } 0
    else opStart s o) q hdr .success

/-! ### Commands that advance operations -/

/-- ADMIN_OP_STEP: the operation of a stream goes on, and waiting Format NVM commands start (R471, R479, R495). -/
def execAdminOpStep (st : Fin 8) (lost : Bool) (s : State) : Out :=
  act s fun s =>
    if !s.adminRuns then s
    else match s.adminOp? st with
      | some o => formatsStart (if o.kind = 3 then s else opStep s o lost)
      | none => formatsStart s

/-- KEY_RECORD_READ_BACK (R154, R155, R486). -/
def execKeyRecordReadBack (n : Fin 256) (ok : Bool) (s : State) : Out :=
  act s fun s =>
    if (s.keys.ops.find? n.val).isNone || s.chestWaiting Region.state (keyPos s n) then s
    else
      let s := keyReadBack s n ok
      if ok then s
      else s.setAdmin fun a => { a with ops := a.ops.map fun o =>
        if o.kind != 3 && (o.step == 2 || o.step == 4) && o.tried && o.current == n.val then
          { o with tried := false, keyTries := o.keyTries + 1 } else o }

/-! ### Certification (R480 to R482) -/

/-- Go on to the next slot of the pass, or end it. -/
def certNext (s : State) (o : AdminOp) (result : Nat) (stays : Bool) : State :=
  let d := o.current
  let s := (s.p Od.CERT_RESULT d result).chestWrite Region.state (Pos.cert d)
  let s := if stays then s else s.p Od.CERT_SEL d 0
  let o := { o with done := o.done + 1, scan := [], good := 0, bad := if result = 1 then o.bad else o.bad ++ [d] }
  if o.unit + 1 < o.units.length then opEnter s { o with unit := o.unit + 1, step := 1 } else opEnd (s.setOp o) o 0

/-- Ask for a disc to be put back. -/
def certUnload (s : State) (d : Nat) : State :=
  match s.driveOf d with
  | some n => if s.pickBusy n then s else s.setPicker fun p => { p with queue := p.queue ++ [⟨false, d, n, s.now, .certify⟩] }
  | none => s

/-- A disc passes: a family all of whose members have passed since its parity was first written is unwritten again (R482). -/
def certFamily (s : State) (d : Nat) : State :=
  match s.stookOf d with
  | none => s
  | some (f, p, k, m) =>
    if s.g Od.STOOK_WRITTEN f = 1 then
      let mask := putBit (Keyed.getD s.admin.certified f 0) p true
      if (List.range (k + m)).all mask.testBit then
        (s.setAdmin fun a => { a with certified := Keyed.erase a.certified f }).p Od.STOOK_WRITTEN f 0 |>.chestWrite Region.state (Pos.stook f)
      else s.setAdmin fun a => { a with certified := Keyed.insert a.certified f mask }
    else s

/-- One step of a certification pass (R480, R481). `found` gives, for the 1,024 slots just scanned, failing address units
by zone; at step 5 it is not empty where the slot is found recorded, by a pass that was interrupted, and is not written
again. `ok` says that the copy has verified. -/
def certStep (s : State) (o : AdminOp) (found : List (Nat × Nat)) (ok lost : Bool) : State :=
  let d := o.current
  let m := mediaOf (s.discMedia d)
  let all := m.layers * m.slots
  let slotAtPos (k : Nat) : Nat := physOf (k / m.slots) (k % m.slots)
  let stuck (s : State) : State :=
    if lost && (s.driveOf d).isNone && !loadAsked s d then certNext s o 6 true else opReport (adminCall s d .certify) o 2
  let onward (s : State) (o : AdminOp) (step : Nat) : State := opEnter s { o with step := step }
  match o.step with
  | 1 =>
    if s.discDeclared d = false ∨ ((List.range 64).any fun z => s.discZoneTaken d z) = true then certNext s o 2 true
    else onward s o 2
  | 2 =>
    match s.driveOf d with
    | none => stuck s
    | some n =>
      match s.g Od.MEDIA_STATE n with
      | 2 => if s.discMedia d = 2 then onward s o 3 else certNext (certUnload s d) o 3 true
      | 3 => onward s o 4
      | 4 => certNext (certUnload s d) o 5 true
      | _ => stuck s
  | 3 =>
    match adminDrive s d [2, 3] with
    | none => stuck s
    | some n =>
      let k := min 1024 (all - o.pos)
      let s := s.emit (.erasedRun n (slotAtPos o.pos) k)
      let o := { o with pos := o.pos + k }
      if o.pos < all then journalPut (s.setOp o) o 1 0 (slotAtPos o.pos)
      else onward (setMedia (s.setDisc n none) n 3 0) o 4
  | 4 =>
    match adminDrive s d [3] with
    | none => stuck s
    | some _ =>
      let k := min 1024 (all - o.pos)
      let scan := found.foldl (fun (t : Keyed Nat) p => Keyed.put t p.1 (Keyed.getD t p.1 0 + p.2) 0) o.scan
      let o := { o with pos := o.pos + k, scan := scan }
      if o.pos < all then journalPut (s.setOp o) o 1 0 (slotAtPos o.pos)
      else
        let bad := (List.range m.discZones).filter fun z => decide (s.g Od.CERT_BAD_MAX < Keyed.getD scan z 0)
        let mask := bad.foldl (fun w z => putBit w z true) 0
        let s := { s with
          host := { s.host with spent := Keyed.put s.host.spent d mask 0 }
          media := { s.media with hwm := s.media.hwm.filter fun p => p.1 / 64 != d } }
        let s := s.p Od.CERT_BAD_ZONES d bad.length
        onward s.useFree { o with discId := s.free 64, formatTime := s.utc } 5
  | 5 =>
    match adminDrive s d [2, 3] with
    | none => stuck s
    | some n =>
      let phys := physOf 0 o.pos
      let id := if s.g Od.MEDIA_STATE n = 2 then s.g Od.DRV_DISC_ID n else o.discId
      let s := if found ≠ [] then s
        else recordSlot s n phys (ownMeta s phys 1 id) (discInfoBytes (s.discMedia d) id o.formatTime)
      let o := { o with pos := o.pos + 1, good := o.good + b2n ok }
      if o.pos < 16 then s.setOp o
      else if o.good < 8 then certNext s o 4 true
      else onward s o 6
  | _ =>
    let s := s.chestWrite Region.state (Pos.spent d)
    certNext (certUnload (certFamily s d) d) o 1 false

/-- CERTIFICATION_STEP (R480). -/
def execCertificationStep (st : Fin 8) (found : List (Nat × Nat)) (ok lost : Bool) (s : State) : Out :=
  act s fun s =>
    if !s.adminRuns then s
    else match s.adminOp? st with
      | some o => if o.kind = 3 then certStep s o found ok lost else s
      | none => s

/-! ### Faults and resuming -/

/-- The disc an operation waits for, at a step that needs one. -/
def opDisc (s : State) (o : AdminOp) : Option Nat :=
  if o.kind = 3 then (if 2 ≤ o.step ∧ o.step ≤ 5 then some o.current else none)
  else if o.step = 3 then ((eraseList s o.current)[o.pos]?).map (·.1) else none

/-- A drive or picker fault has lasted too long for the operations for which a test of their disc holds (R481, R486). -/
def opsFault (s : State) (fail : Nat) (p : Nat → Bool) : State :=
  s.each s.admin.ops fun s o =>
    match opDisc s o with
    | some d => if p d then (if o.kind = 3 then certNext s o 6 true else opFail s o fail) else s
    | none => s

/-- DRIVE_FAULT_TIMEOUT: commands, and admin operations that wait for the drive or the picker, fail (R219, R395, R438, R481,
R486). -/
def execDriveFaultTimeout (who : Option Drive) (s : State) : Out :=
  act s fun s =>
    match who with
    | some n =>
      let faulted := s.g Od.DRIVE_FAULT n != 0
      let d := s.g Od.DRV_DISC n
      let s := driveFaultTimeout who s
      if faulted then opsFault s 1 (· == d) else s
    | none =>
      let faulted := s.g Od.PICK_STATE == 2
      let s := driveFaultTimeout who s
      if faulted then opsFault s 2 fun d => (s.driveOf d).isNone else s

/-- During Starting after a restart, every operation whose newest record reads RUNNING goes on from it (R493, R494). -/
def adminResume (s : State) : State :=
  let ids := (s.admin.journal.map (·.opId)).eraseDups
  s.each ids fun s id =>
    match s.admin.journal.find? fun r => r.opId == id with
    | none => s
    | some r =>
      if r.state ≠ 1 ∨ (s.admin.ops.any fun o => o.opId == id) = true then s
      else
        let units := if r.op = 1 then
            (if r.scope = 0xFFFFFFFF then (s.host.ns.filter fun p => p.2.attached == some r.func).map (·.1) else [r.scope - 1])
          else if r.op = 2 then s.host.ns.map (·.1)
          else r.unit :: below 1536 fun d => decide (r.unit < d) && s.g Od.CERT_SEL d == 1
        let o : AdminOp := { AdminOp.new r.op r.stream r.ses r.scope r.func units none with
          opId := id, step := r.step, unit := units.idxOf r.unit, done := r.done, total := r.total
          bad := if r.op = 1 then units.filter fun i => s.g Od.NS_FORMAT_STATE i == 2 else [] }
        let i := o.current
        let tried := (o.step == 2 && s.g Od.NS_KEY_STATE i == 2) || (o.step == 4 && s.g Od.NS_KEY_STATE i == 1)
        let pos : Nat := if o.kind = 3 then (if o.step = 5 then 0 else physLayer r.pos * (mediaOf (s.discMedia i)).slots + physSlot r.pos)
          else if o.step = 3 then (eraseList s i).findIdx (fun p => p.2 == r.pos) else 0
        let o := { o with tried := tried, pos := pos, discId := s.free 64, formatTime := s.utc }
        let s := s.useFree.setAdmin fun a => { a with ops := a.ops ++ [o] }
        let s := (opReport s o 1).p Od.ADMIN_OP_ID o.stream id
        if o.kind = 3 then s
        else
          let s := s.each units fun s i => if o.bad.contains i then s else setFormat s i 1
          if o.step = 1 ∨ o.step = 5 then opEnter s o else s

end Sys2Proof.Machine
end

