-- ==== Sys2Proof/Machine/Granary.lean ====
section
/-! DEFINITION. The Granary and the Threshing Floor's shared operations: windows, poisoned words, how a job stops and how it
ends (R547, R549, R553, R576 to R584). -/

namespace Sys2Proof.Machine

/-! ### Bytes of the Granary -/

/-- The byte at a Granary address. -/
def gByte (g : List Host.Cell) (a : Nat) : Byte := Keyed.getD g a 0#8

/-- `n` bytes from an address on. -/
def gBytes (g : List Host.Cell) (a n : Nat) : List Byte := (List.range n).map fun i => gByte g (a + i)

/-- Store bytes from an address on. -/
def gStore (g : List Host.Cell) (a : Nat) (bs : List Byte) : List Host.Cell :=
  bs.zipIdx.foldl (fun g p => Keyed.put g (a + p.2) p.1 0#8) g

/-- The little-endian word at an address (R557). -/
def gWord (g : List Host.Cell) (a : Nat) : Nat := ofLe (gBytes g a 4)

/-- The Granary's memory words of 8 bytes (R531) that a range touches. -/
def wordsOf (a n : Nat) : List Nat := if n = 0 then [] else (List.range ((a + n - 1) / 8 - a / 8 + 1)).map (a / 8 + ·)

/-- A range touches a poisoned word (R533). -/
def State.poisoned (s : State) (a n : Nat) : Bool := (wordsOf a n).any fun w => (s.mem.poison.find? w).isSome

/-- Store bytes in the Granary; a write of a whole memory word clears its poison mark (R533). -/
def granaryStore (s : State) (a : Nat) (bs : List Byte) : State :=
  { s with
    granary := gStore s.granary a bs
    mem := { s.mem with poison := s.mem.poison.filter fun p => !decide (a ≤ 8 * p.1 ∧ 8 * p.1 + 8 ≤ a + bs.length) } }

/-- Set a range of the Granary to zeros (R174, R483). -/
def granaryZero (s : State) (a n : Nat) : State :=
  { s with
    granary := s.granary.filter fun c => decide (c.1 < a ∨ a + n ≤ c.1)
    mem := { s.mem with poison := s.mem.poison.filter fun p => !decide (a ≤ 8 * p.1 ∧ 8 * p.1 + 8 ≤ a + n) } }

/-- First byte of crib `c`'s window, and its length (R547). -/
def winBase (s : State) (c : Nat) : Nat := 65536 * s.g Od.CRIB_GRANARY_BASE c
def winSize (s : State) (c : Nat) : Nat := 65536 * s.g Od.CRIB_GRANARY_SIZE c

/-- A range lies wholly within crib `c`'s window (R148, R577); a range of no bytes does. -/
def inWindow (s : State) (c a n : Nat) : Bool := n == 0 || decide (winBase s c ≤ a ∧ a + n ≤ winBase s c + winSize s c)

/-- The frame of a command of the Threshing Floor, which may also store in the Granary. -/
def actGranary (s : State) (f : State → State) : Out :=
  if s.scan.lost.getLsbD 0 then .fault (.boundaryScan 0)
  else if s.dev = .off then .next s
  else .next { keep s (f s) with granary := tidy (f s).granary }

/-! ### Jobs -/

/-- Change what a sequencer holds. -/
def setSeq (s : State) (sq : Fin 4) (j : Option JobRun) : State :=
  { s with thresh := { s.thresh with seq := s.thresh.seq.set sq j } }

/-- A job waits for a sequencer (R554). -/
def Ctx.jobWaits (x : Ctx) : Bool :=
  match x.op with
  | .job .. => !x.started
  | _ => false

/-- Every queue of a job is empty. -/
def JobRun.drained (j : JobRun) : Bool := (List.finRange 4).all fun q => j.queues[q].isEmpty

/-- Add a time in ns to a sum by key. -/
def addNs (m : Keyed Nat) (k n : Nat) : Keyed Nat := Keyed.put m k (Keyed.getD m k 0 + n) 0

/-- Charge a job's sequencer time to its crib (R584). -/
def chargeSeq (s : State) (c n : Nat) : State :=
  let m := addNs s.thresh.cribSeqNs c n
  meter (({ s with thresh := { s.thresh with cribSeqNs := m } }).p Od.JOB_SEQ_US c (Keyed.getD m c 0 / 1000)) c 6 n

/-- Charge an engine command's time to its engine and its crib (R584). -/
def chargeEngine (s : State) (e c n : Nat) : State :=
  let m := addNs s.thresh.engineNs e n
  let k := addNs s.thresh.cribEngineNs c n
  let s : State := { s with thresh := { s.thresh with engineNs := m, cribEngineNs := k } }
  meter ((s.p Od.ENGINE_BUSY_US e (Keyed.getD m e 0 / 1000)).p Od.JOB_ENGINE_US c (Keyed.getD k c 0 / 1000)) c 5 n

/-- The completion of a job that has ended: at HALT (R580), at a cause (R582), or for another reason (R583); a job of a
Crib reset posts none (R174). -/
def jobComplete (s : State) (j : JobRun) : State :=
  match s.ctx? j.id with
  | none => s
  | some x =>
    match j.stop with
    | none => endCtx (s.inc Od.JOB_DONE_CNT j.crib) x .success none j.g[0].toNat j.g[1].toNat
    | some t =>
      match t.why with
      | .cause n push =>
        let dw0 := n + 256 * push
        let s := (s.inc Od.JOB_EXC_CNT j.crib).p Od.JOB_LAST_EXC j.crib (dw0 % 2 ^ 32 + 2 ^ 32 * t.pc)
        endCtx s x .jobException (some true) (dw0 % 2 ^ 32) t.pc
      | .drain => endCtx s x .commandInterrupted none 0 t.pc
      | .crib => s.dropCtx x.id
      | .sanitize => endCtx s x .sanitizeInProgress
      | .internal => endCtx s x .internalError

/-- No job of the cribs for which a test holds is on a sequencer: every engine command they pushed has ended. -/
def State.jobsGone (s : State) (p : Nat → Bool) : Bool :=
  (List.finRange 4).all fun sq => match s.thresh.seq[sq] with
    | some j => !p j.crib
    | none => true

/-- Crib `c`'s job keys are cleared and its window zeroed (R158, R174, R483). -/
def cribScrub (s : State) (c : Nat) : State :=
  granaryZero { s with keys := { s.keys with jobKeys := s.keys.jobKeys.filter fun p => p.1 / 8 != c } } (winBase s c) (winSize s c)

/-- What a Sanitize clears of the cribs whose jobs have all ended (R483). -/
def scrubSettle (s : State) : State :=
  let due := s.thresh.scrub.filter fun c => s.jobsGone (· == c)
  let s : State := { s with thresh := { s.thresh with scrub := s.thresh.scrub.filter fun c => !due.contains c } }
  s.each due cribScrub

/-- A job that has stopped or reached HALT ends once its queues are empty and their commands have ended (R580, R582). -/
def jobSettle (s : State) (sq : Fin 4) : State :=
  match s.thresh.seq[sq] with
  | none => s
  | some j =>
    if (j.halted || j.stop.isSome) && j.drained then
      scrubSettle (jobComplete (chargeSeq (setSeq s sq none) j.crib (s.now - j.since)) j)
    else s

/-- The first reason that stops a job stands; of two causes of R581 that arise at the same time, the lower number does. -/
def stopMerge (old : Option JobStop) (new : JobStop) : JobStop :=
  match old with
  | none => new
  | some o =>
    match o.why, new.why with
    | .cause m _, .cause n _ => if o.since = new.since ∧ n < m then new else o
    | _, _ => o

/-- A job stops before its next instruction (R579, R581): that instruction is the stopping one. -/
def stopJob (s : State) (sq : Fin 4) (why : JobEnd) : State :=
  match s.thresh.seq[sq] with
  | none => s
  | some j => jobSettle (setSeq s sq (some { j with stop := some (stopMerge j.stop ⟨why, j.pc, s.now⟩) })) sq

/-- Stop every running job of the cribs for which a test holds. -/
def stopJobs (s : State) (why : JobEnd) (p : Nat → Bool) : State :=
  s.each (List.finRange 4) fun s sq =>
    match s.thresh.seq[sq] with
    | some j => if p j.crib then stopJob s sq why else s
    | none => s

/-! ### Assigning a sequencer (R552 to R555) -/

/-- The PRP rules for an output buffer (R440, R552): the first entry's offset is a multiple of 4, the second entry is a whole
page, or for more than two pages an aligned list pointer. -/
def prpBad (mps prp1 prp2 len : Nat) (listBad : Bool) : Bool :=
  let page := 2 ^ (12 + mps)
  let first := page - prp1 % page
  if len = 0 then false
  else if prp1 % 4 ≠ 0 then true
  else if len ≤ first then false
  else if len ≤ first + page then prp2 % page != 0
  else prp2 % 8 != 0 || listBad

/-- The checks of R552 on a job's data, in order. -/
def jobCheck (s : State) (x : Ctx) (cdw10 : Nat) (rest0 : Bool) (d : List Byte) (listBad : Bool) : Option Status :=
  let f (lo n : Nat) := ofLe (slice lo n d)
  let onConn := match x.queue with
    | .sq .. => false
    | .conn _ => true
  let mps := (s.ctlOf x.queue).elim 0 fun g => fieldOf g.cc 10 7
  if !rest0 || cdw10 != 128 + f 16 4 || decide (1048576 < cdw10) then some .invalidField
  else if slice 0 4 d != asciiBytes "KJOB" || f 4 2 != 1 || decide (1 < f 6 2) || f 44 4 != 0 || f 112 16 != 0 ||
      decide (1048576 < f 40 4) then some .invalidField
  else if f 8 4 % 4 != 0 || !inWindow s x.crib (f 8 4) 4 then some .invalidField
  else if f 12 4 % 4 != 0 || !inWindow s x.crib (f 12 4) (f 16 4) then some .invalidField
  else if onConn && f 40 4 != 0 then some .invalidField
  else if !onConn && prpBad mps (f 24 8) (f 32 8) (f 40 4) listBad then some .invalidPrpOffset
  else none

/-- A job is loaded and starts fetching at ENTRY (R553). -/
def jobLoad (s : State) (sq : Fin 4) (x : Ctx) (d : List Byte) : State :=
  let f (lo n : Nat) := ofLe (slice lo n d)
  let cap := s.g Od.JOB_TIME_LIMIT x.crib
  let j : JobRun := {
    id := x.id, crib := x.crib, pc := f 8 4, g := Vector.ofFn fun i => BitVec.ofNat 32 (f (48 + 4 * i.val) 4)
    a := Vector.replicate 4 0, inc := Vector.replicate 16 0, loops := [], queues := Vector.replicate 4 [], stop := none
    halted := false, outLen := f 40 4, streaming := (f 6 2).testBit 0, since := s.now
    limit := if f 20 4 = 0 ∨ cap < f 20 4 then cap else f 20 4 }
  setSeq (granaryStore s (f 12 4) (slice 128 (f 16 4) d)) sq (some j)

/-- SEQUENCER_ASSIGN: a free sequencer takes the oldest waiting job of a crib that may hold one more, cribs in turn by weight;
the job's data is checked and loaded (R552 to R555). `listBad`: an entry of the output buffer's PRP list is not a whole page. -/
def execSequencerAssign (sq : Fin 4) (listBad : Bool) (s : State) : Out :=
  actGranary s fun s =>
    if s.thresh.seq[sq] ≠ none ∨ s.dev ≠ .serving ∨ s.admin.sanitize.state = 2 then s
    else
      let holds (c : Nat) := ((List.finRange 4).filter fun q => (s.thresh.seq[q]).elim false fun j => j.crib == c).length
      let ready := s.host.ctxs.filter fun x => x.jobWaits && x.wants == 0 && s.g Od.CRIB_STATE x.crib == 1 &&
        decide (holds x.crib < s.g Od.CRIB_SEQ_MAX x.crib)
      let (pick, turn) := drrPick s s.thresh.turn (ready.map fun x => (2, x.crib))
      let s : State := { s with thresh := { s.thresh with turn := turn } }
      match pick.bind fun p => ready.find? fun x => x.crib == p.2 with
      | none => s
      | some x =>
        match x.op with
        | .job cdw10 rest0 data =>
          let d := padTo (max 128 (min cdw10 1048576)) (data.getD [])
          match jobCheck s x cdw10 rest0 d listBad with
          | some st => endCtx s x st
          | none => jobLoad (s.setCtx x.id fun y => { y with started := true }) sq x d
        | _ => s

/-- JOB_TIME_LIMIT_EXPIRY (R581 cause 15). -/
def execJobTimeLimitExpiry (sq : Fin 4) (s : State) : Out := act s fun s => stopJob s sq (.cause 15 0)

/-! ### Sanitize (R483 to R485) -/

/-- A Sanitize with an erase action: refused while a Format NVM or a certification runs (R484); else jobs stop, windows and job keys
go once their commands have ended, and the operation starts. -/
def sanitizeErase (q : IoQueue) (hdr : IoHdr) (ndas ause : Bool) (cdw10 : Nat) (s : State) : Out :=
  actGranary s fun s => sanitizeTake s q hdr ndas fun s =>
    if s.admin.ops ≠ [] ∨ s.admin.formats ≠ [] then adminDone s q hdr .formatInProgress
    else
      let s := sanitizeStart s q hdr cdw10 ause
      let s : State := { s with thresh := { s.thresh with scrub := List.range 33 } }
      scrubSettle (stopJobs s .sanitize fun _ => true)

/-- BLOCK_ERASE (R483). -/
def execBlockErase (q : IoQueue) (hdr : IoHdr) (ndas ause : Bool) (cdw10 : Nat) (s : State) : Out :=
  sanitizeErase q hdr ndas ause cdw10 s

/-- CRYPTO_ERASE (R483). -/
def execCryptoErase (q : IoQueue) (hdr : IoHdr) (ndas ause : Bool) (cdw10 : Nat) (s : State) : Out :=
  sanitizeErase q hdr ndas ause cdw10 s

end Sys2Proof.Machine
end

