-- ==== Sys2Proof/Machine/Network.lean ====
section
/-! DEFINITION. The Ethernet ports, NVMe/TCP connections and associations (R443 to R469). -/

namespace Sys2Proof.Machine

/-! ### Ports -/

def State.setPort (s : State) (p : Fin 2) (f : PortSt → PortSt) : State :=
  { s with net := { s.net with ports := vmod s.net.ports p f } }

/-- The port may transmit: its link is up, and the device is neither Booting nor Held (R108, R126). -/
def State.portUp (s : State) (p : Nat) : Bool := s.g Od.NET_LINK p == 2 && !s.isDev .booting && !s.isDev .held

/-- Send a frame at a priority, or keep it while the priority is paused (R448, R451, R469). -/
def portSend (s : State) (p : Fin 2) (pcp : Nat) (o : NetOut) (crib : Nat := 0) : State :=
  if !s.portUp p then s
  else if (s.net.ports[p]).paused.getLsbD pcp then s.setPort p fun x => { x with held := x.held ++ [(pcp, crib, o)] }
  else wireSend s (some crib) (.net p o)

/-- Send a PFC frame, which no pause holds back (R450): 64 bytes with its FCS. -/
def pfcSend (s : State) (p : Fin 2) (q quanta : Nat) : State :=
  if !s.portUp p then s
  else (meterOut (s.emit (.net p (.pfc q quanta))) 0 64).inc Od.NET_PAUSE_TX_CNT p

/-- Keep a connection under its key. -/
def State.setConn (s : State) (k : Nat) (c : Conn) : State := { s with net := { s.net with conns := s.net.conns.insert k c } }

/-- Send what waited for a priority, in order (R451, R464). -/
def portFlush (s : State) (p : Fin 2) (q : Nat) : State :=
  if !s.portUp p || (s.net.ports[p]).paused.getLsbD q then s
  else
    let mine := (s.net.ports[p]).held.filter fun h => h.1 == q
    let s := s.setPort p fun x => { x with held := x.held.filter fun h => h.1 != q }
    let s := s.each mine fun s h => wireSend s (some h.2.1) (.net p h.2.2)
    s.each (s.net.conns.filter fun c => c.2.port == p.val && c.2.pcp == q && c.2.held != []) fun s c =>
      (s.each c.2.held fun s o => wireSend s c.2.crib o).setConn c.1 { c.2 with held := [], pins := [] }

/-- The active interface that a frame belongs to (R447). -/
def ifaceOf (s : State) (p : Fin 2) (vlan : Nat) : Option Nat :=
  (List.range 32).find? fun i => s.g Od.NET_IF_PORT i == p.val && s.g Od.NET_IF_VLAN i == vlan

/-- An interface has an address (R447): IPv4, or IPv6 as its two halves. -/
def ifaceHas (s : State) (i : Nat) (v6 : Bool) (hi lo : Nat) : Bool :=
  if v6 then (hi != 0 || lo != 0) && s.g Od.NET_IF_IPV6 (2 * i) == hi && s.g Od.NET_IF_IPV6 (2 * i + 1) == lo
  else lo != 0 && s.g Od.NET_IF_IPV4 i == lo

/-- XOFF of a priority whose buffer has filled (R450). -/
def pfcCheck (s : State) (p : Fin 2) (q : Fin 8) : State :=
  if s.gb Od.NET_PFC_EN p q && !(s.net.ports[p]).xoff.getLsbD q && decide (1024 * s.g Od.NET_PFC_XOFF ≤ (s.net.ports[p]).rx[q]) then
    pfcSend (s.setPort p fun x => { x with xoff := x.xoff ||| BitVec.twoPow 8 q }) p q 0xFFFF
  else s

/-- ETH_FRAME_RECEIVE: a frame with its VLAN (0 when untagged), priority, length from the destination address to the FCS,
whether the FCS is good, the bytes taken from the priority's buffer since its last frame, whether R446 supports it, and
the connection or unknown TCP peer it is for (R446, R447, R449, R450, R465, R469). TCP may acknowledge a segment at once: the
bytes of that frame are a free value. -/
def execEthFrameReceive (p : Fin 2) (vlan : Nat) (pcp : Fin 8) (len : Nat) (good wanted : Bool) (taken : Nat)
    (conn peer : Option Nat) (s : State) : Out :=
  act s fun s =>
    if s.g Od.NET_LINK p ≠ 2 ∨ s.dev = .booting then s
    else if !good then s.add Od.NET_RX_DROP (5 * p) 1
    else
      let s := s.add Od.NET_RX_FRAMES p 1
      let own := (conn.bind s.net.conns.find?).bind fun c => c.crib
      let s := meterIn s (own.getD 0) len
      let drop (s : State) (r : Nat) : State := s.add Od.NET_RX_DROP (5 * p + r) 1
      let occ := (s.net.ports[p]).rx[pcp] - taken
      let s := s.setPort p fun x => { x with rx := x.rx.set pcp occ }
      if s.dev = .held then drop s 2
      else if s.g Od.NET_MTU p + (if vlan = 0 then 18 else 22) < len then drop s 4
      else if 262144 < occ + len then drop s 1
      else if !wanted || (ifaceOf s p vlan).isNone then drop s 3
      else
        let s := pfcCheck (s.setPort p fun x => { x with rx := x.rx.set pcp (occ + len) }) p pcp
        match conn, peer with
        | none, some a => portSend s p pcp (.rst a)
        | some _, _ => (meterOut s (own.getD 0) (s.free 8)).useFree
        | none, none => s

/-- ARP_REQUEST for an interface's address (R448). -/
def execArpRequest (p : Fin 2) (vlan : Nat) (pcp : Fin 8) (ip requester : Nat) (s : State) : Out :=
  act s fun s =>
    match ifaceOf s p vlan with
    | some i => if ifaceHas s i false 0 ip then portSend s p pcp (.arpReply ip requester) else s
    | none => s

/-- NEIGHBOUR_SOLICITATION for an interface's address (R448). -/
def execNeighbourSolicitation (p : Fin 2) (vlan : Nat) (pcp : Fin 8) (hi lo requester : Nat) (s : State) : Out :=
  act s fun s =>
    match ifaceOf s p vlan with
    | some i => if ifaceHas s i true hi lo then portSend s p pcp (.neighbourAdvert hi lo requester) else s
    | none => s

/-- ECHO_REQUEST to an interface's address (R448). -/
def execEchoRequest (p : Fin 2) (vlan : Nat) (pcp : Fin 8) (v6 : Bool) (hi lo requester : Nat) (payload : List Byte)
    (s : State) : Out :=
  act s fun s =>
    match ifaceOf s p vlan with
    | some i => if ifaceHas s i v6 hi lo then portSend s p pcp (.echoReply requester payload) else s
    | none => s

/-- PFC_REPEAT: 160 µs have passed and the buffer is still above XON (R450). -/
def execPfcRepeat (p : Fin 2) (q : Fin 8) (s : State) : Out :=
  act s fun s =>
    if (s.net.ports[p]).xoff.getLsbD q && decide (1024 * s.g Od.NET_PFC_XON < (s.net.ports[p]).rx[q]) then pfcSend s p q 0xFFFF
    else s

/-- PFC_XON: the buffer has fallen to `level` bytes, XON or below (R450). -/
def execPfcXon (p : Fin 2) (q : Fin 8) (level : Nat) (s : State) : Out :=
  act s fun s =>
    if (s.net.ports[p]).xoff.getLsbD q && decide (level ≤ 1024 * s.g Od.NET_PFC_XON) then
      pfcSend (s.setPort p fun x => { x with
        xoff := x.xoff &&& ~~~ BitVec.twoPow 8 q, rx := x.rx.set q (min level x.rx[q]) }) p q 0
    else s

/-- PFC_FRAME_RECEIVE: a pause time, or 0, for each priority that the frame names (R451). -/
def execPfcFrameReceive (p : Fin 2) (quanta : List (Fin 8 × Nat)) (s : State) : Out :=
  act s fun s =>
    if s.g Od.NET_LINK p ≠ 2 ∨ s.dev = .booting then s
    else
      let s := meterIn (s.add Od.NET_RX_FRAMES p 1) 0 64
      if s.dev = .held then s.add Od.NET_RX_DROP (5 * p + 2) 1
      else s.each quanta (fun s (q, n) =>
        if !s.gb Od.NET_PFC_EN p q then s
        else if n = 0 then portFlush (s.setPort p fun x => { x with paused := x.paused &&& ~~~ BitVec.twoPow 8 q }) p q
        else s.setPort p fun x => { x with paused := x.paused ||| BitVec.twoPow 8 q }) |>.inc Od.NET_PAUSE_RX_CNT p

/-- PFC_PAUSE_EXPIRY (R451). -/
def execPfcPauseExpiry (p : Fin 2) (q : Fin 8) (s : State) : Out :=
  act s fun s =>
    if (s.net.ports[p]).paused.getLsbD q then
      portFlush (s.setPort p fun x => { x with paused := x.paused &&& ~~~ BitVec.twoPow 8 q }) p q
    else s

/-! ### Connections -/

/-- A violation of NVMe/TCP: its count and its record (R466, R467). -/
def netViol (s : State) (port crib k : Nat) : State := violation (s.inc Od.NVT_VIOL_CNT k) 2 crib port 0 k []

/-- Send a segment of a connection that is no payload of a command: it waits with the frames of a paused priority (R451). -/
def connEmit (s : State) (c : Conn) (o : NetOut) : State :=
  if h : c.port < 2 then portSend s ⟨c.port, h⟩ c.pcp o (c.crib.getD 0) else s

/-- One connection closes (R463): what was not admitted is dropped, its write data never comes, completions are discarded. -/
def connDrop (s : State) (k : Nat) : State :=
  match s.net.conns.find? k with
  | none => s
  | some c =>
    let s : State := { s with
      net := { s.net with conns := s.net.conns.insert k { c with closed := true, r2ts := [], bufs := [], held := [], pins := [] } }
      host := { s.host with waiting := s.host.waiting.filter fun w => w.queue != .conn k }
      cache := { s.cache with streams := s.cache.streams.filter fun t => t.queue != .conn k } }
    let s := s.each (s.host.ctxs.filter fun x => x.queue == .conn k && x.wants != 0)
      fun s x => endCtx s x .dataTransferError false
    connCount (connSweep s)

/-- A connection closes, and with the admin connection of an association its I/O connections, which are reset (R463). -/
def connClose (s : State) (k : Nat) : State :=
  match s.net.conns.find? k with
  | none => s
  | some c =>
    let s := connDrop s k
    match c.cntlid, c.qid with
    | some i, 0 =>
      let s := { s with net := { s.net with assocs := Keyed.erase s.net.assocs i } }
      s.each (s.net.conns.filter fun p => p.2.cntlid == some i && !p.2.closed) fun s p =>
        connDrop (connEmit s p.2 (.rst p.2.peer)) p.1
    | _, _ => s

/-- Reset a connection. -/
def connReset (s : State) (k : Nat) : State :=
  match s.net.conns.find? k with
  | some c => if c.closed then s else connClose (connEmit s c (.rst c.peer)) k
  | none => s

/-- The controller ends an association: all its connections are reset (R464). -/
def assocEnd (s : State) (i : Nat) : State :=
  let s := s.each (s.net.conns.filter fun p => p.2.cntlid == some i && !p.2.closed) fun s p =>
    connDrop (connEmit s p.2 (.rst p.2.peer)) p.1
  { s with net := { s.net with assocs := Keyed.erase s.net.assocs i } }

/-- Entry to Held: every association ends and every connection's state is discarded, with nothing sent (R465). -/
def netHeld (s : State) : State :=
  let s := s.each s.net.conns fun s p => connDrop s p.1
  let ports := s.net.ports.map fun x => { x with held := [], xoff := 0, paused := 0, rx := Vector.replicate 8 0 }
  connCount { s with net := { s.net with assocs := [], conns := [], ports := ports } }

/-- TCP_SYN to an address and port: accepted, or answered with RST (R445, R446, R452, R454). -/
def execTcpSyn (p : Fin 2) (vlan : Nat) (pcp : Fin 8) (v6 : Bool) (hi lo dport peer : Nat) (s : State) : Out :=
  act s fun s =>
    if s.g Od.NET_LINK p ≠ 2 ∨ s.dev = .booting ∨ s.dev = .held then s
    else match ifaceOf s p vlan with
      | none => s.add Od.NET_RX_DROP (5 * p + 3) 1
      | some i =>
        if !ifaceHas s i v6 hi lo || dport != s.g Od.NVT_TCP_PORT then s.add Od.NET_RX_DROP (5 * p + 3) 1
        else if decide ((s.net.conns.filter fun c => !c.2.closed).length < 256) && s.isDev .serving then
          let k := ((List.range 65536).find? fun k => (s.net.conns.find? k).isNone).getD 0
          let c : Conn := {
            port := p, iface := i, pcp := pcp, peer := peer, icDone := false, hdgst := false, ddgst := false, cntlid := none
            qid := 0, sqSize := 0, sqHead := 0, crib := none, termSent := false, closed := false, r2ts := [], maxR2t := 0
            nextTag := 0, bufs := [], retrans := 0, held := [], pins := [] }
          let s := connCount { s with net := { s.net with conns := s.net.conns.insert k c } }
          portSend s p pcp (.synAck peer (s.g Od.NET_MTU p - if v6 then 60 else 40))
        else netViol (portSend s p pcp (.rst peer)) p 0 4

/-- TCP_RETRANSMIT_TIMEOUT of a segment, the first of it or a later one (R454). -/
def execTcpRetransmitTimeout (k : Nat) (first : Bool) (s : State) : Out :=
  act s fun s =>
    match s.net.conns.find? k with
    | none => s
    | some c =>
      if c.closed || s.g Od.NET_LINK c.port != 2 then s
      else
        let r := if first then 1 else c.retrans + 1
        if 12 < r then connReset s k
        else
          let s := { s with net := { s.net with conns := s.net.conns.insert k { c with retrans := r } } }
          connEmit s c (.segment c.peer)

/-- TCP_PEER_CLOSE: FIN or RST from the peer (R463). -/
def execTcpPeerClose (k : Nat) (s : State) : Out := act s fun s => connClose s k

/-- A PDU violation: C2HTermReq with its cause, FIN, and the connection closes (R466, R467). -/
def pduViol (s : State) (k : Nat) (cause : TermCause) (elem : Nat) : State :=
  match s.net.conns.find? k with
  | none => s
  | some c =>
    if c.closed then s
    else
      let s := netViol s c.port (c.crib.getD 0) elem
      connClose (connEmit (connEmit s c (.c2hTerm c.peer cause)) c (.fin c.peer)) k

/-- An open connection. -/
def State.conn? (s : State) (k : Nat) : Option Conn := (s.net.conns.find? k).filter fun c => !c.closed

/-- ICREQ (R455, R466). -/
def execIcreq (k pfv : Nat) (hdgst ddgst : Bool) (maxR2t : Nat) (s : State) : Out :=
  act s fun s =>
    match s.conn? k with
    | none => s
    | some c =>
      if c.icDone then pduViol s k .sequence 7
      else if pfv ≠ 0 then pduViol s k .unsupported 6
      else
        let h := hdgst && s.gb Od.NVT_DIGEST_ALLOW 0 0
        let d := ddgst && s.gb Od.NVT_DIGEST_ALLOW 0 1
        let s := { s with net := { s.net with conns := s.net.conns.insert k { c with
          icDone := true, hdgst := h, ddgst := d, maxR2t := maxR2t } } }
        netSend s k (.net c.port (.icResp c.peer 0 0 131072 h d))

/-- ICREQ_TIMEOUT: no ICReq within 10 s (R455). -/
def execIcreqTimeout (k : Nat) (s : State) : Out :=
  act s fun s =>
    match s.conn? k with
    | some c => if c.icDone then s else connReset s k
    | none => s

/-- A PDU before ICReq is a sequence error (R455, R466); else its effect. -/
def pdu (s : State) (k : Nat) (f : Conn → State) : State :=
  match s.conn? k with
  | none => s
  | some c => if c.icDone then f c else pduViol s k .sequence 7

/-- A capsule that is taken at once: an entry of its queue (R461). -/
def capsule (s : State) (k : Nat) (f : State → Conn → State) : State :=
  pdu s k fun _ =>
    let s := (s.takeEntry (.conn k)).getD s
    match s.conn? k with
    | some c => f s c
    | none => s

/-- The binding of a connection's Connect (R457). -/
def bindingOf (s : State) (c : Conn) (hostNqn : List Byte) : Option Nat :=
  (List.range 64).find? fun i =>
    s.g Od.NVT_BIND_CRIB i != 0 && s.blob Od.NVT_BIND_HOSTNQN i == hostNqn &&
    s.g Od.NVT_BIND_VLAN i == s.g Od.NET_IF_VLAN c.iface

/-- CONNECT (R416, R452, R453, R457, R458, R467). -/
def execConnect (k cid qid sqSize kato cntlid : Nat) (subNqn hostNqn : List Byte) (hostId : Nat) (s : State) : Out :=
  act s fun s => capsule s k fun s c =>
    let q : IoQueue := .conn k
    let refuse (s : State) (st : Status) : State := s.complete q cid st
    let bind (s : State) (crib id : Nat) : State :=
      connCount { s with net := { s.net with conns := s.net.conns.insert k { c with
        crib := some crib, cntlid := some id, qid := qid, sqSize := sqSize + 1, sqHead := c.sqHead % (sqSize + 1) } } }
    if c.crib.isSome then refuse s .commandSequence
    else if sqSize = 0 ∨ 4095 < sqSize ∨ (qid = 0 ∧ (kato = 0 ∨ cntlid ≠ 0xFFFF)) then refuse s .connectInvalid
    else if subNqn ≠ s.blob Od.NVT_SUBNQN then refuse (netViol s c.port 0 3) .connectInvalid
    else match bindingOf s c hostNqn with
      | none => refuse (netViol s c.port 0 3) .connectHost
      | some b =>
        let crib := s.g Od.NVT_BIND_CRIB b
        if h : crib < 33 then
          if s.g Od.CRIB_STATE crib ≠ 1 ∨ s.dev ≠ .serving then refuse s .connectBusy
          else if qid = 0 then
            if 64 ≤ (s.net.conns.filter fun p => !p.2.closed && p.2.crib.isSome && p.2.qid == 0).length then refuse s .connectBusy
            else
              let id := (((List.range 0xFFEF).map (· + 1)).find? fun i => (s.net.assocs.find? i).isNone).getD 1
              let a : Assoc := { crib := crib, hostNqn := hostNqn, hostId := hostId, admin := k,
                                 ctl := { NvmeCtl.fresh with kato := kato } }
              let s := bind { s with net := { s.net with assocs := s.net.assocs.insert id a } } crib id
              s.complete q cid .success none id
          else match s.net.assocs.find? cntlid with
            | none => refuse s .connectInvalid
            | some a =>
              if a.crib ≠ crib ∨ a.hostNqn ≠ hostNqn ∨ a.hostId ≠ hostId then refuse s .connectInvalid
              else if !unitFree s ⟨crib, h⟩ (sqUnits s) || !unitFree s ⟨crib, h⟩ (cqUnits s) then
                refuse (hqViol s crib 5 c.port qid) .connectBusy
              else (bind s crib cntlid).complete q cid .success none cntlid
        else refuse s .connectBusy

/-- CAP as R405 gives it. -/
def capReg : Nat := 4095 + 2 ^ 16 + 2 ^ 17 + 0xFF * 2 ^ 24 + 2 ^ 37 + 2 ^ 43 + 4 * 2 ^ 52

/-- CSTS of a controller (R406, R407, R441). -/
def NvmeCtl.csts (g : NvmeCtl) : Nat := b2n g.rdy + 2 * b2n g.cfs + 4 * g.shst

/-- PROPERTY_GET on an admin connection (R405, R459). -/
def execPropertyGet (k cid offset : Nat) (s : State) : Out :=
  act s fun s => capsule s k fun s c =>
    let q : IoQueue := .conn k
    match c.cntlid.bind s.net.assocs.find?, c.qid with
    | some a, 0 =>
      let give (v : Nat) : State := (netSend s k (.net c.port (.property c.peer cid v))).complete q cid .success none (v % 2 ^ 32) (v / 2 ^ 32)
      match offset with
      | 0x00 => give capReg
      | 0x08 => give 0x20000
      | 0x14 => give a.ctl.cc
      | 0x1C => give a.ctl.csts
      | _ => s.complete q cid .invalidField
    | _, _ => s.complete q cid .commandSequence

/-- DISCONNECT (R456, R463). -/
def execDisconnect (k cid : Nat) (s : State) : Out :=
  act s fun s => capsule s k fun s _ => connClose (s.complete (.conn k) cid .success) k

/-- AUTHENTICATION_SEND (R456). -/
def execAuthenticationSend (k cid : Nat) (s : State) : Out :=
  act s fun s => capsule s k fun s _ => s.complete (.conn k) cid .invalidOpcode

/-- AUTHENTICATION_RECEIVE (R456). -/
def execAuthenticationReceive (k cid : Nat) (s : State) : Out :=
  act s fun s => capsule s k fun s _ => s.complete (.conn k) cid .invalidOpcode

/-- CAPSULE_COMMAND: an I/O command's capsule, whose in-capsule data may fail its digest (R460, R466, R468). -/
def execCapsuleCommand (k : Nat) (hdr : IoHdr) (op : IoOp) (digestBad : Bool) (s : State) : Out :=
  act s fun s => pdu s k fun c =>
    if c.crib.isNone || c.qid == 0 then ((s.takeEntry (.conn k)).getD s).complete (.conn k) hdr.cid .commandSequence
    else if digestBad then
      (netViol ((s.takeEntry (.conn k)).getD s) c.port (c.crib.getD 0) 2).complete (.conn k) hdr.cid .transientTransport
    else ioSubmit s (.conn k) hdr op

/-- H2CDATA for an R2T of a connection (R460, R466, R468). -/
def execH2cdata (k ttag offset : Nat) (data : List Byte) (digestBad : Bool) (s : State) : Out :=
  act s fun s => pdu s k fun c =>
    match c.r2ts.find? fun r => r.ttag == ttag with
    | none => pduViol s k .sequence 7
    | some r =>
      if offset < r.offset ∨ r.offset + r.len < offset + data.length ∨ 131072 < data.length then pduViol s k .outOfRange 7
      else
        let mine := s.host.ctxs.find? fun x => x.queue == .conn k && x.cid == r.cid
        if digestBad then
          let s := netViol s c.port (c.crib.getD 0) 2
          let s := { s with net := { s.net with conns := s.net.conns.insert k { c with
            r2ts := c.r2ts.filter fun t => t.cid != r.cid, bufs := Keyed.erase c.bufs r.cid } } }
          match mine with
          | some x => endCtx s x .transientTransport
          | none => s
        else
          let (asked, got, buf) := Keyed.getD c.bufs r.cid (0, 0, [])
          let got := got + data.length
          let buf := overlay buf offset data
          let r2ts := if r.got + data.length < r.len then
              c.r2ts.map fun t => if t.ttag == ttag then { t with got := t.got + data.length } else t
            else c.r2ts.filter fun t => t.ttag != ttag
          let whole := decide (buf.length ≤ got)
          let s := { s with net := { s.net with conns := s.net.conns.insert k { c with
            r2ts := r2ts
            bufs := if whole then Keyed.erase c.bufs r.cid else Keyed.insert c.bufs r.cid (asked, got, buf) } } }
          match mine with
          | some x =>
            if whole then s.setCtx x.id fun x => match x.op with
              | .job cdw10 rest0 _ => { x with op := .job cdw10 rest0 (some buf) }
              | _ => { x with blocks := (chunks x.nlb 4096 buf).zipIdx.map fun (b, i) => (i, b) }
            else r2tFill s k
          | none => s

/-- H2CTERMREQ (R463, R466). -/
def execH2ctermreq (k : Nat) (s : State) : Out :=
  act s fun s =>
    match s.conn? k with
    | some c => connClose (netViol s c.port (c.crib.getD 0) 0) k
    | none => s

/-- PDU_VIOLATION: 0 an invalid PDU header, 1 a header digest mismatch, 2 a PDU out of sequence (R466). -/
def execPduViolation (k : Nat) (kind : Fin 3) (s : State) : Out :=
  act s fun s =>
    if kind.val = 0 then pduViol s k .pduHeader 0
    else if kind.val = 1 then pduViol s k .headerDigest 1
    else pduViol s k .sequence 7

/-- ASSOCIATION_KEEP_ALIVE_EXPIRY (R462, R464, R467). -/
def execAssociationKeepAliveExpiry (i : Nat) (s : State) : Out :=
  act s fun s =>
    match s.net.assocs.find? i with
    | none => s
    | some a =>
      if a.ctl.kato = 0 then s
      else
        let port := (s.net.conns.find? a.admin).elim 0 fun c => c.port
        assocEnd ((netViol s port a.crib 5).inc Od.HQ_VIOL_CNT (8 * a.crib + 4)) i

/-- NET_LINK changes (R599). -/
def setLink (s : State) (p : Fin 2) (v : Nat) : State :=
  if s.g Od.NET_LINK p = v then s else raise (s.p Od.NET_LINK p v) Src.netLink (p + 256 * v)

/-- NET_LINK_DOWN (R464). -/
def execNetLinkDown (p : Fin 2) (s : State) : Out :=
  act s fun s => if s.g Od.NET_LINK p = 2 then (setLink s p 1).inc Od.NET_LINK_DOWN_CNT p else s

/-- NET_LINK_UP of an enabled port: what waited is sent again (R443, R464). -/
def execNetLinkUp (p : Fin 2) (s : State) : Out :=
  act s fun s =>
    if s.g Od.NET_LINK p = 1 then
      let s := setLink s p 2
      s.each (List.finRange 8) fun s (q : Fin 8) => portFlush s p q
    else s

/-- NET_LINK_HOLD_EXPIRY: the link has stayed down too long for the port's connections (R464). -/
def execNetLinkHoldExpiry (p : Fin 2) (s : State) : Out :=
  act s fun s =>
    if s.g Od.NET_LINK p ≠ 2 then s.each (s.net.conns.filter fun c => c.2.port == p.val && !c.2.closed) fun s c => connClose s c.1
    else s

end Sys2Proof.Machine
end

