-- ==== Sys2Proof/Machine/Cribs.lean ====
section
/-! DEFINITION. Crib resets and what starts them: function-level resets, CC.EN and CRIB_RESET (R84, R164, R173 to R175, R404, R406,
R459, R464, R621). -/

namespace Sys2Proof.Machine

/-- The operation serves commands: a host read or write, or what a write needs read first. -/
def MediaOp.serves (o : MediaOp) : Bool := o.kind == MediaKind.read || o.kind == MediaKind.write || o.kind == MediaKind.cover

/-- The operation no longer serves a command. -/
def MediaOp.without (o : MediaOp) (id : Nat) : MediaOp := if o.serves then { o with ctxs := o.ctxs.filter fun k => k != id } else o

/-- A command is taken out of the machine without a completion: the sheaf operations that only waited for it go, and so does what it
holds (R174). -/
def cutCtx (s : State) (x : Ctx) : State :=
  let ops := (s.media.ops.map fun o => o.without x.id).filter fun o => !(o.serves && o.ctxs.isEmpty)
  let s := { s with media := { s.media with ops := ops } }
  (if x.isWrite then s.releaseStaging x else s).dropCtx x.id

/-- A sheaf operation in progress on a drive serves the command. -/
def ctxOnDrive (s : State) (x : Ctx) : Bool :=
  (List.finRange 16).any fun (n : Drive) => (s.media.cur[n]).elim false fun o =>
    o.serves && o.ctxs.contains x.id

/-- The command is a job on a sequencer. -/
def ctxRuns (s : State) (x : Ctx) : Bool :=
  (List.finRange 4).any fun sq => (s.thresh.seq[sq]).elim false fun j => j.id == x.id

/-- A Crib reset of crib `c` starts (R174 steps 1 and 2, R406, R523). One that runs is not started again. -/
def cribResetStart (s : State) (c : Crib) : State :=
  if c.val = 0 ∨ s.g Od.CRIB_STATE c = 2 then s
  else
    let s := s.p Od.CRIB_STATE c 2
    let s := { s with crib := s.crib.set c { s.crib[c] with resetting := true } }
    let s := s.setCtl c fun g => { g with
      en := false, rdy := false, shst := 0, cfs := false, aers := [], kept := []
      cqs := g.cqs.map fun p => (p.1, { p.2 with waiting := [] }) }
    let s := stopJobs s .crib (· == c.val)
    let s := s.each (List.range 256) fun s d =>
      if s.g Od.DB_OWNER d = c.val then
        { s with evt := { s.evt with doorbells := s.evt.doorbells &&& ~~~ BitVec.twoPow 256 d } } else s
    let s := rakeAbort s fun r => r.crib == c.val
    s.each s.host.ctxs fun s x => if x.crib = c.val ∧ ctxOnDrive s x = false ∧ ctxRuns s x = false then cutCtx s x else s

/-- The sheaf operations and jobs of a crib in reset have ended (R174 step 2). -/
def cribQuiet (s : State) (c : Nat) : Bool :=
  s.jobsGone (· == c) && !(s.host.ctxs.any fun x => x.crib == c && ctxOnDrive s x)

/-- A Crib reset ends (R174 steps 3 and 4, R67, R464, R621). -/
def cribResetEnd (s : State) (c : Crib) : State :=
  let s := s.each s.host.ctxs fun s x => if x.crib = c.val then cutCtx s x else s
  let s := cacheDrop (cribScrub s c) fun tag _ _ => tag == c.val
  let s := evtCribReset c s
  let s := s.each (s.net.assocs.filter fun p => p.2.crib == c.val) fun s p => assocEnd s p.1
  let s := s.each (s.net.conns.filter fun p => p.2.crib == some c.val && !p.2.closed) fun s p => connReset s p.1
  let s : State := { s with dict := { s.dict with assemblies := s.dict.assemblies.filter fun a => a.path != 1 + c.val } }
  let g := s.host.ctl[c]
  let s := (ctlReset s c).setCtl c fun f => if g.en then { f with en := true, cc := g.cc, aqa := g.aqa } else f
  let s := { s with crib := s.crib.set c { s.crib[c] with resetting := false, disabling := false } }
  let s := s.p Od.CRIB_STATE c (b2n (s.cribEnabled c))
  raise (ctlReady s c) Src.cribResetDone c

/-- CRIB_RESET_COMPLETE (R174). -/
def execCribResetComplete (c : Crib) (s : State) : Out :=
  actGranary s fun s => if s.g Od.CRIB_STATE c = 2 ∧ cribQuiet s c = true then cribResetEnd s c else s

/-- A write of CRIB_RESET[c] (R173). -/
def cribReset (s : State) (c v : Nat) : State × Nat :=
  if 1 < v then (s, 0x07)
  else (if h : c < 33 then (if v = 1 then cribResetStart s ⟨c, h⟩ else s) else s, 0)

/-- CRIB_RESET (R173). -/
def execCribReset (who c : Crib) (s : State) : Out :=
  actGranary s fun s => writeObj s who Od.CRIB_RESET c fun s => cribReset s c 1

/-- A function's PCIe side after a function-level reset: Bus Master Enable clear, every MSI-X entry masked (R401, R613). -/
def fnReset (s : State) (f : Crib) : State :=
  { s with fns := s.fns.set f Fn.fresh }

/-- VF_FUNCTION_LEVEL_RESET (R173, R404). -/
def execVfFunctionLevelReset (f : Crib) (s : State) : Out :=
  actGranary s fun s => if f.val = 0 ∨ s.fnThere f = false ∨ s.boot.crs = true then s else cribResetStart (fnReset s f) f

/-- PF_FUNCTION_LEVEL_RESET: the PF's controller and crib 0's queues go, the window is cleared (R67, R84, R404). -/
def execPfFunctionLevelReset (s : State) : Out :=
  act s fun s =>
    if s.boot.crs then s
    else
      let s := ctlReset (fnReset s 0) 0
      { s with dict := { s.dict with
        slots := Vector.replicate 8 WinSlot.empty, assemblies := s.dict.assemblies.filter fun a => a.path != 0 } }

/-- CC_EN_CLEAR: CC.EN goes from 1 to 0 (R404, R406). -/
def execCcEnClear (f : Crib) (s : State) : Out :=
  actGranary s fun s =>
    if s.host.ctl[f].en = false ∨ s.fnThere f = false ∨ s.boot.crs = true then s
    else if f.val = 0 then ctlReset s 0
    else cribResetStart s f

/-- Change the controller of an association. -/
def setAssocCtl (s : State) (i : Nat) (f : NvmeCtl → NvmeCtl) : State :=
  { s with net := { s.net with assocs := s.net.assocs.map fun p => if p.1 = i then (i, { p.2 with ctl := f p.2.ctl }) else p } }

/-- PROPERTY_SET on an admin connection: CC alone may be written (R406, R407, R459). -/
def execPropertySet (k cid offset value : Nat) (s : State) : Out :=
  actGranary s fun s => capsule s k fun s c =>
    let q : IoQueue := .conn k
    match c.cntlid, c.cntlid.bind s.net.assocs.find?, c.qid with
    | some i, some a, 0 =>
      if offset ≠ 0x14 then s.complete q cid .invalidField
      else
        let on := value.testBit 0
        let s := (setAssocCtl s i fun g => { g with cc := value }).complete q cid .success
        if on && !a.ctl.en then setAssocCtl s i fun g => { g with en := true, rdy := true }
        else if !on && a.ctl.en then
          let s := setAssocCtl s i fun g => { g with en := false, rdy := false, shst := 0, cfs := false }
          if h : a.crib < 33 then cribResetStart s ⟨a.crib, h⟩ else s
        else if on && (fieldOf value 15 14 == 1 || fieldOf value 15 14 == 2) then
          settleQueues (setAssocCtl s i fun g => { g with shst := 1 })
        else s
    | _, _, _ => s.complete q cid .commandSequence

end Sys2Proof.Machine
end

