-- ==== Sys2Proof/Machine/Serial.lean ====
section
/-! DEFINITION. The serial ports and the tray bus (R623 to R647). -/

namespace Sys2Proof.Machine

/-- The serial sources of R644. -/
def Src.spRx : Nat := 24
def Src.spTx : Nat := 25
def Src.trayNode : Nat := 26
def Src.spError : Nat := 27

/-- Change a port. -/
def State.setSerial (s : State) (p : Fin 4) (f : SerialPort → SerialPort) : State :=
  { s with serial := { s.serial with ports := vmod s.serial.ports p f } }

/-! ### Modes, formats and pads (R623 to R625, R632, R646) -/

/-- The mode of a port (R623): before an image is applied, SP0 runs in BYTE mode and the others are OFF. -/
def spMode (s : State) (p : Nat) : Nat := if s.boot.haveImage ∧ s.dev ≠ .booting then s.g Od.SP_MODE p else if p = 0 then 1 else 0

/-- SP_RATE as the port runs (R623). -/
def spRate (s : State) (p : Nat) : Nat := if s.boot.haveImage ∧ s.dev ≠ .booting then s.g Od.SP_RATE p else if p = 0 then 115200 else 19200

/-- SP_DIVISOR (R625). -/
def spDivisor (s : State) (p : Nat) : Nat :=
  if spRate s p = 0 then 0 else (roundRat (100000000 / (16 * (spRate s p : Rat)))).toNat

/-- SP_RATE_ERR in parts per million, towards zero (R625). -/
def spRateErr (s : State) (p : Nat) : Int :=
  let r := spRate s p
  let d := spDivisor s p
  if r = 0 ∨ d = 0 then 0 else (1000000 * (100000000 - 16 * d * r : Int)).tdiv (16 * d * r)

/-- Entries of the receive queue, and bytes of the transmit queue (R632). -/
def spSize (s : State) (p : Nat) : Nat :=
  match s.g Od.SP_QSIZE p with
  | 0 => 1 | 1 => 16 | 2 => 32 | 3 => 64 | _ => 128

/-- A trigger setting of a port as a number (R632). -/
def spTrig (s : State) (p sel : Nat) : Nat :=
  if s.g Od.SP_QSIZE p = 0 ∨ sel = 0 then 1 else spSize s p * min sel 3 / 4

/-- The pad that carries a function of a port: 1 TXD, 2 RXD (R646). -/
def padOf (s : State) (fn p : Nat) : Option (Fin 8) :=
  (List.finRange 8).find? fun (k : Fin 8) => s.g Od.PAD_FUNC k % 8 == fn && fieldOf (s.g Od.PAD_FUNC k) 5 4 == p

/-- SP_TX_FREE. -/
def spFree (s : State) (p : Fin 4) : Nat := spSize s p - s.serial.ports[p].tx.length

/-! ### Tray frames (R638 to R643) -/

/-- The protected identifier (R638). -/
def trayPid (id : Nat) : Nat :=
  let b (i : Nat) : Bool := id.testBit i
  id % 64 + 64 * b2n (((b 0 != b 1) != b 2) != b 4) + 128 * b2n (!(((b 1 != b 3) != b 4) != b 5))

/-- The checksum: the inverted sum with carry added back (R638). -/
def traySum (bs : List Byte) : Byte :=
  BitVec.ofNat 8 (255 - bs.foldl (fun n b => let t := n + b.toNat; if 256 ≤ t then t - 255 else t) 0)

/-- The checksum of an entry's data (R638, R639). -/
def entrySum (w : Nat) (data : List Byte) : Byte :=
  traySum (if w.testBit 12 then BitVec.ofNat 8 (trayPid (w % 64)) :: data else data)

/-- The schedule entry of a frame, and its fields (R639). -/
def entryWord (s : State) (e : Nat) : Nat := s.g Od.TRAY_ENTRY e
def entryLen (w : Nat) : Nat := fieldOf w 11 8
def entryNode (w : Nat) : Nat := fieldOf w 19 16

/-- Valid entries of a port's table (R639). -/
def tableLength (s : State) (p : Nat) : Nat :=
  ((List.range 64).takeWhile fun i => (entryWord s (64 * (p - 1) + i)).testBit 31).length

/-- TRAY_NODE_STATE changes (R643). -/
def nodeState (s : State) (p n v : Nat) : State :=
  let k := 16 * (p - 1) + n
  let old := s.g Od.TRAY_NODE_STATE k
  let s := s.p Od.TRAY_NODE_STATE k v
  if old ≠ v ∧ old ≠ 0 then raise s Src.trayNode (p + 256 * n + 65536 * b2n (v == 2)) else s

/-- The outcome of a DIR = 1 entry for its node (R643). -/
def nodeOutcome (s : State) (p n st : Nat) : State :=
  let k := 16 * (p - 1) + n
  let set (s : State) (m : Nat) : State := { s with serial := { s.serial with misses := Keyed.put s.serial.misses k m 0 } }
  if st = 1 then nodeState (set s 0) p n 1
  else if st = 2 then
    let m := Keyed.getD s.serial.misses k 0 + 1
    let s := set s m
    if s.g Od.TRAY_MISS_LIMIT ≤ m then nodeState s p n 2 else s
  else set s 0

/-- The frame in progress ends with a status of R641. -/
def frameEnd (s : State) (p : Fin 4) (st : Nat) : State :=
  match s.serial.ports[p].frame with
  | none => s
  | some f =>
    let s := s.setSerial p fun q => { q with frame := none }
    let w := entryWord s f.entry
    let stat := s.g Od.TRAY_RX_STAT f.entry
    let s := s.p Od.TRAY_RX_STAT f.entry (stat / 16 * 16 + st)
    let s :=
      if st = 1 then
        (s.p Od.TRAY_RX_DATA f.entry (ofLe (f.got.take (entryLen w)))).p Od.TRAY_RX_STAT f.entry
          ((stat / 65536 + 1) % 65536 * 65536 + stat % 65536 / 16 * 16 + 1)
      else
        let s := s.inc Od.TRAY_ERR_CNT (8 * (p.val - 1) + (st - 2))
        let s := violation s 7 0xFF p (entryNode w) (st - 2) []
        if st = 6 then raise s Src.spError (p + 256 * 5) else s
    if w.testBit 7 then nodeOutcome s p (entryNode w) st else s

/-! ### Transmitting (R633, R636, R646) -/

/-- A port's transmitter may start a character: it has a pad, and its line is not held at marking. -/
def spSends (s : State) (p : Fin 4) : Bool :=
  spMode s p != 0 && (padOf s 1 p).isSome && s.dev != .held && s.serial.ports[p].shift.isNone

/-- The next byte goes into the transmit shifter; SP_TX is raised when that brings the free space to its trigger (R635). -/
def spNext (s : State) (p : Fin 4) : State :=
  if spSends s p = false then s
  else
    let q := s.serial.ports[p]
    match q.frame with
    | some f =>
      match f.toSend with
      | [] => s
      | b :: rest =>
        (s.setSerial p fun q => { q with shift := some b, frame := some { f with toSend := rest } }).emit (.serial p [b])
    | none =>
      if spMode s p ≠ 1 then s
      else match q.tx with
        | [] => s
        | b :: rest =>
          let old := spFree s p
          let s := (s.setSerial p fun q => { q with shift := some b, tx := rest }).emit (.serial p [b])
          let trig := spTrig s p (s.g Od.SP_TX_TRIG p)
          if old < trig ∧ trig ≤ spFree s p then raise s Src.spTx (p + 65536 * spFree s p) else s

/-- SP_TX_DATA (R633). -/
def spWrite (s : State) (p : Fin 4) (data : List Byte) : State × Nat :=
  if data.length = 0 ∨ 128 < data.length then (s, 0x06)
  else if spFree s p < data.length then (s, 0x07)
  else (spNext (s.setSerial p fun q => { q with tx := q.tx ++ data }) p, 0)

def execSpTxData (who : Crib) (p : Fin 4) (data : List Byte) (s : State) : Out :=
  actWrite who Od.SP_TX_DATA p (fun s => spWrite s p data) s

/-- SERIAL_CHARACTER_SENT: the byte in the shifter has been sent (R633, R635). -/
def execSerialCharacterSent (p : Fin 4) (s : State) : Out :=
  act s fun s =>
    if s.serial.ports[p].shift.isNone then s else spNext (s.setSerial p fun q => { q with shift := none }) p

/-! ### Receiving (R626 to R631, R635) -/

/-- A port's receiver is armed: it runs, it has a pad, and no break's end is awaited. -/
def spHears (s : State) (p : Fin 4) : Bool :=
  spMode s p != 0 && (padOf s 2 p).isSome && !s.serial.ports[p].breakWait

/-- The tags of a completed character are counted, and its error raised (R630). -/
def spTags (s : State) (p : Fin 4) (e : Nat) : State :=
  let s := s.each ([(8, 0), (9, 1), (10, 2), (12, 4)].filter fun t => e.testBit t.1) fun s t => s.inc Od.SP_ERR_CNT (8 * p + t.2)
  if e.testBit 10 then raise s Src.spError (p + 256 * 2)
  else if e.testBit 8 then raise s Src.spError p
  else if e.testBit 9 then raise s Src.spError (p + 256) else s

/-- Store a character of a BYTE-mode port with its tags (R630, R631, R635). -/
def spStore (s : State) (p : Fin 4) (e : Nat) : State :=
  let q := s.serial.ports[p]
  let s := s.setSerial p fun q => { q with quiet := false }
  if spSize s p ≤ q.rx.length then
    (s.setSerial p fun q => { q with lost := true }).inc Od.SP_ERR_CNT (8 * p + 3)
  else
    let e := e + 2048 * b2n q.lost
    let s := s.setSerial p fun q => { q with rx := q.rx ++ [e], lost := false }
    let s := s.p Od.SP_RX_LEVEL p (q.rx.length + 1)
    let s := spTags s p e
    let trig := spTrig s p (s.g Od.SP_RX_TRIG p)
    if q.rx.length + 1 = trig then raise s Src.spRx (p + 65536 * trig) else s

/-- A byte on the line of a FRAME-mode port: own bytes are compared, then a node's response is gathered (R641, R642). `e` is the
entry that R630 would store. A response byte tagged only NOISE is taken as read. -/
def frameByte (s : State) (p : Fin 4) (e : Nat) : State :=
  match s.serial.ports[p].frame with
  | none => s
  | some f =>
    let b : Byte := BitVec.ofNat 8 e
    let w := entryWord s f.entry
    let pub := !w.testBit 7
    match f.back with
    | own :: rest =>
      if own ≠ b ∨ 256 ≤ e then frameEnd s p 6
      else
        let got := if pub && decide (rest.length ≤ entryLen w) then f.got ++ [b] else f.got
        let s := s.setSerial p fun q => { q with frame := some { f with back := rest, got := got } }
        if rest = [] && pub then frameEnd s p 1 else s
    | [] =>
      if e.testBit 8 || e.testBit 10 then frameEnd s p 4
      else
        let got := f.got ++ [b]
        let s := s.setSerial p fun q => { q with frame := some { f with got := got } }
        if got.length ≤ entryLen w then s
        else frameEnd s p (if entrySum w (got.take (entryLen w)) = b then 1 else 3)

/-- A completed character, as the entry of R630. -/
def spTake (s : State) (p : Fin 4) (e : Nat) : State :=
  if spMode s p = 2 then frameByte (spTags s p e) p e else spStore s p e

/-- The majority of three samples, and whether they disagree (R627). -/
def majority (t : Fin 8) : Bool := t.val == 3 || 5 ≤ t.val
def disagrees (t : Fin 8) : Bool := t.val != 0 && t.val != 7

/-- Parity of a port: 0 none, 1 even, 2 odd (R624). -/
def spParity (s : State) (p : Nat) : Nat := if spMode s p = 2 then 0 else s.g Od.SP_FORMAT p % 4

/-- SERIAL_BREAK (R629): noise tells whether samples disagreed. In FRAME mode the header's own break is not a response. -/
def spBreak (s : State) (p : Fin 4) (noise : Bool) : State :=
  let s := s.setSerial p fun q => { q with breakWait := true }
  match s.serial.ports[p].frame with
  | some f => if spMode s p = 2 ∧ f.back.length = 2 + (if (entryWord s f.entry).testBit 7 then 0 else entryLen (entryWord s f.entry) + 1) then s
    else spTake s p (1280 + 4096 * b2n noise)
  | none => spTake s p (1280 + 4096 * b2n noise)

/-- SERIAL_CHARACTER: the three samples of each data bit, of the parity bit if configured, and of the stop bit (R627 to R630). -/
def execSerialCharacter (p : Fin 4) (bits : List (Fin 8)) (s : State) : Out :=
  act s fun s =>
    let par := spParity s p
    let n := 9 + (if par = 0 then 0 else 1)
    if spHears s p = false ∨ bits.length ≠ n then s
    else
      let v := bits.map majority
      let noise := bits.any disagrees
      if v.all (· == false) then spBreak s p noise
      else
        let data := v.take 8
        let odd := data.foldl (· != ·) false
        let parBad := par != 0 && v.getD 8 false != (if par = 1 then odd else !odd)
        let byte := data.zipIdx.foldl (fun n (b, i) => n + b2n b * 2 ^ i) 0
        spTake s p (byte + 256 * b2n (!v.getD (n - 1) false) + 512 * b2n parBad + 4096 * b2n noise)

/-- FALSE_START (R626). -/
def execFalseStart (p : Fin 4) (s : State) : Out :=
  act s fun s => if spHears s p then s.inc Od.SP_ERR_CNT (8 * p + 5) else s

/-- SERIAL_BREAK (R629). -/
def execSerialBreak (p : Fin 4) (noise : Bool) (s : State) : Out :=
  act s fun s => if spHears s p then spBreak s p noise else s

/-- SERIAL_BREAK_END (R629). -/
def execSerialBreakEnd (p : Fin 4) (s : State) : Out := act s fun s => s.setSerial p fun q => { q with breakWait := false }

/-- SP_RX_TIMEOUT: once for each quiet interval (R635). -/
def execSpRxTimeout (p : Fin 4) (s : State) : Out :=
  act s fun s =>
    let q := s.serial.ports[p]
    if spMode s p ≠ 1 ∨ q.rx = [] ∨ q.quiet = true then s
    else raise (s.setSerial p fun q => { q with quiet := true }) Src.spRx (p + 256 + 65536 * q.rx.length)

/-- A read of SP_RX_DATA takes the entries it returns, oldest first: at most 239 through the PF window (R634). -/
def spRead (s : State) (p : Fin 4) (window : Bool) : State × List Byte :=
  let q := s.serial.ports[p]
  let n := if window then 239 else q.rx.length
  let s := s.setSerial p fun q => { q with rx := q.rx.drop n }
  (s.p Od.SP_RX_LEVEL p (q.rx.drop n).length, (q.rx.take n).flatMap (leBytes 2))

/-- SP_RX_DATA (R634). -/
def execSpRxData (who : Crib) (p : Fin 4) (window : Bool) (offset : Nat) (s : State) : Out :=
  act s fun s =>
    if s.dev = .booting then s.answer who 0x0D
    else if who.val ≠ 0 then s.answer who 0x01
    else if offset ≠ 0 then s.answer who 0x09
    else
      let (s, d) := spRead s p window
      s.emit (.answer who 0 (leBytes 2 d.length ++ d))

/-! ### The schedule (R640) -/

/-- A port's schedule runs (R636, R640). -/
def trayRuns (s : State) (p : Fin 4) : Bool :=
  p.val != 0 && spMode s p == 2 && (s.isDev .starting || s.isDev .serving || s.isDev .draining)

/-- The response limit has passed: what DIR = 1 left (R640, R641). -/
def responseEnd (s : State) (p : Fin 4) (f : TrayFrame) : State := frameEnd s p (if f.got = [] then 2 else 5)

/-- TRAY_SLOT_START: the next entry's slot starts with its header (R638, R640). A frame whose own bytes have not all been read back
by then ends BIT_ERROR. -/
def execTraySlotStart (p : Fin 4) (s : State) : Out :=
  act s fun s =>
    if trayRuns s p = false then s
    else
      let s := match s.serial.ports[p].frame with
        | some f => if f.back = [] then responseEnd s p f else frameEnd s p 6
        | none => s
      let n := tableLength s p
      if n = 0 then s
      else
        let (i, wrap) := match s.serial.ports[p].cur with
          | some c => if c + 1 < n then (c + 1, false) else (0, true)
          | none => (0, false)
        let s := if wrap then s.inc Od.TRAY_CYCLE_CNT (p.val - 1) else s
        let e := 64 * (p.val - 1) + i
        let w := entryWord s e
        let data := leBytes (entryLen w) (s.g Od.TRAY_TX_DATA e)
        let bytes : List Byte := [0x55#8, BitVec.ofNat 8 (trayPid (w % 64))] ++ (if w.testBit 7 then [] else data ++ [entrySum w data])
        let s := s.setSerial p fun q => { q with cur := some i, frame := some ⟨e, bytes, bytes, []⟩ }
        if (padOf s 1 p).isSome then spNext (s.emit (.serialBreak p (s.g Od.TRAY_BREAK_BITS) (s.g Od.TRAY_DELIM_BITS))) p else s

/-- TRAY_RESPONSE_TIMEOUT (R640, R641). -/
def execTrayResponseTimeout (p : Fin 4) (s : State) : Out :=
  act s fun s =>
    match s.serial.ports[p].frame with
    | some f => if f.back = [] then responseEnd s p f else s
    | none => s

/-- Entry to Held: frames in progress end ABORTED, and the tables restart at entry 0 afterwards (R636, R640). -/
def serialHeld (s : State) : State :=
  s.each (List.finRange 4) fun s p => (frameEnd s p 7).setSerial p fun q => { q with cur := none }

/-- Entry to Starting: transmission resumes (R636), and every table starts at entry 0 (R640). -/
def serialStart (s : State) : State :=
  s.each (List.finRange 4) fun s p => spNext (s.setSerial p fun q => { q with cur := none }) p

/-! ### Pads (R646, R647) -/

/-- A character that a port was transmitting is dropped, with its frame (R641, R647). -/
def txAbort (s : State) (p : Fin 4) : State :=
  let s := frameEnd s p 7
  if s.serial.ports[p].shift.isSome then
    raise ((s.setSerial p fun q => { q with shift := none }).inc Od.SP_ERR_CNT (8 * p + 6)) Src.spError (p + 256 * 3)
  else s

/-- A character that a port was receiving is discarded, with its frame (R641, R647). -/
def rxAbort (s : State) (p : Fin 4) (busy : Bool) : State :=
  let s := frameEnd s p 7
  if busy then raise (s.inc Od.SP_ERR_CNT (8 * p + 7)) Src.spError (p + 256 * 4) else s

/-- A pad leaves its function (R647 step 3). -/
def padLeave (s : State) (k : Fin 8) (rxBusy : BitVec 4) : State :=
  let v := s.g Od.PAD_FUNC k
  let p : Fin 4 := ⟨fieldOf v 5 4 % 4, Nat.mod_lt _ (by decide)⟩
  let s := if v % 8 = 1 then txAbort s p else if v % 8 = 2 then rxAbort s p (rxBusy.getLsbD p) else s
  s.p Od.PAD_FUNC k 0

/-- A write of PAD_FUNC[k] (R646, R647); `rxBusy` names the ports in the middle of a character. -/
def padWrite (s : State) (k : Fin 8) (v : Nat) (rxBusy : BitVec 4) : State × Nat :=
  if 4 < v % 8 ∨ v ≠ v % 8 + 16 * fieldOf v 5 4 then (s, 0x07)
  else
    let fn := v % 8
    let p : Fin 4 := ⟨fieldOf v 5 4 % 4, Nat.mod_lt _ (by decide)⟩
    let s := match if fn = 1 ∨ fn = 2 then padOf s fn p else none with
      | some o => if o = k then s else padLeave s o rxBusy
      | none => s
    let s := (padLeave s k rxBusy).p Od.PAD_FUNC k v
    (if fn = 1 then spNext s p else s, 0)

/-- PAD_FUNC (R646, R647). -/
def execPadFunc (who : Crib) (k : Fin 8) (v : Nat) (rxBusy : BitVec 4) (s : State) : Out :=
  actWrite who Od.PAD_FUNC k (fun s => padWrite s k v rxBusy) s

/-- A port's settings have changed at an apply instant: characters and a frame in progress are dropped, and the queues emptied when
their size changed (R647 and what coincides with it). -/
def serialApply (s : State) (p : Fin 4) (rxBusy sizeChanged : Bool) : State :=
  let s := rxAbort (txAbort s p) p rxBusy
  let s := s.setSerial p fun q => { q with cur := none, breakWait := false }
  let s := if sizeChanged then (s.setSerial p fun q => { q with rx := [], tx := [], lost := false }).p Od.SP_RX_LEVEL p 0 else s
  spNext s p

end Sys2Proof.Machine
end

