-- ==== Sys2Proof/Machine/Image.lean ====
section
/-! DEFINITION. Configuration images: what they hold, the pending set written over them, the CRC of R68, and the checks made on a
merged image before it is stored (R24 to R27, R68, R71, R76, R163, R337, R350, R398, R470, R502, R619, R645, R664). -/

namespace Sys2Proof.Machine

/-! ### Images -/

/-- The address word names an element of a WC object. -/
def isWc (k : Nat) : Bool := (objRow k).elim false fun r => r.1.acc == .wc

/-- The active image: the value of every WC object (R76). -/
def activeImage (s : State) : Image := ⟨s.od.filter fun p => isWc p.1, s.blobs.filter fun p => isWc p.1⟩

/-- Keyed entries of one list put over another. -/
def layOver {α : Type} (base top : Keyed α) : Keyed α := top.foldl (fun m p => m.insert p.1 p.2) base

/-- The state with another image active. -/
def State.withImage (s : State) (im : Image) : State :=
  { s with
    od := layOver (s.od.filter fun p => !isWc p.1) im.vals
    blobs := layOver (s.blobs.filter fun p => !isWc p.1) im.blobs }

/-- A pending value put into an image; a BLOB is held there without its length prefix. -/
def Image.put (im : Image) (k : Nat) (bytes : List Byte) : Image :=
  match objRow k with
  | some (r, _) =>
    if r.ty = .blob then { im with blobs := Keyed.put im.blobs k (bytes.drop 2) [] }
    else { im with vals := Keyed.put im.vals k (ofLe bytes) 0 }
  | none => im

/-- The merged image: the active image with every pending entry written over it (R71). -/
def mergedImage (s : State) : Image := s.dict.pendingSet.foldl (fun im p => im.put p.1 p.2.bytes) (activeImage s)

/-- The stream of R68 over the pending set, whose entries are kept in ascending order of address word. -/
def pendingStream (s : State) : List Byte :=
  s.dict.pendingSet.flatMap fun p => leBytes 4 p.1 ++ leBytes 2 p.2.bytes.length ++ p.2.bytes

/-- The value length of a type that is not STR32 or BLOB (R50). -/
def Ty.size : Ty → Nat
  | .u8 | .bool | .enum8 => 1
  | .u16 | .i16 | .q15 => 2
  | .u32 | .i32 | .q31 | .f32 | .bits32 => 4
  | .u64 | .i64 | .time64 => 8
  | .str32 => 32
  | .blob => 2

/-- The length of the stream of an image (R76): every element of every WC object. -/
def streamLength (im : Image) : Nat :=
  ((Od.table.filter fun r => r.acc == .wc).map fun r => (r.last + 1 - r.first) * (6 + r.ty.size)).sum +
    (im.blobs.map fun p => p.2.length).sum

/-! ### Checks of a merged image

`s` is the state under the active image and `t` the same state under the merged one; each check answers the address word of the first
object that fails. -/

/-- The first of a list of address words. -/
abbrev Bad := List Nat

/-- Name an element when a condition is broken. -/
def need (ok : Bool) (k : Nat) : Bad := if ok then [] else [k]

/-- Crib 0 and the enabled cribs, ascending. -/
def liveCribs (t : State) : List Nat := below 33 t.cribEnabled

/-- The element at which a running sum first exceeds a limit. -/
def sumLimit (t : State) (o : Ob) (limit : Nat) : Bad :=
  ((liveCribs t).foldl (fun (st : Nat × Bad) c =>
    let n := st.1 + t.g o c
    (n, st.2 ++ need (decide (n ≤ limit)) (o.el c))) (0, [])).2

/-- Group 0x10 (R163). -/
def checkCribs (s t : State) : Bad :=
  let size (c : Nat) : Nat := t.g Od.CRIB_GRANARY_SIZE c
  let base (c : Nat) : Nat := t.g Od.CRIB_GRANARY_BASE c
  ((List.range 33).flatMap fun c =>
    need (decide (t.g Od.CRIB_QP_MIN c ≤ t.g Od.CRIB_QP_MAX c)) (Od.CRIB_QP_MIN.el c) ++
    need (decide (t.g Od.CRIB_QP_MAX c ≤ 192)) (Od.CRIB_QP_MAX.el c) ++
    need (decide (t.g Od.CRIB_CTX_MIN c ≤ t.g Od.CRIB_CTX_MAX c)) (Od.CRIB_CTX_MIN.el c) ++
    need (decide (t.g Od.CRIB_CTX_MAX c ≤ 8192)) (Od.CRIB_CTX_MAX.el c)) ++
  sumLimit t Od.CRIB_QP_MIN 192 ++ sumLimit t Od.CRIB_CTX_MIN 8064 ++
  ((liveCribs t).flatMap fun c => need (decide (base c + size c ≤ 128)) (Od.CRIB_GRANARY_SIZE.el c)) ++
  ((liveCribs t).flatMap fun c => need (!((liveCribs t).any fun d =>
      decide (d < c) && size c != 0 && size d != 0 && decide (base c < base d + size d ∧ base d < base c + size c)))
    (Od.CRIB_GRANARY_BASE.el c)) ++
  (((liveCribs t).filter (· ≠ 0)).flatMap fun c => need (t.g Od.CRIB_SHELF_WAYS c != 0) (Od.CRIB_SHELF_WAYS.el c)) ++
  ((List.finRange 33).flatMap fun c =>
    need (decide (max (sqUnits s c) (cqUnits s c) ≤ t.g Od.CRIB_QP_MAX c)) (Od.CRIB_QP_MAX.el c))

/-- Interface `i` is active (R447). -/
def ifaceOn (t : State) (i : Nat) : Bool := decide (t.g Od.NET_IF_PORT i ≤ 1)

/-- The IPv6 address of interface `i`, 0 for none. -/
def ifaceV6 (t : State) (i : Nat) : Nat := t.g Od.NET_IF_IPV6 (2 * i) * 2 ^ 64 + t.g Od.NET_IF_IPV6 (2 * i + 1)

/-- Group 0x21 (R470). -/
def checkNet (t : State) : Bad :=
  let on := below 32 (ifaceOn t)
  let bound := below 64 fun i => t.g Od.NVT_BIND_CRIB i != 0
  let nqn (i : Nat) : List Byte := t.blob Od.NVT_BIND_HOSTNQN i
  let sub := t.blob Od.NVT_SUBNQN
  (on.flatMap fun i =>
    need (decide (t.g Od.NET_IF_VLAN i ≤ 4094)) (Od.NET_IF_VLAN.el i) ++
    need (t.g Od.NET_IF_IPV4 i != 0 || ifaceV6 t i != 0) (Od.NET_IF_IPV4.el i) ++
    need (decide (t.g Od.NET_IF_IPV4_PFX i ≤ 32)) (Od.NET_IF_IPV4_PFX.el i) ++
    need (decide (t.g Od.NET_IF_IPV6_PFX i ≤ 128)) (Od.NET_IF_IPV6_PFX.el i) ++
    need (t.g Od.NET_PORT_EN (t.g Od.NET_IF_PORT i) == 1) (Od.NET_IF_PORT.el i)) ++
  (on.flatMap fun i => need (!(on.any fun j => decide (j < i) && t.g Od.NET_IF_PORT j == t.g Od.NET_IF_PORT i &&
      t.g Od.NET_IF_VLAN j == t.g Od.NET_IF_VLAN i)) (Od.NET_IF_VLAN.el i)) ++
  (on.flatMap fun i =>
    need (!(on.any fun j => decide (j < i) && t.g Od.NET_IF_IPV4 i != 0 && t.g Od.NET_IF_IPV4 j == t.g Od.NET_IF_IPV4 i))
      (Od.NET_IF_IPV4.el i) ++
    need (!(on.any fun j => decide (j < i) && ifaceV6 t i != 0 && ifaceV6 t j == ifaceV6 t i)) (Od.NET_IF_IPV6.el (2 * i))) ++
  need (decide (1 ≤ sub.length ∧ sub.length ≤ 223) && sub.take 4 == asciiBytes "nqn.") (Od.NVT_SUBNQN.el 0) ++
  (bound.flatMap fun i => need
    (decide (t.g Od.NVT_BIND_CRIB i ≤ 32) && t.cribEnabled (t.g Od.NVT_BIND_CRIB i) &&
      decide (1 ≤ (nqn i).length ∧ (nqn i).length ≤ 223) && on.any fun j => t.g Od.NET_IF_VLAN j == t.g Od.NVT_BIND_VLAN i)
    (Od.NVT_BIND_CRIB.el i)) ++
  (bound.flatMap fun i => need (!(bound.any fun j => decide (j < i) && nqn j == nqn i &&
      t.g Od.NVT_BIND_VLAN j == t.g Od.NVT_BIND_VLAN i)) (Od.NVT_BIND_HOSTNQN.el i)) ++
  need (decide (t.g Od.NET_PFC_XON < t.g Od.NET_PFC_XOFF ∧ t.g Od.NET_PFC_XOFF ≤ 256)) (Od.NET_PFC_XOFF.el 0)

/-- Group 0x34 (R350). -/
def checkCal (t : State) : Bad :=
  ((List.range 6).flatMap fun e => need
    (decide (t.g Od.WRITE_PWR_MIN e ≤ t.g Od.WRITE_PWR_INIT e ∧ t.g Od.WRITE_PWR_INIT e ≤ t.g Od.WRITE_PWR_MAX e ∧
      t.g Od.WRITE_PWR_MAX e ≤ 16000)) (Od.WRITE_PWR_INIT.el e)) ++
  (List.range 2).flatMap fun m =>
    need (decide (t.g Od.WS_FIRST_START m + t.g Od.WS_FIRST_W m ≤ 16)) (Od.WS_FIRST_W.el m) ++
    need (decide (t.g Od.WS_MULTI_W m ≤ 16)) (Od.WS_MULTI_W.el m) ++
    need (decide (t.g Od.WS_COOL_W m ≤ 32)) (Od.WS_COOL_W.el m)

/-- A member entry of family `f` in a DISC_STOOK word (R332). -/
def memberOf (w f : Nat) : Bool := w.testBit 31 && fieldOf w 9 0 == f

/-- Group 0x35 (R337). -/
def checkStooks (s t : State) : Bad :=
  let km (f : Nat) : Nat := t.g Od.STOOK_FAM_KM f
  let size (f : Nat) : Nat := fieldOf (km f) 3 0 + fieldOf (km f) 6 4
  let used := below 768 fun f => km f != 0
  let member := below 1536 fun d => (t.g Od.DISC_STOOK d).testBit 31
  (used.flatMap fun f => need
    (decide (1 ≤ fieldOf (km f) 3 0 ∧ fieldOf (km f) 3 0 ≤ 14 ∧ 1 ≤ fieldOf (km f) 6 4 ∧ fieldOf (km f) 6 4 ≤ 4 ∧ size f ≤ 16))
    (Od.STOOK_FAM_KM.el f)) ++
  (member.flatMap fun d =>
    let w := t.g Od.DISC_STOOK d
    need (km (fieldOf w 9 0) != 0 && decide (fieldOf w 13 10 < size (fieldOf w 9 0)) && t.discDeclared d) (Od.DISC_STOOK.el d)) ++
  (used.flatMap fun f =>
    let ds := member.filter fun d => memberOf (t.g Od.DISC_STOOK d) f
    let media := ds.map fun d => t.g Od.MAG_MEDIA (magOf d)
    need (((List.range (size f)).all fun p => (ds.filter fun d => fieldOf (t.g Od.DISC_STOOK d) 13 10 == p).length == 1) &&
      media.all fun m => media.head? == some m) (Od.STOOK_FAM_KM.el f)) ++
  (below 768 fun f => s.g Od.STOOK_WRITTEN f == 1).flatMap fun f =>
    need (s.g Od.STOOK_FAM_KM f == km f) (Od.STOOK_FAM_KM.el f) ++
    (below 1536 fun d => (memberOf (s.g Od.DISC_STOOK d) f || memberOf (t.g Od.DISC_STOOK d) f) &&
      s.g Od.DISC_STOOK d != t.g Od.DISC_STOOK d).map Od.DISC_STOOK.el

/-- A target lies within an axis's limits. -/
def withinAxis (t : State) (a : Nat) (x : Int) : Bool := decide (t.gi Od.MOT_POS_MIN a ≤ x ∧ x ≤ t.gi Od.MOT_POS_MAX a)

/-- Group 0x40 (R398). -/
def checkMotion (t : State) : Bad :=
  let steppers := below 20 (· != 16)
  (steppers.flatMap fun a => need (decide (t.g Od.MOT_HOME_V a ≤ t.g Od.MOT_V_MAX a ∧ t.g Od.MOT_V_MAX a ≤ 10240000)) (Od.MOT_V_MAX.el a)) ++
  (steppers.flatMap fun a => need
    (decide (t.g Od.MOT_I_HOLD a ≤ t.g Od.MOT_I_RUN a ∧ t.g Od.MOT_I_RUN a ≤ t.g Od.MOT_I_CEIL a ∧ t.g Od.MOT_I_CEIL a ≤ 2500))
    (Od.MOT_I_CEIL.el a)) ++
  (steppers.flatMap fun a => need (decide (t.g Od.MOT_LA_SET a < t.g Od.MOT_LA_STALL a ∧ t.g Od.MOT_LA_STALL a ≤ 16384)) (Od.MOT_LA_STALL.el a)) ++
  ((List.range 20).flatMap fun a => need (decide (t.g Od.MOT_A_MAX a ≤ t.g Od.MOT_STOP_DECEL a)) (Od.MOT_STOP_DECEL.el a)) ++
  ((List.range 20).flatMap fun a => need (decide (t.gi Od.MOT_POS_MIN a < t.gi Od.MOT_POS_MAX a)) (Od.MOT_POS_MIN.el a)) ++
  need (withinAxis t 17 (t.gi Od.PICK_ELEV_SLOT0)) (Od.PICK_ELEV_SLOT0.el 0) ++
  need (withinAxis t 17 (t.gi Od.PICK_ELEV_SLOT0 + 63 * t.gi Od.PICK_ELEV_PITCH)) (Od.PICK_ELEV_PITCH.el 0) ++
  ((List.range 16).flatMap fun n => need (withinAxis t 17 (t.gi Od.PICK_DRV_ELEV n)) (Od.PICK_DRV_ELEV.el n)) ++
  need (withinAxis t 18 (t.gi Od.PICK_REACH_MAG)) (Od.PICK_REACH_MAG.el 0) ++
  need (withinAxis t 18 (t.gi Od.PICK_REACH_DRV)) (Od.PICK_REACH_DRV.el 0) ++
  need (withinAxis t 19 (t.gi Od.PICK_JAW_GRIP)) (Od.PICK_JAW_GRIP.el 0)

/-- The DRAM capacity in GiB (R25, R26). -/
def dramGiB (t : State) : Nat :=
  let g := t.g Od.DRAM_GEOM
  2 * fieldOf g 3 0 * (8 * (fieldOf g 7 4 + 1))

/-- The sizes that only change while Held (R502). -/
def heldSizes : List Ob := [Od.SHELF_STAGE_WAYS, Od.HAYLOFT_SIZE, Od.HAYLOFT_STAGE_SIZE, Od.HAYLOFT_LAND]

/-- Group 0x50 (R502). -/
def checkCache (s t : State) : Bad :=
  let ways := t.g Od.SHELF_STAGE_WAYS
  let n := (below 32 ways.testBit).length
  need (decide (1 ≤ n ∧ n ≤ 6 ∧ ways < 4096)) (Od.SHELF_STAGE_WAYS.el 0) ++
  ((liveCribs t).flatMap fun c => need ((List.range 12).any fun i => t.gb Od.CRIB_SHELF_WAYS c i && !ways.testBit i)
    (Od.CRIB_SHELF_WAYS.el c)) ++
  need (decide (1024 * (t.g Od.HAYLOFT_SIZE + t.g Od.HAYLOFT_STAGE_SIZE + 8) + t.g Od.HAYLOFT_LAND ≤ 1024 * dramGiB t))
    (Od.HAYLOFT_SIZE.el 0) ++
  heldSizes.flatMap fun o => need (s.g o == t.g o || s.isDev .held || s.isDev .booting) (o.el 0)

/-- An owner is 0xFF, 0 or an enabled crib. -/
def ownerOk (t : State) (c : Nat) : Bool := c == 0xFF || t.cribEnabled c

/-- Groups 0x61 and 0x62 (R619). -/
def checkEvents (t : State) : Bad :=
  ((List.range 32).flatMap fun i => need (ownerOk t (t.g Od.MBX_OWNER i)) (Od.MBX_OWNER.el i)) ++
  ((List.range 256).flatMap fun i => need (ownerOk t (t.g Od.DB_OWNER i)) (Od.DB_OWNER.el i)) ++
  ((List.range 32).flatMap fun i => need (decide (t.g Od.MBX_WRITERS i < 2 ^ 33)) (Od.MBX_WRITERS.el i)) ++
  ((List.range 256).flatMap fun i => need (decide (t.g Od.DB_WRITERS i < 2 ^ 33)) (Od.DB_WRITERS.el i)) ++
  ((List.range 8).flatMap fun r => need (ownerOk t (t.g Od.EVR_OWNER r)) (Od.EVR_OWNER.el r))

/-- The least SLOT of an entry in ms at a port's actual rate (R625, R640, R645). -/
def slotLeast (t : State) (p len : Nat) : Nat :=
  let bits := t.g Od.TRAY_BREAK_BITS + t.g Od.TRAY_DELIM_BITS + 20 + 10 * (len + 1)
  let div := if t.g Od.SP_RATE p = 0 then 0 else (roundRat (100000000 / (16 * (t.g Od.SP_RATE p : Rat)))).toNat
  (14 * bits * 16 * div + 999999) / 1000000

/-- Group 0x63 (R645). -/
def checkSerial (t : State) : Bad :=
  ((List.range 4).flatMap fun p => need (decide (t.g Od.SP_MODE p ≤ if p = 0 then 1 else 2)) (Od.SP_MODE.el p)) ++
  ((List.range 4).flatMap fun p => need (decide (1000 ≤ t.g Od.SP_RATE p ∧ t.g Od.SP_RATE p ≤ 115200)) (Od.SP_RATE.el p)) ++
  ((List.range 4).flatMap fun p => need (t.g Od.SP_MODE p != 2 || t.g Od.SP_FORMAT p == 0) (Od.SP_FORMAT.el p)) ++
  ([1, 2, 3] : List Nat).flatMap fun p => (List.range (tableLength t p)).flatMap fun i =>
    let e := 64 * (p - 1) + i
    let w := entryWord t e
    need (decide (fieldOf w 5 0 ≤ 59 ∧ 1 ≤ entryLen w ∧ entryLen w ≤ 8 ∧ slotLeast t p (entryLen w) ≤ fieldOf w 27 20) &&
      !w.testBit 6 && fieldOf w 15 13 == 0 && fieldOf w 30 28 == 0) (Od.TRAY_ENTRY.el e)

/-- Group 0x70 (R664). -/
def checkLedger (t : State) : Bad :=
  need (t.g Od.DEMAND_MIN != 0 && 60 % t.g Od.DEMAND_MIN == 0) (Od.DEMAND_MIN.el 0) ++
  (List.range 20).flatMap fun a => need (decide (100 ≤ t.g Od.LEDGER_STEP_R a ∧ t.g Od.LEDGER_STEP_R a ≤ 100000)) (Od.LEDGER_STEP_R.el a)

/-- The cross-object checks in ascending group order (R71 step 6): the first failing object. -/
def crossCheck (s : State) (im : Image) : Option Nat :=
  let t := s.withImage im
  (checkCribs s t ++ checkNet t ++ checkCal t ++ checkStooks s t ++ checkMotion t ++ checkCache s t ++ checkEvents t ++
    checkSerial t ++ checkLedger t).head?

/-! ### The population of an image (R23 to R29) -/

def Image.g (im : Image) (o : Ob) (e : Nat := 0) : Nat := Keyed.getD im.vals (o.el e) 0
def Image.gb (im : Image) (o : Ob) (i : Nat) : Bool := (im.g o).testBit i

/-- DRAM_GEOM holds only listed values (R25). -/
def geomOk (g : Nat) : Bool :=
  decide (1 ≤ fieldOf g 3 0 ∧ fieldOf g 3 0 ≤ 2 ∧ 1 ≤ fieldOf g 7 4 ∧ fieldOf g 7 4 ≤ 3 ∧ g < 65536) &&
  [32, 36, 40, 44, 48].contains (fieldOf g 15 8)

/-- The bits of POP_FAULT that step 1 of R27 sets. -/
def popStep1 (im : Image) : Nat :=
  let ok := decide (im.g Od.DRIVE_DECL < 65536 ∧ im.g Od.STAGE_DECL < 32 ∧ im.g Od.MAG_DECL < 2 ^ 24) &&
    (below 24 (im.gb Od.MAG_DECL)).all fun m => im.g Od.MAG_MEDIA m == 1 || im.g Od.MAG_MEDIA m == 2
  (if geomOk (im.g Od.DRAM_GEOM) then 0 else 2 ^ 21) + (if ok then 0 else 2 ^ 22)

/-- The bits of POP_FAULT that step 2 of R27 sets. -/
def popStep2 (im : Image) : Nat :=
  if ((below 16 (im.gb Od.DRIVE_DECL)).all fun n => im.gb Od.STAGE_DECL (n / 4)) && (im.g Od.MAG_DECL == 0 || im.gb Od.STAGE_DECL 4)
  then 0 else 2 ^ 22

end Sys2Proof.Machine
end

