-- ==== Sys2Proof/Machine/Sequencer.lean ====
section
/-! DEFINITION. The sequencers' instructions (R556 to R564). A row of an instruction takes effect when that instruction is what
the sequencer fetches. -/

namespace Sys2Proof.Machine

/-! ### Fetching and decoding -/

/-- What a fetch at the program counter finds (R557, R578, R581). -/
inductive Fetch where
  | word (w : Nat)
  | outside
  | poison
  deriving DecidableEq, Repr

/-- The fetch at a job's program counter. -/
def fetchAt (s : State) (j : JobRun) : Fetch :=
  if inWindow s j.crib j.pc 4 = false then .outside
  else if s.poisoned j.pc 4 then .poison
  else .word (gWord s.granary j.pc)

/-- The bits that an opcode's format does not use (R557, R558); none for an undefined opcode. -/
def unusedBits (op : Nat) : Option Nat :=
  if op ≤ 0x01 then some 0x03FFFFFF
  else if op ≤ 0x03 then some 0x003F0000
  else if op ≤ 0x0E then some 0x00003FFF
  else if 0x10 ≤ op ∧ op ≤ 0x13 then some 0
  else if 0x14 ≤ op ∧ op ≤ 0x16 then some 0x0003FFE0
  else if op = 0x18 ∨ op = 0x19 then some 0
  else if 0x20 ≤ op ∧ op ≤ 0x26 then some 0
  else if op = 0x28 then some 0x000FF000
  else if op = 0x29 then some 0x0003FFFF
  else if op = 0x2A ∨ op = 0x2B ∨ op = 0x2C then some 0x00C3FFFF
  else if op = 0x30 then some 0x00C000F0
  else if op = 0x31 then some 0x03FFFFF0
  else none

/-- A word that is an instruction of the sequencer (R558). -/
def legalWord (w : Nat) : Bool :=
  match unusedBits (w >>> 26) with
  | some m => (w &&& m) == 0
  | none => false

/-- A sequencer's next instruction issues: its job has neither stopped nor reached HALT. -/
def State.issuing (s : State) (sq : Fin 4) : Option JobRun :=
  match s.thresh.seq[sq] with
  | some j => if j.stop.isSome || j.halted then none else some j
  | none => none

/-- The effect of the instruction with opcode `op`, when that is what the sequencer fetches. -/
def seqOp (sq : Fin 4) (op : Nat) (f : State → JobRun → Nat → State) (s : State) : State :=
  match s.issuing sq with
  | none => s
  | some j =>
    match fetchAt s j with
    | .word w => if w >>> 26 = op ∧ legalWord w = true then f s j w else s
    | _ => s

/-- A synchronous exception: the instruction at the program counter stops the job with no effect (R581). A failed bounds check
counts as a violation of the crib (R578): code 3 for the sequencer's own accesses, 0 for an engine's operand, 2 for a
namespace. -/
def trap (s : State) (sq : Fin 4) (n : Nat) (viol : Option Nat := none) : State :=
  match s.thresh.seq[sq] with
  | none => s
  | some j =>
    let s := match viol with
      | some v => cribViol s j.crib v
      | none => s
    stopJob s sq (.cause n 0)

/-! ### Fields and registers -/

/-- A register by number. -/
def JobRun.reg (j : JobRun) (i : Nat) : Word32 := if h : i < 16 then j.g[i] else 0

/-- Write a register. -/
def JobRun.setReg (j : JobRun) (i : Nat) (v : Word32) : JobRun := if h : i < 16 then { j with g := j.g.set i v } else j

/-- An address register by number. -/
def JobRun.areg (j : JobRun) (k : Nat) : Word32 := if h : k < 4 then j.a[k] else 0

def JobRun.setAreg (j : JobRun) (k : Nat) (v : Word32) : JobRun := if h : k < 4 then { j with a := j.a.set k v } else j

/-- INC[L][k]. -/
def JobRun.incAt (j : JobRun) (l k : Nat) : Word32 := if h : 4 * l + k < 16 then j.inc[4 * l + k] else 0

/-- The instruction's fields (R557). -/
def fD (w : Nat) : Nat := fieldOf w 25 22
def fA (w : Nat) : Nat := fieldOf w 21 18
def fB (w : Nat) : Nat := fieldOf w 17 14
def imm18s (w : Nat) : Word32 := BitVec.ofInt 32 (toInt 18 w)
def imm18z (w : Nat) : Word32 := BitVec.ofNat 32 (w % 2 ^ 18)

/-! ### Sequencing -/

/-- A level holds an address: from its start to its end (R562). -/
def LoopLvl.holds (l : LoopLvl) (a : Nat) : Bool := decide (l.start ≤ a ∧ a ≤ l.stop)

/-- Continue at an address: a level that does not hold it closes, with every level inside it (R562). -/
def JobRun.goto (j : JobRun) (a : Nat) : JobRun :=
  let a := a % 2 ^ 32
  { j with pc := a, loops := (j.loops.reverse.takeWhile fun l => l.holds a).reverse }

/-- The ends of the levels whose last instruction is at the program counter, innermost first (R561): increments are added, a
count left restarts its level, and a level whose count is used up closes. `fuel` is the number of levels. -/
def JobRun.endLoops : Nat → JobRun → Nat → JobRun
  | 0, j, next => j.goto next
  | fuel + 1, j, next =>
    match j.loops with
    | [] => j.goto next
    | l :: rest =>
      if l.stop ≠ j.pc then j.goto next
      else
        let j := (List.range 4).foldl (fun j k => j.setAreg k (j.areg k + j.incAt rest.length k)) j
        if 1 < l.count then { j with pc := l.start, loops := { l with count := l.count - 1 } :: rest }
        else JobRun.endLoops fuel { j with loops := rest } next

/-- An instruction completes without a taken branch (R561). -/
def JobRun.after (j : JobRun) (next : Nat) : JobRun := JobRun.endLoops j.loops.length j next

/-- The instruction completes, with the job as changed. -/
def seqDone (s : State) (sq : Fin 4) (j : JobRun) : State := setSeq s sq (some (j.after (j.pc + 4)))

/-- An instruction with a result for gd. -/
def seqSet (sq : Fin 4) (op : Nat) (f : JobRun → Nat → Word32) (s : State) : Out :=
  actGranary s (seqOp sq op fun s j w => seqDone s sq (j.setReg (fD w) (f j w)))

/-- A three-register instruction. -/
def seqAlu (sq : Fin 4) (op : Nat) (f : Word32 → Word32 → Word32) (s : State) : Out :=
  seqSet sq op (fun j w => f (j.reg (fA w)) (j.reg (fB w))) s

/-- A branch: taken when its two registers compare so (R558). -/
def seqBranch (sq : Fin 4) (op : Nat) (f : Word32 → Word32 → Bool) (s : State) : Out :=
  actGranary s (seqOp sq op fun s j w =>
    if f (j.reg (fD w)) (j.reg (fA w)) then
      setSeq s sq (some (j.goto (((j.pc : Int) + 4 * toInt 18 w) % 2 ^ 32).toNat))
    else seqDone s sq j)

/-! ### Instructions -/

/-- NOP (R558). -/
def execNop (sq : Fin 4) (s : State) : Out := actGranary s (seqOp sq 0x00 fun s j _ => seqDone s sq j)

/-- HALT: the job ends once its queues are empty and their commands have ended (R580). -/
def execHalt (sq : Fin 4) (s : State) : Out :=
  actGranary s (seqOp sq 0x01 fun s j _ => jobSettle (setSeq s sq (some { j with halted := true })) sq)

/-- LIL (R558). -/
def execLil (sq : Fin 4) (s : State) : Out := seqSet sq 0x02 (fun _ w => BitVec.ofInt 32 (toInt 16 w)) s

/-- LIH (R558). -/
def execLih (sq : Fin 4) (s : State) : Out :=
  seqSet sq 0x03 (fun j w => BitVec.ofNat 32 (w % 65536 * 65536 + (j.reg (fD w)).toNat % 65536)) s

/-- ADD (R558). -/
def execAdd (sq : Fin 4) (s : State) : Out := seqAlu sq 0x04 (· + ·) s

/-- SUB (R558). -/
def execSub (sq : Fin 4) (s : State) : Out := seqAlu sq 0x05 (· - ·) s

/-- AND (R558). -/
def execAnd (sq : Fin 4) (s : State) : Out := seqAlu sq 0x06 (· &&& ·) s

/-- OR (R558). -/
def execOr (sq : Fin 4) (s : State) : Out := seqAlu sq 0x07 (· ||| ·) s

/-- XOR (R558). -/
def execXor (sq : Fin 4) (s : State) : Out := seqAlu sq 0x08 (· ^^^ ·) s

/-- SHL (R558). -/
def execShl (sq : Fin 4) (s : State) : Out := seqAlu sq 0x09 (fun a b => a <<< (b.toNat % 32)) s

/-- SHR (R558). -/
def execShr (sq : Fin 4) (s : State) : Out := seqAlu sq 0x0A (fun a b => a >>> (b.toNat % 32)) s

/-- SAR: copies the sign (R558). -/
def execSar (sq : Fin 4) (s : State) : Out := seqAlu sq 0x0B (fun a b => a.sshiftRight (b.toNat % 32)) s

/-- MUL: the low 32 bits (R558). -/
def execMul (sq : Fin 4) (s : State) : Out := seqAlu sq 0x0C (· * ·) s

/-- MINU (R558). -/
def execMinu (sq : Fin 4) (s : State) : Out := seqAlu sq 0x0D (fun a b => if a.ult b then a else b) s

/-- MAXU (R558). -/
def execMaxu (sq : Fin 4) (s : State) : Out := seqAlu sq 0x0E (fun a b => if a.ult b then b else a) s

/-- ADDI (R558). -/
def execAddi (sq : Fin 4) (s : State) : Out := seqSet sq 0x10 (fun j w => j.reg (fA w) + imm18s w) s

/-- ANDI (R558). -/
def execAndi (sq : Fin 4) (s : State) : Out := seqSet sq 0x11 (fun j w => j.reg (fA w) &&& imm18z w) s

/-- ORI (R558). -/
def execOri (sq : Fin 4) (s : State) : Out := seqSet sq 0x12 (fun j w => j.reg (fA w) ||| imm18z w) s

/-- XORI (R558). -/
def execXori (sq : Fin 4) (s : State) : Out := seqSet sq 0x13 (fun j w => j.reg (fA w) ^^^ imm18z w) s

/-- SHLI (R558). -/
def execShli (sq : Fin 4) (s : State) : Out := seqSet sq 0x14 (fun j w => j.reg (fA w) <<< (w % 32)) s

/-- SHRI (R558). -/
def execShri (sq : Fin 4) (s : State) : Out := seqSet sq 0x15 (fun j w => j.reg (fA w) >>> (w % 32)) s

/-- SARI (R558). -/
def execSari (sq : Fin 4) (s : State) : Out := seqSet sq 0x16 (fun j w => (j.reg (fA w)).sshiftRight (w % 32)) s

/-- The address of an LD or ST (R558). -/
def memAddr (j : JobRun) (w : Nat) : Nat := (j.reg (fA w) + imm18s w).toNat

/-- A word access by the sequencer: in the window, then aligned (R559, R581). -/
def seqAccess (s : State) (sq : Fin 4) (j : JobRun) (a : Nat) (f : State) : State :=
  if inWindow s j.crib a 4 = false then trap s sq 3 (some 3)
  else if a % 4 ≠ 0 then trap s sq 4
  else f

/-- LD (R558, R559, R581). -/
def execLd (sq : Fin 4) (s : State) : Out :=
  actGranary s (seqOp sq 0x18 fun s j w =>
    let a := memAddr j w
    seqAccess s sq j a (if s.poisoned a 4 then trap s sq 12
      else seqDone s sq (j.setReg (fD w) (BitVec.ofNat 32 (gWord s.granary a)))))

/-- ST (R558, R559). -/
def execSt (sq : Fin 4) (s : State) : Out :=
  actGranary s (seqOp sq 0x19 fun s j w =>
    let a := memAddr j w
    seqAccess s sq j a (seqDone (granaryStore s a (leBytes 4 (j.reg (fD w)).toNat)) sq j))

/-- BEQ (R558, R562). -/
def execBeq (sq : Fin 4) (s : State) : Out := seqBranch sq 0x20 (· == ·) s

/-- BNE (R558, R562). -/
def execBne (sq : Fin 4) (s : State) : Out := seqBranch sq 0x21 (· != ·) s

/-- BLT: signed (R558, R562). -/
def execBlt (sq : Fin 4) (s : State) : Out := seqBranch sq 0x22 (fun a b => a.slt b) s

/-- BGE: signed (R558, R562). -/
def execBge (sq : Fin 4) (s : State) : Out := seqBranch sq 0x23 (fun a b => !a.slt b) s

/-- BLTU (R558, R562). -/
def execBltu (sq : Fin 4) (s : State) : Out := seqBranch sq 0x24 (fun a b => a.ult b) s

/-- BGEU (R558, R562). -/
def execBgeu (sq : Fin 4) (s : State) : Out := seqBranch sq 0x25 (fun a b => !a.ult b) s

/-- JMP (R558, R562). -/
def execJmp (sq : Fin 4) (s : State) : Out :=
  actGranary s (seqOp sq 0x26 fun s j w => setSeq s sq (some (j.goto (((j.pc : Int) + 4 * toInt 26 w) % 2 ^ 32).toNat)))

/-- LOOP (R560). -/
def execLoop (sq : Fin 4) (s : State) : Out :=
  actGranary s (seqOp sq 0x28 fun s j w =>
    let len := w % 4096
    let n := (j.reg (fieldOf w 23 20)).toNat
    let stop := j.pc + 4 * len
    if len = 0 then trap s sq 1
    else if n = 0 then setSeq s sq (some (j.after (stop + 4)))
    else if fieldOf w 25 24 ≠ j.loops.length ∨ (j.loops.head?.elim false fun l => decide (l.stop < stop)) = true then trap s sq 5
    else setSeq s sq (some { j with pc := j.pc + 4, loops := ⟨j.pc + 4, stop, n⟩ :: j.loops }))

/-- SETINC (R558). -/
def execSetinc (sq : Fin 4) (s : State) : Out :=
  actGranary s (seqOp sq 0x29 fun s j w =>
    let i := 4 * fieldOf w 25 24 + fieldOf w 23 22
    seqDone s sq (if h : i < 16 then { j with inc := j.inc.set i (j.reg (fA w)) } else j))

/-- MOVA (R558). -/
def execMova (sq : Fin 4) (s : State) : Out :=
  actGranary s (seqOp sq 0x2A fun s j w => seqDone s sq (j.setAreg (fieldOf w 25 24) (j.reg (fA w))))

/-- RDA (R558). -/
def execRda (sq : Fin 4) (s : State) : Out :=
  actGranary s (seqOp sq 0x2B fun s j w => seqDone s sq (j.setReg (fA w) (j.areg (fieldOf w 25 24))))

/-- LCNT: the count left of a level, 0 when it is closed (R558). -/
def execLcnt (sq : Fin 4) (s : State) : Out :=
  actGranary s (seqOp sq 0x2C fun s j w =>
    seqDone s sq (j.setReg (fA w) (BitVec.ofNat 32 ((j.loops.reverse[fieldOf w 25 24]?).elim 0 fun l => l.count))))

/-- FENCE: waits, with no effect, until the queues of QMASK are empty (R558). -/
def execFence (sq : Fin 4) (s : State) : Out :=
  actGranary s (seqOp sq 0x31 fun s j w =>
    if (List.finRange 4).all fun q => !w.testBit q || j.queues[q].isEmpty then seqDone s sq j else s)

/-- ILLEGAL_INSTRUCTION: the word fetched is no instruction (R558), or cannot be fetched: it lies outside the window (R578) or is
poisoned (R581). -/
def execIllegalInstruction (sq : Fin 4) (s : State) : Out :=
  actGranary s fun s =>
    match s.issuing sq with
    | none => s
    | some j =>
      match fetchAt s j with
      | .outside => trap s sq 2 (some 3)
      | .poison => trap s sq 12
      | .word w => if legalWord w then s else trap s sq 1

end Sys2Proof.Machine
end

