-- ==== Sys2Proof/Machine/Engines.lean ====
section
/-! DEFINITION. PUSH and the engines' commands (R563 to R577): what a command may hold, what it reads and writes, and the rows by
which it is dispatched and ends. -/

namespace Sys2Proof.Machine

/-! ### The format of a command -/

/-- Class, operation and options of word 0 (R563), and word `i`. -/
def EngCmd.w (c : EngCmd) (i : Nat) : Nat := c.words.getD i 0
def EngCmd.cls (c : EngCmd) : Nat := fieldOf (c.w 0) 3 0
def EngCmd.op (c : EngCmd) : Nat := fieldOf (c.w 0) 15 8
def EngCmd.opts (c : EngCmd) : Nat := fieldOf (c.w 0) 31 16

/-- Coefficient c_i of a LINCOMB (R571). -/
def EngCmd.coef (c : EngCmd) (i : Nat) : Nat := fieldOf (c.w 6) (8 * i + 7) (8 * i)

/-- Lane width and stride of a vector command, in bytes, and its flags (R575). -/
def EngCmd.lane (c : EngCmd) : Nat := 2 ^ (c.opts % 4)
def EngCmd.stride (c : EngCmd) : Nat := if c.opts / 16 = 0 then c.lane else c.opts / 16
def EngCmd.signed (c : EngCmd) : Bool := c.opts.testBit 2
def EngCmd.scalar (c : EngCmd) : Bool := c.opts.testBit 3
def EngCmd.reduces (c : EngCmd) : Bool := c.op == 16 || c.op == 17 || c.op == 18

/-- First LBA of a READ_NS (R568). -/
def EngCmd.lba (c : EngCmd) : Nat := (c.w 6 + 2 ^ 32 * c.w 7 + c.w 3) % 2 ^ 64

/-- Words of a command that are 0. -/
def EngCmd.zero (c : EngCmd) (l : List Nat) : Bool := l.all fun i => c.w i == 0

/-- A command keeps its format: class, operation, options, lengths, alignment, and zero in every word that the format does not
define (R563, R568, R571, R572, R574, R575). -/
def EngCmd.legal (c : EngCmd) : Bool :=
  fieldOf (c.w 0) 7 4 == 0 &&
  (match c.cls, c.op with
  | 1, 1 => c.opts == 0 && c.w 1 != 0 && c.zero [4, 5, 6, 7]
  | 1, 2 => c.opts == 0 && c.w 1 != 0 && c.w 1 % 4 == 0 && c.w 2 % 4 == 0 && c.zero [3, 4, 5, 7]
  | 1, 3 => c.opts == 0 && decide (1 ≤ c.w 1 ∧ c.w 1 ≤ 256) && c.zero [5]
  | 1, 4 => c.opts == 0 && c.w 1 != 0 && c.zero [4, 5, 6, 7]
  | 2, 1 => c.opts == 0 && c.w 1 != 0 && c.zero [7] && (List.range 3).all fun i => c.coef i != 0 || c.w (3 + i) == 0
  | 2, 2 => c.opts == 0 && c.w 1 != 0 && c.zero [5, 6, 7]
  | 3, 1 => c.opts == 0 && c.zero [1, 3, 4, 5, 6, 7]
  | 3, 2 => c.opts == 0 && c.w 1 != 0 && c.zero [4, 5, 6, 7]
  | 3, 3 => c.opts == 0 && c.zero [1, 3, 5, 6, 7]
  | 3, 4 => c.opts == 0 && c.w 1 != 0 && c.zero [2, 5, 6, 7]
  | 3, 5 => c.opts == 0 && c.w 1 != 0 && c.zero [4, 5, 6, 7]
  | 3, 6 => c.opts == 0 && c.w 1 != 0 && c.zero [2, 5, 6, 7]
  | 4, op => (op == 1 || op == 2) && c.opts / 8 == 0 && decide (c.w 1 ≤ 8388608 ∧ c.w 7 ≤ 65536) && (c.w 1 != 0 || c.w 7 != 0)
  | 5, op =>
    (decide (1 ≤ op ∧ op ≤ 9) || c.reduces) && c.w 1 != 0 && c.zero [5] && (!c.scalar || c.w 4 == 0) &&
    (c.scalar || c.zero [6, 7]) && (op != 16 || (!c.scalar && c.w 4 == 0)) &&
    c.w 2 % (if c.reduces then 8 else c.lane) == 0 && c.w 3 % c.lane == 0 && c.w 4 % c.lane == 0 && c.stride % c.lane == 0
  | _, _ => false)

/-- The lanes of a vector source at an address. -/
def EngCmd.lanes (c : EngCmd) (a : Nat) : List (Nat × Nat) := (List.range (c.w 1)).map fun i => (a + i * c.stride, c.lane)

/-- The Granary operands of a command with their extents (R577): those it writes to, and those it reads from. -/
def EngCmd.targets (c : EngCmd) : List (Nat × Nat) :=
  match c.cls, c.op with
  | 1, 3 => [(c.w 2, 4096 * c.w 1)]
  | 1, 4 => []
  | 1, _ => [(c.w 2, c.w 1)]
  | 2, _ => [(c.w 2, c.w 1)]
  | 3, 1 => [(c.w 2, 112)]
  | 3, 2 => [(c.w 2, 112)]
  | 3, 5 => [(c.w 2, 8)]
  | 3, 6 => [(c.w 4, 8)]
  | 3, _ => [(c.w 4, 32)]
  | 4, _ => [(c.w 2, c.w 1), (c.w 5, 20)]
  | 5, _ => [(c.w 2, if c.reduces then 8 else c.w 1 * c.lane)]
  | _, _ => []

def EngCmd.sources (c : EngCmd) : List (Nat × Nat) :=
  let far (a : Nat) : Nat × Nat := (a, (c.w 1 - 1) * c.stride + c.lane)
  match c.cls, c.op with
  | 1, 1 => [(c.w 3, c.w 1)]
  | 1, 4 => [(c.w 2, c.w 1)]
  | 2, 1 => (if c.coef 3 = 0 then [] else [(c.w 2, c.w 1)]) ++
      ((List.range 3).filter fun i => c.coef i != 0).map fun i => (c.w (3 + i), c.w 1)
  | 2, 2 => [(c.w 3, c.w 1), (c.w 4, c.w 1)]
  | 3, 2 => [(c.w 2, 112), (c.w 3, c.w 1)]
  | 3, 3 => [(c.w 2, 112)]
  | 3, 4 => [(c.w 3, c.w 1)]
  | 3, 5 => [(c.w 2, 8), (c.w 3, c.w 1)]
  | 3, 6 => [(c.w 3, c.w 1)]
  | 4, op => [(c.w 3, c.w 1), (c.w 4, 12), (c.w 6, c.w 7)] ++ (if op = 2 then [(c.w 5, 16)] else [])
  | 5, op => [far (c.w 3)] ++ (if c.scalar || op = 16 then [] else [far (c.w 4)])
  | _, _ => []

/-- What a command really reads: of a strided source only its lanes. -/
def EngCmd.reads (c : EngCmd) : List (Nat × Nat) :=
  if c.cls = 5 then c.lanes (c.w 3) ++ (if c.scalar || c.op = 16 then [] else c.lanes (c.w 4)) else c.sources

/-! ### PUSH (R564, R569, R570, R574, R577) -/

/-- The checks of a READ_NS at push (R569): the cause, and whether it is a violation. -/
def readNsCheck (s : State) (j : JobRun) (c : EngCmd) : Option (Nat × Option Nat) :=
  match s.nsOf j.crib (c.w 4) with
  | none => some (8, some 2)
  | some (n, x) =>
    if x.blocks < c.lba + c.w 1 ∨ c.lba / zoneBlocks ≠ (c.lba + c.w 1 - 1) / zoneBlocks then some (8, none)
    else if s.g Od.NS_KEY_STATE n ≠ 1 ∨ s.g Od.NS_FORMAT_STATE n ≠ 0 then some (9, none)
    else none

/-- The first check that a command to be pushed fails, lowest cause first (R564 step 3, R581). -/
def pushCheck (s : State) (j : JobRun) (c : EngCmd) : Option (Nat × Option Nat) :=
  if c.legal = false then some (6, none)
  else if !((c.targets ++ c.sources).all fun o => inWindow s j.crib o.1 o.2) then some (7, some 0)
  else if c.cls = 1 ∧ c.op = 3 then readNsCheck s j c
  else if c.cls = 4 ∧ (s.keys.jobKeys.find? (8 * j.crib + c.opts % 8)).isNone then some (10, none)
  else if c.cls = 1 ∧ c.op = 4 ∧ j.outLen < c.w 3 + c.w 1 then some (11, none)
  else none

/-- The command a PUSH builds from its template (R564). -/
def pushBuild (s : State) (j : JobRun) (t mask : Nat) : EngCmd where
  num := s.thresh.nextCmd
  words := (List.range 8).map fun i =>
    let w := gWord s.granary (t + 4 * i)
    if 2 ≤ i ∧ i ≤ 5 ∧ mask.testBit (i - 2) = true then (w + (j.areg (i - 2)).toNat) % 2 ^ 32 else w
  push := j.pc
  held := false
  engine := none
  begun := 0
  landing := 0

/-- PUSH (R564); with its queue full it waits, with no effect. -/
def execPush (sq : Fin 4) (s : State) : Out :=
  actGranary s (seqOp sq 0x30 fun s j w =>
    let t := ((j.reg (fA w)).toNat + 32 * fieldOf w 17 8) % 2 ^ 32
    if inWindow s j.crib t 32 = false then trap s sq 3 (some 3)
    else if t % 4 ≠ 0 then trap s sq 4
    else if s.poisoned t 32 then trap s sq 12
    else
      let c := pushBuild s j t (w % 16)
      match pushCheck s j c with
      | some (n, v) => trap s sq n v
      | none =>
        let q : Fin 4 := ⟨fieldOf w 25 24 % 4, Nat.mod_lt _ (by decide)⟩
        if 16 ≤ j.queues[q].length then s
        else
          let s : State := { s with thresh := { s.thresh with nextCmd := s.thresh.nextCmd + 1 } }
          seqDone s sq { j with queues := j.queues.set q (j.queues[q] ++ [c]) })

/-! ### What the engines compute -/

/-- Elements in ascending order, each written before the next is read (R567): the bytes that `n` elements of `w` bytes from `dst`
on hold at the end. -/
def elements (g : List Host.Cell) (n w dst : Nat) (f : List Host.Cell → Nat → List Byte) : List Byte :=
  gBytes ((List.range n).foldl (fun g i => gStore g (dst + w * i) (f g i)) g) dst (n * w)

/-- One byte of a LINCOMB (R571). -/
def lincomb (g : List Host.Cell) (c : EngCmd) (x : Nat) : Byte :=
  let k (i : Nat) : Byte := BitVec.ofNat 8 (c.coef i)
  gfMul (k 3) (gByte g (c.w 2 + x)) ^^^ gfMul (k 0) (gByte g (c.w 3 + x)) ^^^ gfMul (k 1) (gByte g (c.w 4 + x)) ^^^
    gfMul (k 2) (gByte g (c.w 5 + x))

/-- A SHA-256 state operand (R573): the hash words, the counts of bytes and of buffered bytes, and the partial block. What lies
beyond the buffered bytes is not stated: `open_` gives it. -/
def shaState (h : List Word32) (count : Nat) (rest open_ : List Byte) : List Byte :=
  h.flatMap (fun w => leBytes 4 w.toNat) ++ leBytes 8 count ++ leBytes 4 rest.length ++ leBytes 4 0 ++
    rest ++ (padTo 64 open_).drop rest.length

/-- The hash words of a state operand. -/
def shaWords (b : List Byte) : List Word32 := (List.range 8).map fun i => BitVec.ofNat 32 (ofLe (slice (4 * i) 4 b))

/-- SHA_UPDATE (R572, R573). A state that names more than 63 buffered bytes is no state: the result is open. -/
def shaUpdate (st data open_ : List Byte) : List Byte :=
  let n := ofLe (slice 40 4 st)
  if 64 ≤ n then padTo 112 open_
  else
    let m := slice 48 n st ++ data
    let k := m.length / 64
    shaState (shaBlocks sha256Rot sha256K k (shaWords st) m) ((ofLe (slice 32 8 st) + data.length) % 2 ^ 64) (m.drop (64 * k)) open_

/-- SHA_FINAL (R572, R573). -/
def shaFinal (st open_ : List Byte) : List Byte :=
  let n := ofLe (slice 40 4 st)
  if 64 ≤ n then padTo 32 open_
  else
    let m := slice 48 n st ++ shaPad 64 8 (ofLe (slice 32 8 st))
    wordBytes (shaBlocks sha256Rot sha256K (m.length / 64) (shaWords st) m)

/-- A GCM command (R574): the output, then the tag, and for GCM_DEC the result word. -/
def gcmWrites (g : List Host.Cell) (key : List Byte) (c : EngCmd) : List (Nat × List Byte) :=
  let n := c.w 1
  let iv := gBytes g (c.w 4) 12
  let aad := gBytes g (c.w 6) (c.w 7)
  let stream := gcmCrypt key iv (List.replicate n 0#8)
  let out := elements g n 1 (c.w 2) fun g i => [gByte g (c.w 3 + i) ^^^ stream.getD i 0#8]
  if c.op = 1 then [(c.w 2, out), (c.w 5, gcmTag key iv aad out)]
  else
    let tag := gBytes (gStore g (c.w 2) out) (c.w 5) 16
    [(c.w 2, out), (c.w 5 + 16, leBytes 4 (b2n (gcmTag key iv aad (xorBytes out stream) == tag)))]

/-- A lane at an address as a number. -/
def laneAt (g : List Host.Cell) (c : EngCmd) (a i : Nat) : Nat := ofLe (gBytes g (a + i * c.stride) c.lane)

/-- Lane `i` of source B (R575). -/
def laneB (g : List Host.Cell) (c : EngCmd) (i : Nat) : Nat :=
  if c.scalar then (c.w 6 + 2 ^ 32 * c.w 7) % 256 ^ c.lane else laneAt g c (c.w 4) i

/-- A lane's value as SIGNED selects (R575). -/
def laneVal (c : EngCmd) (v : Nat) : Int := if c.signed then toInt (8 * c.lane) v else v

/-- The elementwise operations 1 to 9 on two lanes (R575). -/
def laneOp (c : EngCmd) (a b : Nat) : Nat :=
  let m := 256 ^ c.lane
  match c.op with
  | 1 => (a + b) % m
  | 2 => (a + m - b) % m
  | 3 => a &&& b
  | 4 => a ||| b
  | 5 => a ^^^ b
  | 6 => if laneVal c b < laneVal c a then b else a
  | 7 => if laneVal c a < laneVal c b then b else a
  | 8 => if a = b then m - 1 else 0
  | _ => if laneVal c a < laneVal c b then m - 1 else 0

/-- A vector command (R575). -/
def vectorWrites (g : List Host.Cell) (c : EngCmd) : List (Nat × List Byte) :=
  let n := c.w 1
  let a (g : List Host.Cell) := laneAt g c (c.w 3)
  let hits := (List.range n).filter fun i => a g i == laneB g c i
  match c.op with
  | 16 => [(c.w 2, leBytes 8 (ofInt 64 ((List.range n).map fun i => laneVal c (a g i)).sum))]
  | 17 => [(c.w 2, leBytes 8 hits.length)]
  | 18 => [(c.w 2, leBytes 8 (hits.headD (2 ^ 64 - 1)))]
  | _ => [(c.w 2, elements g n c.lane (c.w 2) fun g i => leBytes c.lane (laneOp c (a g i) (laneB g c i)))]

/-- The Granary bytes a command writes (R568 to R575), from the Granary, the job key that it names, and the bytes of a result that
the spec leaves open. READ_NS and TO_HOST write none here. -/
def cmdWrites (g : List Host.Cell) (key open_ : List Byte) (c : EngCmd) : List (Nat × List Byte) :=
  let n := c.w 1
  let data := gBytes g (c.w 3) n
  match c.cls, c.op with
  | 1, 1 => [(c.w 2, elements g n 1 (c.w 2) fun g i => [gByte g (c.w 3 + i)])]
  | 1, 2 => [(c.w 2, elements g (n / 4) 4 (c.w 2) fun _ _ => leBytes 4 (c.w 6))]
  | 2, 1 => [(c.w 2, elements g n 1 (c.w 2) fun g x => [lincomb g c x])]
  | 2, 2 => [(c.w 2, elements g n 1 (c.w 2) fun g x => [gfMul (gByte g (c.w 3 + x)) (gByte g (c.w 4 + x))])]
  | 3, 1 => [(c.w 2, shaState sha256Init 0 [] open_)]
  | 3, 2 => [(c.w 2, shaUpdate (gBytes g (c.w 2) 112) data open_)]
  | 3, 3 => [(c.w 4, shaFinal (gBytes g (c.w 2) 112) open_)]
  | 3, 4 => [(c.w 4, sha256 data)]
  | 3, 5 => [(c.w 2, leBytes 8 (crc64From (ofLe (gBytes g (c.w 2) 8)) data))]
  | 3, 6 => [(c.w 4, leBytes 8 (crc64From 0 data))]
  | 4, _ => gcmWrites g key c
  | 5, _ => vectorWrites g c
  | _, _ => []

/-! ### Dispatch -/

/-- First engine and number of engines of a class, and its cluster's domain (R547, R689). -/
def classEngines : Nat → Nat × Nat
  | 1 => (0, 4) | 2 => (4, 2) | 3 => (6, 2) | 4 => (8, 2) | _ => (10, 4)

/-- Commands that an engine holds. -/
def State.engineLoad (s : State) (e : Nat) : Nat :=
  ((List.finRange 4).map fun sq => (s.thresh.seq[sq]).elim 0 fun j =>
    ((List.finRange 4).map fun q => (j.queues[q].filter fun c => c.engine == some e).length).sum).sum

/-- The engine of a class that holds the fewest commands, the lowest-numbered on a tie (R565). -/
def pickEngine (s : State) (cls : Nat) : Nat :=
  let (first, n) := classEngines cls
  (List.range n).foldl (fun b i => if s.engineLoad (first + i) < s.engineLoad b then first + i else b) first

/-- Change the head of a queue. -/
def setHead (s : State) (sq q : Fin 4) (f : EngCmd → EngCmd) : State :=
  match s.thresh.seq[sq] with
  | none => s
  | some j => setSeq s sq (some { j with queues := j.queues.set q (modifyAt j.queues[q] 0 f) })

/-- The command at the head of a queue, with its job. -/
def State.headCmd (s : State) (sq q : Fin 4) : Option (JobRun × EngCmd) :=
  match s.thresh.seq[sq] with
  | none => none
  | some j => j.queues[q].head?.map fun c => (j, c)

/-- An engine learns of a cause that names the PUSH of its command (R581, R582). -/
def engineCause (s : State) (sq : Fin 4) (c : EngCmd) (n : Nat) : State := stopJob s sq (.cause n c.push)

/-- The namespace reads of a READ_NS start (R504, R519, R569): blocks at or above the write pointer are zeros, others are looked up,
and what is missed is read from disc. -/
def readNsStart (s : State) (j : JobRun) (sq q : Fin 4) (c : EngCmd) : State :=
  match s.nsOf j.crib (c.w 4) with
  | none => s
  | some (ns, _) =>
    let z := c.lba / zoneBlocks
    let wp := z * zoneBlocks + (s.zone ns z).wp
    let add (s : State) (r : JobRead) : State := { s with cache := { s.cache with jobReads := s.cache.jobReads ++ [r] } }
    let (s, miss) := (List.range (c.w 1)).foldl (fun (r : State × List Nat) i =>
      let (s, miss) := r
      let lba := c.lba + i
      if wp ≤ lba then (add s ⟨c.num, ns, lba, false, some zeroBlock, false⟩, miss)
      else
        let (s, b) := cacheLookup s j.crib ns lba j.streaming
        match b with
        | some b => (add s ⟨c.num, ns, lba, false, some b, false⟩, miss)
        | none => (add s ⟨c.num, ns, lba, true, none, s.zoneOffline ns z⟩, if miss.contains (lba / 16) then miss else miss ++ [lba / 16])) (s, [])
    let miss := if s.zoneOffline ns z then [] else miss
    let s := setHead (s.add Od.HAY_LAND_USED 0 miss.length) sq q fun c => { c with landing := miss.length }
    match (s.zone ns z).bound with
    | none => s
    | some (d, dz) =>
      s.each miss fun s key => queueOp s {
        id := 0, kind := .read, disc := d, dz := dz, q := 16 * key % zoneBlocks / 16, cls := 2, time := 0, ctxs := [], ns := ns
        tag := j.crib, lr := false, rereads := 0, age := if j.streaming then 3 else 0, streamed := j.streaming, todo := []
        wrote := [], verifying := false, lba := 16 * key, good := [] }

/-- Poisoned memory words among what a command reads (R533). -/
def poisonedWords (s : State) (c : EngCmd) : List Nat :=
  ((c.reads.flatMap fun o => wordsOf o.1 o.2).filter fun w => (s.mem.poison.find? w).isSome).eraseDups

/-- The Granary as a command reads it: a poisoned word holds an open value. -/
def openGranary (s : State) (bad : List Nat) : List Host.Cell :=
  bad.zipIdx.foldl (fun g w => gStore g (8 * w.1) (leBytes 8 (Config.freeValue (s.freeCtr + 1 + w.2)))) s.granary

/-- A command runs on its engine: its effect, or for READ_NS its start. The job key is taken now (R574); a read of a poisoned word
is cause 12 (R581). -/
def engineRun (s : State) (j : JobRun) (sq q : Fin 4) (c : EngCmd) : State :=
  if c.cls = 1 ∧ c.op = 3 then readNsStart s j sq q c
  else
    let bad := poisonedWords s c
    let g := openGranary s bad
    let key := Keyed.getD s.keys.jobKeys (8 * j.crib + c.opts % 8) []
    let open_ := leBytes 112 (Config.freeValue s.freeCtr)
    let s : State := { s with freeCtr := s.freeCtr + 1 + bad.length }
    let s := if c.cls = 1 ∧ c.op = 4 then
        match s.ctx? j.id with
        | some x => s.emit (.jobData x.queue x.cid (c.w 3) (gBytes g (c.w 2) (c.w 1)))
        | none => s
      else s.each (cmdWrites g key open_ c) fun s p => granaryStore s p.1 p.2
    if bad = [] then s else engineCause s sq c 12

/-- The landing buffers a READ_NS needs, at most, are free (R505). -/
def landingRoom (s : State) (c : EngCmd) : Bool :=
  decide (s.g Od.HAY_LAND_USED + ((c.lba + c.w 1 + 15) / 16 - c.lba / 16) ≤ 16 * s.g Od.HAYLOFT_LAND)

/-- The row of operation (`cls`, `op`): the head of the queue is dispatched, when it is that operation and no command of the queue
before it runs (R565); a cluster that is not on holds it (R690). -/
def engineRow (cls op : Nat) (sq q : Fin 4) (s : State) : Out :=
  actGranary s fun s =>
    match s.headCmd sq q with
    | none => s
    | some (j, c) =>
      if c.engine.isSome || c.cls != cls || c.op != op then s
      else
        let i : Fin 21 := ⟨(cls - 1) % 21, Nat.mod_lt _ (by decide)⟩
        let s := domArrive s i c.held
        if s.pwr.dom[i] ≠ .on then setHead s sq q fun c => { c with held := true }
        else if cls = 1 && op = 3 && !landingRoom s c then s
        else
          let e := pickEngine s cls
          engineRun (setHead s sq q fun c => { c with engine := some e, begun := s.now }) j sq q c

/-- COPY (R568). -/
def execCopy (sq q : Fin 4) (s : State) : Out := engineRow 1 1 sq q s

/-- FILL (R568). -/
def execFill (sq q : Fin 4) (s : State) : Out := engineRow 1 2 sq q s

/-- READ_NS (R568, R569). -/
def execReadNs (sq q : Fin 4) (s : State) : Out := engineRow 1 3 sq q s

/-- TO_HOST (R568, R570). -/
def execToHost (sq q : Fin 4) (s : State) : Out := engineRow 1 4 sq q s

/-- LINCOMB (R571). -/
def execLincomb (sq q : Fin 4) (s : State) : Out := engineRow 2 1 sq q s

/-- MUL of the field engine (R571). -/
def execFieldMul (sq q : Fin 4) (s : State) : Out := engineRow 2 2 sq q s

/-- SHA_INIT (R572). -/
def execShaInit (sq q : Fin 4) (s : State) : Out := engineRow 3 1 sq q s

/-- SHA_UPDATE (R572). -/
def execShaUpdate (sq q : Fin 4) (s : State) : Out := engineRow 3 2 sq q s

/-- SHA_FINAL (R572). -/
def execShaFinal (sq q : Fin 4) (s : State) : Out := engineRow 3 3 sq q s

/-- SHA_DIGEST (R572). -/
def execShaDigest (sq q : Fin 4) (s : State) : Out := engineRow 3 4 sq q s

/-- CRC_UPDATE (R572). -/
def execCrcUpdate (sq q : Fin 4) (s : State) : Out := engineRow 3 5 sq q s

/-- CRC_DIGEST (R572). -/
def execCrcDigest (sq q : Fin 4) (s : State) : Out := engineRow 3 6 sq q s

/-- GCM_ENC (R574). -/
def execGcmEnc (sq q : Fin 4) (s : State) : Out := engineRow 4 1 sq q s

/-- GCM_DEC (R574). -/
def execGcmDec (sq q : Fin 4) (s : State) : Out := engineRow 4 2 sq q s

/-- ADD of the vector engine (R575). -/
def execVectorAdd (sq q : Fin 4) (s : State) : Out := engineRow 5 1 sq q s

/-- SUB of the vector engine (R575). -/
def execVectorSub (sq q : Fin 4) (s : State) : Out := engineRow 5 2 sq q s

/-- AND of the vector engine (R575). -/
def execVectorAnd (sq q : Fin 4) (s : State) : Out := engineRow 5 3 sq q s

/-- OR of the vector engine (R575). -/
def execVectorOr (sq q : Fin 4) (s : State) : Out := engineRow 5 4 sq q s

/-- XOR of the vector engine (R575). -/
def execVectorXor (sq q : Fin 4) (s : State) : Out := engineRow 5 5 sq q s

/-- MIN (R575). -/
def execMin (sq q : Fin 4) (s : State) : Out := engineRow 5 6 sq q s

/-- MAX (R575). -/
def execMax (sq q : Fin 4) (s : State) : Out := engineRow 5 7 sq q s

/-- CMPEQ (R575). -/
def execCmpeq (sq q : Fin 4) (s : State) : Out := engineRow 5 8 sq q s

/-- CMPLT (R575). -/
def execCmplt (sq q : Fin 4) (s : State) : Out := engineRow 5 9 sq q s

/-- SUM (R575). -/
def execSum (sq q : Fin 4) (s : State) : Out := engineRow 5 16 sq q s

/-- COUNT_EQ (R575). -/
def execCountEq (sq q : Fin 4) (s : State) : Out := engineRow 5 17 sq q s

/-- FIND_EQ (R575). -/
def execFindEq (sq q : Fin 4) (s : State) : Out := engineRow 5 18 sq q s

/-! ### The end of a command -/

/-- A READ_NS whose blocks have all come, or failed, writes them to its destination; blocks read from disc go into the Shelf too
(R504). What a block that failed leaves there is open; it is cause 13 (R569). -/
def readNsEnd (s : State) (j : JobRun) (sq : Fin 4) (c : EngCmd) : State :=
  let mine := s.cache.jobReads.filter fun r => r.job == c.num
  let s : State := { s with cache := { s.cache with jobReads := s.cache.jobReads.filter fun r => r.job != c.num } }
  let s := s.sub Od.HAY_LAND_USED 0 c.landing
  let s := s.each mine fun s r =>
    let a := c.w 2 + 4096 * (r.lba - c.lba)
    match r.data with
    | some d =>
      let s := if r.disc then shelfFill s j.crib r.ns r.lba d (if j.streaming then 3 else 0) j.streaming else s
      granaryStore s a (padTo 4096 d)
    | none => (granaryStore s a (leBytes 4096 (Config.freeValue s.freeCtr))).useFree
  if mine.any fun r => r.failed then engineCause s sq c 13 else s

/-- ENGINE_COMMAND_END: a dispatched command ends, its time is charged, and a job that waited for its last command ends (R565,
R580, R582, R584). A READ_NS ends once each of its blocks has come or failed. -/
def execEngineCommandEnd (sq q : Fin 4) (s : State) : Out :=
  actGranary s fun s =>
    match s.headCmd sq q with
    | none => s
    | some (j, c) =>
      match c.engine with
      | none => s
      | some e =>
        if s.cache.jobReads.any fun r => r.job == c.num && r.data.isNone && !r.failed then s
        else
          let s := chargeEngine s e j.crib (s.now - c.begun)
          let s := if c.cls = 1 ∧ c.op = 3 then readNsEnd s j sq c else s
          let s := match s.thresh.seq[sq] with
            | some j => setSeq s sq (some { j with queues := j.queues.set q (j.queues[q].drop 1) })
            | none => s
          jobSettle s sq

/-- HOST_TRANSFER_ERROR: a host memory access of a command completes with an error. A command ends with Data Transfer Error
(R438); for a job's TO_HOST, at the head of queue `toHost`, it is cause 14 (R570). -/
def execHostTransferError (q : IoQueue) (cid : Nat) (toHost : Option (Fin 4)) (s : State) : Out :=
  act s fun s =>
    match q with
    | .conn _ => s
    | .sq .. =>
      match s.host.ctxs.find? fun x => x.queue == q && x.cid == cid with
      | none => s
      | some x =>
        match toHost with
        | none =>
          if x.op matches .job .. && x.started then s
          else endCtx (s.inc Od.HQ_VIOL_CNT (8 * x.crib + 6)) x .dataTransferError (some false)
        | some k =>
          match (List.finRange 4).find? fun sq => (s.thresh.seq[sq]).elim false fun j => j.id == x.id with
          | none => s
          | some sq =>
            match s.headCmd sq k with
            | some (_, c) => if c.cls = 1 ∧ c.op = 4 ∧ c.engine.isSome = true then engineCause s sq c 14 else s
            | none => s

end Sys2Proof.Machine
end

