-- ==== Sys2Proof/Machine/Ledger.lean ====
section
/-! DEFINITION. The minute ledger (R648 to R677): time, minutes, records, tariffs, the ring and overflow, and the division of
energy. -/

namespace Sys2Proof.Machine

/-- The ledger sources of R677. -/
def Src.ledgerLow : Nat := 18
def Src.ledgerOverflow : Nat := 19
def Src.minuteClosed : Nat := 20
def Src.tariffApplied : Nat := 21
def Src.timeStep : Nat := 22
def Src.ledgerLost : Nat := 23

/-- One minute and one ledger tick in ns. -/
def minuteNs : Nat := 60000000000
def tickNs : Nat := 1000000

/-- The divisor d_k of a quantity (R649). -/
def divisorOf (k : Nat) : Nat :=
  [1000, 1000, 1000, 1000, 1000, 1000000, 1000000, 262144, 262144, 1048576, 1048576, 1024, 1024, 3600000000, 1000000, 60000].getD k 1

/-- Fine units in one record unit (R651). -/
def fineOf (k : Nat) : Nat := [1, 1, 1, 1, 1, 1000, 1000, 1, 1, 1024, 1024, 1024, 1024, 1000].getD k 1

def State.acct (s : State) (c : Nat) : Account := if h : c < 33 then s.ledger.accts[c] else s.ledger.accts[0]

/-- Accounts that a crib's state opens (R648). -/
def openCribs (s : State) : List Nat := below 33 s.cribEnabled

/-- Accounts with an open minute. -/
def openAccts (s : State) : List Nat := below 33 fun c => (s.acct c).isOpen

/-! ### Ring (R665 to R668, R672 to R675) -/

/-- LEDGER_FREE follows LEDGER_HEAD and LEDGER_ACK (R672); LEDGER_LOW is raised when it falls below LEDGER_WARN (R675). -/
def ledgerRoom (s : State) : State :=
  let free := 65536 - (s.g Od.LEDGER_HEAD + 2 ^ 32 - s.g Od.LEDGER_ACK) % 2 ^ 32
  let s := s.p Od.LEDGER_FREE 0 free
  if free < s.g Od.LEDGER_WARN then
    if s.ledger.lowRaised then s
    else raise (s.setLedger fun l => { l with lowRaised := true }) Src.ledgerLow free
  else if s.g Od.LEDGER_WARN < free then s.setLedger fun l => { l with lowRaised := false } else s

/-- One half of a record (R665). -/
def ledgerHalf (seq kind half acct flags : Nat) (payload : List Byte) : List Byte :=
  let b := padTo 60 (asciiBytes "KLDG" ++ leBytes 4 seq ++ leBytes 1 kind ++ leBytes 1 half ++ leBytes 1 acct ++
    leBytes 1 flags ++ payload)
  b ++ leBytes 4 (crc32c b)

/-- Write a record with the next SEQ into the ring, half B and then half A (R665, R668). -/
def ledgerWrite (s : State) (kind acct flags : Nat) (a b : List Byte) : State :=
  let seq := (s.g Od.LEDGER_HEAD + 1) % 2 ^ 32
  let pos := seq % 65536
  let rec_ := ledgerHalf seq kind 0 acct flags a ++ ledgerHalf seq kind 1 acct flags b
  let s := (s.chestWrite Region.ledger (2 * pos + 1)).chestWrite Region.ledger (2 * pos)
  ledgerRoom ((s.setBlob Od.LEDGER_REC pos rec_).p Od.LEDGER_HEAD 0 seq)

/-- The payload halves of a MINUTE or OVERFLOW record (R666). `q` gives the quantities 0 to 13. -/
def minutePayload (minSeq start openMs ms plan tariff demand charge last : Nat) (q : Nat → Nat) : List Byte × List Byte :=
  (leBytes 4 minSeq ++ leBytes 8 start ++ leBytes 2 openMs ++ leBytes 2 ms ++ leBytes 1 plan ++ leBytes 3 0 ++
     leBytes 4 tariff ++ (List.range 6).flatMap (fun k => leBytes 4 (q k)),
   (List.range 8).flatMap (fun k => leBytes 4 (q (6 + k))) ++ leBytes 4 demand ++ leBytes 8 charge ++ leBytes 4 last)

/-- LEDGER_STATE changes (R677). -/
def ledgerState (s : State) (v : Nat) : State :=
  if s.g Od.LEDGER_STATE = v then s else raise (s.p Od.LEDGER_STATE 0 v) Src.ledgerOverflow v

/-- An account's state goes into its Chest record (R668). -/
def acctKeep (s : State) (c : Nat) : State :=
  let s := s.chestWrite Region.state (Pos.account c)
  let s := if (s.acct c).spill.isSome then s.chestWrite Region.state (Pos.overflow c) else s
  s.setLedger fun l => if h : c < 33 then { l with kept := l.kept.set c { l.accts[c] with isOpen := false } } else l

/-! ### Closing a minute (R651, R660, R661, R666, R673, R676) -/

/-- Charges of the sixteen quantities under a plan, and the carries that remain (R661). -/
def charges (s : State) (plan : Nat) (q : Nat → Nat) (carry : Keyed Nat) : Nat × Keyed Nat :=
  (List.range 16).foldl (fun (r : Nat × Keyed Nat) k =>
    let n := q k * s.g Od.TARIFF_RATE (16 * plan + k) + Keyed.getD carry k 0
    (r.1 + n / divisorOf k, Keyed.put r.2 k (n % divisorOf k) 0)) (0, carry)

/-- Add a closed minute to an account's accumulator (R673). -/
def spillAdd (o : Option Overflow) (minSeq start flags plan tariff demand charge : Nat) (q : Nat → Nat) : Overflow :=
  match o with
  | none => ⟨minSeq, start, minSeq, flags, plan, tariff, demand, (List.range 14).foldl (fun m k => Keyed.put m k (q k) 0) [], charge⟩
  | some o => { o with
      last := minSeq, flags := (o.flags ||| flags) ||| (if o.tariff = tariff then 0 else 128), plan := plan, tariff := tariff
      demand := max o.demand demand, charge := o.charge + charge
      sums := (List.range 14).foldl (fun m k => Keyed.put m k (Keyed.getD m k 0 + q k) 0) o.sums }

/-- Close one account's minute with flags (R661, R666). `di`: a demand interval ends; `ring`: a MINUTE record is written, else the
minute goes into the accumulator (R673). -/
def closeAcct (s : State) (c flags : Nat) (di ring : Bool) : State :=
  let a := s.acct c
  let plan := s.g Od.CRIB_TARIFF c
  let energy := Keyed.getD a.fine 13 0 / 1000
  let e := a.diEnergy + energy
  let t := a.diTime + a.ms
  let demand := if di && t != 0 then e * 1000 / t else 0
  let q (k : Nat) : Nat :=
    if k = 14 then (if di then demand - s.g Od.TARIFF_DEMAND_FREE plan else 0)
    else if k = 15 then a.ms
    else Keyed.getD a.fine k 0 / fineOf k
  let (charge, carry) := charges s plan q a.carry
  let flags := flags ||| (if a.ms < 60000 then 2 else 0) ||| (if s.g Od.TIME_SYNC = 0 then 4 else 0) |||
    (if s.ledger.backEnd ≠ 0 ∧ s.utc ≤ s.ledger.backEnd then 8 else 0) ||| (if di then 16 else 0)
  let minSeq := s.g Od.MIN_SEQ_NEXT
  let tariff := s.g Od.TARIFF_SEQ
  let s := s.p Od.MIN_SEQ_NEXT 0 (minSeq + 1)
  let s := setAcct s c fun a => { a with
    isOpen := false, fine := (List.range 14).foldl (fun m k => Keyed.put m k (Keyed.getD m k 0 % fineOf k) 0) a.fine
    carry := carry, diEnergy := if di then 0 else e, diTime := if di then 0 else t
    spill := if ring then a.spill else some (spillAdd a.spill minSeq a.start flags plan tariff demand charge q) }
  let s := if ring then
      let (x, y) := minutePayload minSeq a.start a.openMs a.ms plan tariff demand charge 0 q
      ledgerWrite s 1 c flags x y
    else s
  let s := s.each (List.range 16) fun s k => s.add Od.ACCT_TOTAL (16 * c + k) (q k)
  acctKeep (s.add Od.ACCT_CHARGE_TOTAL c charge) c

/-- Close every open minute (R658, R659, R673): at a boundary `di` is as R660 says. -/
def closeAll (s : State) (flags : Nat) (di : Bool) : State :=
  let cs := openAccts s
  if cs = [] then s
  else
    let ring := decide (128 + cs.length ≤ s.g Od.LEDGER_FREE)
    let s := s.each cs fun s c => closeAcct s c flags di ring
    let s := s.setLedger fun l => { l with lastEnd := s.utc }
    if ring then s else ledgerState s 2

/-- A GAP record (R667); one that would leave no free position is merged into the accumulators (R673). -/
def gapRecord (s : State) (from_ upto reason : Nat) : State :=
  if s.g Od.LEDGER_FREE ≤ 1 then
    s.setLedger fun l => { l with gap := some (match l.gap with
      | some (f, _, r) => (f, upto, r)
      | none => (from_, upto, reason)) }
  else ledgerWrite s 2 0xFF (if s.g Od.TIME_SYNC = 0 then 4 else 0)
    (leBytes 4 (s.g Od.MIN_SEQ_NEXT) ++ leBytes 8 from_ ++ leBytes 8 upto ++ leBytes 1 reason) []

/-- The records of an accumulator (R674): one OVERFLOW record, and OVERFLOW_CONT records for what a 32-bit field cannot hold. -/
def spillWrite : Nat → State → Nat → Nat → Overflow → State
  | 0, s, _, _, _ => s
  | fuel + 1, s, c, kind, o =>
    let top := 0xFFFFFFFF
    let q (k : Nat) : Nat := min top (Keyed.getD o.sums k 0)
    let (a, b) := minutePayload o.first o.start 0 0 o.plan o.tariff o.demand (min (2 ^ 64 - 1) o.charge) o.last q
    let s := ledgerWrite s kind c o.flags a b
    let left := (List.range 14).foldl (fun m k => Keyed.put m k (Keyed.getD o.sums k 0 - q k) 0) []
    if left = [] then s
    else spillWrite fuel s c 4 { o with sums := left, charge := 0, demand := 0 }

/-- Accumulators are written out when there is room (R674), with a merged GAP (R673). -/
def spillFlush (s : State) : State :=
  let cs := below 33 fun c => (s.acct c).spill.isSome
  if cs = [] ∧ s.ledger.gap = none ∨ s.g Od.LEDGER_FREE < 128 + 4 * cs.length then s
  else
    let s := match s.ledger.gap with
      | some (f, t, r) => gapRecord (s.setLedger fun l => { l with gap := none }) f t r
      | none => s
    let s := s.each cs fun s c =>
      match (s.acct c).spill with
      | some o => acctKeep (setAcct (spillWrite 4 s c 3 o) c fun a => { a with spill := none }) c
      | none => s
    ledgerState s (if s.ledgerRuns then 1 else 0)

/-! ### Opening a minute (R657, R663, R671) -/

/-- The pending tariff is applied at the opening of a minute that starts at or after its effective time (R663). -/
def tariffApply (s : State) (start : Nat) : State :=
  match s.ledger.pend with
  | none => s
  | some t =>
    if s.g Od.TIME_SYNC = 0 ∨ start < t.effective ∨ s.g Od.TARIFF_PEND_STATE = 0 then s
    else
      let s := s.each t.rate.zipIdx fun s (v, i) => s.p Od.TARIFF_RATE i v
      let s := s.each t.free.zipIdx fun s (v, i) => s.p Od.TARIFF_DEMAND_FREE i v
      let s := s.each t.plan.zipIdx fun s (v, i) => s.p Od.CRIB_TARIFF i v
      let s := (s.setLedger fun l => { l with pend := none }).inc Od.TARIFF_SEQ
      raise (s.p Od.TARIFF_PEND_STATE 0 0) Src.tariffApplied (s.g Od.TARIFF_SEQ)

/-- Open minutes for some accounts from a time on. -/
def openMinutes (s : State) (cs : List Nat) (t : Nat) : State :=
  let start := t / minuteNs * minuteNs
  s.each cs fun s c => setAcct s c fun a => { a with isOpen := true, start := start, openMs := (t - start) / tickNs, ms := 0 }

/-- The ledger opens a minute for every open account: the pending tariff first (R659, R663). -/
def openAll (s : State) (t : Nat) : State := openMinutes (tariffApply s (t / minuteNs * minuteNs)) (openCribs s) t

/-- LEDGER_STATE of a running ledger. -/
def ledgerOn (s : State) : State := ledgerState s (if (below 33 fun c => (s.acct c).spill.isSome) = [] then 1 else 2)

/-! ### Time (R654 to R659) -/

/-- The crib charged with picker time (R649): that of the request served; device work is crib 0's. -/
def pickerCrib (s : State) : Nat :=
  match s.motion.picker.seq with
  | some (r, _) =>
    if r.load then
      match s.media.ops.find? fun o => o.disc == r.disc with
      | some o => if o.tag = 63 then 0 else o.tag
      | none =>
        match s.host.ctxs.find? fun x => ((s.zone x.ns x.zone).bound.elim false fun b => b.1 == r.disc) with
        | some x => x.crib
        | none => 0
    else 0
  | none => 0

/-- `n` ledger ticks that end no minute (R649, R657): drive time, picker time and minutes covered. -/
def ledgerTicks (s : State) (n : Nat) : State :=
  if n = 0 ∨ s.ledgerRuns = false then s
  else
    let s := s.each (List.finRange 16) fun s (d : Drive) =>
      if s.g Od.DRV_DISC d ≠ 0xFFFF ∧ s.g Od.DRV_STATE d ≤ 3 then meter s (s.ledger.holder[d]) (s.g Od.DRV_STATE d) n else s
    let s := if s.motion.picker.seq.isSome then meter s (pickerCrib s) 4 n else s
    s.each (openAccts s) fun s c => setAcct s c fun a => { a with ms := a.ms + n }

/-- The demand intervals begin at starts that are multiples of DEMAND_MIN minutes after the hour (R660). -/
def demandStarts (s : State) (start : Nat) : Bool :=
  s.g Od.DEMAND_MIN != 0 && start / minuteNs % 60 % s.g Od.DEMAND_MIN == 0

/-- The boundary tick: close, apply a pending tariff, open (R659). -/
def boundary (s : State) : State :=
  let s := closeAll s 0 (demandStarts s (s.utc / minuteNs * minuteNs))
  let s := openAll s (s.utc / minuteNs * minuteNs)
  raise s Src.minuteClosed ((s.g Od.MIN_SEQ_NEXT + 2 ^ 32 - 1) % 2 ^ 32)

/-- The end of the open minutes, none when none is open. -/
def minuteEnd (s : State) : Option Nat := (openAccts s).head?.map fun c => (s.acct c).start + minuteNs

/-- Time passes: `dn` ns of the device and `du` of the timebase, which reaches a boundary at most at its end (R654, R657). -/
def passTime (s : State) (dn du : Nat) : State :=
  let t := s.utc + du
  let n := t / tickNs - s.utc / tickNs
  let s : State := { s with now := s.now + dn }
  let past := (minuteEnd s).elim false fun e => decide (e ≤ t)
  if n != 0 && past && s.ledgerRuns then boundary ((ledgerTicks s n).p Od.UTC_NOW 0 t)
  else (ledgerTicks s n).p Od.UTC_NOW 0 t

/-- Time passes up to the next ledger tick. -/
def toTick (s : State) : State :=
  let d := tickNs - s.utc % tickNs
  passTime s d d

/-- One cycle of the 25 MHz reference, 40 ns, with a slew of 1,000 ppm: 1 ns in every 1,000 (R655). -/
def refCycle (s : State) : State :=
  let l := s.ledger
  if l.slew = 0 then passTime s 40 40
  else if l.slewPhase < 24 then passTime (s.setLedger fun l => { l with slewPhase := l.slewPhase + 1 }) 40 40
  else
    let up := decide (0 < l.slew)
    passTime (s.setLedger fun l => { l with slewPhase := 0, slew := if up then l.slew - 1 else l.slew + 1 }) 40 (if up then 41 else 39)

/-- LEDGER_MINUTE_BOUNDARY: time comes to the end of the open minute (R657, R659). -/
def execLedgerMinuteBoundary (s : State) : Out :=
  act s fun s =>
    if s.ledgerRuns = false then s
    else match minuteEnd s with
      | none => s
      | some e => if s.utc < e then passTime s (e - s.utc) (e - s.utc) else boundary s

/-- A step of the timebase to `t` (R656). -/
def timeStep (s : State) (t : Nat) : State :=
  let old := s.utc
  let d : Int := t - old
  let open_ := openAccts s
  let s := closeAll s 64 true
  let s := if d < 0 ∧ open_ ≠ [] then s.setLedger fun l => { l with backEnd := max l.backEnd old } else s
  let s := (s.p Od.UTC_NOW 0 t).p Od.TIME_SYNC 0 1
  let s := if open_ = [] then s else openAll (gapRecord s old t (if d < 0 then 5 else 4)) t
  raise (s.inc Od.TIME_STEP_CNT) Src.timeStep (ofInt 64 d)

/-- A write of UTC_SET, taking effect at the next ledger tick (R655). Only a step is processed when it falls on a boundary. -/
def utcSet (s : State) (t : Nat) : State :=
  let d0 := tickNs - s.utc % tickNs
  let at_ := s.utc + d0
  let d : Int := (t : Int) - at_
  if s.g Od.TIME_SYNC = 0 ∨ (s.g Od.LEDGER_SLEW_MAX * 1000000 : Int) < |d| then
    let s := (ledgerTicks { s with now := s.now + d0 } 1).p Od.UTC_NOW 0 at_
    timeStep (s.setLedger fun l => { l with slew := 0, slewPhase := 0 }) t
  else (toTick s).setLedger fun l => { l with slew := d, slewPhase := 0 }

/-- UTC_SET (R655, R656). -/
def execUtcSet (who : Crib) (t : Nat) (s : State) : Out :=
  actWrite who Od.UTC_SET 0 (fun s => (utcSet s (t % 2 ^ 64), 0)) s

/-! ### Tariffs (R662) -/

/-- The change of TARIFF_PEND_STATE is kept in the Chest; the write of TARIFF_ARM then completes (R662). -/
def tariffMade (s : State) (armed : Bool) : State := (s.p Od.TARIFF_PEND_STATE 0 (b2n armed)).answer 0 0

/-- A write of TARIFF_ARM (R662, R686). -/
def tariffArm (s : State) (v : Nat) : State × Nat :=
  if s.g Od.PF_STATE ≠ 0 then (s, 0x0A)
  else if v ≠ 1 ∧ v ≠ 2 then (s, 0x07)
  else
    let t : Tariff := ⟨(List.range 128).map fun i => s.g Od.TARIFF_PEND_RATE i, (List.range 8).map fun i => s.g Od.TARIFF_PEND_FREE i,
      (List.range 33).map fun i => s.g Od.TARIFF_PEND_PLAN i, s.g Od.TARIFF_EFFECTIVE⟩
    let s := s.setLedger fun l => { l with pend := if v = 1 then some t else none }
    let (s, made) := s.chestPut Region.state Pos.tariff [.tariff (v == 1)]
    (if made then s.p Od.TARIFF_PEND_STATE 0 (b2n (v == 1)) else s, if made then 0 else 0x100)

/-- A write of TARIFF_ARM by crib `who`: its answer waits for a copy that the rate limit delays. -/
def armWrite (who : Crib) (v : Nat) (s : State) : Out :=
  act s fun s =>
    let c := s.writeCodeOf who Od.TARIFF_ARM 0
    if c ≠ 0 then s.answer who c
    else match tariffArm s v with
      | (s, code) => if code = 0x100 then s else s.answer who code

/-- ARM (R662). -/
def execArm (who : Crib) (s : State) : Out := armWrite who 1 s

/-- CANCEL (R662). -/
def execCancel (who : Crib) (s : State) : Out := armWrite who 2 s

/-- LEDGER_ACK (R672, R674); sequence numbers are compared as R707 says. -/
def ledgerAck (s : State) (seq : Nat) : State × Nat :=
  if newerSeq seq (s.g Od.LEDGER_HEAD) || newerSeq (s.g Od.LEDGER_ACK) seq then (s, 0x07)
  else
    let s := (s.p Od.LEDGER_ACK 0 seq).ackPut false seq
    (spillFlush (ledgerRoom s), 0)

def execLedgerAck (who : Crib) (seq : Nat) (s : State) : Out :=
  actWrite who Od.LEDGER_ACK 0 (fun s => ledgerAck s seq) s

/-! ### Energy (R652, R653, R701) -/

/-- Divide `e` µJ by weights: each share rounded down, the residue to crib 0 (R653). -/
def divide (s : State) (e : Nat) (ws : List (Nat × Nat)) : State :=
  let total := (ws.map (·.2)).sum
  if total = 0 then chargeEnergy s 0 e
  else
    let shares := ws.map fun w => (w.1, e * w.2 / total)
    chargeEnergy (s.each shares fun s w => chargeEnergy s w.1 w.2) 0 (e - (shares.map (·.2)).sum)

/-- The crib a bridge's share goes to (R652): motors 0 to 16, axes from 20. -/
def bridgeCrib (s : State) (k : Nat) : Nat :=
  let n := if k < 16 then k else k - 20
  if k = 16 then pickerCrib s
  else if h : n < 16 then s.ledger.holder[n]
  else pickerCrib s

/-- The stage a bridge belongs to (R15, R224, R361). -/
def bridgeStage (k : Nat) : Nat := if k < 16 then k / 4 else if k = 16 then 4 else if k - 20 < 16 then (k - 20) / 4 else 4

/-- A stage's energy of the second (R652): 20,000 ticks of 50 µs a second, so µW times ticks over 20,000 are µJ. -/
def stageSecond (s : State) (i : Stage) : State :=
  let l := s.ledger
  let e := l.bus[i] / 20000
  let s := s.setLedger fun l => { l with bus := l.bus.set i (l.bus[i] % 20000) }
  let s := s.p Od.STAGE_BUS_UJ i (ofInt 64 (s.g Od.STAGE_BUS_UJ i + e))
  let due := e + l.debt[i]
  if s.ledgerRuns = false then s
  else if due < 0 then s.setLedger fun l => { l with debt := l.debt.set i due }
  else
    let ws := (l.weight.filter fun w => bridgeStage w.1 == i).map fun w => (bridgeCrib s w.1, w.2)
    divide (s.setLedger fun l => { l with debt := l.debt.set i 0 }) due.toNat ws

/-- The controller's energy of the second: its base to crib 0, the rest by use (R652). -/
def ctrlSecond (s : State) (e : Nat) : State :=
  let base := min e (s.g Od.LEDGER_CTRL_BASE_MW * 1000)
  let c (i k : Nat) : Nat := Keyed.getD s.ledger.sec (16 * i + k) 0
  let w (i : Nat) : Nat := c i 5 / 1000 + c i 6 / 1000 + 4 * (c i 7 + c i 8) + (c i 9 + c i 10) / 1024
  divide (chargeEnergy s 0 base) (e - base) ((openAccts s).map fun i => (i, w i))

/-- LEDGER_SECOND: the second's energies are divided, and the caches' occupancy sampled (R649, R652, R653). `rails` holds mV, mA and
the second's µJ of each rail of R678 (R701). -/
def execLedgerSecond (rails : List (Nat × Nat × Nat)) (s : State) : Out :=
  act s fun s =>
    let rails := rails.take 7
    let s := s.each rails.zipIdx fun s (r, i) =>
      ((s.p Od.PWR_RAIL_MV i r.1).p Od.PWR_RAIL_MA i r.2.1).add Od.PWR_RAIL_UJ i r.2.2
    let s := s.each (List.finRange 5) stageSecond
    let s := if s.ledgerRuns then
        let s := ctrlSecond s (rails.map fun r => r.2.2).sum
        let s := s.each (List.range 33) fun s c =>
          meter (meter s c 11 (4 * s.g Od.SHELF_LINES c)) c 12 (64 * s.g Od.HAYLOFT_LINES c)
        meter s 0 12 (64 * s.g Od.HAYLOFT_LINES 33)
      else s
    s.setLedger fun l => { l with sec := [], weight := [] }

/-! ### Power cuts, Held and restarts (R669 to R671) -/

/-- PFW_N is accepted low: every minute closes at the PF tick (R669). -/
def ledgerPowerFail (s : State) : State := (closeAll s 1 true).setLedger fun l => { l with pfTick := s.utc }

/-- PFW_N is accepted high again: minutes open from the PF tick (R663, R670); a boundary that has passed meanwhile is processed. -/
def ledgerResume (s : State) : State :=
  if s.ledgerRuns = false then s
  else
    let t := s.ledger.pfTick
    let add (s : State) (n : Nat) : State := s.each (openAccts s) fun s c => setAcct s c fun a => { a with ms := a.ms + n }
    let s := openAll s t
    match minuteEnd s with
    | none => s
    | some e =>
      if s.utc < e then add s (s.utc / tickNs - t / tickNs)
      else add (boundary (add s (e / tickNs - t / tickNs))) ((s.utc - s.utc / minuteNs * minuteNs) / tickNs)

/-- The device leaves Starting, Serving or Draining: every minute closes (R671). -/
def ledgerStop (s : State) : State := ledgerState (closeAll s 32 true) 0

/-- The device enters Starting (R671): the GAP record, then minutes for every open account. Reason 1 POWER, 2 WARM_RESTART, 3 HELD. -/
def ledgerStart (s : State) (reason : Nat) : State :=
  let s := gapRecord (ledgerOn s) s.ledger.lastEnd s.utc reason
  openAll s s.utc

/-- Accounts follow the enabled cribs at an apply instant (R648). -/
def ledgerApply (s : State) : State :=
  if s.ledgerRuns = false then s
  else
    let cs := openAccts s
    let now := openCribs s
    let gone := cs.filter fun c => !now.contains c
    let ring := decide (128 + gone.length ≤ s.g Od.LEDGER_FREE)
    let s := s.each gone fun s c => closeAcct s c 0 false ring
    let s := if gone = [] ∨ ring = true then s else ledgerState s 2
    openMinutes s (now.filter fun c => !cs.contains c) s.utc

/-- Booting checks the ring: a position above LEDGER_ACK whose halves do not agree holds no record (R668). -/
def ledgerTorn (s : State) (torn : List Nat) : State :=
  s.each torn fun s pos =>
    let s := (s.setBlob Od.LEDGER_REC pos (List.replicate 128 0)).inc Od.LEDGER_LOST_REC
    raise s Src.ledgerLost (s.g Od.LEDGER_LOST_REC)

end Sys2Proof.Machine
end

