-- ==== Sys2Proof/Machine/Memory.lean ====
section
/-! DEFINITION. Memory protection: the codes' judgement of a line or word, the error log, test lines and retirement (R525
to R546). -/

namespace Sys2Proof.Machine

def State.setMem (s : State) (f : MemSt → MemSt) : State := { s with mem := f s.mem }

/-! ### The log -/

/-- A new record, unless the rate limit drops it, with its event (R539, R599). -/
def memRecord (s : State) (r : MemRec) : State :=
  let (rate, ok) := s.mem.rate.tick s.second 1000
  if !ok || s.chestClosed then (s.setMem fun m => { m with rate := rate }).inc Od.MEM_ERR_LOST
  else
    let seq := (s.g Od.MEM_ERR_HEAD + 1) % 2 ^ 32
    let s := s.setMem fun m => { m with rate := rate, log := ({ r with seq := seq, time := s.utc, rep := 0 } :: m.log).take 256 }
    let s := (s.p Od.MEM_ERR_HEAD 0 seq).chestWrite Region.memLog (seq % 256)
    if 2 ≤ r.kind then raise s Src.memError seq else s

/-- Log a memory error: merged into the newest record, or given a new one (R538, R539). -/
def memLog (s : State) (r : MemRec) : State :=
  let same := match s.mem.log with
    | m :: _ => m.source == r.source && m.target == r.target && m.addr == r.addr && m.mask == r.mask
    | [] => false
  if same then
    s.setMem fun m => { m with log := modifyAt m.log 0 fun x => { x with rep := (x.rep + 1) % 2 ^ 32 }, dirty := true }
  else memRecord s r

/-- MEM_LOG_REPEAT_FLUSH: a changed REPEAT is written to the Chest (R539). -/
def execMemLogRepeatFlush (s : State) : Out :=
  act s fun s =>
    if s.mem.dirty && !s.chestClosed then
      (s.setMem fun m => { m with dirty := false }).chestWrite Region.memLog (s.g Od.MEM_ERR_HEAD % 256)
    else s

/-! ### Judging a line or a word -/

/-- The device that carries symbol `i` of a line (R526). -/
def symbolDevice (i : Nat) : Nat := if i < 64 then (if i % 8 < 4 then i % 8 else i % 8 + 1) else if i < 72 then 4 else 9

/-- What a read finds: 0 clean, 1 corrected, 2 uncorrectable; the data, the error symbols or the SRAM bit, and the devices
or the syndrome. -/
structure Judged where
  result : Nat
  data : List Byte
  count : Nat
  mask : Nat

/-- The devices of some symbols as a mask. -/
def deviceMask (l : List Nat) : Nat := l.foldl (fun m i => putBit m (symbolDevice i) true) 0

/-- Judge an 80-byte line of a rank whose erased device is `k`, 0xFF for none (R527, R528). -/
def judgeLine (w : List Byte) (k : Nat) : Judged :=
  let bad : Judged := ⟨2, w.take 64, 0, 0⟩
  if k = 0xFF then
    match rsDecode 16 w [] with
    | none => bad
    | some r =>
      let devs := (r.errors.map symbolDevice).eraseDups
      if r.errors = [] then ⟨0, r.word.take 64, 0, 0⟩
      else if r.errors.length ≤ 8 ∧ (devs.length = 1 ∨ r.errors.length ≤ 2) then
        ⟨1, r.word.take 64, r.errors.length, deviceMask r.errors⟩
      else bad
  else
    match rsDecode 16 w ((List.range 80).filter fun i => symbolDevice i == k) with
    | none => bad
    | some r =>
      if r.errors = [] then ⟨0, r.word.take 64, 0, 0⟩
      else if r.errors.length ≤ 4 then ⟨1, r.word.take 64, r.errors.length, deviceMask r.errors⟩
      else bad

/-- Judge a 64-bit word with its check byte (R532): the bit in error, and the syndrome as mask. -/
def judgeWord (w check : Nat) : Judged :=
  let syn := secCheck w ^^^ (check % 256)
  match secDecode w check with
  | .clean => ⟨0, leBytes 8 w, 0, 0⟩
  | .corrected b => ⟨1, leBytes 8 (if b < 64 then w ^^^ 2 ^ b else w), b, syn⟩
  | .uncorrectable => ⟨2, leBytes 8 w, 0xFF, syn⟩

/-- Count a corrected error on an element of MEM_CE_CNT (R534). -/
def ceCount (s : State) (e : Nat) : State :=
  let s := s.incSat Od.MEM_CE_CNT e
  if s.g Od.MEM_CE_CNT e = 65535 then s.pb Od.MEM_CE_STICKY (e / 32) (e % 32) true else s

/-- The one device of a mask, 0xFF for more than one or none. -/
def soleDevice (mask : Nat) : Nat :=
  match below 10 mask.testBit with
  | [d] => d
  | _ => 0xFF

/-! ### Erasure mode -/

/-- MEM_ERASE_DEV of a rank is set and kept in the Chest (R529). -/
def setErase (s : State) (r v : Nat) : State :=
  let s := s.p Od.MEM_ERASE_DEV r v
  let (s, made) := s.chestPut Region.state Pos.eraseDev [.eraseDev r v]
  if made then s.setMem fun m => { m with eraseKept := if h : r < 4 then m.eraseKept.set r v else m.eraseKept } else s

/-- MEM_ERASE_DEV_WRITE (R529). -/
def execMemEraseDevWrite (r : Fin 4) (v : Nat) (s : State) : Out :=
  actWrite 0 Od.MEM_ERASE_DEV r (fun s => if v ≤ 9 ∨ v = 0xFF then (setErase s r v, 0) else (s, 0x07)) s

/-- A write of MEM_CE_CLEAR (R534). -/
def memCeClear (s : State) : State := ((s.fill Od.MEM_CE_CNT 0 43 0).fill Od.MEM_CE_STICKY 0 2 0)

/-- MEM_CE_CLEAR (R534). -/
def execMemCeClear (s : State) : Out := actWrite 0 Od.MEM_CE_CLEAR 0 (fun s => (memCeClear s, 0)) s

/-! ### Check-bit test mode (R540, R541) -/

/-- The test line that MEM_TEST_TARGET and MEM_TEST_LINE name, and its bytes: 64 of data, 16 of check for DRAM or 8 for
SRAM. -/
def testKey (s : State) : Nat := 8 * s.g Od.MEM_TEST_TARGET + s.g Od.MEM_TEST_LINE
def testLine (s : State) : List Byte :=
  Keyed.getD s.mem.test (testKey s) (List.replicate (if s.g Od.MEM_TEST_TARGET < 4 then 80 else 72) 0)
def setTest (s : State) (v : List Byte) : State := s.setMem fun m => { m with test := Keyed.insert m.test (testKey s) v }

/-- MEM_TEST_OP WRITE: encode the data. -/
def memTestWrite (s : State) : State :=
  let d := padTo 64 (s.blob Od.MEM_TEST_DATA)
  setTest s (if s.g Od.MEM_TEST_TARGET < 4 then rsEncode 16 d
    else d ++ (List.range 8).map fun w => BitVec.ofNat 8 (secCheck (ofLe (slice (8 * w) 8 d))))

/-- MEM_TEST_OP WRITE_RAW: data and check bits as given. -/
def memWriteRaw (s : State) : State :=
  let n := if s.g Od.MEM_TEST_TARGET < 4 then 16 else 8
  setTest s (padTo 64 (s.blob Od.MEM_TEST_DATA) ++ padTo n (s.blob Od.MEM_TEST_CHECK))

/-- The data and check bits of a test line go into their objects; on SRAM only 8 check bytes are meant. -/
def testOut (s : State) (data : List Byte) : State :=
  (s.setBlob Od.MEM_TEST_DATA 0 data).setBlob Od.MEM_TEST_CHECK 0 (padTo 16 ((testLine s).drop 64))

/-- A record of an error that a test read has found. The address is not stated. -/
def testRec (s : State) (j : Judged) : MemRec :=
  let t := s.g Od.MEM_TEST_TARGET
  let dram := decide (t < 4)
  { seq := 0, time := 0, source := 5, kind := if j.result = 1 then 1 else 3
    target := if dram then t / 2 else t - 2, rank := if dram then t % 2 else 0
    device := if dram then soleDevice j.mask else j.count, symbols := if dram then j.count else 1
    bank := 0, crib := 0, row := 0, col := if dram then 16 * (s.g Od.MEM_TEST_LINE / 2) else 0
    addr := s.free 32, rep := 0, mask := j.mask }

/-- MEM_TEST_OP READ: decode, report and log, with no counter and no write-back (R540, R541). What is not stated of an
uncorrectable line, or of several words in error, is a free value. -/
def memTestRead (s : State) : State :=
  let l := testLine s
  let t := s.g Od.MEM_TEST_TARGET
  if t < 4 then
    let j := judgeLine l (s.g Od.MEM_ERASE_DEV t)
    let (j, s) : Judged × State := if j.result = 2 then (⟨2, j.data, s.free 5, s.useFree.free 10⟩, s.useFree.useFree) else (j, s)
    let s := testOut (s.p Od.MEM_TEST_RESULT 0 (j.result + 256 * j.count + 65536 * j.mask)) j.data
    if j.result = 0 then s else (memLog s (testRec s j)).useFree
  else
    let js := (List.range 8).map fun w => judgeWord (ofLe (slice (8 * w) 8 l)) (ofLe (slice (64 + w) 1 l))
    let hit := js.filter fun j => j.result != 0
    let worst := js.foldl (fun m j => max m j.result) 0
    let (bit, s) := match hit with
      | [] => (0, s)
      | [j] => if j.result = 1 then (j.count, s) else (s.free 8, s.useFree)
      | _ => (s.free 8, s.useFree)
    let s := testOut (s.p Od.MEM_TEST_RESULT 0 (worst + 256 * bit)) (js.flatMap fun j => j.data)
    s.each hit fun s j => (memLog s (testRec s j)).useFree

/-- MEM_TEST_OP READ_RAW: data and check bits as stored. -/
def memReadRaw (s : State) : State := testOut s ((testLine s).take 64)

/-- A write of MEM_TEST_OP (R540). -/
def memTestOp (s : State) (op : Nat) : State :=
  match op with
  | 1 => memTestWrite s
  | 2 => memWriteRaw s
  | 3 => memTestRead s
  | 4 => memReadRaw s
  | _ => s

/-- MEM_TEST_WRITE (R540). -/
def execMemTestWrite (s : State) : Out := actWrite 0 Od.MEM_TEST_OP 0 (fun s => (memTestOp s 1, 0)) s

/-- WRITE_RAW (R540). -/
def execWriteRaw (s : State) : Out := actWrite 0 Od.MEM_TEST_OP 0 (fun s => (memTestOp s 2, 0)) s

/-- MEM_TEST_READ (R540, R541). -/
def execMemTestRead (s : State) : Out := actWrite 0 Od.MEM_TEST_OP 0 (fun s => (memTestOp s 3, 0)) s

/-- READ_RAW (R540). -/
def execReadRaw (s : State) : Out := actWrite 0 Od.MEM_TEST_OP 0 (fun s => (memTestOp s 4, 0)) s

/-! ### Retirement (R542 to R546) -/

/-- Ranks per channel, and the row groups of a bank: a rank of 8 × density in 32 banks of 64 KiB frames (R25, R26). -/
def State.ranks (s : State) : Nat := fieldOf (s.g Od.DRAM_GEOM) 3 0
def State.rowGroups (s : State) : Nat :=
  let gib := match fieldOf (s.g Od.DRAM_GEOM) 7 4 with
    | 1 => 16
    | 2 => 24
    | 3 => 32
    | _ => 0
  gib * 512

/-- The retirement list: entries by position (R545). -/
def retireList (s : State) : List (Nat × Nat) :=
  ((List.range 4128).map fun j => (j, s.g Od.MEM_RETIRE_LIST j)).filter fun p => p.2 != 0

/-- The bank an entry names, as its bits [6:0], and whether it is a bank. -/
def entryBank (v : Nat) : Nat := fieldOf v 6 0
def entryIsBank (v : Nat) : Bool := v.testBit 31

/-- What refuses a retirement (R543): the state MEM_RETIRE_STATE takes, 0 for none. -/
def retireCheck (s : State) (v : Nat) : Nat :=
  let l := (retireList s).map (·.2)
  let bank := entryIsBank v
  if fieldOf v 28 21 ≠ 0 ∨ v.testBit 29 = false ∨ v.testBit 30 = true ∨ s.ranks ≤ fieldOf v 1 1 ∨
      (bank = false ∧ s.rowGroups ≤ fieldOf v 20 7) then 5
  else if l.any fun e => entryBank e == entryBank v && (entryIsBank e || (!bank && fieldOf e 20 7 == fieldOf v 20 7)) then 4
  else if (if bank then 32 ≤ s.g Od.MEM_RETIRE_COUNT 1 else 4096 ≤ s.g Od.MEM_RETIRE_COUNT 0) then 3
  else 0

/-- A write of MEM_RETIRE_REQ (R543, R686). -/
def memRetireReq (s : State) (v : Nat) : State × Nat :=
  if s.g Od.PF_STATE ≠ 0 ∨ s.g Od.MEM_RETIRE_STATE = 1 then (s, 0x0A)
  else
    let r := retireCheck s v
    if r ≠ 0 then (s.p Od.MEM_RETIRE_STATE 0 r, 0)
    else ((s.p Od.MEM_RETIRE_STATE 0 1).setMem fun m => { m with retiring := some v }, 0)

/-- MEM_RETIRE_REQ (R543). -/
def execMemRetireReq (v : Nat) (s : State) : Out := actWrite 0 Od.MEM_RETIRE_REQ 0 (fun s => memRetireReq s v) s

/-- Report how many regions and banks the list holds (R544). -/
def retireCount (s : State) : State :=
  let l := (retireList s).map (·.2)
  (s.p Od.MEM_RETIRE_COUNT 0 (l.filter fun e => !entryIsBank e).length).p Od.MEM_RETIRE_COUNT 1 (l.filter entryIsBank).length

/-- MEM_RETIRE_DONE: copying has ended and the list is written (R544). `lines` are the Hayloft positions, 16 · set + way,
that lie in the retired frames, and, for a bank, those it takes its replacements from. -/
def execMemRetireDone (lines : List Nat) (s : State) : Out :=
  act s fun s =>
    match s.mem.retiring with
    | none => s
    | some v =>
      let s := s.each lines fun s k => s.setHay k none
      let s := if entryIsBank v then
          let s := s.each (retireList s) fun s p =>
            if !entryIsBank p.2 && entryBank p.2 == entryBank v then (s.p Od.MEM_RETIRE_LIST p.1 0).chestWrite Region.state (Pos.retire (p.1 / 12))
            else s
          let s := s.setMem fun m => { m with gone := lines.foldl (fun g k => Keyed.insert g k ()) m.gone }
          s.p Od.HAY_LINES_RETIRED 0 s.mem.gone.length
        else s
      let j := ((List.range 4128).find? fun j => s.g Od.MEM_RETIRE_LIST j == 0).getD 0
      let s := (s.p Od.MEM_RETIRE_LIST j v).chestWrite Region.state (Pos.retire (j / 12))
      retireCount ((s.p Od.MEM_RETIRE_STATE 0 2).setMem fun m => { m with retiring := none })

/-- The retirement list is emptied and every rank returns to normal mode (R546). -/
def retireClear (s : State) : State :=
  let s := s.each (retireList s) fun s p => (s.p Od.MEM_RETIRE_LIST p.1 0).chestWrite Region.state (Pos.retire (p.1 / 12))
  let s := s.each (List.range 4) fun s r => setErase s r 0xFF
  let s := s.setMem fun m => { m with gone := [] }
  retireCount (s.p Od.HAY_LINES_RETIRED 0 0)

/-- A write of MEM_RETIRE_CLEAR while Held (R546); another value than the key has no effect. -/
def memRetireClear (s : State) (v : Nat) : State := if v = 0x434C5252 then retireClear s else s

/-- MEM_RETIRE_CLEAR (R546). -/
def execMemRetireClear (v : Nat) (s : State) : Out :=
  actWrite 0 Od.MEM_RETIRE_CLEAR 0 (fun s => (memRetireClear s v, 0)) s

end Sys2Proof.Machine
end

