-- ==== Sys2Proof/Machine/Tick.lean ====
section
/-! DEFINITION. The motion tick: what the controller plans and sends every 50 µs, and what it takes from a stage's
answer (R224 to R256, R361 to R376). -/

namespace Sys2Proof.Machine

/-! ### Planning -/

/-- Loop 2 moves the sled in D0 and D1 while no seek does (R176, R370). Without a sample of TRACK_CMD in the tick, and
while the stage's answers are missed, it holds (R390). -/
def sledLoop (s : State) (n : Drive) : State :=
  let a := sledOf n
  let d := s.drives[n]
  let (sum, cnt) := d.trackMean
  let s := s.setDv n fun d => { d with trackMean := (0, 0) }
  if s.g Od.DRV_STATE n ≤ 1 && d.trackClosed && cnt != 0 && (s.ax a).move.isNone && (s.ax a).stop == .run &&
      (s.ax a).energised && !s.axisHeld a && s.motion.stages[axisStage a].missUp == 0 then
    let (s, u) := loopStep s n 2 (roundRat ((sum : Rat) / cnt))
    s.setAx a fun x => { x with pos := x.pos + u }
  else s

/-- One axis for one tick: the profile's position, a stop run by the controller, or the sled's loop (R367, R375,
R376). A stepper's stop ramp is the stage's own. -/
def axisTick (s : State) (a : Axis) : State :=
  let x := s.ax a
  let k := s.g Od.MOT_TICK
  match x.move with
  | some m =>
    let (p, v, done) := m.at k
    let s := s.setAx a fun x => { x with pos := p, speed := v, move := if done then none else some m }
    if done then
      match m.use with
      | .homeSeek | .homeRelease | .open_ => s
      | _ => s.p Od.MOT_STATE a 1
    else s
  | none =>
    let run (a' j : Nat) : State :=
      match x.halt with
      | none => restAxis s a
      | some h =>
        let (p, v, done) := haltAt h a' j k
        let s := s.setAx a fun x => { x with pos := p, speed := v }
        if done then restAxis s a else s
    match x.stop with
    | .profile => run (s.gm (axisStage a) Od.MOT_A_MAX a) (s.gm (axisStage a) Od.MOT_J_MAX a)
    | .ramp => if a = 16 then run (s.gm 4 Od.MOT_STOP_DECEL a) 0 else s
    | .run =>
      match axisDrive a with
      | some n => sledLoop s n
      | none => s

/-- The speed a spindle is to turn at, in rpm (R241). -/
def spinRequest (s : State) (n : Drive) : Nat :=
  if s.g Od.DRV_STATE n ≤ 1 ∨ s.drives[n].wake.isSome then s.speedRequest n else (s.mot (spindleOf n)).req

/-- SPIN_TARGET moves towards a goal at a rate in rpm/s, with the fraction kept (R240, R241). -/
def rampTarget (s : State) (n : Drive) (goal up down : Nat) : State :=
  let cur := s.g Od.SPIN_TARGET n
  let m := s.mot (spindleOf n)
  let rate := if cur ≤ goal then up else down
  let num := m.ramp + rate * 16777216
  let stp := num / 24000000000
  let next := if cur ≤ goal then min goal (cur + stp) else max goal (cur - stp)
  (s.p Od.SPIN_TARGET n next).setMot (spindleOf n) fun m => { m with ramp := if next = goal then 0 else num % 24000000000 }

/-- One spindle for one tick: target and current demand (R228, R241, R244, R245, R251). -/
def spinTick (s : State) (n : Drive) : State :=
  let st := s.g Od.SPIN_STATE n
  let req := spinRequest s n
  let s := s.setMot (spindleOf n) fun m => { m with req := req }
  let s :=
    if 3 ≤ st ∧ st ≤ 5 then
      if s.gb Od.SPIN_FLAGS n 2 then s else rampTarget s n (rpmUnits req) (s.gs Od.SPIN_ACCEL) (s.gs Od.SPIN_DECEL)
    else if st = 6 then
      rampTarget s n 0 0 (if s.gb Od.INTERLOCK_STATE 0 8 || s.g Od.PF_STATE != 0 then s.gs Od.SPIN_STOP_DECEL
        else s.gs Od.SPIN_DECEL)
    else s
  if 3 ≤ st ∧ st ≤ 6 then
    if s.motion.stages[axisStage (sledOf n)].missUp = 0 then
      let (s, u) := loopStep s n 3 ((s.g Od.SPIN_TARGET n : Int) - s.gi Od.SPIN_SPEED_MEAS n)
      let lim : Int := s.gs Od.SPIN_I_MAX n
      s.setMot (spindleOf n) fun m => { m with iq := clampInt (-lim) lim u }
    else s
  else s.setMot (spindleOf n) fun m => { m with iq := 0 }

/-- The carousel for one tick: position and speed loops, or the open-loop stop after a resolver fault (R254, R371). -/
def carTick (s : State) : State :=
  let m := s.mot 16
  match m.openRate with
  | some r =>
    let dec : Int := s.gm 4 Od.MOT_STOP_DECEL 16
    let r' := if r < 0 then min 0 (r + dec) else max 0 (r - dec)
    s.setMot 16 fun m => { m with
      openRate := some r', iq := 0, eangle := ofInt 16 (m.eangle + s.gm 4 Od.CAR_POLE_PAIRS * r' / 400000000) }
  | none =>
    if s.g Od.CAR_STATE = 1 then
      let x := s.ax 16
      let err : Rat := ((x.pos - (x.pos / 65536) * 65536 : Int) : Rat) / 65536 + (toInt 16 (ofInt 16 (x.pos / 65536 - s.gi Od.MOT_POS 16)) : Rat)
      let demand : Rat := x.speed + s.gm 4 Od.CAR_KP_POS * err
      let meas : Rat := 20000 * (m.speeds.headD 0 : Rat)
      let ve := demand - meas
      let integ := m.integ + roundRat ve
      let u := roundRat ((s.gm 4 Od.CAR_KP_V : Rat) * ve / 1000 + (s.gm 4 Od.CAR_KI_V : Rat) * integ / 20000 / 1000)
      let lim : Int := s.gm 4 Od.CAR_I_MAX
      s.setMot 16 fun m => { m with integ := integ, iq := clampInt (-lim) lim u }
    else s.setMot 16 fun m => { m with iq := 0, integ := 0 }

/-! ### The downstream A-cell (R364) -/

/-- Pole pairs of a motor. -/
def State.polePairs (s : State) (m : Motor) : Nat := if m.val < 16 then s.gs Od.SPIN_POLE_PAIRS m else s.gm 4 Od.CAR_POLE_PAIRS

/-- The disc's angle carried forward to now at the measured speed, in SAU (R237). -/
def discAngleNow (s : State) (n : Drive) : Nat :=
  ofInt 16 ((s.g Od.ANGLE_NOW n % 65536 : Nat) + s.gi Od.SPIN_SPEED_MEAS n * (s.now - s.drives[n].angleAt : Nat) / 12800000)

/-- The electrical angle of media lock (R237). -/
def mlockAngle (s : State) (n : Drive) : Nat :=
  (s.polePairs (spindleOf n) * discAngleNow s n + s.g Od.MLOCK_OFS n) % 65536

/-- Mode, electrical angle, rate, d and q demands of a spindle's bridge (R224, R228, R230, R231). -/
def spinCommand (s : State) (n : Drive) : Nat × Nat × Int × Int × Int :=
  let st := s.g Od.SPIN_STATE n
  let m := s.mot (spindleOf n)
  let rate := s.polePairs (spindleOf n) * s.gi Od.SPIN_SPEED_MEAS n * 128
  let i : Int := s.gs Od.HFI_SIGN_I
  match st with
  | 1 => (2, m.eangle, 0, 0, 0)
  | 2 => (2, m.eangle, 0, if m.ticks < s.gs Od.HFI_SIGN_T then i else -i, 0)
  | 3 => (2, m.eangle, rate, 0, m.iq)
  | 4 => (1, m.obsAngle, rate, 0, m.iq)
  | 5 => (1, mlockAngle s n, rate, 0, m.iq)
  | 6 => (1, m.obsAngle, rate, 0, m.iq)
  | 7 => (3, 0, 0, 0, 0)
  | 8 => (4, 0, 0, 0, 0)
  | 9 => (if s.g Od.SPIN_FAULT_CAUSE n = 1 ∨ 5 ≤ s.g Od.SPIN_FAULT_CAUSE n ∨ 4000 ≤ m.lowTicks then 0 else 3, 0, 0, 0, 0)
  | _ => (0, 0, 0, 0, 0)

/-- The same for the carousel (R253, R254). -/
def carCommand (s : State) : Nat × Nat × Int × Int × Int :=
  let m := s.mot 16
  let pp := s.polePairs 16
  match m.openRate with
  | some r => if r = 0 then (0, 0, 0, 0, 0) else (1, m.eangle, pp * r * 65536 / 800000000, s.gm 4 Od.CAR_OPEN_I, 0)
  | none =>
    if s.g Od.CAR_STATE = 1 then
      (1, (pp * s.g Od.CAR_ANGLE + s.gm 4 Od.CAR_ELEC_OFS) % 65536, pp * m.speeds.headD 0 * 32768, 0, m.iq)
    else (0, 0, 0, 0, 0)

/-- The 16 bytes of a three-phase bridge. -/
def bridgeBytes (s : State) (c : Nat × Nat × Int × Int × Int) : List Byte :=
  let (mode, ea, er, id, iq) := c
  leBytes 2 mode ++ leBytes 2 ea ++ leBytes 4 (ofInt 32 er) ++ leBytes 2 (ofInt 16 id) ++ leBytes 2 (ofInt 16 iq) ++
    (if mode = 2 then leBytes 2 (s.gs Od.HFI_AMPL) ++ leBytes 2 (s.gs Od.HFI_DIV) else leBytes 4 0)

/-- The three-phase bridges of a stage; without BRIDGE_EN all are high-impedance (R20). -/
def bridgeBlock (s : State) (i : Stage) : List Byte :=
  if !s.pins.bridgeEn.getLsbD i then List.replicate 64 0#8
  else if i = 4 then bridgeBytes s (carCommand s) ++ List.replicate 48 0#8
  else (List.finRange 4).flatMap fun b => bridgeBytes s (spinCommand s ⟨(4 * i.val + b.val) % 16, by omega⟩)

/-- The 32 bytes of a stepper bridge. -/
def stepperBytes (s : State) (a : Axis) : List Byte :=
  let x := s.ax a
  let i := axisStage a
  let u (o : Ob) : List Byte := leBytes 2 (s.gm i o a)
  leBytes 1 (b2n x.energised) ++ leBytes 1 (b2n (x.stop == .ramp)) ++ leBytes 4 (ofInt 32 (x.pos / 65536)) ++
    leBytes 2 (ofInt 16 (x.pos % 65536)) ++ u Od.MOT_I_HOLD ++ u Od.MOT_I_RUN ++ u Od.MOT_I_CEIL ++ u Od.MOT_I_SLEW ++
    u Od.MOT_LA_SET ++ u Od.MOT_LA_GAIN ++ u Od.MOT_LA_STALL ++ u Od.MOT_STALL_N ++
    leBytes 4 (s.gm i Od.MOT_STOP_DECEL a) ++ leBytes 4 (s.gm i Od.MOT_LA_MIN_V a)

/-- The latch source and limit bits of each input (R18, R364, R366). -/
def switchMap (i : Stage) : List Nat :=
  if i.val < 4 then [0x10, 0x11, 0x12, 0x13, 0x30, 0x31, 0x32, 0x33]
  else [0x10, 0x30, 0x01, 0x31, 0x12, 0x07, 0x04, 0x07]

/-- The downstream A-cell of a stage (R364). -/
def stageCell (s : State) (i : Stage) : List Byte :=
  let g := s.motion.stages[i]
  let stop := s.gb Od.INTERLOCK_STATE 0 8 || s.g Od.PF_STATE != 0 || g.stopAll
  padTo 320 (leBytes 4 (b2n stop + 2 * b2n g.pwrDown + 4 * b2n g.energise) ++ bridgeBlock s i ++
    padTo 128 ((stageSteppers i).flatMap (stepperBytes s)) ++
    List.replicate 8 (BitVec.ofNat 8 (s.gm i Od.MOT_SW_FILTER)) ++ (switchMap i).map (BitVec.ofNat 8 ·) ++
    leBytes 1 (s.gm i Od.MOT_SW_INVERT i))

/-! ### The stage's steppers (R372 to R374) -/

/-- One current period of a stepper at a commanded position in 1/65,536 microstep: the index it drives, its current,
and how long it has run at the ceiling with a stall's load angle. -/
def coilPeriod (s : State) (a : Axis) (pos : Int) (x : AxisSt) : AxisSt :=
  let i := axisStage a
  let g (o : Ob) : Nat := s.gm i o a
  let la := s.g Od.MOT_LOAD_ANGLE a
  let fast := decide (g Od.MOT_LA_MIN_V ≤ x.speed.natAbs)
  let goal :=
    if 2 ≤ x.sameTicks then g Od.MOT_I_HOLD
    else if fast then min (g Od.MOT_I_CEIL) (g Od.MOT_I_RUN + g Od.MOT_LA_GAIN * (la - g Od.MOT_LA_SET) / 256)
    else g Od.MOT_I_RUN
  let slew := g Od.MOT_I_SLEW
  let coil := if x.coil ≤ goal then min goal (x.coil + slew) else max goal (x.coil - slew)
  { x with
    coil := coil, index := ofInt 10 (roundRat ((pos : Rat) / 65536))
    stallRun := if fast && coil == g Od.MOT_I_CEIL && decide (g Od.MOT_LA_STALL ≤ la) then x.stallRun + 1 else 0 }

/-- A stepper's two current periods in a tick: the midpoint, then the new target (R372). -/
def coilTick (s : State) (a : Axis) : State :=
  let x := s.ax a
  if x.energised && x.stop != .ramp then
    let x := { x with sameTicks := if x.pos = x.lastPos then x.sameTicks + 1 else 0 }
    let x' := coilPeriod s a x.pos (coilPeriod s a ((x.lastPos + x.pos) / 2) x)
    s.setAx a fun _ => { x' with lastPos := x.pos }
  else s.setAx a fun x => { x with coil := if x.energised then s.gm (axisStage a) Od.MOT_I_HOLD a else 0, lastPos := x.pos, stallRun := 0 }

/-- The link of a stage carries ticks. -/
def State.stageLink (s : State) (i : Stage) : Bool :=
  s.parts.stageUp.getLsbD i && !s.motion.stages[i].retraining && !s.motion.stages[i].resetting

/-- Send a stage its tick with up to two bulk cells; the stage's steppers follow (R361 to R364). ACK_MAP is that of upstream tick k−2,
whose cell 1 ends 0.8 µs after SOF k−1. -/
def stageSend (s : State) (i : Stage) : State :=
  if s.stageLink i then
    let g := s.motion.stages[i]
    let bulk := g.bulk.take 2
    let ack := g.ackOut % 2 + g.ackNext / 2 * 2
    let s := s.emit (.motionTick i (s.g Od.MOT_TICK % 65536) 1 ack (stageCell s i) (bulk.map (bulkChars 70)))
    let s := s.setStage i fun g => { g with bulk := g.bulk.drop 2, sent := (bulk :: g.sent).take 4, ackOut := g.ackNext, ackNext := 0 }
    s.each (stageSteppers i) coilTick
  else s

/-- MOTION_TICK_SEND: downstream tick k of every stage link (R224, R361). A committed image is in force from here on
each stage (R74). -/
def execMotionTickSend (s : State) : Out :=
  act s fun s =>
    let s := s.inc Od.MOT_TICK
    let s := { s with stageImg := Vector.replicate 5 none }
    let s := s.each (List.finRange 20) axisTick
    let s := carTick (s.each (List.finRange 16) spinTick)
    s.each (List.finRange 5) stageSend

/-! ### The upstream A-cell (R365) -/

/-- An unsigned and a signed field of a cell. -/
def cellU (bs : List Byte) (at_ n : Nat) : Nat := ofLe (slice at_ n bs)
def cellI (bs : List Byte) (at_ n : Nat) : Int := toInt (8 * n) (cellU bs at_ n)

/-- MOD_INDEX and the counts of R243. -/
def modIndex (s : State) (m : Motor) (v : Nat) : State :=
  (s.p Od.MOD_INDEX m v).setMot m fun x => { x with
    vHigh := if v = 1000 then x.vHigh + 1 else 0, vLow := if v < 980 then x.vLow + 1 else 0 }

/-- The estimators of a spindle go on one tick (R231, R233). -/
def estimate (s : State) (n : Drive) (resp : Int) (meas : List Int) : State :=
  let st := s.g Od.SPIN_STATE n
  let pars := [s.gs Od.SPIN_RS n, s.gs Od.SPIN_LS n, s.gs Od.SPIN_KE n]
  s.setMot (spindleOf n) fun m => { m with
    eangle := if 1 ≤ st ∧ st ≤ 3 then Config.injectionAngle m.eangle resp % 65536 else m.eangle
    obsAngle := if 3 ≤ st ∧ st ≤ 9 then Config.observerAngle m.obsAngle pars meas % 65536 else m.obsAngle }

/-- The measured speed from the change of the drive's angle over the tick, in 1/256 SAU (R240). -/
def measureSpeed (s : State) (n : Drive) (before : MotorSt) : State :=
  let m := s.mot (spindleOf n)
  let st := s.g Od.SPIN_STATE n
  let pp := max 1 (s.polePairs (spindleOf n))
  let disc := decide (2 ≤ s.g Od.ANGLE_STATE n) || st == 5
  let el (a b : Nat) : Int := toInt 16 (b + 65536 - a)
  let v : Int :=
    if disc then toInt 32 (s.g Od.ANGLE_NOW n + 2 ^ 32 - m.lastAngle) * 256
    else if st = 0 then 0
    else if st ≤ 3 then roundRat ((el before.eangle m.eangle * 256 : Int) / (pp : Rat))
    else roundRat ((el before.obsAngle m.obsAngle * 256 : Int) / (pp : Rat))
  let s := (s.pi Od.SPIN_SPEED_MEAS n v).p Od.SPIN_RPM n (roundRat ((v.natAbs * 1200000 : Nat) / (16777216 : Rat))).toNat
  s.setMot (spindleOf n) fun m => { m with
    lastAngle := s.g Od.ANGLE_NOW n, speeds := (v :: m.speeds).take 400
    lowTicks := if v.natAbs < rpmUnits 20 then m.lowTicks + 1 else 0, ticks := if st = 1 ∨ st = 2 then m.ticks + 1 else m.ticks }

/-- Handover from injection to the observer (R233 to R235). -/
def handover (s : State) (n : Drive) : State :=
  let m := s.mot (spindleOf n)
  let v := s.spinMeas n
  if v < rpmUnits 200 then s.setMot (spindleOf n) fun m => { m with ticks := 0 }
  else
    let agree := decide ((toInt 16 (m.obsAngle + 65536 - m.eangle)).natAbs ≤ s.gs Od.OBS_AGREE)
    let t := if agree then m.ticks + 1 else 0
    let s := s.setMot (spindleOf n) fun m => { m with ticks := t }
    if rpmUnits 240 ≤ v ∧ s.gs Od.OBS_AGREE_TICKS ≤ t then setAngle (s.p Od.SPIN_STATE n 4) n 1
    else if rpmUnits 300 ≤ v then spinFault s n 2
    else s

/-- The spread and mean of the values of R236, taken about the newest. -/
def lockSpread (l : List Nat) : Nat × Nat :=
  match l with
  | [] => (0, 0)
  | v :: _ =>
    let ds := l.map fun w => toInt 16 (w + 65536 - v)
    let hi := ds.foldl max 0
    let lo := ds.foldl min 0
    ((hi - lo).toNat, ofInt 16 (v + roundRat ((ds.sum : Int) / (l.length : Rat))))

/-- Entry to media lock (R236). -/
def mlockEnter (s : State) (n : Drive) : State :=
  let m := s.mot (spindleOf n)
  let ticks := s.gs Od.MLOCK_TICKS
  let d := (m.obsAngle + s.polePairs (spindleOf n) * 65536 * 65536 - s.polePairs (spindleOf n) * discAngleNow s n) % 65536
  let vals := (d :: m.lockVals).take ticks
  let near := decide ((s.gi Od.SPIN_SPEED_MEAS n - s.g Od.SPIN_TARGET n).natAbs * 100 ≤ 2 * s.g Od.SPIN_TARGET n)
  if 2 ≤ s.g Od.ANGLE_STATE n ∧ near = true then
    let (spread, mean) := lockSpread vals
    if vals.length = ticks ∧ spread ≤ s.gs Od.MLOCK_SPREAD then
      (((s.p Od.MLOCK_OFS n mean).p Od.SPIN_STATE n 5).pb Od.SPIN_FLAGS n 4 true).setMot (spindleOf n) fun m => { m with
        lockVals := [], devTicks := 0 }
    else s.setMot (spindleOf n) fun m => { m with lockVals := vals }
  else s.setMot (spindleOf n) fun m => { m with lockVals := [] }

/-- The watch on media lock (R239). -/
def mlockWatch (s : State) (n : Drive) : State :=
  let far := decide (s.gs Od.MLOCK_DEV < (toInt 16 ((s.mot (spindleOf n)).obsAngle + 65536 - mlockAngle s n)).natAbs)
  let s := s.setMot (spindleOf n) fun m => { m with devTicks := if far then m.devTicks + 1 else 0 }
  if 4 ≤ (s.mot (spindleOf n)).devTicks then mlockExit s n else s

/-- The spindle's mode changes of one tick (R233 to R250, R256). -/
def spinModes (s : State) (n : Drive) (vbus : Nat) : State :=
  let st := s.g Od.SPIN_STATE n
  let v := s.spinMeas n
  let s := s.pb Od.SPIN_FLAGS n 3 (st == 6 && decide (s.gs Od.BRAKE_VBUS_MAX < vbus))
  if st = 3 then handover s n
  else if (st = 4 ∨ st = 5) ∧ v < rpmUnits 180 ∧ rpmUnits 240 < s.g Od.SPIN_TARGET n then spinFault s n 4
  else if st = 4 then mlockEnter s n
  else if st = 5 then mlockWatch s n
  else if st = 6 ∧ v < rpmUnits 180 then angleOpen (s.p Od.SPIN_STATE n 7) n
  else if st = 8 then
    let g := s.motion.stages[axisStage (sledOf n)]
    if s.driven && s.pins.bridgeEn.getLsbD (axisStage (sledOf n)) && !(s.mot (spindleOf n)).tripped && !g.vbusCut && !g.linkHold &&
        decide (rpmUnits 240 ≤ v) then
      let s := spinResume s n
      if s.hasWork n && s.g Od.DRIVE_FAULT n == 0 then s else spinBrake s n
    else s
  else s

/-- A spindle's part of an upstream A-cell: the bridge's block of 24 bytes (R225, R365). -/
def spinUp (s : State) (n : Drive) (b : List Byte) (vbus : Nat) : State :=
  let before := s.mot (spindleOf n)
  let s := weighBridge s (spindleOf n) (cellI b 0 2) (cellI b 2 2) (cellI b 4 2) (cellI b 6 2)
  let s := modIndex s (spindleOf n) (cellU b 8 2)
  let three := [cellI b 10 2, cellI b 12 2, cellI b 14 2]
  let s := estimate s n (cellI b 10 2) ([cellI b 0 2, cellI b 2 2, cellI b 4 2, cellI b 6 2] ++ three)
  let s := measureSpeed s n before
  let st := s.g Od.SPIN_STATE n
  if (b.getD 16 0).getLsbD 0 && decide (1 ≤ st ∧ st ≤ 7) then spinFault s n 5 else spinModes s n vbus

/-- The carousel's part: its resolver, position and speed (R252 to R254, R383). -/
def carUp (s : State) (b : List Byte) (angle ampl : Nat) : State :=
  let s := weighBridge s 16 (cellI b 0 2) (cellI b 2 2) (cellI b 4 2) (cellI b 6 2)
  let s := modIndex s 16 (cellU b 8 2)
  let old := s.g Od.CAR_ANGLE
  let s := s.add Od.LIFE_MOT_USTEPS 16 (toInt 16 (angle + 65536 - old)).natAbs
  let s := ((s.p Od.CAR_ANGLE 0 angle).p Od.RES_AMPL 0 ampl).pi Od.MOT_POS 16 ((angle + 65536 - s.g Od.CAR_HOME_OFS) % 65536 : Nat)
  let bad := decide (ampl < 500 ∨ 1500 < ampl)
  let s := s.setMot 16 fun m => { m with
    resBad := if bad then m.resBad + 1 else 0, speeds := [toInt 16 (angle + 65536 - old)] }
  let g := s.motion.stages[4]
  let st := s.g Od.CAR_STATE
  if (b.getD 16 0).getLsbD 0 && st == 1 then
    pickFault ((loseAxis (s.p Od.CAR_STATE 0 3) 16).setAx 16 fun x => { x with move := none }) Cause.carousel
  else if (st = 0 ∨ st = 2) ∧ s.driven = true ∧ s.pins.bridgeEn.getLsbD 4 = true ∧ g.vbusCut = false ∧ g.linkHold = false then
    (s.p Od.CAR_STATE 0 1).setAx 16 fun x => { x with pos := s.gi Od.MOT_POS 16 * 65536, energised := true }
  else s

/-- A stepper's part: 20 bytes (R365). -/
def stepperUp (s : State) (a : Axis) (b : List Byte) : State :=
  let f := b.getD 10 0
  let pos := cellI b 0 4
  let s := s.add Od.LIFE_MOT_USTEPS a (pos - s.gi Od.MOT_POS a).natAbs
  let s := (((s.pi Od.MOT_POS a pos).p Od.MOT_USTEP a (cellU b 4 2)).p Od.MOT_I_NOW a (cellU b 6 2)).p Od.MOT_LOAD_ANGLE a (cellU b 8 2)
  let s := s.pb Od.MOT_FLAGS a 4 (f.getLsbD 4)
  let s := if f.getLsbD 3 then weighStepper s a (cellU b 6 2) else s
  let s := if (s.ax a).stop = .ramp then s.setAx a fun x => { x with pos := pos * 65536 } else s
  let s := if f.getLsbD 0 && !s.gb Od.MOT_FLAGS a 2 && (s.ax a).move.isSome then stalled s a else s
  let s := if f.getLsbD 1 && (s.ax a).move.isSome && !s.gb Od.MOT_FLAGS a 3 then limited s a else s
  if f.getLsbD 2 && (s.ax a).stop == .ramp then restAxis s a else s

/-- VBUS below the warning level, once for each excursion (R703, R704). -/
def vbusWarn (s : State) (i : Stage) (mv : Nat) : State :=
  if mv < s.g Od.PWR_VBUS_WARN then
    let s := s.setStage i fun g => { g with vbusOk := 0 }
    if s.pwr.vbusLow.getLsbD i then s
    else raise { s with pwr := { s.pwr with vbusLow := s.pwr.vbusLow ||| BitVec.twoPow 5 i } } Src.vbus (i + 65536 * mv)
  else
    let s := s.setStage i fun g => { g with vbusOk := g.vbusOk + 1 }
    if 200 ≤ s.motion.stages[i].vbusOk then { s with pwr := { s.pwr with vbusLow := s.pwr.vbusLow &&& ~~~ BitVec.twoPow 5 i } } else s

/-- STAGE_STATUS (R388, R681). -/
def stageStatus (s : State) (i : Stage) (v : Nat) : State :=
  let g := s.motion.stages[i]
  let s := if v.testBit 0 && !g.vbusCut then coastStage (cutStage (s.setStage i fun g => { g with vbusCut := true }) i) i
    else if !v.testBit 0 then s.setStage i fun g => { g with vbusCut := false } else s
  let s := if v.testBit 3 && !g.linkLost then coastStage (cutStage (s.setStage i fun g => { g with linkLost := true }) i) i else s
  if v.testBit 2 && !g.linkHold then
    coastStage ((s.each (stageSteppers i) fun s a => stopAxis s a .ramp true).setStage i fun g => { g with linkHold := true }) i
  else s.setStage i fun g => { g with linkHold := v.testBit 2 }

/-- The latch records of a cell, oldest first (R365, R378). -/
def latchUp (s : State) (i : Stage) (cell : List Byte) : State :=
  s.each (List.range 4) fun s j =>
    let r := slice (192 + 16 * j) 16 cell
    if (r.getD 1 0).getLsbD 0 then
      switchLatch s i (Fin.ofNat 8 (cellU r 0 1 % 8)) ((r.getD 0 0).getLsbD 7) (cellU r 2 2) (cellU r 4 1) (cellI r 8 4)
    else s

/-- Bulk cells of the tick before the last that the stage did not acknowledge are sent again (R189, R363). -/
def stageAck (s : State) (i : Stage) (ack : Nat) : State :=
  let (again, _) := unacked (s.motion.stages[i].sent.getD 2 []) ack
  s.setStage i fun g => { g with bulk := again ++ g.bulk }

/-- A good upstream A-cell of a stage (R225, R365). -/
def stageUp (s : State) (i : Stage) (c : List Byte) : State :=
  let s := s.setStage i fun g => { g with missUp := 0 }
  let vbus := cellU c 0 2
  let s := (s.p Od.STAGE_VBUS i vbus).pi Od.STAGE_IBUS i (cellI c 2 2)
  let s := addBus s i vbus (cellI c 2 2)
  let s := vbusWarn s i vbus
  let s := stageStatus s i (cellU c 4 1)
  let s := if i = 4 then carUp s (slice 8 24 c) (cellU c 184 2) (cellU c 186 2)
    else s.each (List.finRange 4) fun s b => spinUp s ⟨(4 * i.val + b.val) % 16, by omega⟩ (slice (8 + 24 * b.val) 24 c) vbus
  let s := s.each (stageSteppers i).zipIdx fun s (a, b) => stepperUp s a (slice (104 + 20 * b) 20 c)
  let lv := cellU c 188 1
  let s := (s.p Od.MOT_SW_LEVEL i lv).setStage i fun g => { g with level := BitVec.ofNat 8 lv }
  latchUp s i c

/-- STAGE_UPSTREAM_TICK: a stage's upstream tick (R225, R362, R390). A cell whose A_CRC fails is missed. -/
def execStageUpstreamTick (i : Stage) (status ack : Nat) (cell : CellCopy) (s : State) : Out :=
  actPart (stagePart i) s fun s =>
    if !s.stageLink i then s
    else if crc32c cell.bytes ≠ cell.crc then stageMissed s i
    else
      let s := stageUp (stageAck s i ack) i (padTo 320 cell.bytes)
      if status.testBit 1 then stageRetrain s i else s

end Sys2Proof.Machine
end

