-- ==== Sys2Proof/Machine/Power.lean ====
section
/-! DEFINITION. Supplies and interlocks: the power-fail sequence, the ESTOP and door stops, rails, temperatures, domains, the
reference clock's loss, the long-run checkpoint, delayed Chest writes and the test port (R40 to R46, R679, R680, R684 to R695, R701 to
R704, R711, R715, R716, R737, R738). -/

namespace Sys2Proof.Machine

/-! ### Interlocks (R40 to R46) -/

/-- Change what is known of the interlock inputs. -/
def State.setLock (s : State) (f : Interlock → Interlock) : State := { s with lock := f s.lock }

/-- Every axis, spindle and the carousel goes on its stop ramp, and running calibrations end (R42, R251, R355, R375, R376). -/
def stopAll (s : State) : State :=
  let s := s.each (List.finRange 20) fun s (a : Axis) => stopAxis s a .ramp true
  s.each (List.finRange 16) fun s (n : Drive) => spinBrake (calAbort s n) n

/-- Queued media work goes on once a stop has ended: drives with work are woken (R46, R688). -/
def resumeWork (s : State) : State :=
  if s.driven then s.each (List.finRange 16) fun s (n : Drive) => if s.hasWork n then wakeDrive s n else s else s

/-- ESTOP_N is accepted low (R42). -/
def execEstopNLow (s : State) : Out :=
  act s fun s =>
    if s.lock.estopHigh = false then s
    else
      let was := s.gb Od.INTERLOCK_STATE 0 8
      let s := ((s.setLock fun l => { l with estopHigh := false }).pb Od.INTERLOCK_STATE 0 1 true).pb Od.INTERLOCK_STATE 0 8 true
      let s := stopAll s
      if was then s else raise s Src.estop 0

/-- ESTOP_N is accepted high (R40): the latch stays (R45). -/
def execEstopNHigh (s : State) : Out :=
  act s fun s =>
    if s.lock.estopHigh then s
    else (s.setLock fun l => { l with estopHigh := true, estopSince := s.now }).pb Od.INTERLOCK_STATE 0 1 false

/-- DOOR_CLOSED is accepted low (R43): the picker's axes go on their stop ramps. -/
def execDoorClosedLow (s : State) : Out :=
  act s fun s =>
    if s.lock.doorClosed = false then s
    else
      let was := s.gb Od.INTERLOCK_STATE 0 9
      let s := ((s.setLock fun l => { l with doorClosed := false }).pb Od.INTERLOCK_STATE 0 2 true).pb Od.INTERLOCK_STATE 0 9 true
      let s := s.each ([16, 17, 18, 19] : List Axis) fun s a => stopAxis s a .ramp true
      if was then s else raise s Src.door 0

/-- DOOR_CLOSED is accepted high (R40). -/
def execDoorClosedHigh (s : State) : Out :=
  act s fun s => (s.setLock fun l => { l with doorClosed := true }).pb Od.INTERLOCK_STATE 0 2 false

/-- A write of INTERLOCK_ACK (R45, R46): a latch whose condition is not met stays. -/
def interlockAck (s : State) (v : Nat) : State :=
  let a := v.testBit 8 && s.lock.estopHigh && decide (s.lock.estopSince + 10000000 ≤ s.now)
  let b := v.testBit 9 && s.lock.doorClosed
  let s := if a then s.pb Od.INTERLOCK_STATE 0 8 false else s
  let s := if b then s.pb Od.INTERLOCK_STATE 0 9 false else s
  if a then resumeWork s else s

/-- INTERLOCK_ACK (R45). -/
def execInterlockAck (who : Crib) (v : Nat) (s : State) : Out :=
  actWrite who Od.INTERLOCK_ACK 0 (fun s => (interlockAck s v, 0)) s

/-! ### The power-fail sequence (R685 to R688) -/

/-- A commit ends with a code (R71 to R73): a commit that failed leaves the pending set as it is. -/
def commitEnd (s : State) (code : Nat) : State :=
  let s := { s with dict := { s.dict with commit := none } }
  let s := (s.p Od.CONFIG_STATE 0 (b2n (s.dict.pendingSet != []))).p Od.COMMIT_STATUS 0 code
  raise s Src.commitDone (code + 2 ^ 32 * s.g Od.ACTIVE_SEQ)

/-- Progress records of the running admin operations (R491, R685 step 7). -/
def journalAll (s : State) : State :=
  s.each s.admin.ops fun s o =>
    let phys := if o.kind = 3 then (if 2 ≤ o.step ∧ o.step ≤ 4 then
        (let l := (mediaOf (s.discMedia o.current)).slots; physOf (o.pos / l) (o.pos % l)) else 0)
      else if o.step = 3 then ((eraseList s o.current)[o.pos]?).elim 0 (·.2) else 0
    journalPut s o 1 0 phys

/-- PFW_N is accepted low (R41, R685, R686): a new sequence starts, unless the last one has not ended yet (R688). -/
def pfwLow (s : State) : State :=
  let s := (s.setLock fun l => { l with pfwHigh := false }).pb Od.INTERLOCK_STATE 0 0 true
  if s.g Od.PF_STATE ≠ 0 then { s with pwr := { s.pwr with resumeWanted := false } }
  else
    let s := { s with pwr := { s.pwr with resumeWanted := false, pfStart := s.now } }
    let s := (s.p Od.PF_STATE 0 1).inc Od.PF_COUNT
    let s := raise s Src.pfw 0
    let s := stopAll (ledgerPowerFail s)
    let s := if (s.dict.commit.elim false fun c => c.storing) then commitEnd s 0x14 else s
    journalAll s

/-- PFW_N_LOW (R685). -/
def execPfwNLow (s : State) : Out := act s fun s => if s.lock.pfwHigh = false then s else pfwLow s

/-- The controller resumes (R688). Steppers are energised again under RE_ENERGISE. -/
def pfResume (s : State) : State :=
  let s := { s.p Od.PF_STATE 0 0 with pwr := { s.pwr with resumeWanted := false } }
  let s := raise s Src.pfwRelease (s.g Od.PF_LAST_US)
  resumeWork (ledgerResume s)

/-- PFW_N_HIGH (R688): the controller resumes once step 9 has ended. -/
def execPfwNHigh (s : State) : Out :=
  act s fun s =>
    if s.lock.pfwHigh then s
    else
      let s := (s.setLock fun l => { l with pfwHigh := true }).pb Od.INTERLOCK_STATE 0 0 false
      if s.g Od.PF_STATE = 2 then pfResume s
      else { s with pwr := { s.pwr with resumeWanted := true } }

/-- PF_SEQUENCE_END: step 9 ends (R685, R687, R688). -/
def execPfSequenceEnd (s : State) : Out :=
  act s fun s =>
    if s.g Od.PF_STATE ≠ 1 then s
    else
      let s := (s.p Od.PF_STATE 0 2).p Od.PF_LAST_US 0 ((s.now - s.pwr.pfStart) / 1000)
      if s.pwr.resumeWanted then pfResume s else s

/-! ### Domains (R689 to R692) -/

/-- Engine `e` belongs to cluster `i` (R689). -/
def inCluster (i : Fin 5) (e : Nat) : Bool :=
  let c := classEngines (i.val + 1)
  decide (c.1 ≤ e ∧ e < c.1 + c.2)

/-- No engine of cluster `i` holds a command, and none waits for the cluster. -/
def clusterIdle (s : State) (i : Fin 5) : Bool :=
  (List.finRange 4).all fun sq => (s.thresh.seq[sq]).elim true fun j =>
    (List.finRange 4).all fun q => j.queues[q].all fun c =>
      !(c.engine.elim false fun e => inCluster i e) && !(c.held && c.cls == i.val + 1)

/-- A cluster as a domain. -/
def clusterDom (i : Fin 5) : Fin 21 := ⟨i.val, by omega⟩

/-- A Giperlink port as a domain. -/
def portDom (n : Drive) : Fin 21 := ⟨5 + n.val, by omega⟩

/-- DOMAIN_IDLE_ENTRY: no engine of the cluster has held a command for DOM_IDLE_US µs (R689, R690). -/
def execDomainIdleEntry (i : Fin 5) (s : State) : Out :=
  act s fun s =>
    if s.pwr.dom[clusterDom i] = .on ∧ s.g Od.DOM_IDLE_US i ≠ 0 ∧ clusterIdle s i = true then
      let s := setDom s (clusterDom i) .entering
      { s with pwr := { s.pwr with domAt := s.pwr.domAt.set (clusterDom i) s.now } }
    else s

/-- DOMAIN_ENTRY_DONE: the power switch has opened; an entry with work held goes on to its exit at once (R690). -/
def execDomainEntryDone (i : Fin 5) (s : State) : Out :=
  act s fun s =>
    match s.pwr.dom[clusterDom i] with
    | .entering => (setDom s (clusterDom i) .off).inc Od.DOM_ENTRY_CNT i
    | .committed => (setDom s (clusterDom i) .exiting).inc Od.DOM_ENTRY_CNT i
    | _ => s

/-- DOMAIN_EXIT_DONE: the cluster is ON; the commands it held can be dispatched (R690, R692). -/
def execDomainExitDone (i : Fin 5) (s : State) : Out :=
  act s fun s => if s.pwr.dom[clusterDom i] = .exiting then setDom s (clusterDom i) .on else s

/-- GIPERLINK_SLEEP: the port's drive is in D3 or D4 and no bulk cell has been queued for GL_SLEEP_MS ms (R689, R691): a SLEEP message
cell is sent, whose bytes the spec does not state. -/
def execGiperlinkSleep (n : Drive) (s : State) : Out :=
  act s fun s =>
    let d := s.drives[n]
    if s.glUp n = true ∧ s.pwr.dom[portDom n] = .on ∧ s.g Od.GL_SLEEP_MS ≠ 0 ∧ 3 ≤ s.g Od.DRV_STATE n ∧ d.wake = none ∧
        d.bulk = [] ∧ d.toSend = [] then
      let cell : BulkOut := ⟨d.seqNext % 256, 3, [BitVec.ofNat 8 (s.free 8)], 0⟩
      setDom (s.useFree.setDv n fun d => { d with bulk := [cell], seqNext := (d.seqNext + 1) % 256 }) (portDom n) .entering
    else s

/-- SLEEP_ACK: the commit point; both ends stop their superframes (R691). -/
def execSleepAck (n : Drive) (s : State) : Out :=
  actPart (fePart n) s fun s =>
    if s.pwr.dom[portDom n] = .entering then
      (setDom (s.setDv n fun d => { d with sent := [], missUp := 0 }) (portDom n) .off).inc Od.DOM_ENTRY_CNT (portDom n)
    else s

/-- GIPERLINK_WAKE_DONE: the link is aligned again and what the port held is sent (R691, R692). -/
def execGiperlinkWakeDone (n : Drive) (s : State) : Out :=
  act s fun s => if s.pwr.dom[portDom n] = .exiting then setDom s (portDom n) .on else s

/-! ### The reference clock (R695) -/

/-- REF_CLK_LOSS: the always-on domain runs from its oscillator, every LASER_EN is low, and no PLL holds its lock (R693, R695). -/
def execRefClkLoss (s : State) : Out :=
  act s fun s =>
    if s.pwr.refLost then s
    else
      let s := (s.inc Od.CLK_REF_LOSS_CNT).p Od.CLK_STATUS 0 (s.g Od.CLK_STATUS / 32 * 32)
      { s with pwr := { s.pwr with refLost := true }, pins := { s.pins with laserEn := 0 } }

/-! ### Rails, energies and temperatures (R679, R680, R701 to R704, R716) -/

/-- LASER_EN and BRIDGE_EN as the device state asks: high for every declared part while the device is Starting, Serving or Draining
(R20, R34 to R36, R126) and no rail is out of range (R679); low while the reference is lost, for the lasers (R695). -/
def outputsFor (s : State) : State :=
  let run := (s.isDev .starting || s.isDev .serving || s.isDev .draining) && s.pwr.railOut == 0
  { s with pins := { s.pins with
      laserEn := if run && !s.pwr.refLost then BitVec.ofNat 16 (s.g Od.DRIVE_DECL) else 0
      bridgeEn := if run then BitVec.ofNat 5 (s.g Od.STAGE_DECL) else 0 } }

/-- The outputs of R108: every reset and enable low, and configuration requests answered with Retry Status. -/
def outputsDown (s : State) : State :=
  let s := s.each (List.finRange 16) fun s (n : Drive) => if s.pins.feRst.getLsbD n then feReset s n else s
  let s := s.each (List.finRange 5) fun s (i : Stage) => if s.pins.stgRst.getLsbD i then stageResetBegin s i else s
  { s with pins := { s.pins with laserEn := 0, bridgeEn := 0 }, boot := { s.boot with crs := true } }

/-- RAIL_EXCURSION: a rail of R678 has been outside its range for 10 ms, or (`back`) within it for 10 ms again, at `mv` mV (R703,
R704). While any rail is outside, R108 applies (R679). -/
def execRailExcursion (rail : Fin 7) (mv : Nat) (back : Bool) (s : State) : Out :=
  act s fun s =>
    let s := s.p Od.PWR_RAIL_MV rail mv
    let bit := BitVec.twoPow 7 rail
    if back then
      let s := { s with pwr := { s.pwr with railOut := s.pwr.railOut &&& ~~~ bit } }
      if s.pwr.railOut = 0 then outputsFor { s with boot := { s.boot with crs := s.boot.phase == .rom } } else s
    else if s.pwr.railOut.getLsbD rail then s
    else
      let s := { s with pwr := { s.pwr with railOut := s.pwr.railOut ||| bit } }
      outputsDown (raise s Src.rail (rail + 65536 * (mv % 65536)))

/-- FE_RAIL_LOSS (R680): the 3.3 V rail (`logic`) is out of range, which holds the front end in reset, or the 5.0 V rail is below
4.5 V, which keeps its laser off and reports LASER_FAULT (R263). -/
def execFeRailLoss (n : Drive) (logic : Bool) (s : State) : Out :=
  actPart (fePart n) s fun s =>
    let s := (closeWriteGate s n).p Od.RC_STATE n 0
    if logic then s.setDv n fun d => { d with rail3Low := true, fe := .fresh }
    else s.setDv n fun d => { d with rail5Low := true, fe := { d.fe with laserFault := true, gate := none, power := 0 } }

/-- FE_RAIL_RETURN (R680). -/
def execFeRailReturn (n : Drive) (logic : Bool) (s : State) : Out :=
  actPart (fePart n) s fun s =>
    s.setDv n fun d => if logic then { d with rail3Low := false } else { d with rail5Low := false }

/-- The temperatures of one part: the event once for each excursion (R703, R704). `i` is the part among 25: the controller, the front
ends from 4, the stages from 20. -/
def thermal (s : State) (i kind : Nat) (temps : List Int) : State :=
  let warn := s.gi Od.PWR_TEMP_WARN
  match temps.findIdx? fun t => decide (warn ≤ t) with
  | none => { s with pwr := { s.pwr with hot := s.pwr.hot &&& ~~~ BitVec.twoPow 25 i } }
  | some e =>
    if s.pwr.hot.getLsbD i then s
    else
      let el := if kind = 0 then e else if kind = 1 then i - 4 else i - 20
      raise { s with pwr := { s.pwr with hot := s.pwr.hot ||| BitVec.twoPow 25 i } } Src.thermal
        (kind + 256 * el + 65536 * ofInt 16 (temps.getD e 0))

/-- POWER_REPORT: a front end's energies of the last second in µJ and its temperature (R701, R702); the ledger charges them in this
second (R650, R652). -/
def execPowerReport (n : Drive) (uj33 uj50 : Nat) (temp : Int) (s : State) : Out :=
  actPart (fePart n) s fun s =>
    let s := ((s.add Od.FE_RAIL_UJ (2 * n) uj33).add Od.FE_RAIL_UJ (2 * n + 1) uj50).pi Od.TEMP_FE n temp
    let s := chargeEnergy s (if s.g Od.DRV_STATE n = 4 then 0 else s.ledger.holder[n]) (uj33 + uj50)
    thermal s (4 + n) 1 [temp]

/-- The band of a temperature in 0.1 °C (R716). -/
def tempBand (t : Int) : Nat := if t < 850 then 0 else if t < 950 then 1 else if t < 1050 then 2 else 3

/-- The highest of a list of temperatures. -/
def highest (l : List Int) : Int := l.foldl max (l.headD 0)

/-- The seconds counted from the first use of the Chest, one more (R715): of power, of each declared drive's state, and of its laser
and write emission as they stand at the sample. -/
def lifeSecond (s : State) : State :=
  (s.inc Od.LIFE_POWER_S).each (List.finRange 16) fun s (n : Drive) =>
    if s.driveDeclared n then
      let fe := s.drives[n].fe
      let lit := fe.power != 0 && !fe.selfSafe && !fe.laserFault && s.pins.laserEn.getLsbD n
      let s := s.inc Od.LIFE_DRV_STATE_S (5 * n + s.g Od.DRV_STATE n)
      let s := if lit then s.inc Od.LIFE_LASER_S n else s
      if (fe.gate.elim false fun g => g.write) then s.inc Od.LIFE_WRITE_S n else s
    else s

/-- TEMP_SAMPLE: once per second, the controller's four sensors and the declared stages' temperatures are reported, with those the front
ends have sent; TEMP_HIST and the seconds of group 0x7E count (R702 to R704, R715, R716). -/
def execTempSample (ctrl stage : List Int) (s : State) : Out :=
  act s fun s =>
    let ctrl := (List.range 4).map fun i => ctrl.getD i (s.gi Od.TEMP_CTRL i)
    let s := s.each ctrl.zipIdx fun s (t, i) => s.pi Od.TEMP_CTRL i t
    let s := thermal s 0 0 ctrl
    let s := s.each (List.finRange 5) fun s (i : Stage) =>
      if s.stageDeclared i then
        let t := stage.getD i (s.gi Od.TEMP_STAGE i)
        thermal (s.pi Od.TEMP_STAGE i t) (20 + i) 2 [t]
      else s
    let top (n : Nat) (o : Ob) : Nat := tempBand (highest ((List.range n).map fun i => s.gi o i))
    let bands := [top 4 Od.TEMP_CTRL, top 16 Od.TEMP_FE, top 5 Od.TEMP_STAGE]
    lifeSecond (s.each bands.zipIdx fun s (b, d) => s.inc Od.TEMP_HIST (4 * d + b))

/-! ### The Chest (R711, R715) -/

/-- An object of group 0x7E. -/
def isLife (k : Nat) : Bool := k / 2 ^ 24 == 0x7E

/-- The counts of group 0x7E go into the checkpoint copy that was not written last (R715). -/
def checkpoint (s : State) : State :=
  let k : Fin 2 := if s.chest.lifeAt = 0 then 1 else 0
  let snap := s.od.filter fun p => isLife p.1
  ({ s with chest := { s.chest with life := s.chest.life.set k (some snap), lifeAt := k } }).chestWrite Region.state (Pos.checkpoint k)

/-- LONG_RUN_CHECKPOINT: every 60 s (R715); it is none of the writes of the power-fail sequence (R687). -/
def execLongRunCheckpoint (s : State) : Out := act s fun s => if s.g Od.PF_STATE = 0 then checkpoint s else s

/-- What waited on a Chest write goes on (R711). -/
def release (s : State) : Waiter → State
  | .completion c => s.post c
  | .tariff armed => tariffMade s armed
  | .eraseDev r v => s.setMem fun m => { m with eraseKept := if h : r < 4 then m.eraseKept.set r v else m.eraseKept }
  | .ack events seq => { s with chest :=
      if events then { s.chest with evtAck := seq } else { s.chest with ledgerAck := seq } }

/-- CHEST_DELAYED_WRITE: a write the rate limit held back is made as soon as it is within the limit (R687, R711). -/
def execChestDelayedWrite (region pos : Nat) (s : State) : Out :=
  act s fun s =>
    match s.chest.delayed.find? fun d => d.region == region && d.pos == pos with
    | none => s
    | some d =>
      if s.chestFree region pos then
        let s : State := { s with chest := { s.chest with
          delayed := s.chest.delayed.filter fun d => !(d.region == region && d.pos == pos) } }
        (s.chestMade region pos).each d.waiters release
      else s

/-! ### The test port (R737, R738) -/

/-- The frame of a JTAG instruction: the controller's test port needs its supply. -/
def actJtag (part : Fin 22) (s : State) (f : State → State) : Out :=
  if part = 0 ∧ s.dev = .off then .next s else .next (keep s (f s))

/-- Load an instruction into a part's test port. -/
def jtagLoad (s : State) (part : Fin 22) (i : JtagInstr) : State :=
  { s with scan := { s.scan with instr := s.scan.instr.set part i } }

/-- BYPASS: one bit, which captures 0 (R737). -/
def execBypass (part : Fin 22) (s : State) : Out := actJtag part s fun s => (jtagLoad s part .bypass).emit (.jtag part 0)

/-- IDCODE of a part (R737). -/
def idcodeOf (part : Fin 22) : Nat := if part.val = 0 then 0x5C04874F else if part.val < 17 then 0x2F01274F else 0x1504074F

/-- IDCODE (R737). -/
def execIdcode (part : Fin 22) (s : State) : Out := actJtag part s fun s => (jtagLoad s part .idcode).emit (.jtag part (idcodeOf part))

/-- SAMPLE/PRELOAD: the pins are captured and shifted out while the boundary register takes what is shifted in (R737). -/
def execSamplePreload (part : Fin 22) (pins preload : Nat) (s : State) : Out :=
  actJtag part s fun s =>
    let s := (jtagLoad s part .samplePreload).emit (.jtag part pins)
    { s with scan := { s.scan with boundary := s.scan.boundary.set part preload } }

/-- EXTEST and CLAMP: every output follows the boundary register until the part's next start or reset (R738). -/
def jtagTakes (s : State) (part : Fin 22) (i : JtagInstr) : State :=
  let s := jtagLoad s part i
  { s with scan := { s.scan with lost := s.scan.lost ||| BitVec.twoPow 22 part } }

/-- EXTEST (R738). -/
def execExtest (part : Fin 22) (s : State) : Out := actJtag part s fun s => jtagTakes s part .extest

/-- CLAMP (R738). -/
def execClamp (part : Fin 22) (s : State) : Out := actJtag part s fun s => jtagTakes s part .clamp

end Sys2Proof.Machine
end

