-- ==== Sys2Proof/Machine/Held.lean ====
section
/-! DEFINITION. The device states and what each transition does: Starting, Held, the drain, and the Warm restart (R34 to R36, R107,
R110, R125 to R142, R397, R715). -/

namespace Sys2Proof.Machine

/-- The device enters a state, which DEVICE_STATE shows and the STATE source reports (R107, R599). -/
def setDev (s : State) (d : Device) : State :=
  let old := s.dev.code
  if old = d.code then s
  else raise ({ s with dev := d }.p Od.DEVICE_STATE 0 d.code) Src.state (d.code + 256 * old + 2 ^ 32 * s.g Od.HOLD_REASON)

/-! ### Rest and power-down of every axis (R126, R128, R386) -/

/-- An axis comes to rest at the end of its profile stop, whatever was to follow it. -/
def restNow (s : State) (a : Axis) : State :=
  let s := stopAxis s a .profile false
  let i := axisStage a
  let x := s.ax a
  let p := match x.halt with
    | some h => (haltAt h (s.gm i Od.MOT_A_MAX a) (s.gm i Od.MOT_J_MAX a) (s.g Od.MOT_TICK + 2 ^ 40)).1
    | none => x.pos
  let s := if x.halt.isSome then (s.pi Od.MOT_POS a (p / 65536)).p Od.MOT_USTEP a (ofInt 10 (p / 65536)) else s
  s.setAx a fun x => { x with
    pos := p, speed := 0, move := none, stop := .run, halt := none, after := .none, homeFrom := none, resume := none }

/-- The bridges of every stage are powered down in order, and what turns coasts (R126, R137, R386). -/
def bridgesDown (s : State) : State :=
  s.each (List.finRange 5) fun s (i : Stage) =>
    let s := s.each (stageSteppers i) restNow
    coastStage (bridgeDown (if i = 4 then restNow s 16 else s) i) i

/-- Every drive stops its work: gates closed, lasers off, loops open, calibrations ended (R126). -/
def drivesDown (s : State) : State :=
  s.each (List.finRange 16) fun s (n : Drive) =>
    if s.driveDeclared n then (inhibitDrive (calAbort s n) n true true).setDv n fun d => { d with wake := none } else s

/-- Media operations in progress end; those that serve no command stay queued. -/
def mediaDown (s : State) : State :=
  let cur := (List.finRange 16).filterMap fun (n : Drive) => s.media.cur[n]
  { s with media := { s.media with
    cur := Vector.replicate 16 none, ops := cur.filter (fun o => !o.serves) ++ s.media.ops.filter fun o => !o.serves } }

/-- The picker stops where it is; requests that serve no command wait. A carried disc stays in the jaw (R44). -/
def pickerDown (s : State) : State :=
  let mine (r : PickReq) : Bool := r.why != .media && r.why != .evict
  let p := s.motion.picker
  let cut := ((p.seq.map (·.1)).toList.filter mine) ++ p.queue.filter mine
  let s : State := { s with motion := { s.motion with
    picker := { Picker.fresh with queue := cut }, loads := s.motion.loads.filter mine } }
  if s.g Od.PICK_STATE = 2 then s else s.p Od.PICK_STATE 0 0

/-! ### Starting (R110) -/

/-- A drive at entry to Starting: D3 with the disc its sled's retention record shows, else D4 (R110). After a restart the disc is yet
to be recognised. -/
def placeDrive (s : State) (n : Drive) (anew : Bool) : State :=
  let (has, d) := (s.ax (sledOf n)).discOf
  let disc := s.driveDeclared n && has == 1 && d != 0xFFFF
  let s := (s.p Od.DRV_DISC n (if disc then d else 0xFFFF)).p Od.DRV_STATE n (if disc then 3 else 4)
  if anew || !disc then setMedia ((s.setDisc n none).p Od.DRV_DISC_ID n 0) n (b2n disc) 0 else s

/-- The device enters Starting (R36, R110, R127, R636, R671). `reason` is that of the ledger's GAP record: 1 POWER, 2 WARM_RESTART,
3 HELD. The carousel is homed at each start (R383). -/
def enterStarting (s : State) (reason : Nat) : State :=
  let s := outputsFor (setDev s .starting)
  let s := s.each (List.finRange 16) fun s (n : Drive) => placeDrive s n (reason != 3)
  let (has, d) := (s.ax Pick.jaw).discOf
  let s := (s.p Od.PICK_CARRY 0 (if has = 1 then d else 0xFFFF)).pb Od.MOT_FLAGS 16 0 false
  serialStart (ledgerStart s reason)

/-- An axis of a declared part is positioned (R110): energised, at rest and homed; an axis whose homing has failed does not hold
Starting back. -/
def positioned (s : State) (a : Axis) : Bool :=
  let x := s.ax a
  let rest := s.atRest a && x.homeFrom.isNone
  if h : a.val < 16 then
    let n : Drive := ⟨a.val, h⟩
    !s.driveDeclared n || s.gb Od.DRIVE_FAULT n 5 || (x.energised && rest && s.gb Od.MOT_FLAGS a 0 && !s.gb Od.MOT_FLAGS a 1)
  else
    !s.stageDeclared 4 || s.g Od.PICK_STATE == 2 ||
      (rest && (if a = 16 then s.gb Od.MOT_FLAGS a 0
        else x.energised && (a == 19 || (s.gb Od.MOT_FLAGS a 0 && !s.gb Od.MOT_FLAGS a 1))))

/-! ### Held (R126) -/

/-- The device enters Held from Draining (R126, R465, R640, R671); with no reason left to hold it goes on to Starting (R107). -/
def enterHeld (s : State) : State :=
  let s := pickerDown (mediaDown (drivesDown (bridgesDown s)))
  let s := serialHeld (netHeld (ledgerStop s))
  let s := { s with boot := { s.boot with drain := none, drainDeferred := false } }
  let s := outputsFor (setDev s .held)
  if s.g Od.HOLD_REASON = 0 then enterStarting s 3 else s

/-! ### The boot ROM's checks (R112 to R115) -/

/-- A field of a slot's header; flash that nothing has written reads 0xFF. -/
def FlashSlot.field (f : FlashSlot) (first n : Nat) : List Byte :=
  let bs := slice first n f.bytes
  bs ++ List.replicate (n - bs.length) 0xFF#8

def FlashSlot.release (f : FlashSlot) : Nat := ofLe (f.field 4 4)
def FlashSlot.imageSeq (f : FlashSlot) : Nat := ofLe (f.field 8 4)
def FlashSlot.secVer (f : FlashSlot) : Nat := ofLe (f.field 12 2)
def FlashSlot.layout (f : FlashSlot) : Nat := ofLe (f.field 14 2)
def FlashSlot.bodyLen (f : FlashSlot) : Nat := ofLe (f.field 16 4)
def FlashSlot.bodySha (f : FlashSlot) : List Byte := f.field 20 48

/-- The first check of R113 that a slot fails, 0 for none: `marked` says whether check 6 fails. -/
def FlashSlot.check (f : FlashSlot) (floor : Nat) (marked : Bool) : Nat :=
  if f.field 0 4 ≠ asciiBytes "KFWI" then 1
  else if crc32c (f.field 0 252) ≠ ofLe (f.field 252 4) then 2
  else if f.bodyLen = 0 ∨ 16776704 < f.bodyLen then 3
  else if Config.signatureVerifies (sha384 (f.field 0 252)) (f.field 256 96) = false then 5
  else if f.secVer < floor then 6
  else if marked then 7
  else if f.torn = true ∨ sha384 (f.field 512 f.bodyLen) ≠ f.bodySha then 4
  else 0

/-- Step 2 of the Cold-start time line: marks that no longer fit their slot go, and both slots are checked (R113, R115). -/
def romCheck (s : State) : State :=
  s.each (List.finRange 2) fun s (k : Fin 2) =>
    let f := s.flash[k]
    let fits := s.boot.marks[k] == some (f.imageSeq, f.bodySha)
    let s := if s.boot.marks[k].isSome && !fits then
        { s with boot := { s.boot with marks := s.boot.marks.set k none } }.chestWrite Region.state (Pos.bootMark k)
      else s
    s.p Od.FW_SLOT_CHECK k (f.check (s.g Od.FW_FLOOR) fits)

/-- The slot the boot ROM starts (R114), none when no slot is VALID (R116). -/
def bootSlot (s : State) : Option (Fin 2) :=
  let ok (k : Fin 2) : Bool := s.g Od.FW_SLOT_CHECK k == 0
  if ok 0 then (if ok 1 && decide ((s.flash[(0 : Fin 2)]).imageSeq < (s.flash[(1 : Fin 2)]).imageSeq) then some 1 else some 0)
  else if ok 1 then some 1 else none

/-- The start goes on from step 2: parts back in reset, no firmware running (R108, R115, R137). With no VALID slot R108 goes on to
apply (R116). -/
def romStart (s : State) (crs : Bool) : State :=
  let s := s.each (List.finRange 16) fun s (n : Drive) => s.p Od.FE_ID_SEEN n 0
  let s := s.each (List.finRange 5) fun s (i : Stage) => s.p Od.STAGE_ID_SEEN i 0
  let s := { s with
    drives := s.drives.map fun d => { DriveSt.fresh with cal := { CalSt.fresh with focusDone := d.cal.focusDone, trackDone := d.cal.trackDone } }
    motion := { s.motion with stages := s.motion.stages.map fun g => StageSt.fresh g.level }
    pins := { feRst := 0, laserEn := 0, stgRst := 0, bridgeEn := 0 }
    parts := { feUp := 0, stageUp := 0 }
    scan := { s.scan with lost := s.scan.lost &&& 1 }
    boot := { s.boot with phase := .rom, popVal := none, haveImage := false, crs := crs } }
  let s := romCheck s
  if bootSlot s = none then { s with boot := { s.boot with crs := true } } else s

/-! ### The Warm restart (R137 to R139, R141) -/

/-- Zones found open by a restart are Closed, and an Offline mark of R430 does not outlast it. -/
def zonesAnew (m : Keyed ZoneEnt) : Keyed ZoneEnt :=
  m.map fun p => (p.1, { p.2 with offline := false, st := if p.2.st = .implicitOpen ∨ p.2.st = .explicitOpen then .closed else p.2.st })

/-- Every counter of group 0x02 (R139). -/
def counters02 : List (Ob × Nat) := [(Od.MOP_VIOL_CNT, 10), (Od.MOP_RETX_CNT, 1), (Od.MOP_BUSOFF_CNT, 2), (Od.ODW_VIOL_CNT, 1)]

/-- Gauges of what a restart empties. -/
def gauges : List (Ob × Nat) :=
  [(Od.SHELF_LINES, 33), (Od.HAYLOFT_LINES, 34), (Od.HAY_LAND_USED, 1), (Od.HAY_STAGE_USED, 1), (Od.STAGE_LINES_USED, 1),
   (Od.SIDEBOARD_USED, 1), (Od.RC_STATE, 16), (Od.CAL_STATE, 16), (Od.DRIVE_SERVO_STATE, 16), (Od.ANGLE_STATE, 16)]

/-- An interrupted key operation leaves the record before it (R141, R155). -/
def keysAnew (s : State) : State :=
  let s := s.each s.keys.ops fun s p => s.p Od.NS_KEY_STATE p.1 p.2.before
  { s with keys := { s.keys with ops := [], jobKeys := [] } }

/-- A Warm restart from any state (R137, R138): bridges down in order, every controller reset, and what R139 and R141 say is lost goes;
Booting goes on from step 2. -/
def warmRestart (s : State) : State :=
  let s := if s.g Od.PF_STATE = 0 then checkpoint s else s
  let s := if s.ledgerRuns then ledgerStop s else s
  let s := if s.driven then drivesDown (bridgesDown s) else s
  let s := rakeAbort (serialHeld (netHeld s)) fun _ => true
  let s := s.each (List.finRange 33) ctlReset
  let s := s.each s.media.restores fun s d => s.p Od.DISC_RESTORE_RESULT d 0
  let s := keysAnew s
  let s := setDev s .booting
  let s := evtRestart s
  let s := s.each (counters02 ++ gauges) fun s p => s.fill p.1 0 p.2 0
  let s := (((s.p Od.CONFIG_STATE 0 0).p Od.COMMIT_STATUS 0 0).p Od.COMMIT_FAIL_OBJ 0 0).p Od.POP_FAULT 0 0
  let s := (((s.p Od.FW_LOAD_STATE 0 0).p Od.FW_LOAD_ADDR 0 0).p Od.HOLD_REASON 0 (s.g Od.HOLD_REASON / 32 * 32)).p Od.BOOT_STATUS 0 0
  let s := (s.each (List.finRange 21) fun s i => setDom s i .on).pb Od.CLK_STATUS 0 8 false
  let s := s.each (List.finRange 33) fun s c => s.p Od.CRIB_STATE c 0
  let s := ((s.p Od.CAR_STATE 0 0).p Od.PICK_STATE 0 0).p Od.PICK_FAULT_CAUSE 0 0
  let s := s.each (List.finRange 16) fun s (n : Drive) => (s.p Od.DRIVE_FAULT n 0).p Od.SPIN_FAULT_CAUSE n 0
  let s := { s with
    dict := State.reset.dict
    crib := State.reset.crib
    host := { s.host with waiting := [], ctxs := [], dels := [], turn := .fresh, zones := zonesAnew s.host.zones }
    media := { s.media with
      ops := [], cur := Vector.replicate 16 none, disc := Vector.replicate 16 none, rebuilds := [], restores := [] }
    cache := .fresh
    admin := { s.admin with ops := [], formats := [] }
    mem := { s.mem with poison := [], retiring := none }
    thresh := { s.thresh with seq := Vector.replicate 4 none, turn := .fresh, scrub := [] }
    granary := []
    motion := { s.motion with picker := .fresh, loads := [] }
    servoImg := none
    stageImg := Vector.replicate 5 none
    boot := { s.boot with warm := true, revalidate := false, drain := none, drainDeferred := false } }
  romStart s s.boot.crs

/-! ### Draining (R129 to R132) -/

/-- Draining begins; a drain that is to end in a restart does so whatever was asked before (R129, R136). -/
def startDrain (s : State) (why : DrainFor) : State :=
  setDev { s with boot := { s.boot with drain := some why, drainDeferred := false } } .draining

/-- A drain is ordered while Serving: at once, or when the running commit has ended (R130). -/
def orderDrain (s : State) (why : DrainFor) : State :=
  if s.dict.commit.isSome then { s with boot := { s.boot with drain := some why, drainDeferred := true } } else startDrain s why

/-- Commands, jobs and picker moves are still to end (R131). -/
def drainBusy (s : State) : Bool := s.host.ctxs != [] || s.admin.formats != [] || s.motion.picker.seq.isSome

/-- What the drain leads to. -/
def drainEnd (s : State) : State :=
  match s.boot.drain with
  | some .restart => warmRestart s
  | _ => enterHeld s

/-- Every remaining command but a job that runs completes with Command Interrupted, and running jobs stop (R132). -/
def interruptAll (s : State) : State :=
  let s := stopJobs s .drain fun _ => true
  let s : State := { s with host := { s.host with ctxs := s.host.ctxs.map fun (x : Ctx) =>
    if x.isWrite && x.result.isNone then { x with result := some (.commandInterrupted, none, 0) } else x } }
  let s := s.each s.host.ctxs fun s x =>
    if x.isWrite then zoneSettle s.host.ctxs.length s x.ns x.zone
    else if ctxRuns s x then s else endCtx s x .commandInterrupted
  let s := s.each s.admin.formats fun s f => s.complete f.queue f.cid .commandInterrupted
  { s with admin := { s.admin with formats := [], ops := s.admin.ops.map fun (o : AdminOp) => { o with cmd := none } } }

end Sys2Proof.Machine
end

