-- ==== Sys2Proof/Machine/Population.lean ====
section
/-! DEFINITION. Population validation with the identities of parts, and the steps of a commit from there on: cross-checks, the Chest slot
and pointer, the apply instant (R22, R27 to R37, R71 to R76, R121 to R124, R133, R134, R164, R503, R620, R648). -/

namespace Sys2Proof.Machine

/-! ### Parts out of and into reset (R20, R28, R34, R35) -/

/-- A front end is released from reset: its link trains, its dark offsets run and its identity is awaited (R28, R339). -/
def feRelease (s : State) (n : Drive) : State :=
  let s := { s with pins := { s.pins with feRst := s.pins.feRst ||| BitVec.twoPow 16 n } }
  (s.p Od.CAL_STATE n 1).setDv n fun d => { d with resetting := true }

/-- A stage is released from reset (R28). -/
def stageRelease (s : State) (i : Stage) : State :=
  let s := { s with pins := { s.pins with stgRst := s.pins.stgRst ||| BitVec.twoPow 5 i } }
  s.setStage i fun g => { g with resetting := true }

/-- Parts that the active configuration does not declare are held in reset, their links idle (R34, R35). -/
def dropUndeclared (s : State) : State :=
  let s := s.each (List.finRange 16) fun s (n : Drive) =>
    if s.driveDeclared n ∨ s.pins.feRst.getLsbD n = false then s
    else
      let s := { s with
        pins := { s.pins with feRst := s.pins.feRst &&& ~~~ BitVec.twoPow 16 n, laserEn := s.pins.laserEn &&& ~~~ BitVec.twoPow 16 n }
        parts := { s.parts with feUp := s.parts.feUp &&& ~~~ BitVec.twoPow 16 n }
        drives := s.drives.set n DriveSt.fresh }
      (s.p Od.FE_ID_SEEN n 0).p Od.CAL_STATE n 0
  s.each (List.finRange 5) fun s (i : Stage) =>
    if s.stageDeclared i ∨ s.pins.stgRst.getLsbD i = false then s
    else
      let s := { s with
        pins := { s.pins with stgRst := s.pins.stgRst &&& ~~~ BitVec.twoPow 5 i, bridgeEn := s.pins.bridgeEn &&& ~~~ BitVec.twoPow 5 i }
        parts := { s.parts with stageUp := s.parts.stageUp &&& ~~~ BitVec.twoPow 5 i } }
      (s.p Od.STAGE_ID_SEEN i 0).setStage i fun g => StageSt.fresh g.level

/-! ### The Chest's configuration slots (R71 steps 7 and 8, R76, R121) -/

/-- The newest valid pointer record (R121). -/
def newestPtr (s : State) : Option (Fin 2) :=
  match (s.boot.ptr[(0 : Fin 2)]).valid, (s.boot.ptr[(1 : Fin 2)]).valid with
  | true, true => if newerSeq (s.boot.ptr[(0 : Fin 2)]).rseq (s.boot.ptr[(1 : Fin 2)]).rseq then some 0 else some 1
  | true, false => some 0
  | false, true => some 1
  | false, false => none

/-- The other of two. -/
def other2 (k : Fin 2) : Fin 2 := if k = 0 then 1 else 0

/-- The slot a commit is stored in: the inactive one; with no image active, the one the newest pointer does not name, or A. -/
def storeSlot (s : State) : Fin 2 :=
  if s.boot.haveImage then (if s.g Od.ACTIVE_SLOT = 0 then 1 else 0)
  else match newestPtr s with
    | some k => if (s.boot.ptr[k]).slot = 0 then 1 else 0
    | none => 0

def cfgRegion (k : Fin 2) : Nat := if k = 0 then Region.cfgA else Region.cfgB

/-- Step 7 begins: the merged image is written into its slot, 64 bytes a record; what stood there is no longer whole. A power-fail
sequence that has started lets no store begin (R686). -/
def commitStore (s : State) (im : Image) : State :=
  if s.g Od.PF_STATE ≠ 0 then commitEnd s 0x14
  else
    let k := storeSlot s
    let slot : CfgSlot := { hdrOk := true, streamOk := false, layout := s.g Od.OD_LAYOUT, seq := (s.g Od.ACTIVE_SEQ + 1) % 2 ^ 32, image := im }
    let s := { s with boot := { s.boot with cfg := s.boot.cfg.set k slot }, dict := { s.dict with commit := some ⟨im, true⟩ } }
    (s.p Od.CONFIG_STATE 0 3).each (List.range ((64 + streamLength im + 63) / 64)) fun s i => s.chestWrite (cfgRegion k) i

/-- Step 6 of a commit (R71). -/
def commitCross (s : State) (im : Image) : State :=
  match crossCheck s im with
  | some k => commitEnd (dropUndeclared (s.p Od.COMMIT_FAIL_OBJ 0 k)) 0x12
  | none => commitStore s im

/-! ### Validation of a population (R27 to R29, R32, R134) -/

/-- A revalidation ends (R134): what it found replaces HOLD_REASON[2] and [3]; the device starts when nothing holds it any more. -/
def releaseEnd (s : State) (im : Image) (faults : Nat) : State :=
  let s := match if faults ≠ 0 then none else crossCheck s im with
    | some k => (s.p Od.COMMIT_FAIL_OBJ 0 k).pb Od.HOLD_REASON 0 3 true
    | none => s.pb Od.HOLD_REASON 0 3 false
  let s := s.pb Od.HOLD_REASON 0 2 (faults != 0)
  if s.isDev .held && s.g Od.HOLD_REASON == 0 then enterStarting s 3 else s

/-- A validation ends with the bits of POP_FAULT it found (R29, R32). -/
def popEnd (s : State) (purpose : PopFor) (im : Image) (faults : Nat) : State :=
  let s := { s with boot := { s.boot with popVal := none } }.p Od.POP_FAULT 0 faults
  match purpose with
  | .boot => ({ s with boot := { s.boot with phase := .ready } }).pb Od.HOLD_REASON 0 2 (faults != 0)
  | .commit => if faults ≠ 0 then commitEnd (dropUndeclared s) 0x12 else commitCross s im
  | .release => releaseEnd s im faults

/-- Step 4 of R27 begins: the front ends already up are compared, the others released. -/
def popFes (s : State) (v : PopVal) : State :=
  let ns := below 16 (v.image.gb Od.DRIVE_DECL)
  let up (n : Nat) : Bool := s.parts.feUp.getLsbD n
  let bad := (ns.filter fun n => up n && s.g Od.FE_ID_SEEN n != v.image.g Od.FE_ID_EXP n).foldl (fun w n => putBit w n true) 0
  let s := s.each (List.finRange 16) fun s (n : Drive) => if ns.contains n.val && !up n then feRelease s n else s
  { s with boot := { s.boot with popVal := some { v with feStep := true, feWait := ns.filter fun n => !up n, faults := bad } } }

/-- Go on with the validation as far as it needs no identity. -/
def popStep (s : State) : State :=
  let fin (s : State) (v : PopVal) : State := if v.feWait = [] then popEnd s v.purpose v.image v.faults else s
  match s.boot.popVal with
  | none => s
  | some v =>
    if v.feStep then fin s v
    else if v.stageWait ≠ [] then s
    else if v.faults ≠ 0 then popEnd s v.purpose v.image v.faults
    else
      let s := popFes s v
      match s.boot.popVal with
      | some v => fin s v
      | none => s

/-- A validation of an image begins (R27). `trained`: step 5, taken directly after step 2 while Booting. -/
def popBegin (s : State) (purpose : PopFor) (im : Image) (trained : Bool) : State :=
  let s := s.p Od.POP_FAULT 0 0
  if popStep1 im ≠ 0 then popEnd s purpose im (popStep1 im)
  else if popStep2 im ≠ 0 then popEnd s purpose im (popStep2 im)
  else if !trained then popEnd s purpose im (2 ^ 21)
  else
    let is := below 5 (im.gb Od.STAGE_DECL)
    let up (i : Nat) : Bool := s.parts.stageUp.getLsbD i
    let bad := (is.filter fun i => up i && s.g Od.STAGE_ID_SEEN i != im.g Od.STAGE_ID_EXP i).foldl (fun w i => putBit w (16 + i) true) 0
    let s := s.each (List.finRange 5) fun s (i : Stage) => if is.contains i.val && !up i then stageRelease s i else s
    let v : PopVal := { purpose := purpose, image := im, stageWait := is.filter fun i => !up i, feWait := [], feStep := false, faults := bad }
    popStep { s with boot := { s.boot with popVal := some v } }

/-- What waited for the end of a validation begins its own: a commit at step 5, then a revalidation. -/
def popNext (s : State) : State :=
  if s.boot.popVal.isSome then s
  else match s.dict.commit with
    | some c =>
      if s.g Od.CONFIG_STATE = 2 then popBegin s .commit c.image true
      else s
    | none =>
      if s.boot.revalidate && s.isDev .held then
        popBegin { s with boot := { s.boot with revalidate := false } } .release (activeImage s) true
      else { s with boot := { s.boot with revalidate := false } }

/-- Go on after something that may have ended a validation. -/
def popGo (s : State) : State := popNext (popNext (popStep s))

/-- The identity a part must report. -/
def expectedId (s : State) (part : Fin 21) : Nat :=
  let o := if part.val < 16 then Od.FE_ID_EXP else Od.STAGE_ID_EXP
  let e := if part.val < 16 then part.val else part.val - 16
  match s.boot.popVal with
  | some v => v.image.g o e
  | none => s.g o e

/-- A part's identity is settled: up when it matched; else a fault of the validation that waits for it, or of the reset that asked for it
(R28, R223, R391). -/
def partSettled (s : State) (part : Fin 21) (ok : Bool) : State :=
  let waits := s.boot.popVal.elim false fun v => v.stageWait.contains (part.val - 16) && decide (16 ≤ part.val) || v.feWait.contains part.val && v.feStep
  let s :=
    if h : part.val < 16 then
      let n : Drive := ⟨part.val, h⟩
      let s := s.setDv n fun d => { d with resetting := false, retraining := false, missUp := 0 }
      if ok then { s with parts := { s.parts with feUp := s.parts.feUp ||| BitVec.twoPow 16 n } }
      else if waits then s
      else (spinBrake (faultDrive (inhibitDrive s n true true) n 3) n).setDv n fun d => { d with wake := none }
    else
      let i : Stage := ⟨(part.val - 16) % 5, Nat.mod_lt _ (by decide)⟩
      let s := s.setStage i fun g => { g with resetting := false, retraining := false, missUp := 0 }
      let s := if ok then { s with parts := { s.parts with stageUp := s.parts.stageUp ||| BitVec.twoPow 5 i } } else s
      if waits then s
      else
        let s := raise s (Src.stageLink i) (1 + 256 * b2n (!ok))
        if ok then s
        else if i = 4 then pickFault s Cause.link
        else s.each (List.finRange 4) fun s b =>
          let n : Drive := ⟨(4 * i.val + b.val) % 16, Nat.mod_lt _ (by decide)⟩
          if s.driveDeclared n then faultDrive (inhibitDrive s n true true) n 5 else s
  match s.boot.popVal with
  | some v =>
    if waits then
      let v := { v with
        stageWait := if 16 ≤ part.val then v.stageWait.filter (· != part.val - 16) else v.stageWait
        feWait := if part.val < 16 then v.feWait.filter (· != part.val) else v.feWait
        faults := if ok then v.faults else putBit v.faults part true }
      popGo { s with boot := { s.boot with popVal := some v } }
    else s
  | none => s

/-- The part's reset line is high. -/
def partReleased (s : State) (part : Fin 21) : Bool :=
  if part.val < 16 then s.pins.feRst.getLsbD part else s.pins.stgRst.getLsbD (part.val - 16)

/-- The part has been released and its identity not yet settled. -/
def partAwaited (s : State) (part : Fin 21) : Bool :=
  partReleased s part &&
  (if h : part.val < 16 then (s.drives[(⟨part.val, h⟩ : Drive)]).resetting
   else (s.motion.stages[(⟨(part.val - 16) % 5, Nat.mod_lt _ (by decide)⟩ : Stage)]).resetting)

/-- The boundary-scan part of a part. -/
def scanPart (part : Fin 21) : Fin 22 := ⟨part.val + 1, by omega⟩

/-- PART_IDENTITY_WORD: front end 0 to 15, or stage 0 to 4 as part 16 to 20, sends its identity word (R28, R30). -/
def execPartIdentityWord (part : Fin 21) (word : Nat) (s : State) : Out :=
  if s.scan.lost.getLsbD (scanPart part) then .fault (.boundaryScan (scanPart part))
  else actAll s fun s =>
    if partReleased s part then
      let w := word % 2 ^ 32
      let awaited := partAwaited s part
      let s := if part.val < 16 then s.p Od.FE_ID_SEEN part w else s.p Od.STAGE_ID_SEEN (part.val - 16) w
      if awaited then partSettled s part (w == expectedId s part) else s
    else s

/-- PART_IDENTITY_TIMEOUT: 50 ms after reset release without an identity word the part is absent (R28). -/
def execPartIdentityTimeout (part : Fin 21) (s : State) : Out :=
  actAll s fun s => if partAwaited s part then partSettled s part false else s

/-! ### The apply instant (R74, R164, R503, R620, R648) -/

/-- Cribs follow CRIB_ENABLE: a crib that is disabled undergoes a Crib reset (R164), one that is enabled becomes ACTIVE. -/
def applyCribs (old s : State) : State :=
  s.each (List.finRange 33) fun s c =>
    let was := old.cribEnabled c
    let now := s.cribEnabled c
    if c.val = 0 ∨ was = now then s
    else if now then (if s.g Od.CRIB_STATE c = 2 then s else ctlReady (s.p Od.CRIB_STATE c 1) c)
    else cribResetStart { s with crib := s.crib.set c { s.crib[c] with disabling := true } } c

/-- Cache lines that a change of a region's size drops (R503). -/
def applyCache (old s : State) : State :=
  let changed (l : List Ob) : Bool := l.any fun o => old.g o != s.g o
  let s := if changed [Od.HAYLOFT_SIZE, Od.HAYLOFT_STAGE_SIZE, Od.HAYLOFT_LAND] then s.each s.cache.hay fun s p => s.setHay p.1 none else s
  if changed [Od.SHELF_STAGE_WAYS] then s.each s.cache.shelf fun s p => s.setShelf p.1 none else s

/-- Serial ports whose settings change drop what they are doing (R647); `rxBusy` names the ports in the middle of a character. -/
def applySerial (old s : State) (rxBusy : BitVec 4) : State :=
  s.each (List.finRange 4) fun s p =>
    let size := spSize old p != spSize s p
    let table := p.val != 0 && (List.range 64).any fun i => old.g Od.TRAY_ENTRY (64 * (p.val - 1) + i) != s.g Od.TRAY_ENTRY (64 * (p.val - 1) + i)
    if size || table || spMode old p != spMode s p || spRate old p != spRate s p || old.g Od.SP_FORMAT p != s.g Od.SP_FORMAT p then
      serialApply s p (rxBusy.getLsbD p) size
    else s

/-- Ports follow NET_PORT_EN. -/
def applyNet (s : State) : State :=
  s.each (List.finRange 2) fun s p =>
    if s.g Od.NET_PORT_EN p = 0 then setLink s p 0 else if s.g Od.NET_LINK p = 0 then setLink s p 1 else s

/-- A bus on which MOP is no longer enabled loses its sessions (R87). -/
def applyMop (s : State) : State :=
  { s with dict := { s.dict with sessions := s.dict.sessions.filter fun m => s.gb Od.MOP_ENABLE 0 m.bus } }

/-- Every subsystem but the servo array, the stages and the read channels switches to an image (R74); those keep the former objects until
their next superframe, tick and read gate (R296). -/
def applyImage (s : State) (im : Image) (rxBusy : BitVec 4) : State :=
  let old := s
  let s := s.withImage im
  let s := { s with
    boot := { s.boot with haveImage := true }
    servoImg := some (old.servoImg.getD old.od)
    drives := s.drives.map fun d => { d with fe := { d.fe with img := some (d.fe.img.getD old.od) } }
    stageImg := old.stageImg.map fun x => some (x.getD old.od) }
  let s := applyCribs old s
  applyMop (applyNet (ledgerApply (applySerial old (applyCache old (evtApply old s)) rxBusy)))

/-- Cribs whose Granary window an image changes. -/
def movedWindows (s : State) (im : Image) : List Nat :=
  (List.range 33).filter fun c =>
    im.g Od.CRIB_GRANARY_BASE c != s.g Od.CRIB_GRANARY_BASE c || im.g Od.CRIB_GRANARY_SIZE c != s.g Od.CRIB_GRANARY_SIZE c

/-- Step 9 of a commit, at the apply instant (R71, R133). -/
def commitApply (s : State) (im : Image) (rxBusy : BitVec 4) : State :=
  let k := storeSlot s
  let s := applyImage s im rxBusy
  let s := (s.p Od.ACTIVE_SEQ 0 (s.boot.cfg[k]).seq).p Od.ACTIVE_SLOT 0 k
  let s := commitEnd { s with dict := { s.dict with pendingSet := [] } } 0
  if s.isDev .held then
    let s := dropUndeclared (s.p Od.HOLD_REASON 0 (s.g Od.HOLD_REASON / 32 * 32))
    if s.g Od.HOLD_REASON = 0 then enterStarting s 3 else s
  else s

/-- Step 8 and what follows it (R33, R71): the pointer record is the commit point. Jobs whose window changes stop first, and the apply
instant waits for their engine commands (R581 cause 16). -/
def commitPoint (s : State) (im : Image) (rxBusy : BitVec 4) : State :=
  let k := storeSlot s
  let p : Fin 2 := match newestPtr s with
    | some q => other2 q
    | none => 0
  let rseq := match newestPtr s with
    | some q => ((s.boot.ptr[q]).rseq + 1) % 2 ^ 32
    | none => 1
  let seq := (s.boot.cfg[k]).seq
  let s : State := { s with boot := { s.boot with
    cfg := s.boot.cfg.set k { s.boot.cfg[k] with streamOk := true }
    ptr := s.boot.ptr.set p { valid := true, rseq := rseq, slot := k, seq := seq } } }
  let s := s.chestWrite Region.state (Pos.pointer p)
  if im.g Od.DRAM_GEOM ≠ s.g Od.DRAM_GEOM then
    let s := (s.p Od.ACTIVE_SEQ 0 seq).p Od.ACTIVE_SLOT 0 k
    let s := memRetireClear { s with dict := { s.dict with pendingSet := [] } } 0x434C5252
    warmRestart (commitEnd s 0)
  else
    let cs := movedWindows s im
    let s := stopJobs (s.p Od.CONFIG_STATE 0 4) (.cause 16 0) cs.contains
    if s.jobsGone cs.contains then commitApply s im rxBusy else s

/-- COMMIT_STORE_DONE (R71): the store has ended and been read back, `same` when it compares equal; or, in APPLYING, the jobs that held
the apply instant back have ended. `rxBusy` names the serial ports in the middle of a character. -/
def execCommitStoreDone (same : Bool) (rxBusy : BitVec 4) (s : State) : Out :=
  actAll s fun s =>
    match s.dict.commit with
    | none => s
    | some c =>
      let k := storeSlot s
      if s.g Od.CONFIG_STATE = 3 then
        if s.chest.delayed.any fun d => d.region == cfgRegion k then s
        else if same then popGo (commitPoint s c.image rxBusy)
        else popGo (commitEnd (dropUndeclared s) 0x13)
      else if s.g Od.CONFIG_STATE = 4 ∧ s.jobsGone (movedWindows s c.image).contains = true then popGo (commitApply s c.image rxBusy)
      else s

/-! ### A commit up to step 5 (R69 to R71) -/

/-- The steps of a commit before the population is looked at. -/
def commitStart (s : State) (crc : Nat) : State :=
  let s := ((s.p Od.CONFIG_STATE 0 2).p Od.COMMIT_FAIL_OBJ 0 0).p Od.POP_FAULT 0 0
  let set := s.dict.pendingSet
  if set = [] then commitEnd s 0x11
  else if crc32c (pendingStream s) ≠ crc then commitEnd s 0x10
  else match (set.filter fun (p : Nat × PendEntry) => !p.2.complete).head? with
    | some p => commitEnd (s.p Od.COMMIT_FAIL_OBJ 0 p.1) 0x06
    | none =>
      if (set.any fun (p : Nat × PendEntry) => p.1 / 2 ^ 24 == 1) && !s.isDev .held then commitEnd (s.p Od.POP_FAULT 0 (2 ^ 23)) 0x04
      else popGo { s with dict := { s.dict with commit := some ⟨mergedImage s, false⟩ } }

/-- A write of COMMIT (R69, R70, R686). -/
def commitWrite (s : State) (crc : Nat) : State × Nat :=
  if 2 ≤ s.g Od.CONFIG_STATE ∨ s.g Od.PF_STATE ≠ 0 then (s, 0x0A)
  else if s.isDev .starting || s.isDev .draining then (s, 0x0C)
  else (commitStart s crc, 0)

/-- COMMIT (R69). -/
def execCommit (who : Crib) (crc : Nat) (s : State) : Out :=
  actAll s fun s => writeObj s who Od.COMMIT 0 fun s => commitWrite s crc

/-- A write of PENDING_CLEAR (R65, R70); 0 has no effect. -/
def pendingClear (s : State) (v : Nat) : State × Nat :=
  if 1 < v then (s, 0x07)
  else if 2 ≤ s.g Od.CONFIG_STATE then (s, 0x0A)
  else if v = 0 then (s, 0)
  else (({ s with dict := { s.dict with pendingSet := [] } }).p Od.CONFIG_STATE 0 0, 0)

/-- PENDING_CLEAR (R65). -/
def execPendingClear (who : Crib) (v : Nat) (s : State) : Out :=
  actWrite who Od.PENDING_CLEAR 0 (fun s => pendingClear s v) s

end Sys2Proof.Machine
end

