-- ==== Sys2Proof/Machine/Boot.lean ====
section
/-! DEFINITION. Start-up, firmware loading, and the commands of the device states: Cold start, the boot ROM, Booting, Starting, hold,
release, drain and Warm restart (R107 to R124, R129 to R142, R695). -/

namespace Sys2Proof.Machine

/-! ### Power (R107, R108, R139) -/

/-- LOGIC_POWER_LOSS: from any state to Off; every output is low (R107). -/
def execLogicPowerLoss (s : State) : Out :=
  .next <| settleAll s <|
    let s := s.each (List.finRange 16) closeWriteGate
    ({ s with
      dev := .off
      pins := { feRst := 0, laserEn := 0, stgRst := 0, bridgeEn := 0 }
      parts := { feUp := 0, stageUp := 0 }
      boot := { s.boot with crs := true } }).p Od.DEVICE_STATE 0 0

/-- Items whose values the Chest, one-time-programmable storage or the firmware's counts keep over a Cold start (R139, R154, R425, R482,
R538, R545, R615, R617, R661 to R668, R687, R695). -/
def keptItems : List Nat :=
  [Od.FW_FLOOR, Od.NS_KEY_STATE, Od.NS_KEY_VER, Od.NS_KEY_KCV, Od.NS_ZONES_SHORT, Od.CERT_RESULT, Od.JOURNAL_SEQ, Od.STOOK_WRITTEN,
    Od.STOOK_UNPROT, Od.MEM_ERR_HEAD, Od.MEM_RETIRE_LIST, Od.MEM_RETIRE_COUNT, Od.HAY_LINES_RETIRED, Od.EVT_LOG_HEAD, Od.EVT_LOG_LOST,
    Od.VIO_LOG_HEAD, Od.VIO_LOG_LOST, Od.LEDGER_HEAD, Od.LEDGER_LOST_REC, Od.MIN_SEQ_NEXT, Od.TARIFF_RATE, Od.TARIFF_DEMAND_FREE,
    Od.CRIB_TARIFF, Od.TARIFF_SEQ, Od.TARIFF_PEND_STATE, Od.ACCT_TOTAL, Od.ACCT_CHARGE_TOTAL, Od.PF_COUNT, Od.CLK_REF_LOSS_CNT].map
      (·.addr) ++ [Od.MEM_RETIRE_LIST.addr + 4096]

/-- The value of an object is kept over a Cold start; of NS_FORMAT_STATE only FAILED is. -/
def keptValue (p : Nat × Nat) : Bool :=
  keptItems.contains (p.1 / 4096 * 4096) || (p.1 / 4096 * 4096 == Od.NS_FORMAT_STATE.addr && p.2 == 2)

/-- The counts of group 0x7E from the newest checkpoint that is whole (R715). -/
def lifeKept (c : Chest) (torn : Bool) : Keyed Nat :=
  let k : Fin 2 := if torn then other2 c.lifeAt else c.lifeAt
  (c.life[k]).getD []

/-- The state after a power-on reset, with what the Chest, the flash and the discs keep (R139). `flash`: slots reprogrammed from outside;
`torn`: ledger positions whose halves do not agree (R668); `lifeTorn`: the newest checkpoint was being written. -/
def coldStart (old : State) (flash : List (Fin 2 × List Byte)) (torn : List Nat) (lifeTorn : Bool) : State :=
  let old := keysAnew old
  let z := State.reset
  let s : State := { z with
    freeCtr := old.freeCtr
    out := old.out
    od := layOver (layOver (z.od.filter fun p => !isLife p.1 && !keptItems.contains (p.1 / 4096 * 4096)) (old.od.filter keptValue))
      (lifeKept old.chest lifeTorn)
    blobs := layOver z.blobs (old.blobs.filter fun p => p.1 / 2 ^ 24 == 0x70)
    chest := { old.chest with recent := [], delayed := [] }
    evt := { z.evt with log := old.evt.log, vio := old.evt.vio }
    flash := flash.foldl (fun v p => v.set p.1 ⟨p.2, false⟩) old.flash
    boot := { z.boot with cfg := old.boot.cfg, ptr := old.boot.ptr, marks := old.boot.marks }
    keys := { old.keys with jobKeys := [], ops := [] }
    motion := { z.motion with
      axes := old.motion.axes.map fun x => AxisSt.fresh x.kept, stages := old.motion.stages.map fun g => StageSt.fresh g.level }
    host := { z.host with
      ns := old.host.ns, zones := zonesAnew old.host.zonesKept, spent := old.host.spentKept, zonesKept := old.host.zonesKept
      spentKept := old.host.spentKept }
    media := { z.media with parity := old.media.parity, unprot := old.media.unprot, hwm := old.media.hwm }
    admin := { z.admin with
      journal := old.admin.journal, nextId := old.admin.nextId, certified := old.admin.certified, sanitize := old.admin.sanitize }
    mem := { z.mem with log := old.mem.log, eraseKept := old.mem.eraseKept, gone := old.mem.gone }
    ledger := { z.ledger with
      accts := old.ledger.kept, kept := old.ledger.kept, pend := old.ledger.pend, gap := old.ledger.gap, backEnd := old.ledger.backEnd
      lastEnd := old.ledger.lastEnd } }
  let s := (s.p Od.LEDGER_ACK 0 old.chest.ledgerAck).p Od.EVT_LOG_ACK 0 old.chest.evtAck
  let s := s.each (List.finRange 4) fun s r => s.p Od.MEM_ERASE_DEV r (s.mem.eraseKept[r])
  let s := s.each (List.range 256) fun s i =>
    s.p Od.NS_ZONES_BOUND i (s.host.zones.filter fun p => p.1 / 2 ^ 32 == i && p.2.bound.isSome).length
  let s := (s.inc Od.LIFE_COLD_STARTS).p Od.LEDGER_FREE 0 (65536 - (s.g Od.LEDGER_HEAD + 2 ^ 32 - s.g Od.LEDGER_ACK) % 2 ^ 32)
  romStart (ledgerTorn s torn) true

/-- COLD_START: logic power is applied (R107, R108). From any other state than Off, power is lost first. -/
def execColdStart (flash : List (Fin 2 × List Byte)) (torn : List Nat) (lifeTorn : Bool) (s : State) : Out :=
  .next (settleAll s (coldStart s flash torn lifeTorn))

/-! ### Booting (R109, R114 to R116, R121 to R124) -/

/-- The image in force when none is valid (R87, R124): no population, and MOP at its built-in settings. -/
def noImage : Image := ⟨[(Od.MOP_NODE.el 0, 0x10), (Od.MOP_DATA_RATE.el 0, 2), (Od.MOP_ENABLE.el 0, 3)], []⟩

/-- A configuration slot but for its LAYOUT is eligible (R122). -/
def slotSound (s : State) (k : Fin 2) : Bool :=
  let c := s.boot.cfg[k]
  c.hdrOk && c.streamOk && (newestPtr s).elim false fun p => !newerSeq c.seq (s.boot.ptr[p]).seq

/-- The slot that Booting takes (R122). -/
def chooseSlot (s : State) : Option (Fin 2) :=
  let ok (k : Fin 2) : Bool := slotSound s k && (s.boot.cfg[k]).layout == s.g Od.OD_LAYOUT
  if ok 0 && ok 1 then (if newerSeq (s.boot.cfg[(1 : Fin 2)]).seq (s.boot.cfg[(0 : Fin 2)]).seq then some 1 else some 0)
  else if ok 0 then some 0 else if ok 1 then some 1 else none

/-- Firmware chooses a configuration and validates its population (R27, R122 to R124). `trained`: DRAM training succeeded on every
declared rank. -/
def chooseConfig (s : State) (trained : Bool) : State :=
  match chooseSlot s with
  | none =>
    let layout := slotSound s 0 || slotSound s 1
    let s := (((s.withImage noImage).p Od.ACTIVE_SEQ 0 0).p Od.ACTIVE_SLOT 0 0).pb Od.HOLD_REASON 0 (if layout then 1 else 0) true
    { s with boot := { s.boot with haveImage := false, phase := .ready } }
  | some k =>
    let c := s.boot.cfg[k]
    let named := (newestPtr s).elim false fun p => (s.boot.ptr[p]).slot == k.val
    let s := ((s.withImage c.image).p Od.ACTIVE_SEQ 0 c.seq).p Od.ACTIVE_SLOT 0 k
    let s := s.p Od.BOOT_STATUS 0 (b2n (!named))
    popBegin { s with boot := { s.boot with haveImage := true } } .boot c.image trained

/-- FIRMWARE_START: the boot ROM starts the VALID slot with the higher IMAGE_SEQ (R108, R114); firmware reads the Chest, where `chestBad`
means a read error in the configuration or pointer region (R125). -/
def execFirmwareStart (trained chestBad : Bool) (s : State) : Out :=
  actAll s fun s =>
    if s.dev ≠ .booting ∨ s.boot.phase ≠ .rom then s
    else match bootSlot s with
      | none => s
      | some k =>
        let f := s.flash[k]
        let s := ((s.p Od.FW_SLOT_RUNNING 0 k).p Od.FW_RUNNING 0 f.release).p Od.FW_STAGED 0 f.release
        let s := s.p Od.OD_LAYOUT 0 f.layout
        let s := { s with boot := { s.boot with phase := .parts, crs := false } }
        chooseConfig (s.p Od.HOLD_REASON 0 (s.g Od.HOLD_REASON / 32 * 32 + 16 * b2n chestBad)) trained

/-- BOOT_TIMEOUT: firmware has not ended Booting within 10 s of its start: the slot is marked, and the start goes on from step 2
(R115). -/
def execBootTimeout (s : State) : Out :=
  actAll s fun s =>
    if s.dev ≠ .booting ∨ s.boot.phase = .rom then s
    else
      let k : Fin 2 := if s.g Od.FW_SLOT_RUNNING = 0 then 0 else 1
      let f := s.flash[k]
      let s := { s with boot := { s.boot with marks := s.boot.marks.set k (some (f.imageSeq, f.bodySha)) } }
      romStart (s.chestWrite Region.state (Pos.bootMark k)) true

/-- BOOT_NOIMG_LINE: with no VALID slot, SP0 sends its line (R116). -/
def execBootNoimgLine (s : State) : Out :=
  act s fun s =>
    if s.dev = .booting ∧ s.boot.phase = .rom ∧ bootSlot s = none then s.emit (.serial 0 (asciiBytes "KRY-C48 BOOT NOIMG")) else s

/-- Booting ends (R109): the cross-object checks, cribs and ports under the image, and Starting, or Held while HOLD_REASON is not 0
(R107, R125). -/
def bootingEnd (s : State) : State :=
  let s := if s.boot.haveImage && !s.gb Od.HOLD_REASON 0 2 then match crossCheck s (activeImage s) with
      | some k => (s.p Od.COMMIT_FAIL_OBJ 0 k).pb Od.HOLD_REASON 0 3 true
      | none => s
    else s
  let s := { s with dict := { s.dict with odwReady := true, canActive := true } }
  let s := s.each (List.range 33) fun s c => s.p Od.CRIB_STATE c (b2n (s.cribEnabled c))
  let s := applyNet s
  let old := s
  let s := if s.g Od.HOLD_REASON = 0 then enterStarting s (if s.boot.warm then 2 else 1) else outputsFor (setDev s .held)
  (applySerial old s 0).each (List.finRange 33) ctlReady

/-- BOOTING_END (R109). -/
def execBootingEnd (s : State) : Out :=
  actAll s fun s => if s.dev = .booting ∧ s.boot.phase = .ready then bootingEnd s else s

/-- STARTING_END: every declared axis is positioned; the disc in the jaw is looked to, interrupted operations go on, and the device is
Serving (R110, R397, R493). -/
def execStartingEnd (s : State) : Out :=
  actAll s fun s =>
    if s.dev = .starting ∧ ((List.finRange 20).all fun (a : Axis) => positioned s a) = true then
      let s := if s.stageDeclared 4 && s.g Od.PICK_STATE == 0 then jawCheck s else s
      setDev (adminResume s) .serving
    else s

/-! ### Loading firmware (R117 to R120) -/

/-- The slot that is not running. -/
def loadSlot (s : State) : Fin 2 := if s.g Od.FW_SLOT_RUNNING = 0 then 1 else 0

def State.setFlash (s : State) (k : Fin 2) (f : FlashSlot) : State := { s with flash := s.flash.set k f }

/-- A write of FW_LOAD_CTRL (R117, R119, R686). -/
def fwLoadCtrl (s : State) (v : Nat) : State × Nat :=
  let st := s.g Od.FW_LOAD_STATE
  if v ≠ 1 ∧ v ≠ 2 then (s, 0x07)
  else if s.g Od.PF_STATE ≠ 0 ∨ st = 1 ∨ st = 3 then (s, 0x0A)
  else if v = 1 then
    let s := (s.p Od.FW_LOAD_STATE 0 1).p Od.FW_LOAD_ADDR 0 0
    ((s.p Od.FW_STAGED 0 (s.g Od.FW_RUNNING)).setFlash (loadSlot s) ⟨[], true⟩, 0)
  else if st = 2 then (s.p Od.FW_LOAD_STATE 0 3, 0)
  else (s, 0x0C)

/-- FW_LOAD_ERASE (R117). -/
def execFwLoadErase (who : Crib) (s : State) : Out :=
  actAll s fun s => writeObj s who Od.FW_LOAD_CTRL 0 fun s => fwLoadCtrl s 1

/-- FW_LOAD_CHECK (R117). -/
def execFwLoadCheck (who : Crib) (s : State) : Out :=
  actAll s fun s => writeObj s who Od.FW_LOAD_CTRL 0 fun s => fwLoadCtrl s 2

/-- FW_ERASE_DONE (R119). -/
def execFwEraseDone (s : State) : Out :=
  act s fun s => if s.g Od.FW_LOAD_STATE = 1 then s.p Od.FW_LOAD_STATE 0 2 else s

/-- A write of FW_LOAD_DATA, once its value is complete (R117, R118, R686). -/
def fwLoadData (s : State) (data : List Byte) : State × Nat :=
  let a := s.g Od.FW_LOAD_ADDR
  if s.g Od.PF_STATE ≠ 0 then (s, 0x0A)
  else if s.g Od.FW_LOAD_STATE ≠ 2 ∨ a % 256 ≠ 0 ∨ data = [] ∨ 4096 < data.length ∨ 2 ^ 24 < a + data.length then (s, 0x07)
  else
    let k := loadSlot s
    ((s.setFlash k { s.flash[k] with bytes := padTo a (s.flash[k]).bytes ++ data }).p Od.FW_LOAD_ADDR 0 (a + data.length), 0)

/-- FW_LOAD_DATA (R118). -/
def execFwLoadData (who : Crib) (data : List Byte) (s : State) : Out :=
  actAll s fun s => writeObj s who Od.FW_LOAD_DATA 0 fun s => fwLoadData s data

/-- FW_CHECK_DONE: checks 1 to 5 and 7 of R113 on the load slot (R117). -/
def execFwCheckDone (s : State) : Out :=
  actAll s fun s =>
    if s.g Od.FW_LOAD_STATE ≠ 3 then s
    else
      let k := loadSlot s
      let f : FlashSlot := { s.flash[k] with torn := false }
      let s := s.setFlash k f
      let s := if f.check (s.g Od.FW_FLOOR) false = 0 then (s.p Od.FW_LOAD_STATE 0 4).p Od.FW_STAGED 0 f.release else s.p Od.FW_LOAD_STATE 0 5
      raise s Src.fwLoad (s.g Od.FW_LOAD_STATE)

/-- A write of FW_FLOOR_RAISE: the key raises FW_FLOOR to the SEC_VER of the running image, never lower (R120). -/
def fwFloorRaise (s : State) (v : Nat) : State :=
  if v = 0x464C4F52 then
    let k : Fin 2 := if s.g Od.FW_SLOT_RUNNING = 0 then 0 else 1
    s.p Od.FW_FLOOR 0 (max (s.g Od.FW_FLOOR) (s.flash[k]).secVer)
  else s

/-- FW_FLOOR_RAISE (R120). -/
def execFwFloorRaise (who : Crib) (v : Nat) (s : State) : Out :=
  actWrite who Od.FW_FLOOR_RAISE 0 (fun s => (fwFloorRaise s v, 0)) s

/-! ### Hold, drain, release, restart (R129 to R136, R695) -/

/-- A write of HOLD_REQUEST (R129, R130); 0 has no effect. -/
def holdRequest (s : State) (v : Nat) : State × Nat :=
  if 1 < v then (s, 0x07)
  else if v = 0 then (s, 0)
  else match s.dev with
    | .serving => (orderDrain (s.pb Od.HOLD_REASON 0 5 true) .hold, 0)
    | .held => (s.pb Od.HOLD_REASON 0 5 true, 0)
    | _ => (s, 0x0C)

/-- HOLD_REQUEST (R129). -/
def execHoldRequest (who : Crib) (v : Nat) (s : State) : Out :=
  actAll s fun s => writeObj s who Od.HOLD_REQUEST 0 fun s => holdRequest s v

/-- DRAIN_START_DEFERRED: the commit that held the drain back has ended (R130). -/
def execDrainStartDeferred (s : State) : Out :=
  actAll s fun s =>
    if s.dev = .serving ∧ s.boot.drainDeferred = true ∧ s.dict.commit = none then startDrain s (s.boot.drain.getD .hold) else s

/-- DRAIN_COMPLETE: every admitted command, job and picker move has ended (R107, R131). -/
def execDrainComplete (s : State) : Out :=
  actAll s fun s => if s.dev = .draining ∧ drainBusy s = false then drainEnd s else s

/-- DRAIN_TIMEOUT: commands are still outstanding; what is left is interrupted, and the drain ends once the commands that stopped jobs
have pushed have ended (R132). -/
def execDrainTimeout (s : State) : Out :=
  actAll s fun s =>
    if s.dev = .draining ∧ drainBusy s = true then
      let s := interruptAll s
      if s.host.ctxs = [] then drainEnd s else s
    else s

/-- A write of HOLD_RELEASE (R134); 0 has no effect. -/
def holdRelease (s : State) (v : Nat) : State × Nat :=
  if 1 < v then (s, 0x07)
  else if v = 0 then (s, 0)
  else
    let s := s.pb Od.HOLD_REASON 0 5 false
    if !s.isDev .held then (s, 0)
    else if s.gb Od.HOLD_REASON 0 2 || s.gb Od.HOLD_REASON 0 3 then
      (popGo { s with boot := { s.boot with revalidate := true } }, 0)
    else (if s.g Od.HOLD_REASON = 0 then enterStarting s 3 else s, 0)

/-- HOLD_RELEASE (R134). -/
def execHoldRelease (who : Crib) (v : Nat) (s : State) : Out :=
  actAll s fun s => writeObj s who Od.HOLD_RELEASE 0 fun s => holdRelease s v

/-- A write of WARM_RESTART (R136). -/
def warmRestartWrite (s : State) (v : Nat) : State × Nat :=
  if v ≠ 0x5741524D then (s, 0x07)
  else match s.dev with
    | .serving => (orderDrain s .restart, 0)
    | .draining => ({ s with boot := { s.boot with drain := some .restart } }, 0)
    | .held => (warmRestart s, 0)
    | _ => (s, 0x0C)

/-- WARM_RESTART (R136). -/
def execWarmRestart (who : Crib) (v : Nat) (s : State) : Out :=
  actAll s fun s => writeObj s who Od.WARM_RESTART 0 fun s => warmRestartWrite s v

/-- REF_CLK_RETURN: REF_CLK has been present for 10 ms; the PLLs lock again and a Warm restart follows (R138, R695). -/
def execRefClkReturn (s : State) : Out :=
  actAll s fun s =>
    if s.pwr.refLost then
      let s := warmRestart { s with pwr := { s.pwr with refLost := false } }
      s.p Od.CLK_STATUS 0 0x11F
    else s

end Sys2Proof.Machine
end

