-- ==== Sys2Proof/Machine/Gleaner.lean ====
section
/-! DEFINITION. Errors that reads of memory find, the Gleaner's and those of demand accesses: correction, erasure mode,
uncorrectable lines and words, and the walk (R520, R527 to R537). -/

namespace Sys2Proof.Machine

/-- The command or job that owns a word or line ends with Internal Error (R520, R533, R583). -/
def memOwnerFails (s : State) (q : IoQueue) (cid : Nat) : State :=
  match s.host.ctxs.find? fun x => x.queue == q && x.cid == cid with
  | none => s
  | some x =>
    match (List.finRange 4).find? fun sq => (s.thresh.seq[sq]).elim false fun j => j.id == x.id with
    | some sq => stopJob s sq .internal
    | none => endCtx s x .internalError

/-- What follows from an uncorrectable line or word where it lies (R520, R533). The structures of the controller's own region have a
second copy; a frame allocated to nothing is rewritten with zeros. -/
def memLost (s : State) (r : MemRead) : State :=
  match r.place with
  | .shelf k => if (s.cache.shelf.find? k).isSome then (s.setShelf k none).inc Od.CACHE_ECC_REFILL_CNT else s
  | .hay k => if (s.cache.hay.find? k).isSome then (s.setHay k none).inc Od.CACHE_ECC_REFILL_CNT else s
  | .staging q cid => memOwnerFails s q cid
  | .landing n => s.setDv n fun d => { d with rx := none }
  | .granary a => s.setMem fun m => { m with poison := m.poison.insert (a / 8) () }
  | .unallocated => s
  | .own both => if both then warmRestart (s.p Od.MEM_RESTART_CAUSE 0 1) else s
  | .sram (some o) => memOwnerFails s o.1 o.2
  | .sram none => warmRestart (s.p Od.MEM_RESTART_CAUSE 0 2)

/-- KIND of a corrected error: HARD when the Gleaner's write-back was made and the reread shows the same error (R537). -/
def correctedKind (gleaner : Bool) (r : MemRead) : Nat := if gleaner && !r.overtaken && r.again then 2 else 1

/-- A corrected line that had all its error symbols on one device is counted towards the threshold of the Gleaner's pass, and the
rank enters erasure mode when it is reached (R529). -/
def towardsErasure (s : State) (rank : Nat) (rec_ : MemRec) : State :=
  if rec_.device = 0xFF ∨ s.g Od.MEM_ERASE_DEV rank ≠ 0xFF then s
  else
    let k := 10 * rank + rec_.device
    let n := Keyed.getD s.mem.passDev k 0 + 1
    let s := s.setMem fun m => { m with passDev := m.passDev.insert k n }
    if s.g Od.MEM_ERASE_THRESH = 0 ∨ n < s.g Od.MEM_ERASE_THRESH then s
    else memRecord (setErase s rank rec_.device) { rec_ with kind := 4 }

/-- One line of a DRAM pair is judged (R527, R528, R533, R534). What is not stated of an uncorrectable line is a free value. -/
def dramLine (s : State) (ch : Fin 2) (gleaner : Bool) (d : DemandAt) (r : MemRead) : State :=
  let rank := 2 * ch.val + d.rank.val
  let j := judgeLine r.bytes (s.g Od.MEM_ERASE_DEV rank)
  let rec_ : MemRec :=
    { seq := 0, time := 0, source := if gleaner then 2 else 1, kind := correctedKind gleaner r, target := ch, rank := d.rank
      device := soleDevice j.mask, symbols := j.count, bank := d.bank, crib := d.crib, row := d.row, col := d.col, addr := r.addr
      rep := 0, mask := j.mask }
  match j.result with
  | 0 => s
  | 1 =>
    let s := s.each (below 10 j.mask.testBit) fun s k => ceCount s (10 * rank + k)
    towardsErasure (memLog s rec_) rank rec_
  | _ =>
    let mask := s.useFree.free 10
    let rec_ : MemRec := { rec_ with kind := 3, symbols := s.free 5, mask := mask, device := soleDevice mask }
    memLost (memLog ((s.useFree.useFree).inc Od.MEM_UE_CNT ch) rec_) r

/-! ### The walk (R535, R536) -/

/-- Pairs of a rank: rows of 32 banks of 64 pairs (R525, R526, R535). -/
def rankPairs (s : State) : Nat := s.rowGroups * 8 * 32 * 64

/-- The pair at a place of the walk, of the Gleaner (CRIB 0xFF). -/
def pairAt (s : State) (i : Nat) : DemandAt :=
  let w := i % rankPairs s
  { crib := 0xFF, rank := if i < rankPairs s then 0 else 1, bank := Fin.ofNat 32 (w / 64), row := w / 2048, col := 16 * (w % 64) }

/-- The first pair from a place on that is not in the test frame, rows 0 to 7 of bank 0 (R535). -/
def skipTest (s : State) (i : Nat) : Nat :=
  let w := i % rankPairs s
  if w / 2048 < 8 ∧ w / 64 % 32 = 0 then i + (64 - w % 64) else i

/-- The Gleaner has read the pair at place `i`: it goes on to the next, and counts the end of a pass (R529, R535). -/
def gleanOn (s : State) (ch : Fin 2) (i : Nat) : State :=
  let total := s.ranks * rankPairs s
  let next := skipTest s (i + 1)
  let clear := fun (s : State) (rank : Nat) =>
    s.setMem fun m => { m with passDev := m.passDev.filter fun (p : Nat × Nat) => p.1 / 10 != 2 * ch.val + rank }
  let s := if (i + 1) % rankPairs s = 0 then clear s (i / rankPairs s) else s
  let s := if total ≤ next then s.inc Od.GLEAN_DRAM_PASS_CNT ch else s
  let next := if total ≤ next then 0 else next
  (s.setMem fun m => { m with dramAt := m.dramAt.set ch next }).p Od.GLEAN_DRAM_PROG ch (next * 65536 / total)

/-- GLEANER_DRAM_READ (R530, R535, R537): the two lines of the next pair of a channel's walk, or of a demand access. -/
def execGleanerDramRead (ch : Fin 2) (demand : Option DemandAt) (even odd : MemRead) (s : State) : Out :=
  actAll s fun s =>
    match demand with
    | some d => dramLine (dramLine s ch false d even) ch false d odd
    | none =>
      if s.g Od.GLEAN_DRAM_RATE = 0 ∨ s.ranks * rankPairs s = 0 then s
      else
        let i := skipTest s s.mem.dramAt[ch]
        dramLine (dramLine (gleanOn s ch i) ch true (pairAt s i) even) ch true (pairAt s i) odd

/-- The element of MEM_CE_CNT and the TARGET of an SRAM: 0 the Shelf, 1 the Granary, 2 every other. -/
def sramElement (target : Fin 3) : Nat := 40 + target.val

/-- GLEANER_SRAM_READ (R532 to R537): one word of the Gleaner's pass, or of a demand access with its crib. -/
def execGleanerSramRead (target : Fin 3) (demand : Option Nat) (passEnd : Bool) (word : MemRead) (s : State) : Out :=
  actAll s fun s =>
    let gleaner := demand.isNone
    if gleaner && s.g Od.GLEAN_SRAM_PASS == 0 then s
    else
      let s := if gleaner && passEnd then s.inc Od.GLEAN_SRAM_PASS_CNT else s
      let j := judgeWord (ofLe (word.bytes.take 8)) (ofLe (slice 8 1 word.bytes))
      let rec_ : MemRec :=
        { seq := 0, time := 0, source := if gleaner then 4 else 3, kind := correctedKind gleaner word, target := 2 + target.val, rank := 0
          device := j.count, symbols := 1, bank := 0, crib := demand.getD 0xFF, row := 0, col := 0, addr := word.addr, rep := 0
          mask := j.mask }
      match j.result with
      | 0 => s
      | 1 => memLog (ceCount s (sramElement target)) rec_
      | _ => memLost (memLog (s.inc Od.MEM_UE_CNT (2 + target.val)) { rec_ with kind := 3 }) word

end Sys2Proof.Machine
end

