-- ==== Sys2Proof/Machine/View.lean ====
section
/-! DEFINITION. What a read of an object returns: objects that report a part of the state, records of the logs, and every other
object's stored value (R13, R50, R52, R53, R56). -/

namespace Sys2Proof.Machine

/-- Spent disc zones of a media type (R422, R424). -/
def spentZones (s : State) (media : Nat) : Nat :=
  ((List.range 1536).map fun d =>
    if s.discDeclared d && s.discMedia d == media then (below (State.freeDiscZones.mediaZones media) (s.discZoneSpent d)).length else 0).sum

/-- SEQ_STATE: 0 IDLE, 2 RUNNING, 3 STOPPING (R553, R579). -/
def seqState (s : State) (q : Fin 4) : Nat :=
  match s.thresh.seq[q] with
  | none => 0
  | some j => if j.stop.isSome || j.halted then 3 else 2

/-- SP_STATUS: what the line does is the environment's, a free value. -/
def spStatus (s : State) (p : Fin 4) : Nat :=
  b2n (s.serial.ports[p]).shift.isSome + 2 * s.free 2 + 8 * b2n (padOf s 1 p).isNone + 16 * b2n (padOf s 2 p).isNone

/-- The objects that report a part of the state as it stands, by item; the second component is the element. What only a measurement of
the hardware shows is a free value. -/
def viewItem (s : State) (item e : Nat) : Option Nat :=
  if item = Od.PENDING_COUNT.addr then some s.dict.pendingSet.length
  else if item = Od.PENDING_BYTES.addr then some (pendingStream s).length
  else if item = Od.MOP_SESSIONS.addr then some s.dict.sessions.length
  else if item = Od.POOL_USED.addr then some (if e = 0 then s.ctxAll else s.free 16)
  else if item = Od.CLASSA_WORST.addr then some (s.free 32)
  else if item = Od.FREE_DISC_ZONES.addr then some (s.freeDiscZones (e + 1) false).length
  else if item = Od.SPENT_DISC_ZONES.addr then some (spentZones s (e + 1))
  else if item = Od.NET_MAC.addr then some (Config.macAddress e % 2 ^ 48)
  else if item = Od.LASER_PWR_MEAS.addr then some (s.free 16)
  else if item = Od.DISC_SPARE_FREE.addr then some (Keyed.getD s.media.spareFree e 0xFFFFFFFF)
  else if item = Od.RAKE_INTERNAL_BUSY.addr then some 0
  else if item = Od.JOB_KEY_LOADED.addr then
    some ((List.range 8).foldl (fun m k => putBit m k (s.keys.jobKeys.find? (8 * e + k)).isSome) 0)
  else if item = Od.SEQ_STATE.addr then some (seqState s (Fin.ofNat 4 e))
  else if item = Od.SEQ_CRIB.addr then some ((s.thresh.seq[Fin.ofNat 4 e]).elim 0 fun j => j.crib)
  else if item = Od.SEQ_PC.addr then some ((s.thresh.seq[Fin.ofNat 4 e]).elim 0 fun j => j.pc)
  else if item = Od.EQ_DEPTH.addr then some ((s.thresh.seq[Fin.ofNat 4 (e / 4)]).elim 0 fun j => (j.queues[Fin.ofNat 4 e]).length)
  else if item = Od.JOB_WAITING.addr then some (s.host.ctxs.filter fun x => x.crib == e && x.jobWaits).length
  else if item = Od.EVT_CRIB_PEND.addr then
    some ((List.range 16).foldl (fun m i => putBit m i (s.pendBit (Src.ofCrib e i))) 0)
  else if item = Od.EVT_CRIB_MASK.addr then
    some ((List.range 16).foldl (fun m i => putBit m i (s.maskBit (Src.ofCrib e i))) 0)
  else if item = Od.SP_DIVISOR.addr then some (spDivisor s e)
  else if item = Od.SP_RATE_ERR.addr then some (ofInt 32 (spRateErr s e))
  else if item = Od.SP_TX_FREE.addr then some (spFree s (Fin.ofNat 4 e))
  else if item = Od.SP_STATUS.addr then some (spStatus s (Fin.ofNat 4 e))
  else if item = Od.PAD_GPI.addr then some (s.free 8)
  else none

/-- The number an object holds. -/
def viewNum (s : State) (k : Nat) : Nat := (viewItem s (k / 4096 * 4096) (k % 4096)).getD (Keyed.getD s.od k 0)

/-- A record followed by its CRC (R68 parameters). -/
def sealed (bs : List Byte) : List Byte := bs ++ leBytes 4 (crc32c bs)

/-- An event log record (R615). -/
def evtRecBytes (r : EvtLogRec) : List Byte :=
  sealed (leBytes 4 r.seq ++ leBytes 2 r.src ++ leBytes 1 r.crib ++ leBytes 1 r.flags ++ leBytes 8 r.time ++ leBytes 8 r.d0 ++ leBytes 4 r.d1)

/-- A violation log record (R617). -/
def vioRecBytes (r : VioRec) : List Byte :=
  sealed (asciiBytes "KVIO" ++ leBytes 4 r.seq ++ leBytes 8 r.time ++ leBytes 1 r.partner ++ leBytes 1 r.crib ++ leBytes 2 r.wher ++
    leBytes 2 r.node ++ leBytes 2 r.code ++ leBytes 4 r.rep ++ padTo 32 r.detail)

/-- A memory error log record (R538). -/
def memRecBytes (r : MemRec) : List Byte :=
  sealed (padTo 60 (asciiBytes "KMEL" ++ leBytes 4 r.seq ++ leBytes 8 r.time ++
    [r.source, r.kind, r.target, r.rank, r.device, r.symbols, r.bank, r.crib].flatMap (leBytes 1) ++
    leBytes 4 r.row ++ leBytes 2 r.col ++ leBytes 2 0 ++ leBytes 8 r.addr ++ leBytes 4 r.rep ++ leBytes 4 r.mask))

/-- The bytes of a BLOB or STR32 object. What a log position that holds no record reads as is a free value, but for the ledger's
(R668). -/
def viewBlob (s : State) (k : Nat) : List Byte :=
  let item := k / 4096 * 4096
  let e := k % 4096
  if item = Od.EVT_LOG_REC.addr then
    ((s.evt.log.find? fun r => r.seq % 4096 == e).map evtRecBytes).getD (leBytes 32 (s.free 256))
  else if item = Od.VIO_LOG_REC.addr then
    ((s.evt.vio.find? fun r => r.seq % 512 == e).map vioRecBytes).getD (leBytes 64 (s.free 512))
  else if item = Od.MEM_ERR_REC.addr then
    ((s.mem.log.find? fun r => r.seq % 256 == e).map memRecBytes).getD (leBytes 64 (s.free 512))
  else if Od.LEDGER_REC.addr ≤ k ∧ k < Od.LEDGER_REC.addr + 65536 then Keyed.getD s.blobs k (List.replicate 128 0)
  else Keyed.getD s.blobs k []

/-- A value as it is carried (R50); a read of a WO object returns zero (R13). -/
def viewBytes (s : State) (r : ObjRow) (k : Nat) : List Byte :=
  match r.ty with
  | .blob => if r.acc = .wo then [0, 0] else leBytes 2 (viewBlob s k).length ++ viewBlob s k
  | .str32 => if r.acc = .wo then List.replicate 32 0 else padTo 32 (viewBlob s k)
  | t => if r.acc = .wo then List.replicate t.size 0 else leBytes t.size (viewNum s k)

/-! ### Descriptors and the walk (R52, R53) -/

/-- TYPE of a descriptor. -/
def Ty.code : Ty → Nat
  | .u8 => 1 | .u16 => 2 | .u32 => 3 | .u64 => 4 | .i16 => 5 | .i32 => 6 | .i64 => 7 | .q15 => 8 | .q31 => 9 | .f32 => 10
  | .bool => 11 | .enum8 => 12 | .bits32 => 13 | .time64 => 14 | .str32 => 15 | .blob => 16

/-- ACCESS of a descriptor. -/
def Acc.code : Acc → Nat
  | .ro => 1 | .rw => 2 | .rwh => 3 | .wc => 4 | .wo => 5

/-- The largest length of a BLOB, without its prefix. -/
def blobMost (item : Nat) : Nat :=
  if item = Od.FW_LOAD_DATA.addr then 4096
  else if item = Od.NS_KEY_DATA.addr ∨ item = Od.JOB_KEY_DATA.addr ∨ item = Od.EVT_LOG_REC.addr then 32
  else if item = Od.NVT_SUBNQN.addr ∨ item = Od.NVT_BIND_HOSTNQN.addr then 223
  else if item = Od.MEM_ERR_REC.addr ∨ item = Od.MEM_TEST_DATA.addr ∨ item = Od.VIO_LOG_REC.addr then 64
  else if item = Od.MEM_TEST_CHECK.addr then 16
  else if item = Od.SP_TX_DATA.addr then 128
  else if item = Od.SP_RX_DATA.addr then 256
  else 128

/-- MAXLEN. -/
def ObjRow.most (r : ObjRow) : Nat := if r.ty = .blob then 2 + blobMost r.ob.addr else r.ty.size

/-- The 32 bytes of a descriptor (R52). -/
def describe (r : ObjRow) : List Byte :=
  let plain := r.ty == .blob || r.ty == .str32
  let bare := plain || r.ty == .bool
  leBytes 1 r.ty.code ++ leBytes 1 r.acc.code ++ leBytes 1 (b2n (r.own != .none)) ++ [0] ++ leBytes 2 (r.last + 1 - r.first) ++
  leBytes 2 r.most ++ leBytes 8 (if plain then 0 else ofInt (8 * r.ty.size) r.dflt) ++ leBytes 8 (if bare then 0 else ofInt 64 r.lo) ++
  leBytes 8 (if bare then 0 else ofInt 64 r.hi)

/-- The first element of a row from `e` on that a requester may see. -/
def seenFrom (s : State) (who : Nat) (r : ObjRow) (e : Nat) : Option Nat :=
  ((List.range (r.last + 1 - max e r.first)).map (max e r.first + ·)).find? fun i => who == 0 || ownsEl s who i r.own

/-- The lowest address word above the one given that a requester may see, 0xFFFFFFFF when there is none (R53). The table's rows rise. -/
def nextAddr (s : State) (who addr : Nat) : Nat :=
  (Od.table.findSome? fun r =>
    if addr < r.ob.addr + r.last then (seenFrom s who r (addr + 1 - r.ob.addr)).map r.ob.el else none).getD 0xFFFFFFFF

/-! ### Reads (R56 to R58, R80) -/

/-- The answer to a READ: its code, FROM_ACTIVE and the bytes. -/
structure ReadAnswer where
  code : Nat
  fromActive : Bool
  bytes : List Byte
  deriving DecidableEq, Repr

/-- A READ by crib `who` of the element an address word names: at most `most` bytes of a BLOB from `offset`. `window` says that it comes
through the PF window (R634). A value the spec leaves open is used up. -/
def objRead (s : State) (who addr offset most : Nat) (view window : Bool) : State × ReadAnswer :=
  let refuse (c : Nat) : State × ReadAnswer := (s, ⟨c, false, []⟩)
  if s.dev = .booting then refuse 0x0D
  else match objRow addr with
    | none => refuse 0x01
    | some (r, e) =>
      let c := seeCode s who r e
      if c ≠ 0 then refuse c
      else if offset ≠ 0 ∧ (r.ty ≠ .blob ∨ r.ob = Od.SP_RX_DATA) then refuse 0x09
      else if r.ob = Od.SP_RX_DATA then
        let (s, d) := spRead s (Fin.ofNat 4 e) window
        (s, ⟨0, view, leBytes 2 d.length ++ d⟩)
      else
        let pend := if view then s.dict.pendingSet.find? addr else none
        let bs := pend.elim (viewBytes s r addr) fun p => p.bytes
        let fa := view && pend.isNone && r.acc != .wo
        if r.ty = .blob then
          if bs.length < offset then refuse 0x09 else (s.useFree, ⟨0, fa, slice offset most bs⟩)
        else (s.useFree, ⟨0, fa, bs⟩)

end Sys2Proof.Machine
end

