-- ==== Sys2Proof/Machine/Dict.lean ====
section
/-! DEFINITION. Writes of the object dictionary, the request slots of the PCIe window, and the two admin commands (R50, R51, R55, R58
to R67, R70, R77 to R84). -/

namespace Sys2Proof.Machine

/-! ### The value (R50, R51) -/

/-- The code with which a value that is not a BLOB is refused, 0 when it is not. -/
def valueCode (r : ObjRow) (bs : List Byte) : Nat :=
  let v := ofLe bs
  let within (x : Int) : Nat := if x < r.lo ∨ r.hi < x then 0x07 else 0
  match r.ty with
  | .str32 => if bs.length = 0 ∨ 32 < bs.length then 0x06 else 0
  | .blob => 0
  | t =>
    if bs.length ≠ t.size then 0x06
    else match t with
      | .bits32 => if v ||| r.hi.toNat = r.hi.toNat then 0 else 0x08
      | .enum8 => if r.listed.contains v then 0 else 0x07
      | .f32 => if fieldOf v 30 23 = 255 then 0x07 else 0
      | .i16 | .i32 | .i64 | .q15 | .q31 => within (toInt (8 * t.size) v)
      | _ => within v

/-! ### The pending set (R63, R64, R66) -/

/-- Put an entry into the pending set, or PENDING_FULL. -/
def pendPut (s : State) (k : Nat) (bytes : List Byte) (complete : Bool) : State × Nat :=
  let set := s.dict.pendingSet
  let old := (set.find? k).elim 0 fun p => p.bytes.length
  let count := if (set.find? k).isSome then set.length else set.length + 1
  let total := (set.map fun p => p.2.bytes.length).sum + bytes.length - old
  if 4096 < count ∨ 262144 < total then (s, 0x0B)
  else
    let s : State := { s with dict := { s.dict with pendingSet := set.insert k ⟨bytes, complete⟩ } }
    (if s.g Od.CONFIG_STATE = 0 then s.p Od.CONFIG_STATE 0 1 else s, 0)

/-- The length a BLOB value has by its prefix, with the prefix. -/
def blobLength (bs : List Byte) : Nat := 2 + ofLe (bs.take 2)

/-- A piece of a WC BLOB (R66). -/
def pendPiece (s : State) (k : Nat) (r : ObjRow) (offset : Nat) (data : List Byte) : State × Nat :=
  if offset = 0 ∧ data.length < 2 then (s, 0x06)
  else
    let old := (s.dict.pendingSet.find? k).bind fun p => if p.complete then none else some p.bytes
    match if offset = 0 then some data else old.bind fun b => if b.length = offset then some (b ++ data) else none with
    | none => (s, 0x09)
    | some b =>
      if blobLength b < b.length ∨ r.most < blobLength b then (s, 0x06) else pendPut s k b (decide (b.length = blobLength b))

/-! ### Effects -/

/-- A write to an object with no behaviour of its own takes effect when it completes (R55). -/
def plainStore (s : State) (r : ObjRow) (k : Nat) (bs : List Byte) : State :=
  if r.ty = .blob then { s with blobs := Keyed.put s.blobs k (bs.drop 2) [] } else { s with od := Keyed.put s.od k (ofLe bs) 0 }

/-- EVR_BASE, EVR_SIZE and EVR_VECTOR may be written only while the ring is disabled, and the base is a multiple of 4,096 (R609). -/
def ringWriteObj (s : State) (r : ObjRow) (k : Nat) (bs : List Byte) : State × Nat :=
  if s.g Od.EVR_ENABLE (k % 4096) ≠ 0 then (s, 0x0C)
  else if r.ob = Od.EVR_BASE ∧ ofLe bs % 4096 ≠ 0 then (s, 0x07)
  else (plainStore s r k bs, 0)

/-- A write of 1 has an effect, a write of 0 none. -/
def onOne (s : State) (v : Nat) (f : State → State) : State × Nat := (if v = 1 then f s else s, 0)

/-- A value that has passed R50, R51 and R55 takes effect: each object's own behaviour, or the plain store. `v` is the value as a number,
`bs` as it is carried. -/
def writeEffect (s : State) (r : ObjRow) (k : Nat) (bs : List Byte) (rxBusy : BitVec 4) : State × Nat :=
  let e := k % 4096
  let o := r.ob
  let v := ofLe bs
  if o = Od.INTERLOCK_ACK then (interlockAck s v, 0)
  else if o = Od.COMMIT then commitWrite s v
  else if o = Od.PENDING_CLEAR then pendingClear s v
  else if o = Od.HOLD_REQUEST then holdRequest s v
  else if o = Od.HOLD_RELEASE then holdRelease s v
  else if o = Od.WARM_RESTART then warmRestartWrite s v
  else if o = Od.FW_LOAD_DATA then fwLoadData s (bs.drop 2)
  else if o = Od.FW_LOAD_CTRL then fwLoadCtrl s v
  else if o = Od.FW_FLOOR_RAISE then (fwFloorRaise s v, 0)
  else if o = Od.CRIB_RESET then cribReset s e v
  else if o = Od.NS_KEY_CTRL then keyCtrl s e v
  else if o = Od.JOB_KEY_DATA then jobKeyWrite s e (bs.drop 2)
  else if o = Od.DISC_RESTORE then onOne s v fun s => discRestore s e
  else if o = Od.DRIVE_RESET then onOne s v fun s => driveResetWrite s (Fin.ofNat 16 e)
  else if o = Od.FE_RESET then onOne s v fun s => feResetWrite s (Fin.ofNat 16 e)
  else if o = Od.CAL_REQUEST then (calRequest s (Fin.ofNat 16 e) v, 0)
  else if o = Od.MOT_HALT then onOne s v fun s => motHalt s (Fin.ofNat 20 e)
  else if o = Od.PICK_RESET then onOne s v pickReset
  else if o = Od.PICK_PLACE then pickPlace s v
  else if o = Od.STAGE_RESET then onOne s v fun s => stageReset s (Fin.ofNat 5 e)
  else if o = Od.RAKE_GO then onOne s v fun s => rakeGo s e
  else if o = Od.MEM_CE_CLEAR then onOne s v memCeClear
  else if o = Od.MEM_ERASE_DEV then if v ≤ 9 ∨ v = 0xFF then (setErase s e v, 0) else (s, 0x07)
  else if o = Od.MEM_TEST_OP then (memTestOp s v, 0)
  else if o = Od.MEM_RETIRE_REQ then memRetireReq s v
  else if o = Od.MEM_RETIRE_CLEAR then (memRetireClear s v, 0)
  else if o = Od.EVT_ROUTE then evtRouteWrite e v s
  else if o = Od.EVT_CRIB_CLEAR then (evtCribClear e v s, 0)
  else if o = Od.EVT_CRIB_MASK then (evtCribMask e v s, 0)
  else if o = Od.EVR_ENABLE then evrEnableWrite e v s
  else if o = Od.EVR_BASE ∨ o = Od.EVR_SIZE ∨ o = Od.EVR_VECTOR then ringWriteObj s r k bs
  else if o = Od.EVT_LOG_ACK then ((plainStore s r k bs).ackPut true v, 0)
  else if o = Od.SP_TX_DATA then spWrite s (Fin.ofNat 4 e) (bs.drop 2)
  else if o = Od.PAD_FUNC then padWrite s (Fin.ofNat 8 e) v rxBusy
  else if o = Od.UTC_SET then (utcSet s v, 0)
  else if o = Od.LEDGER_ACK then ledgerAck s v
  else if o = Od.TARIFF_ARM then let t := tariffArm s v; (t.1, if t.2 = 0x100 then 0 else t.2)
  else (plainStore s r k bs, 0)

/-- A whole value for the pending set or for its object (R55, R63). -/
def takeValue (s : State) (r : ObjRow) (k : Nat) (bs : List Byte) (rxBusy : BitVec 4) : State × Nat :=
  if r.acc = .wc then pendPut s k (if r.ty = .str32 then padTo 32 bs else bs) true else writeEffect s r k bs rxBusy

/-- A whole BLOB: its prefix gives its length (R50). -/
def takeBlob (s : State) (r : ObjRow) (k : Nat) (bs : List Byte) (rxBusy : BitVec 4) : State × Nat :=
  if bs.length < 2 ∨ bs.length ≠ blobLength bs ∨ (r.acc ≠ .wo ∧ r.most < bs.length) then (s, 0x06) else takeValue s r k bs rxBusy

/-- A piece of an RW or WO BLOB on a path: 0 the PF window, 1 + f the admin queue of function f (R67). -/
def blobPiece (s : State) (r : ObjRow) (path k offset : Nat) (data : List Byte) (rxBusy : BitVec 4) : State × Nat :=
  let mine (a : Assembly) : Bool := a.path == path && a.addr == k
  let old := (s.dict.assemblies.find? mine).map fun a => a.bytes
  let s : State := { s with dict := { s.dict with assemblies := s.dict.assemblies.filter fun a => !mine a } }
  if offset = 0 ∧ data.length < 2 then (s, 0x06)
  else match if offset = 0 then some data else old.bind fun b => if b.length = offset then some (b ++ data) else none with
    | none => (s, 0x09)
    | some b =>
      if blobLength b < b.length then (s, 0x06)
      else if b.length < blobLength b then
        ({ s with dict := { s.dict with assemblies := ⟨path, k, b⟩ :: s.dict.assemblies } }, 0)
      else takeBlob s r k b rxBusy

/-- A WRITE by crib `who`: its effect and its code (R50, R51, R55, R58, R59, R66, R67, R70). `path` is none where a value comes whole:
over MOP, or in a command of its own. -/
def objWrite (s : State) (who : Nat) (path : Option Nat) (addr offset : Nat) (data : List Byte) (rxBusy : BitVec 4) : State × Nat :=
  if s.dev = .booting then (s, 0x0D)
  else match objRow addr with
    | none => (s, 0x01)
    | some (r, e) =>
      let c := writeCode s who r e
      if c ≠ 0 then (s, c)
      else if r.ty ≠ .blob ∧ offset ≠ 0 then (s, 0x09)
      else if r.acc = .wc ∧ 2 ≤ s.g Od.CONFIG_STATE then (s, 0x0A)
      else if r.ty ≠ .blob then
        let c := valueCode r data
        if c ≠ 0 then (s, c) else takeValue s r addr data rxBusy
      else match path with
        | none => takeBlob s r addr data rxBusy
        | some q => if r.acc = .wc then pendPiece s addr r offset data else blobPiece s r q addr offset data rxBusy

/-- PLAIN_OBJECT_WRITE (R55, R63): a write of a whole value by crib `who`. -/
def execPlainObjectWrite (who : Crib) (addr : Nat) (data : List Byte) (rxBusy : BitVec 4) (s : State) : Out :=
  actAll s fun s =>
    let r := objWrite s who none addr 0 data rxBusy
    r.1.answer who r.2

/-! ### The request slots of the PF window (R77 to R84) -/

/-- Put a slot. -/
def State.setSlot (s : State) (k : Fin 8) (f : WinSlot → WinSlot) : State :=
  { s with dict := { s.dict with slots := vmod s.dict.slots k f } }

/-- A slot request has ended: DONE with its outcome, and the window-completion event (R78, R83). DATA past RLEN keeps its bytes. -/
def slotEnd (s : State) (k : Fin 8) (code : Nat) (fromActive : Bool) (rlen : Nat) (bytes : List Byte) : State :=
  raise (s.setSlot k fun w => { w with
    go := false, done := true, fromActive := fromActive, code := code, rlen := rlen, data := overlay (padTo 480 w.data) 0 bytes })
    Src.windowDone k

/-- A GO write to a slot whose other fields the host has written: the request runs to its end (R79, R82). `rsv` says that bits [15:5] of
offset 0 are not all 0. A restart that the request itself brings about leaves no slot to answer in. -/
def slotRun (k : Fin 8) (fill : WinSlot → WinSlot) (rsv : Bool) (f : State → State × ReadAnswer × Nat) (s : State) : Out :=
  actAll s fun s =>
    let s := s.setSlot k fun w => { fill w with go := true, done := false, fromActive := false, code := 0, rlen := 0 }
    if s.dev = .booting then slotEnd s k 0x0D false 0 []
    else if rsv then slotEnd s k 0x20 false 0 []
    else
      let (t, a, n) := f s
      if t.dev = .booting then t else slotEnd t k a.code a.fromActive n a.bytes

/-- WINDOW_READ (R56, R57, R80). -/
def execWindowRead (k : Fin 8) (addr offset : Nat) (view rsv : Bool) (s : State) : Out :=
  slotRun k (fun w => { w with op := 0, pendingView := view, obj := addr, offset := offset }) rsv
    (fun s => let r := objRead s 0 addr offset 480 view true; (r.1, r.2, r.2.bytes.length)) s

/-- WINDOW_WRITE (R55, R78): LENGTH bytes of DATA. -/
def execWindowWrite (k : Fin 8) (addr offset length : Nat) (data : List Byte) (rsv : Bool) (rxBusy : BitVec 4) (s : State) : Out :=
  slotRun k (fun w => { w with op := 1, pendingView := false, length := length, obj := addr, offset := offset, data := padTo 480 data }) rsv
    (fun s =>
      if length = 0 ∨ 480 < length then (s, ⟨0x20, false, []⟩, 0)
      else
        let r := objWrite s 0 (some 0) addr offset (padTo length data) rxBusy
        (r.1, ⟨r.2, false, []⟩, if r.2 = 0 then length else 0)) s

/-- The answer to a DESCRIBE by crib `who` (R52). -/
def objDescribe (s : State) (who addr : Nat) : ReadAnswer :=
  match objRow addr with
  | none => ⟨0x01, false, []⟩
  | some (r, e) => let c := seeCode s who r e; if c ≠ 0 then ⟨c, false, []⟩ else ⟨0, false, describe r⟩

/-- WINDOW_DESCRIBE (R52). -/
def execWindowDescribe (k : Fin 8) (addr : Nat) (rsv : Bool) (s : State) : Out :=
  slotRun k (fun w => { w with op := 2, obj := addr }) rsv
    (fun s => let a := objDescribe s 0 addr; (s, a, a.bytes.length)) s

/-- WINDOW_NEXT (R53). -/
def execWindowNext (k : Fin 8) (addr : Nat) (rsv : Bool) (s : State) : Out :=
  slotRun k (fun w => { w with op := 3, obj := addr }) rsv (fun s => (s, ⟨0, false, leBytes 4 (nextAddr s 0 addr)⟩, 4)) s

/-- WINDOW_UNKNOWN_OP: OP is 4 + `op` (R78). -/
def execWindowUnknownOp (k : Fin 8) (op : Fin 4) (rsv : Bool) (s : State) : Out :=
  slotRun k (fun w => { w with op := 4 + op.val }) rsv (fun s => (s, ⟨0x21, false, []⟩, 0)) s

/-- SLOT_WRITE_WHILE_BUSY: a write that arrives while the slot's request runs (R81, R106). -/
def execSlotWriteWhileBusy (_k : Fin 8) (data : List Byte) (s : State) : Out :=
  act s fun s => violation (s.inc Od.ODW_VIOL_CNT) 4 0 0 0 0 data

/-! ### The admin commands (R60, R61) -/

/-- Completion dword 0 of an object command. -/
def objDw0 (code : Nat) (fromActive : Bool) (count : Nat) : Nat := code + 256 * b2n fromActive + 65536 * count

/-- OBJECT_READ (R60, R61): a buffer too short for a value that is not a BLOB is answered LENGTH. -/
def execObjectRead (q : IoQueue) (hdr : IoHdr) (addr offset length : Nat) (view : Bool) (s : State) : Out :=
  actAll s fun s => adminTake s q hdr true fun s =>
    if length = 0 ∨ 4096 < length then adminDone s q hdr .invalidField
    else
      let (s, a) := objRead s (s.queueCrib q) addr offset length view false
      let a : ReadAnswer := if length < a.bytes.length then ⟨0x06, false, []⟩ else a
      let s := if a.bytes = [] then s else match q with
        | .sq .. => s.emit (.hostData q hdr.cid a.bytes)
        | .conn k => netSend s k (.hostData q hdr.cid a.bytes)
      adminDone s q hdr .success (objDw0 a.code a.fromActive a.bytes.length)

/-- OBJECT_WRITE (R60, R61, R67). -/
def execObjectWrite (q : IoQueue) (hdr : IoHdr) (addr offset length : Nat) (data : List Byte) (rxBusy : BitVec 4) (s : State) : Out :=
  actAll s fun s => adminTake s q hdr true fun s =>
    if length = 0 ∨ 4096 < length then adminDone s q hdr .invalidField
    else
      let who := s.queueCrib q
      let r := objWrite s who (some (1 + who)) addr offset (padTo length data) rxBusy
      if r.1.dev = .booting then r.1
      else adminDone r.1 q hdr .success (objDw0 r.2 false (if r.2 = 0 then length else 0))

end Sys2Proof.Machine
end

