-- ==== Sys2Proof/Machine/Mailbox.lean ====
section
/-! DEFINITION. Mailboxes (R585 to R594) and doorbells (R595 to R597). -/

namespace Sys2Proof.Machine

/-- Whether crib `c` may post to channel `ch` (R586). -/
def mbxAdmitted (s : State) (c ch : Nat) : Bool :=
  decide (s.g Od.MBX_OWNER ch ≤ 32) && s.gb Od.MBX_WRITERS ch c

/-- A function's staging buffer for a channel: 64 bytes, zero until written (R587). -/
def sendBuf (s : State) (f ch : Nat) : List Byte := padTo 64 (Keyed.getD s.evt.staging (32 * f + ch) [])

/-- The message a post writes into the slot (R588). -/
def mbxMessage (s : State) (f ch w : Nat) : List Byte :=
  let slot := if h : ch < 32 then s.evt.slots[ch] else MbxSlot.empty
  let len := fieldOf w 5 0
  let stamped := decide (16 ≤ ch)
  let buf := sendBuf s f ch
  [BitVec.ofNat 8 (slot.seq + 1), BitVec.ofNat 8 len,
   BitVec.ofNat 8 (if stamped then f else fieldOf w 15 8),
   BitVec.ofNat 8 (b2n stamped + 2 * b2n slot.full)] ++ slice 4 4 buf ++ padTo 56 (slice 8 len buf)

/-- What a function may post: admitted, at most 56 bytes and no reserved bit set (R590). -/
def mbxAccepts (s : State) (f ch w : Nat) : Bool :=
  mbxAdmitted s f ch && decide (fieldOf w 5 0 ≤ 56) && decide (w < 2 ^ 16)

/-- The post itself: one step that fills the slot, stamps it and raises the owner's sources (R589, R591). -/
def mbxPost (s : State) (f : Nat) (ch : Fin 32) (w : Nat) : State :=
  let owner := s.g Od.MBX_OWNER ch
  let slot := s.evt.slots[ch]
  let msg := mbxMessage s f ch w
  let coll := slot.full
  let seq := (slot.seq + 1) % 256
  let s := { s with evt := { s.evt with
    slots := s.evt.slots.set ch {
      bytes := msg, full := true, collided := slot.collided || coll
      collisions := if coll then min 255 (slot.collisions + 1) else slot.collisions, seq := seq }
    lastPost := Keyed.insert s.evt.lastPost (32 * f + ch) (seq, coll) } }
  let s := s.inc Od.MBX_POST_CNT ch
  let s := if owner = 0 then raise s Src.mailbox ch else raiseCrib s owner 0 ch
  if coll then
    let s := s.inc Od.MBX_COLLIDE_CNT ch
    if owner = 0 then raise s Src.mailboxCollide (ch + 256 * f) else raiseCrib s owner 1 (ch + 256 * f)
  else s

/-- MAILBOX_POST: a write of POST_LEN by function `f`, after what it wrote to SEND_BUF, if anything (R589 to
R591). A disabled crib's BAR2 ignores writes (R144). -/
def execMailboxPost (f : Crib) (ch : Fin 32) (w : Nat) (staged : Option (List Byte)) (s : State) : Out :=
  act s fun s =>
    if !s.cribEnabled f then s
    else
      let s := match staged with
        | some b => { s with evt := { s.evt with staging := Keyed.insert s.evt.staging (32 * f + ch) (padTo 64 b) } }
        | none => s
      if mbxAccepts s f ch w then mbxPost s f ch w
      else violation (s.inc Od.MBX_REFUSED_CNT f) 5 f f 0 0 (leBytes 4 w)

/-- MAILBOX_RELEASE: REL = 1 with the slot's SEQ, by the owner, clears FULL, COLLIDED and COLLISIONS (R593). -/
def execMailboxRelease (f : Crib) (ch : Fin 32) (w : Nat) (s : State) : Out :=
  act s fun s =>
    if s.cribEnabled f && s.g Od.MBX_OWNER ch == f.val && w.testBit 8 && fieldOf w 7 0 == s.evt.slots[ch].seq then
      { s with evt := { s.evt with slots := vmod s.evt.slots ch fun m =>
          { m with full := false, collided := false, collisions := 0 } } }
    else s

/-- What a function reads at SLOT: the message to the owner, zeros to any other (R587). -/
def mbxRead (s : State) (f : Nat) (ch : Fin 32) : List Byte :=
  if s.g Od.MBX_OWNER ch = f then padTo 64 s.evt.slots[ch].bytes else List.replicate 64 0

/-- The owner's status word of a slot (R587, offset 0x1040). -/
def mbxStatus (s : State) (f : Nat) (ch : Fin 32) : Nat :=
  if s.g Od.MBX_OWNER ch = f then
    let m := s.evt.slots[ch]
    b2n m.full + 2 * b2n m.collided + 256 * m.seq + 65536 * m.collisions
  else 0

/-- The sender's status word (R587, offset 0x0044). -/
def mbxSendState (s : State) (f : Nat) (ch : Fin 32) : Nat :=
  let (q, c) := Keyed.getD s.evt.lastPost (32 * f + ch) (0, false)
  b2n (mbxAdmitted s f ch) + 2 * b2n s.evt.slots[ch].full + 256 * q + 65536 * b2n c

/-- Ring one doorbell (R597). -/
def dbRing (s : State) (f d : Nat) : State :=
  let owner := s.g Od.DB_OWNER d
  if 32 < owner || !s.gb Od.DB_WRITERS d f then
    violation (s.inc Od.DB_REFUSED_CNT f) 5 f f 0 1 (leBytes 4 d)
  else if s.evt.doorbells.getLsbD d then s
  else
    let s := { s with evt := { s.evt with doorbells := s.evt.doorbells ||| BitVec.twoPow 256 d } }
    if owner = 0 then raise s Src.doorbell d else raiseCrib s owner 2 d

/-- DB_RING: a ring write sets doorbells and raises their owners' sources (R596, R597). -/
def execDbRing (f : Crib) (w : Fin 8) (bits : Nat) (s : State) : Out :=
  act s fun s =>
    if !s.cribEnabled f then s else s.each (below 32 bits.testBit) fun s b => dbRing s f (32 * w + b)

/-- DB_PEND: writing 1 clears an owned doorbell (R596). -/
def execDbPendClear (f : Crib) (w : Fin 8) (bits : Nat) (s : State) : Out :=
  act s fun s =>
    if !s.cribEnabled f then s
    else s.each (below 32 bits.testBit) fun s b =>
      if s.g Od.DB_OWNER (32 * w + b) = f.val then
        { s with evt := { s.evt with doorbells := s.evt.doorbells &&& ~~~ BitVec.twoPow 256 (32 * w + b) } }
      else s

/-- What a function reads at DB_PEND word `w` (R596). -/
def dbPend (s : State) (f w : Nat) : Nat :=
  (List.range 32).foldl (fun acc b =>
    if s.g Od.DB_OWNER (32 * w + b) = f ∧ s.evt.doorbells.getLsbD (32 * w + b) then acc + 2 ^ b else acc) 0

end Sys2Proof.Machine
end

