-- ==== Sys2Proof/Machine/Mop.lean ====
section
/-! DEFINITION. The Mehrup Object Protocol on the two CAN FD buses (R85 to R106). -/

namespace Sys2Proof.Machine

/-- CAN FD controller `bus` takes part: Booting has ended and MOP is enabled on it (R87, R88). -/
def mopOn (s : State) (bus : Fin 2) : Bool := s.dict.canActive && s.gb Od.MOP_ENABLE 0 bus

/-- A counted violation of a MOP client (R106). -/
def mopViol (s : State) (bus source code : Nat) (detail : List Byte) : State :=
  violation (s.inc Od.MOP_VIOL_CNT code) 3 0 bus source code detail

/-- The next length a CAN FD frame can have. -/
def canLength (n : Nat) : Nat :=
  if n ≤ 8 then n else if n ≤ 12 then 12 else if n ≤ 16 then 16 else if n ≤ 20 then 20 else if n ≤ 24 then 24
  else if n ≤ 32 then 32 else if n ≤ 48 then 48 else 64

/-- The control byte (R92). -/
def mopControl (toggle last : Bool) (kind session : Nat) : Byte :=
  BitVec.ofNat 8 (128 * b2n toggle + 64 * b2n last + 16 * kind + session)

/-- The identifier of a frame that answers a request (R90). -/
def mopIdent (s : State) (prio service source : Nat) : Nat :=
  prio * 2 ^ 24 + service * 2 ^ 16 + s.g Od.MOP_NODE * 2 ^ 8 + source

/-- What a request carries beside its frame: SERVICE and the session it names. -/
structure MopReq where
  f : MopFrame
  service : Nat
  deriving DecidableEq, Repr

/-- The session of a request (R99). -/
def MopReq.names (r : MopReq) (m : MopSession) : Bool :=
  m.bus == r.f.bus.val && m.source == r.f.source && m.session == r.f.session.val

/-- The whole frame, for the violation log. -/
def MopReq.raw (r : MopReq) (kind : Nat) : List Byte := mopControl r.f.toggle r.f.last kind r.f.session :: r.f.body

def State.session? (s : State) (r : MopReq) : Option MopSession := s.dict.sessions.find? r.names

/-- Close a session. -/
def mopClose (s : State) (r : MopReq) : State :=
  { s with dict := { s.dict with sessions := s.dict.sessions.filter fun m => !r.names m } }

/-- Change a session. -/
def mopSet (s : State) (r : MopReq) (f : MopSession → MopSession) : State :=
  { s with dict := { s.dict with sessions := s.dict.sessions.map fun m => if r.names m then f m else m } }

/-- Send a frame on the bus of the request (R105), padded to a CAN FD length; an open session keeps it for a retransmission, and its
time-out runs from it (R101, R103). -/
def mopSend (s : State) (r : MopReq) (toggle last : Bool) (kind : Nat) (body : List Byte) : State :=
  let data := mopControl toggle last kind r.f.session :: body
  let data := padTo (canLength data.length) data
  let s := s.emit (.canFrame r.f.bus (mopIdent s r.f.prio r.service r.f.source) data)
  mopSet s r fun m => { m with answer := data, lastFrame := s.now, prio := r.f.prio.val }

/-- A response (R93). -/
def mopRespond (s : State) (r : MopReq) (toggle last : Bool) (addr total : Nat) (fromActive : Bool) (value : List Byte) : State :=
  mopSend s r toggle last 2 ([0, BitVec.ofNat 8 (b2n fromActive), 0] ++ leBytes 4 addr ++ leBytes 4 total ++ value)

/-- An abort with a code (R93). -/
def mopAbort (s : State) (r : MopReq) (toggle : Bool) (addr code : Nat) : State :=
  mopSend s r toggle true 3 ([BitVec.ofNat 8 code, 0, 0] ++ leBytes 4 addr ++ leBytes 4 0)

/-- An abort for a violation, which is counted (R95, R99, R101, R102). -/
def mopRefuse (s : State) (r : MopReq) (kind : Nat) (toggle : Bool) (addr code viol : Nat) : State :=
  mopAbort (mopViol s r.f.bus r.f.source viol (r.raw kind)) r toggle addr code

/-- A session times out (R103). -/
def mopExpire (s : State) (m : MopSession) : State :=
  let r : MopReq := ⟨⟨Fin.ofNat 2 m.bus, Fin.ofNat 32 m.prio, m.source, 0, Fin.ofNat 16 m.session, false, true, []⟩, m.service⟩
  let s := mopViol (mopClose s r) m.bus m.source 7 []
  mopAbort s r false m.addr 0x27

/-- The session of a request has timed out by whole milliseconds (R103). -/
def mopLate (s : State) (m : MopSession) : Bool :=
  s.g Od.MOP_SEG_TIMEOUT != 0 && decide ((m.lastFrame + 999999) / 1000000 + s.g Od.MOP_SEG_TIMEOUT ≤ s.now / 1000000)

def allZero (bs : List Byte) : Bool := bs.all (· == 0)

/-- The fields of a frame after its control byte: bytes 4 to 7, 8 to 11 and from 12 on (R93). -/
def mfAddr (f : MopFrame) : Nat := if 7 ≤ f.body.length then ofLe (slice 3 4 f.body) else 0
def mfTotal (f : MopFrame) : Nat := ofLe (slice 7 4 f.body)
def mfRest (f : MopFrame) : List Byte := f.body.drop 11

/-- The answer to a READ, DESCRIBE or NEXT: expedited, or a segmented read is opened (R96, R98, R99). -/
def mopAnswer (s : State) (r : MopReq) (a : ReadAnswer) : State :=
  if a.code ≠ 0 then mopAbort s r false (mfAddr r.f) a.code
  else if a.bytes.length ≤ 52 then mopRespond s r false true (mfAddr r.f) a.bytes.length a.fromActive a.bytes
  else if 8 ≤ s.dict.sessions.length then mopRefuse s r 0 false (mfAddr r.f) 0x24 4
  else
    let m : MopSession :=
      { bus := r.f.bus, source := r.f.source, session := r.f.session, write := false, prio := r.f.prio, service := r.service
        addr := mfAddr r.f, total := a.bytes.length, bytes := a.bytes, sent := 0, toggle := none, fromActive := a.fromActive
        answer := [], lastFrame := s.now }
    let s : State := { s with dict := { s.dict with sessions := s.dict.sessions ++ [m] } }
    mopRespond s r false false (mfAddr r.f) a.bytes.length a.fromActive []

/-- A write that a request or a transfer has brought whole: its effect and the final answer (R96, R97). -/
def mopWrite (s : State) (r : MopReq) (toggle : Bool) (addr : Nat) (value : List Byte) (rxBusy : BitVec 4) : State :=
  let w := objWrite s 0 none addr 0 value rxBusy
  if w.1.dev = .booting then w.1
  else if w.2 ≠ 0 then mopAbort w.1 r toggle addr w.2
  else mopRespond w.1 r toggle true addr 0 false []

/-- The code with which an address is refused before a value is known. -/
def addrCode (s : State) (addr : Nat) : Nat :=
  match objRow addr with
  | none => 0x01
  | some (r, e) => seeCode s 0 r e

/-- Whether an initiate frame's layout is broken (R93, R95 to R97). -/
def initiateBad (f : MopFrame) (service : Nat) : Bool :=
  if service = 2 ∧ f.last = true then
    decide (52 < (mfTotal f)) || decide ((mfRest f).length < (mfTotal f)) || !allZero ((mfRest f).drop (mfTotal f))
  else if service = 2 then decide ((mfTotal f) < 53) || decide (65537 < (mfTotal f)) || !allZero (mfRest f)
  else !f.last || (mfTotal f) != 0 || !allZero (mfRest f)

/-- An initiate (R95 to R100). -/
def mopInitiate (s : State) (r : MopReq) (rxBusy : BitVec 4) : State :=
  let f := r.f
  let view := (f.body.headD 0).getLsbD 0
  if f.body.length < 11 ∨ 1 < (f.body.headD 0).toNat ∨ allZero (slice 1 2 f.body) = false then mopRefuse s r 0 false (mfAddr f) 0x20 0
  else if r.service = 0 ∨ 4 < r.service then mopRefuse s r 0 false (mfAddr f) 0x21 1
  else if initiateBad f r.service then mopRefuse s r 0 false (mfAddr f) 0x20 0
  else
    let s := if (s.session? r).isSome then mopViol (mopClose s r) f.bus f.source 8 (r.raw 0) else s
    match r.service with
    | 1 => let a := objRead s 0 (mfAddr f) 0 65537 view false; mopAnswer a.1 r a.2
    | 2 =>
      if f.last then mopWrite s r false (mfAddr f) ((mfRest f).take (mfTotal f)) rxBusy
      else if addrCode s (mfAddr f) ≠ 0 then mopAbort s r false (mfAddr f) (addrCode s (mfAddr f))
      else if 8 ≤ s.dict.sessions.length then mopRefuse s r 0 false (mfAddr f) 0x24 4
      else
        let m : MopSession :=
          { bus := f.bus, source := f.source, session := f.session, write := true, prio := f.prio, service := 2
            addr := (mfAddr f), total := (mfTotal f), bytes := [], sent := 0, toggle := none, fromActive := false, answer := [], lastFrame := s.now }
        let s : State := { s with dict := { s.dict with sessions := s.dict.sessions ++ [m] } }
        mopRespond s r false false (mfAddr f) 0 false []
    | 3 => mopAnswer s r (objDescribe s 0 (mfAddr f))
    | _ => mopAnswer s r ⟨0, false, leBytes 4 (nextAddr s 0 (mfAddr f))⟩

/-- The next segment of a segmented read (R94, R98). -/
def mopReadSegment (s : State) (r : MopReq) (m : MopSession) : State :=
  let part := slice m.sent 58 m.bytes
  let last := decide (m.bytes.length ≤ m.sent + 58)
  let s := mopSet s r fun m => { m with sent := m.sent + part.length, toggle := some r.f.toggle }
  let s := mopSend s r r.f.toggle last 1
    (leBytes 1 part.length ++ padTo 58 part ++ leBytes 4 (if last then crc32c m.bytes else 0))
  if last then mopClose s r else s

/-- A segment of a segmented write (R97, R102). -/
def mopWriteSegment (s : State) (r : MopReq) (m : MopSession) (rxBusy : BitVec 4) : State :=
  let f := r.f
  let count := (f.body.headD 0).toNat
  let bytes := m.bytes ++ slice 1 count f.body
  if m.total < bytes.length ∨ (f.last = true ∧ bytes.length < m.total) then mopRefuse (mopClose s r) r 1 f.toggle m.addr 0x25 5
  else if f.last then
    if crc32c bytes ≠ ofLe (slice 59 4 f.body) then mopRefuse (mopClose s r) r 1 f.toggle m.addr 0x26 6
    else mopWrite (mopClose s r) r f.toggle m.addr bytes rxBusy
  else
    let s := mopSet s r fun m => { m with bytes := bytes, toggle := some f.toggle }
    mopRespond s r f.toggle false m.addr m.total false []

/-- A segment's layout is broken (R94, R95). -/
def segmentBad (f : MopFrame) (write : Bool) : Bool :=
  let count := (f.body.headD 0).toNat
  if write then
    decide (count < 1) || decide (58 < count) || !allZero (slice (1 + count) (58 - count) f.body) ||
      (!f.last && !allZero (slice 59 4 f.body))
  else !allZero f.body

/-- A segment or a read-segment request (R94, R97, R98, R101, R102). -/
def mopSegment (s : State) (r : MopReq) (rxBusy : BitVec 4) : State :=
  let f := r.f
  if f.body.length ≠ 63 then mopRefuse s r 1 f.toggle 0 0x20 0
  else if r.service = 0 ∨ 4 < r.service then mopRefuse s r 1 f.toggle 0 0x21 1
  else match s.session? r with
    | none => mopRefuse s r 1 f.toggle 0 0x23 3
    | some m =>
      if r.service ≠ m.service ∨ segmentBad f m.write = true then mopRefuse s r 1 f.toggle m.addr 0x20 0
      else if m.toggle = none ∧ f.toggle = true then mopRefuse (mopClose s r) r 1 true m.addr 0x22 2
      else if m.toggle = some f.toggle then
        let s := (s.inc Od.MOP_RETX_CNT).emit (.canFrame f.bus (mopIdent s m.prio m.service m.source) m.answer)
        mopSet s r fun m => { m with lastFrame := s.now }
      else if m.write then mopWriteSegment s r m rxBusy
      else mopReadSegment s r m

/-- An abort from the client (R95, R104): logged with code CLIENT_ABORT. -/
def mopClientAbort (s : State) (r : MopReq) : State :=
  let f := r.f
  if f.body.length < 11 ∨ allZero (slice 1 2 f.body) = false ∨ allZero (f.body.drop 7) = false then mopRefuse s r 3 false (mfAddr f) 0x20 0
  else if r.service = 0 ∨ 4 < r.service then mopRefuse s r 3 false (mfAddr f) 0x21 1
  else violation (mopClose s r) 3 0 f.bus f.source 0x28 (r.raw 3)

/-- A frame of the protocol is received (R86 to R91, R103, R167). Only the controller sends responses: one from a client is
malformed. -/
def mopFrame (f : MopFrame) (kind service : Nat) (rxBusy : BitVec 4) (s : State) : Out :=
  actAll s fun s =>
    let r : MopReq := ⟨f, service⟩
    let node := s.g Od.MOP_NODE
    if mopOn s f.bus = false ∨ f.dest ≠ node then s
    else if f.source = 0 ∨ f.source = 0xFF ∨ f.source = node then mopViol s f.bus f.source 0 (r.raw kind)
    else
      let s := if s.dict.lastMop.elim false fun t => decide (s.now < t + 2000) then s.inc Od.CLASSA_OVER_CNT else s
      let s : State := { s with dict := { s.dict with lastMop := some s.now } }
      let s := match s.session? r with
        | some m => if mopLate s m then mopExpire s m else s
        | none => s
      match kind with
      | 0 => mopInitiate s r rxBusy
      | 1 => mopSegment s r rxBusy
      | 3 => mopClientAbort s r
      | _ => mopRefuse s r kind false (mfAddr f) 0x20 0

/-- MOP_READ_INITIATE (R96, R98). -/
def execMopReadInitiate (f : MopFrame) (s : State) : Out := mopFrame f 0 1 0 s

/-- MOP_WRITE_INITIATE (R96, R97). -/
def execMopWriteInitiate (f : MopFrame) (rxBusy : BitVec 4) (s : State) : Out := mopFrame f 0 2 rxBusy s

/-- MOP_DESCRIBE (R96). -/
def execMopDescribe (f : MopFrame) (s : State) : Out := mopFrame f 0 3 0 s

/-- MOP_NEXT (R96). -/
def execMopNext (f : MopFrame) (s : State) : Out := mopFrame f 0 4 0 s

/-- MOP_UNKNOWN_SERVICE (R95): a frame of any kind with the SERVICE it carries. -/
def execMopUnknownService (f : MopFrame) (kind : Fin 4) (service : Nat) (s : State) : Out := mopFrame f kind service 0 s

/-- MOP_WRITE_SEGMENT (R97). -/
def execMopWriteSegment (f : MopFrame) (rxBusy : BitVec 4) (s : State) : Out := mopFrame f 1 2 rxBusy s

/-- MOP_READ_SEGMENT_REQUEST (R98). -/
def execMopReadSegmentRequest (f : MopFrame) (s : State) : Out := mopFrame f 1 1 0 s

/-- MOP_CLIENT_ABORT (R104): SERVICE is 1 + `service`. -/
def execMopClientAbort (f : MopFrame) (service : Fin 4) (s : State) : Out := mopFrame f 3 (1 + service.val) 0 s

/-- MOP_SEG_TIMEOUT (R103). -/
def execMopSegTimeout (bus : Fin 2) (source : Nat) (session : Fin 16) (s : State) : Out :=
  act s fun s =>
    match s.dict.sessions.find? fun m => m.bus == bus.val && m.source == source && m.session == session.val with
    | some m => if mopOn s bus then mopExpire s m else s
    | none => s

/-- MOP_CLASSIC_FRAME: a classic frame addressed to the node is ignored and counted (R86). -/
def execMopClassicFrame (bus : Fin 2) (source dest : Nat) (data : List Byte) (s : State) : Out :=
  act s fun s => if mopOn s bus = true ∧ dest = s.g Od.MOP_NODE then mopViol s bus source 9 data else s

/-- MOP_BUS_OFF: the controller recovers by itself; its sessions stay open (R89). -/
def execMopBusOff (bus : Fin 2) (s : State) : Out :=
  act s fun s => if mopOn s bus then raise (s.inc Od.MOP_BUSOFF_CNT bus) Src.mopBusoff bus else s

end Sys2Proof.Machine
end

