-- ==== Sys2Proof/Machine/Dispatch.lean ====
section
/-! DEFINITION. The meaning of every command: one arm per constructor of `Instr`, each one direct call of that
command's own meaning, or rejected by name. -/

namespace Sys2Proof.Machine

def exec (i : Instr) (s : State) : Host.Outcome State Fault Refusal :=
  match i with
  | .coldStart flash torn lifeTorn => Sys2Proof.Machine.execColdStart flash torn lifeTorn s
  | .logicPowerLoss => Sys2Proof.Machine.execLogicPowerLoss s
  | .firmwareStart trained chestBad => Sys2Proof.Machine.execFirmwareStart trained chestBad s
  | .bootTimeout => Sys2Proof.Machine.execBootTimeout s
  | .bootNoimgLine => Sys2Proof.Machine.execBootNoimgLine s
  | .bootingEnd => Sys2Proof.Machine.execBootingEnd s
  | .startingEnd => Sys2Proof.Machine.execStartingEnd s
  | .partIdentityWord part word => Sys2Proof.Machine.execPartIdentityWord part word s
  | .partIdentityTimeout part => Sys2Proof.Machine.execPartIdentityTimeout part s
  | .pfwNLow => Sys2Proof.Machine.execPfwNLow s
  | .pfwNHigh => Sys2Proof.Machine.execPfwNHigh s
  | .pfSequenceEnd => Sys2Proof.Machine.execPfSequenceEnd s
  | .estopNLow => Sys2Proof.Machine.execEstopNLow s
  | .estopNHigh => Sys2Proof.Machine.execEstopNHigh s
  | .doorClosedLow => Sys2Proof.Machine.execDoorClosedLow s
  | .doorClosedHigh => Sys2Proof.Machine.execDoorClosedHigh s
  | .interlockAck who v => Sys2Proof.Machine.execInterlockAck who v s
  | .windowRead k addr offset view rsv => Sys2Proof.Machine.execWindowRead k addr offset view rsv s
  | .windowWrite k addr offset length data rsv rxBusy => Sys2Proof.Machine.execWindowWrite k addr offset length data rsv rxBusy s
  | .windowDescribe k addr rsv => Sys2Proof.Machine.execWindowDescribe k addr rsv s
  | .windowNext k addr rsv => Sys2Proof.Machine.execWindowNext k addr rsv s
  | .windowUnknownOp k op rsv => Sys2Proof.Machine.execWindowUnknownOp k op rsv s
  | .slotWriteWhileBusy k data => Sys2Proof.Machine.execSlotWriteWhileBusy k data s
  | .objectRead q hdr addr offset length view => Sys2Proof.Machine.execObjectRead q hdr addr offset length view s
  | .objectWrite q hdr addr offset length data rxBusy => Sys2Proof.Machine.execObjectWrite q hdr addr offset length data rxBusy s
  | .plainObjectWrite who addr data rxBusy => Sys2Proof.Machine.execPlainObjectWrite who addr data rxBusy s
  | .pendingClear who v => Sys2Proof.Machine.execPendingClear who v s
  | .commit who crc => Sys2Proof.Machine.execCommit who crc s
  | .commitStoreDone same rxBusy => Sys2Proof.Machine.execCommitStoreDone same rxBusy s
  | .mopReadInitiate f => Sys2Proof.Machine.execMopReadInitiate f s
  | .mopWriteInitiate f rxBusy => Sys2Proof.Machine.execMopWriteInitiate f rxBusy s
  | .mopDescribe f => Sys2Proof.Machine.execMopDescribe f s
  | .mopNext f => Sys2Proof.Machine.execMopNext f s
  | .mopUnknownService f kind service => Sys2Proof.Machine.execMopUnknownService f kind service s
  | .mopWriteSegment f rxBusy => Sys2Proof.Machine.execMopWriteSegment f rxBusy s
  | .mopReadSegmentRequest f => Sys2Proof.Machine.execMopReadSegmentRequest f s
  | .mopClientAbort f service => Sys2Proof.Machine.execMopClientAbort f service s
  | .mopSegTimeout bus source session => Sys2Proof.Machine.execMopSegTimeout bus source session s
  | .mopClassicFrame bus source dest data => Sys2Proof.Machine.execMopClassicFrame bus source dest data s
  | .mopBusOff bus => Sys2Proof.Machine.execMopBusOff bus s
  | .fwLoadErase who => Sys2Proof.Machine.execFwLoadErase who s
  | .fwEraseDone => Sys2Proof.Machine.execFwEraseDone s
  | .fwLoadData who data => Sys2Proof.Machine.execFwLoadData who data s
  | .fwLoadCheck who => Sys2Proof.Machine.execFwLoadCheck who s
  | .fwCheckDone => Sys2Proof.Machine.execFwCheckDone s
  | .fwFloorRaise who v => Sys2Proof.Machine.execFwFloorRaise who v s
  | .holdRequest who v => Sys2Proof.Machine.execHoldRequest who v s
  | .drainStartDeferred => Sys2Proof.Machine.execDrainStartDeferred s
  | .drainComplete => Sys2Proof.Machine.execDrainComplete s
  | .drainTimeout => Sys2Proof.Machine.execDrainTimeout s
  | .holdRelease who v => Sys2Proof.Machine.execHoldRelease who v s
  | .warmRestart who v => Sys2Proof.Machine.execWarmRestart who v s
  | .cribReset who c => Sys2Proof.Machine.execCribReset who c s
  | .vfFunctionLevelReset f => Sys2Proof.Machine.execVfFunctionLevelReset f s
  | .pfFunctionLevelReset => Sys2Proof.Machine.execPfFunctionLevelReset s
  | .cribResetComplete c => Sys2Proof.Machine.execCribResetComplete c s
  | .generate who n => Sys2Proof.Machine.execGenerate who n s
  | .load who n => Sys2Proof.Machine.execLoad who n s
  | .destroy who n => Sys2Proof.Machine.execDestroy who n s
  | .keyRecordReadBack n ok => Sys2Proof.Machine.execKeyRecordReadBack n ok s
  | .superframeSend => Sys2Proof.Machine.execSuperframeSend s
  | .upstreamACell n status ack first second => Sys2Proof.Machine.execUpstreamACell n status ack first second s
  | .upstreamACellMissed n => Sys2Proof.Machine.execUpstreamACellMissed n s
  | .bulkCell link down slot cell => Sys2Proof.Machine.execBulkCell link down slot cell s
  | .bulkCellResendExhausted n readData => Sys2Proof.Machine.execBulkCellResendExhausted n readData s
  | .wobbleLock n => Sys2Proof.Machine.execWobbleLock n s
  | .angleEventExecute n id => Sys2Proof.Machine.execAngleEventExecute n id s
  | .evtLate n id => Sys2Proof.Machine.execEvtLate n id s
  | .focusAcquisition n => Sys2Proof.Machine.execFocusAcquisition n s
  | .layerJump n => Sys2Proof.Machine.execLayerJump n s
  | .layerJumpTimeout n => Sys2Proof.Machine.execLayerJumpTimeout n s
  | .trackingPullIn n => Sys2Proof.Machine.execTrackingPullIn n s
  | .trackPullInTimeout n => Sys2Proof.Machine.execTrackPullInTimeout n s
  | .landGrooveSwitch n => Sys2Proof.Machine.execLandGrooveSwitch n s
  | .fineSeek n => Sys2Proof.Machine.execFineSeek n s
  | .longSeek n => Sys2Proof.Machine.execLongSeek n s
  | .seekEnd n word => Sys2Proof.Machine.execSeekEnd n word s
  | .defectHoldMaxExpiry n => Sys2Proof.Machine.execDefectHoldMaxExpiry n s
  | .driveReset n => Sys2Proof.Machine.execDriveReset n s
  | .driveFaultTimeout who => Sys2Proof.Machine.execDriveFaultTimeout who s
  | .selfSafe n => Sys2Proof.Machine.execSelfSafe n s
  | .giperlinkAligned n => Sys2Proof.Machine.execGiperlinkAligned n s
  | .giperlinkRetrainTimeout n => Sys2Proof.Machine.execGiperlinkRetrainTimeout n s
  | .feReset n => Sys2Proof.Machine.execFeReset n s
  | .feResetRelease n => Sys2Proof.Machine.execFeResetRelease n s
  | .motionTickSend => Sys2Proof.Machine.execMotionTickSend s
  | .stageUpstreamTick g status ack cell => Sys2Proof.Machine.execStageUpstreamTick g status ack cell s
  | .hfiAlignDone n => Sys2Proof.Machine.execHfiAlignDone n s
  | .hfiSignDecision n plus minus => Sys2Proof.Machine.execHfiSignDecision n plus minus s
  | .voltageLimitSet m => Sys2Proof.Machine.execVoltageLimitSet m s
  | .voltageLimitClear m => Sys2Proof.Machine.execVoltageLimitClear m s
  | .spinSettled n => Sys2Proof.Machine.execSpinSettled n s
  | .spinBrake n => Sys2Proof.Machine.execSpinBrake n s
  | .spinStopped n => Sys2Proof.Machine.execSpinStopped n s
  | .spinStopTimeout n => Sys2Proof.Machine.execSpinStopTimeout n s
  | .spinStartTimeout n => Sys2Proof.Machine.execSpinStartTimeout n s
  | .brakeReverse n => Sys2Proof.Machine.execBrakeReverse n s
  | .overcurrent m => Sys2Proof.Machine.execOvercurrent m s
  | .resolverFault => Sys2Proof.Machine.execResolverFault s
  | .acqFail n => Sys2Proof.Machine.execAcqFail n s
  | .readFifoOverrun n => Sys2Proof.Machine.execReadFifoOverrun n s
  | .readDataCell n payload => Sys2Proof.Machine.execReadDataCell n payload s
  | .readSummary n payload => Sys2Proof.Machine.execReadSummary n payload s
  | .readGateAbort n => Sys2Proof.Machine.execReadGateAbort n s
  | .laserFault n => Sys2Proof.Machine.execLaserFault n s
  | .sheafDecode n => Sys2Proof.Machine.execSheafDecode n s
  | .stookSolve f z q disc => Sys2Proof.Machine.execStookSolve f z q disc s
  | .stookRebuildFail f z q disc => Sys2Proof.Machine.execStookRebuildFail f z q disc s
  | .stookParityWrite f z q => Sys2Proof.Machine.execStookParityWrite f z q s
  | .discRecognition n disc => Sys2Proof.Machine.execDiscRecognition n disc s
  | .sheafVerify n => Sys2Proof.Machine.execSheafVerify n s
  | .darkOffsetDone n fe te sum => Sys2Proof.Machine.execDarkOffsetDone n fe te sum s
  | .calSweep n => Sys2Proof.Machine.execCalSweep n s
  | .calSweepDone n => Sys2Proof.Machine.execCalSweepDone n s
  | .trackingBalance n => Sys2Proof.Machine.execTrackingBalance n s
  | .trackingBalanceDone n => Sys2Proof.Machine.execTrackingBalanceDone n s
  | .eqCalibration n => Sys2Proof.Machine.execEqCalibration n s
  | .eqCalibrationDone n => Sys2Proof.Machine.execEqCalibrationDone n s
  | .servo n => Sys2Proof.Machine.execServo n s
  | .eq n => Sys2Proof.Machine.execEq n s
  | .wpwr n => Sys2Proof.Machine.execWpwr n s
  | .calRequestStart n => Sys2Proof.Machine.execCalRequestStart n s
  | .moveStart a => Sys2Proof.Machine.execMoveStart a s
  | .motHalt a => Sys2Proof.Machine.execMotHalt a s
  | .stall a => Sys2Proof.Machine.execStall a s
  | .limitStop a => Sys2Proof.Machine.execLimitStop a s
  | .switchLatch g input rising tick sub pos => Sys2Proof.Machine.execSwitchLatch g input rising tick sub pos s
  | .homing a => Sys2Proof.Machine.execHoming a s
  | .homingFail a => Sys2Proof.Machine.execHomingFail a s
  | .carouselHoming => Sys2Proof.Machine.execCarouselHoming s
  | .bridgePowerDown g => Sys2Proof.Machine.execBridgePowerDown g s
  | .reEnergise a ustep => Sys2Proof.Machine.execReEnergise a ustep s
  | .vbusLoss g => Sys2Proof.Machine.execVbusLoss g s
  | .linkHold g => Sys2Proof.Machine.execLinkHold g s
  | .linkLost g => Sys2Proof.Machine.execLinkLost g s
  | .stageACellMissed g => Sys2Proof.Machine.execStageACellMissed g s
  | .stageRetrainTimeout g => Sys2Proof.Machine.execStageRetrainTimeout g s
  | .stageReset g => Sys2Proof.Machine.execStageReset g s
  | .stageResetRelease g => Sys2Proof.Machine.execStageResetRelease g s
  | .pickerSequenceStart => Sys2Proof.Machine.execPickerSequenceStart s
  | .pickerStepDone => Sys2Proof.Machine.execPickerStepDone s
  | .pickReset => Sys2Proof.Machine.execPickReset s
  | .pickPlace d => Sys2Proof.Machine.execPickPlace d s
  | .ccEnClear f => Sys2Proof.Machine.execCcEnClear f s
  | .ccShn f shn => Sys2Proof.Machine.execCcShn f shn s
  | .deleteIoSq q hdr qid => Sys2Proof.Machine.execDeleteIoSq q hdr qid s
  | .deleteIoCq q hdr qid => Sys2Proof.Machine.execDeleteIoCq q hdr qid s
  | .createIoSq q hdr qid size cqid prio pc => Sys2Proof.Machine.execCreateIoSq q hdr qid size cqid prio pc s
  | .createIoCq q hdr qid size vec ien pc => Sys2Proof.Machine.execCreateIoCq q hdr qid size vec ien pc s
  | .getLogPage q hdr lid bytes offset => Sys2Proof.Machine.execGetLogPage q hdr lid bytes offset s
  | .identify q hdr cns csi => Sys2Proof.Machine.execIdentify q hdr cns csi s
  | .abort q hdr qid cid => Sys2Proof.Machine.execAbort q hdr qid cid s
  | .setFeatures q hdr fid value save => Sys2Proof.Machine.execSetFeatures q hdr fid value save s
  | .getFeatures q hdr fid sel => Sys2Proof.Machine.execGetFeatures q hdr fid sel s
  | .asynchronousEventRequest q hdr => Sys2Proof.Machine.execAsynchronousEventRequest q hdr s
  | .namespaceCreate q hdr csi flbas nsze ncap media stookOnly => Sys2Proof.Machine.execNamespaceCreate q hdr csi flbas nsze ncap media stookOnly s
  | .namespaceDelete q hdr => Sys2Proof.Machine.execNamespaceDelete q hdr s
  | .namespaceAttachment q hdr attach fns => Sys2Proof.Machine.execNamespaceAttachment q hdr attach fns s
  | .keepAlive q hdr => Sys2Proof.Machine.execKeepAlive q hdr s
  | .keepAliveExpiry f => Sys2Proof.Machine.execKeepAliveExpiry f s
  | .formatNvm q hdr lbaf mset pi pil ses => Sys2Proof.Machine.execFormatNvm q hdr lbaf mset pi pil ses s
  | .exitFailureMode q hdr ndas => Sys2Proof.Machine.execExitFailureMode q hdr ndas s
  | .blockErase q hdr ndas ause cdw10 => Sys2Proof.Machine.execBlockErase q hdr ndas ause cdw10 s
  | .overwrite q hdr ndas => Sys2Proof.Machine.execOverwrite q hdr ndas s
  | .cryptoErase q hdr ndas ause cdw10 => Sys2Proof.Machine.execCryptoErase q hdr ndas ause cdw10 s
  | .invalidCommandOpcode q hdr opcode => Sys2Proof.Machine.execInvalidCommandOpcode q hdr opcode s
  | .flush q hdr => Sys2Proof.Machine.execFlush q hdr s
  | .write q hdr slba nlb data => Sys2Proof.Machine.execWrite q hdr slba nlb data s
  | .read q hdr slba nlb lr => Sys2Proof.Machine.execRead q hdr slba nlb lr s
  | .datasetManagement q hdr ad ranges => Sys2Proof.Machine.execDatasetManagement q hdr ad ranges s
  | .zoneClose q hdr slba all => Sys2Proof.Machine.execZoneClose q hdr slba all s
  | .zoneFinish q hdr slba all => Sys2Proof.Machine.execZoneFinish q hdr slba all s
  | .zoneOpen q hdr slba all => Sys2Proof.Machine.execZoneOpen q hdr slba all s
  | .zoneReset q hdr slba all => Sys2Proof.Machine.execZoneReset q hdr slba all s
  | .zoneManagementReceive q hdr slba action opt part bytes => Sys2Proof.Machine.execZoneManagementReceive q hdr slba action opt part bytes s
  | .zoneAppend q hdr zslba nlb data => Sys2Proof.Machine.execZoneAppend q hdr zslba nlb data s
  | .threshingJob q hdr cdw10 rest0 data => Sys2Proof.Machine.execThreshingJob q hdr cdw10 rest0 data s
  | .zoneWarm q hdr lba want => Sys2Proof.Machine.execZoneWarm q hdr lba want s
  | .zoneRelease q hdr lba => Sys2Proof.Machine.execZoneRelease q hdr lba s
  | .zoneLocate q hdr lba => Sys2Proof.Machine.execZoneLocate q hdr lba s
  | .commandAdmission => Sys2Proof.Machine.execCommandAdmission s
  | .mediaOpStart n seeks => Sys2Proof.Machine.execMediaOpStart n seeks s
  | .driveIdleTimeout n => Sys2Proof.Machine.execDriveIdleTimeout n s
  | .sqTailDoorbell f qid tail => Sys2Proof.Machine.execSqTailDoorbell f qid tail s
  | .cqHeadDoorbell f qid head => Sys2Proof.Machine.execCqHeadDoorbell f qid head s
  | .discRestore d => Sys2Proof.Machine.execDiscRestore d s
  | .ethFrameReceive p vlan pcp len good wanted taken conn peer => Sys2Proof.Machine.execEthFrameReceive p vlan pcp len good wanted taken conn peer s
  | .arpRequest p vlan pcp ip requester => Sys2Proof.Machine.execArpRequest p vlan pcp ip requester s
  | .neighbourSolicitation p vlan pcp hi lo requester => Sys2Proof.Machine.execNeighbourSolicitation p vlan pcp hi lo requester s
  | .echoRequest p vlan pcp v6 hi lo requester payload => Sys2Proof.Machine.execEchoRequest p vlan pcp v6 hi lo requester payload s
  | .pfcRepeat p q => Sys2Proof.Machine.execPfcRepeat p q s
  | .pfcXon p q level => Sys2Proof.Machine.execPfcXon p q level s
  | .pfcFrameReceive p quanta => Sys2Proof.Machine.execPfcFrameReceive p quanta s
  | .pfcPauseExpiry p q => Sys2Proof.Machine.execPfcPauseExpiry p q s
  | .tcpSyn p vlan pcp v6 hi lo dport peer => Sys2Proof.Machine.execTcpSyn p vlan pcp v6 hi lo dport peer s
  | .tcpRetransmitTimeout k first => Sys2Proof.Machine.execTcpRetransmitTimeout k first s
  | .tcpPeerClose k => Sys2Proof.Machine.execTcpPeerClose k s
  | .icreq k pfv hdgst ddgst maxR2t => Sys2Proof.Machine.execIcreq k pfv hdgst ddgst maxR2t s
  | .icreqTimeout k => Sys2Proof.Machine.execIcreqTimeout k s
  | .connect k cid qid sqSize kato cntlid subNqn hostNqn hostId => Sys2Proof.Machine.execConnect k cid qid sqSize kato cntlid subNqn hostNqn hostId s
  | .propertyGet k cid offset => Sys2Proof.Machine.execPropertyGet k cid offset s
  | .propertySet k cid offset value => Sys2Proof.Machine.execPropertySet k cid offset value s
  | .disconnect k cid => Sys2Proof.Machine.execDisconnect k cid s
  | .authenticationSend k cid => Sys2Proof.Machine.execAuthenticationSend k cid s
  | .authenticationReceive k cid => Sys2Proof.Machine.execAuthenticationReceive k cid s
  | .capsuleCommand k hdr op digestBad => Sys2Proof.Machine.execCapsuleCommand k hdr op digestBad s
  | .h2cdata k ttag offset data digestBad => Sys2Proof.Machine.execH2cdata k ttag offset data digestBad s
  | .h2ctermreq k => Sys2Proof.Machine.execH2ctermreq k s
  | .pduViolation k kind => Sys2Proof.Machine.execPduViolation k kind s
  | .associationKeepAliveExpiry n => Sys2Proof.Machine.execAssociationKeepAliveExpiry n s
  | .netLinkDown p => Sys2Proof.Machine.execNetLinkDown p s
  | .netLinkUp p => Sys2Proof.Machine.execNetLinkUp p s
  | .netLinkHoldExpiry p => Sys2Proof.Machine.execNetLinkHoldExpiry p s
  | .adminOpStep st lost => Sys2Proof.Machine.execAdminOpStep st lost s
  | .certificationStep st found ok lost => Sys2Proof.Machine.execCertificationStep st found ok lost s
  | .hayloftOffer => Sys2Proof.Machine.execHayloftOffer s
  | .hayloftStageReserve => Sys2Proof.Machine.execHayloftStageReserve s
  | .sideboardMove => Sys2Proof.Machine.execSideboardMove s
  | .sideboardDramWrite => Sys2Proof.Machine.execSideboardDramWrite s
  | .shelfAgeSweep => Sys2Proof.Machine.execShelfAgeSweep s
  | .hayloftAgeSweep => Sys2Proof.Machine.execHayloftAgeSweep s
  | .invalidate => Sys2Proof.Machine.execInvalidate s
  | .demote => Sys2Proof.Machine.execDemote s
  | .prefetch => Sys2Proof.Machine.execPrefetch s
  | .invalidateAll => Sys2Proof.Machine.execInvalidateAll s
  | .rakeDone => Sys2Proof.Machine.execRakeDone s
  | .gleanerDramRead ch demand even odd => Sys2Proof.Machine.execGleanerDramRead ch demand even odd s
  | .gleanerSramRead target demand passEnd word => Sys2Proof.Machine.execGleanerSramRead target demand passEnd word s
  | .memEraseDevWrite r v => Sys2Proof.Machine.execMemEraseDevWrite r v s
  | .memCeClear => Sys2Proof.Machine.execMemCeClear s
  | .memTestWrite => Sys2Proof.Machine.execMemTestWrite s
  | .writeRaw => Sys2Proof.Machine.execWriteRaw s
  | .memTestRead => Sys2Proof.Machine.execMemTestRead s
  | .readRaw => Sys2Proof.Machine.execReadRaw s
  | .memRetireReq v => Sys2Proof.Machine.execMemRetireReq v s
  | .memRetireDone lines => Sys2Proof.Machine.execMemRetireDone lines s
  | .memRetireClear v => Sys2Proof.Machine.execMemRetireClear v s
  | .memLogRepeatFlush => Sys2Proof.Machine.execMemLogRepeatFlush s
  | .sequencerAssign sq listBad => Sys2Proof.Machine.execSequencerAssign sq listBad s
  | .nop sq => Sys2Proof.Machine.execNop sq s
  | .halt sq => Sys2Proof.Machine.execHalt sq s
  | .lil sq => Sys2Proof.Machine.execLil sq s
  | .lih sq => Sys2Proof.Machine.execLih sq s
  | .add sq => Sys2Proof.Machine.execAdd sq s
  | .sub sq => Sys2Proof.Machine.execSub sq s
  | .and sq => Sys2Proof.Machine.execAnd sq s
  | .or sq => Sys2Proof.Machine.execOr sq s
  | .xor sq => Sys2Proof.Machine.execXor sq s
  | .shl sq => Sys2Proof.Machine.execShl sq s
  | .shr sq => Sys2Proof.Machine.execShr sq s
  | .sar sq => Sys2Proof.Machine.execSar sq s
  | .mul sq => Sys2Proof.Machine.execMul sq s
  | .minu sq => Sys2Proof.Machine.execMinu sq s
  | .maxu sq => Sys2Proof.Machine.execMaxu sq s
  | .addi sq => Sys2Proof.Machine.execAddi sq s
  | .andi sq => Sys2Proof.Machine.execAndi sq s
  | .ori sq => Sys2Proof.Machine.execOri sq s
  | .xori sq => Sys2Proof.Machine.execXori sq s
  | .shli sq => Sys2Proof.Machine.execShli sq s
  | .shri sq => Sys2Proof.Machine.execShri sq s
  | .sari sq => Sys2Proof.Machine.execSari sq s
  | .ld sq => Sys2Proof.Machine.execLd sq s
  | .st sq => Sys2Proof.Machine.execSt sq s
  | .beq sq => Sys2Proof.Machine.execBeq sq s
  | .bne sq => Sys2Proof.Machine.execBne sq s
  | .blt sq => Sys2Proof.Machine.execBlt sq s
  | .bge sq => Sys2Proof.Machine.execBge sq s
  | .bltu sq => Sys2Proof.Machine.execBltu sq s
  | .bgeu sq => Sys2Proof.Machine.execBgeu sq s
  | .jmp sq => Sys2Proof.Machine.execJmp sq s
  | .loop sq => Sys2Proof.Machine.execLoop sq s
  | .setinc sq => Sys2Proof.Machine.execSetinc sq s
  | .mova sq => Sys2Proof.Machine.execMova sq s
  | .rda sq => Sys2Proof.Machine.execRda sq s
  | .lcnt sq => Sys2Proof.Machine.execLcnt sq s
  | .push sq => Sys2Proof.Machine.execPush sq s
  | .fence sq => Sys2Proof.Machine.execFence sq s
  | .illegalInstruction sq => Sys2Proof.Machine.execIllegalInstruction sq s
  | .engineCommandEnd sq q => Sys2Proof.Machine.execEngineCommandEnd sq q s
  | .copy sq q => Sys2Proof.Machine.execCopy sq q s
  | .fill sq q => Sys2Proof.Machine.execFill sq q s
  | .readNs sq q => Sys2Proof.Machine.execReadNs sq q s
  | .toHost sq q => Sys2Proof.Machine.execToHost sq q s
  | .lincomb sq q => Sys2Proof.Machine.execLincomb sq q s
  | .fieldMul sq q => Sys2Proof.Machine.execFieldMul sq q s
  | .shaInit sq q => Sys2Proof.Machine.execShaInit sq q s
  | .shaUpdate sq q => Sys2Proof.Machine.execShaUpdate sq q s
  | .shaFinal sq q => Sys2Proof.Machine.execShaFinal sq q s
  | .shaDigest sq q => Sys2Proof.Machine.execShaDigest sq q s
  | .crcUpdate sq q => Sys2Proof.Machine.execCrcUpdate sq q s
  | .crcDigest sq q => Sys2Proof.Machine.execCrcDigest sq q s
  | .gcmEnc sq q => Sys2Proof.Machine.execGcmEnc sq q s
  | .gcmDec sq q => Sys2Proof.Machine.execGcmDec sq q s
  | .vectorAdd sq q => Sys2Proof.Machine.execVectorAdd sq q s
  | .vectorSub sq q => Sys2Proof.Machine.execVectorSub sq q s
  | .vectorAnd sq q => Sys2Proof.Machine.execVectorAnd sq q s
  | .vectorOr sq q => Sys2Proof.Machine.execVectorOr sq q s
  | .vectorXor sq q => Sys2Proof.Machine.execVectorXor sq q s
  | .min sq q => Sys2Proof.Machine.execMin sq q s
  | .max sq q => Sys2Proof.Machine.execMax sq q s
  | .cmpeq sq q => Sys2Proof.Machine.execCmpeq sq q s
  | .cmplt sq q => Sys2Proof.Machine.execCmplt sq q s
  | .sum sq q => Sys2Proof.Machine.execSum sq q s
  | .countEq sq q => Sys2Proof.Machine.execCountEq sq q s
  | .findEq sq q => Sys2Proof.Machine.execFindEq sq q s
  | .jobTimeLimitExpiry sq => Sys2Proof.Machine.execJobTimeLimitExpiry sq s
  | .mailboxPost f ch w staged => Sys2Proof.Machine.execMailboxPost f ch w staged s
  | .mailboxRelease f ch w => Sys2Proof.Machine.execMailboxRelease f ch w s
  | .dbRing f w bits => Sys2Proof.Machine.execDbRing f w bits s
  | .dbPendClear f w bits => Sys2Proof.Machine.execDbPendClear f w bits s
  | .evrHead f r v => Sys2Proof.Machine.execEvrHead f r v s
  | .evtPendClear w bits => Sys2Proof.Machine.execEvtPendClear w bits s
  | .evtMask w bits => Sys2Proof.Machine.execEvtMask w bits s
  | .evtCribClear c bits => Sys2Proof.Machine.execEvtCribClear c bits s
  | .evtCribMask c bits => Sys2Proof.Machine.execEvtCribMask c bits s
  | .evtRoute who e v => Sys2Proof.Machine.execEvtRoute who e v s
  | .evrEnable who r v => Sys2Proof.Machine.execEvrEnable who r v s
  | .vioLogRepeatFlush => Sys2Proof.Machine.execVioLogRepeatFlush s
  | .serialCharacter p bits => Sys2Proof.Machine.execSerialCharacter p bits s
  | .falseStart p => Sys2Proof.Machine.execFalseStart p s
  | .serialBreak p noise => Sys2Proof.Machine.execSerialBreak p noise s
  | .spRxTimeout p => Sys2Proof.Machine.execSpRxTimeout p s
  | .spTxData who p data => Sys2Proof.Machine.execSpTxData who p data s
  | .spRxData who p window offset => Sys2Proof.Machine.execSpRxData who p window offset s
  | .serialCharacterSent p => Sys2Proof.Machine.execSerialCharacterSent p s
  | .traySlotStart p => Sys2Proof.Machine.execTraySlotStart p s
  | .trayResponseTimeout p => Sys2Proof.Machine.execTrayResponseTimeout p s
  | .padFunc who k v rxBusy => Sys2Proof.Machine.execPadFunc who k v rxBusy s
  | .ledgerMinuteBoundary => Sys2Proof.Machine.execLedgerMinuteBoundary s
  | .ledgerSecond rails => Sys2Proof.Machine.execLedgerSecond rails s
  | .powerReport n uj33 uj50 temp => Sys2Proof.Machine.execPowerReport n uj33 uj50 temp s
  | .utcSet who t => Sys2Proof.Machine.execUtcSet who t s
  | .arm who => Sys2Proof.Machine.execArm who s
  | .cancel who => Sys2Proof.Machine.execCancel who s
  | .ledgerAck who seq => Sys2Proof.Machine.execLedgerAck who seq s
  | .domainIdleEntry d => Sys2Proof.Machine.execDomainIdleEntry d s
  | .domainExitDone d => Sys2Proof.Machine.execDomainExitDone d s
  | .giperlinkSleep n => Sys2Proof.Machine.execGiperlinkSleep n s
  | .sleepAck n => Sys2Proof.Machine.execSleepAck n s
  | .giperlinkWakeDone n => Sys2Proof.Machine.execGiperlinkWakeDone n s
  | .refClkLoss => Sys2Proof.Machine.execRefClkLoss s
  | .refClkReturn => Sys2Proof.Machine.execRefClkReturn s
  | .railExcursion rail mv back => Sys2Proof.Machine.execRailExcursion rail mv back s
  | .tempSample ctrl stage => Sys2Proof.Machine.execTempSample ctrl stage s
  | .longRunCheckpoint => Sys2Proof.Machine.execLongRunCheckpoint s
  | .chestDelayedWrite region pos => Sys2Proof.Machine.execChestDelayedWrite region pos s
  | .bypass part => Sys2Proof.Machine.execBypass part s
  | .idcode part => Sys2Proof.Machine.execIdcode part s
  | .samplePreload part pins preload => Sys2Proof.Machine.execSamplePreload part pins preload s
  | .extest part => Sys2Proof.Machine.execExtest part s
  | .clamp part => Sys2Proof.Machine.execClamp part s
  | .stageLinkAligned g => Sys2Proof.Machine.execStageLinkAligned g s
  | .preambleLock n bit errs amps => Sys2Proof.Machine.execPreambleLock n bit errs amps s
  | .frameSync n samples errs => Sys2Proof.Machine.execFrameSync n samples errs s
  | .winnowerCriterion n crit value ref bit => Sys2Proof.Machine.execWinnowerCriterion n crit value ref bit s
  | .switchInputEdge g input rising tick sub pos => Sys2Proof.Machine.execSwitchInputEdge g input rising tick sub pos s
  | .serialBreakEnd p => Sys2Proof.Machine.execSerialBreakEnd p s
  | .feRailLoss n logic => Sys2Proof.Machine.execFeRailLoss n logic s
  | .feRailReturn n logic => Sys2Proof.Machine.execFeRailReturn n logic s
  | .vbusReturn g => Sys2Proof.Machine.execVbusReturn g s
  | .domainEntryDone d => Sys2Proof.Machine.execDomainEntryDone d s
  | .ccEnSet f cc aqa => Sys2Proof.Machine.execCcEnSet f cc aqa s
  | .pcieConfigRequest f bme vfs => Sys2Proof.Machine.execPcieConfigRequest f bme vfs s
  | .msixTableWrite f vec addr data masked => Sys2Proof.Machine.execMsixTableWrite f vec addr data masked s
  | .perstNRelease rate width => Sys2Proof.Machine.execPerstNRelease rate width s
  | .peerBarRequest f => Sys2Proof.Machine.execPeerBarRequest f s
  | .jobKeyData who c k data => Sys2Proof.Machine.execJobKeyData who c k data s
  | .hostTransferError q cid toHost => Sys2Proof.Machine.execHostTransferError q cid toHost s

end Sys2Proof.Machine
end

