-- ==== Sys2Proof/Machine/Step.lean ====
section
/-! DEFINITION. One step of the block: the command at the front of the queue, or, with none waiting, one cycle of the reference
clock. -/

namespace Sys2Proof.Machine

/-- Nothing waits: one cycle of the 25 MHz reference passes (R21, R654), but for a device without supply. -/
def idle (s : State) : State := if s.dev = .off then s else keep s (refCycle s)

/-- Take the command at the front of the queue and run it on the state with the rest of the queue. -/
def step (s : State) : Host.Outcome State Fault Refusal :=
  match s.pending with
  | [] => .next (idle s)
  | c :: rest => exec c { s with pending := rest }

/-- A command comes in at the end of the queue. -/
def State.offer (s : State) (c : Instr) : State := { s with pending := s.pending ++ [c] }

/-- Put the command that a word of the operation table spells at the front of the queue. -/
def State.withFetchWord (s : State) (nbits w : Nat) : State :=
  match decodeTableWord nbits w with
  | some c => { s with pending := c :: s.pending }
  | none => s

end Sys2Proof.Machine
end

