-- ==== Sys2Proof/Safety.lean ====
section
/-! DEFINITION. What claims about the block are stated in: a block that is powered and not taken over by its test port, outputs in their
safe state, and the invariant of the Granary. -/

namespace Sys2Proof.Machine

/-- The block is powered and its controller's test port has not taken its pins over (R738). -/
def Live (s : State) : Prop := s.scan.lost.getLsbD 0 = false ∧ s.dev ≠ .off

/-- Front end `n`'s own test port has not taken its pins over either. -/
def LiveFe (s : State) (n : Drive) : Prop := Live s ∧ s.scan.lost.getLsbD (1 + n.val) = false

/-- The same of stage `i`. -/
def LiveStage (s : State) (i : Stage) : Prop := Live s ∧ s.scan.lost.getLsbD (17 + i.val) = false

/-- Every laser and every bridge is disabled (R20, R108). -/
def OutputsSafe (s : State) : Prop := s.pins.laserEn = 0 ∧ s.pins.bridgeEn = 0

/-- The Granary is in its one canonical form: addresses strictly rising, and no zero byte listed. -/
def GranaryOk (s : State) : Prop := Keyed.canonical s.granary (0 : Byte) = true

/-- In a device state that drives no output, every laser and every bridge is disabled (R20, R108, R126). -/
def EnablesOk (s : State) : Prop := s.dev.driven = false → OutputsSafe s

/-- What every step keeps of a state: the Granary's canonical form, and the enables that the device state allows. -/
def Inv (s : State) : Prop := GranaryOk s ∧ EnablesOk s

/-- What no step but one that orders it may change: the device state, the firmware flash and the Granary. -/
def SameCore (s t : State) : Prop := t.dev = s.dev ∧ t.flash = s.flash ∧ t.granary = s.granary

/-! ### Frames -/

/-- Every element of an object whose address word is not in `w` reads as before. -/
def ObjectsKept (w : List Nat) (s t : State) : Prop := ∀ a, a ∉ w → Keyed.getD t.od a 0 = Keyed.getD s.od a 0

/-- The same, but for what raising an event touches: the objects of the event unit (group 0x62) and the Chest's write
counts CHEST_WRITES and CHEST_WEAR_MAX (R601, R615, R714). -/
def ObjectsKeptEv (w : List Nat) (s t : State) : Prop :=
  ∀ a, a ∉ w → a / 2 ^ 24 ≠ 0x62 → a / 4096 ≠ 0x7E030 → a / 4096 ≠ 0x7E031 → Keyed.getD t.od a 0 = Keyed.getD s.od a 0

/-- Nothing but the objects, the event unit, the Chest, the MSI-X pending bits and what was sent out differs: all that an
event can reach. -/
def EventsOnly (s t : State) : Prop :=
  t = { s with od := t.od, evt := t.evt, chest := t.chest, fns := t.fns, out := t.out }

/-- Source `e` has had one more occurrence (R601). -/
def Raised (e : Nat) (s t : State) : Prop := t.g Od.EVT_TOTAL e = (s.g Od.EVT_TOTAL e + 1) % 2 ^ 32

/-! ### Kinds of commands -/

/-- The commands through which R107's causes, the firmware loader, the population and the dictionary act. -/
def movesDevice : Instr → Bool
  | .firmwareStart .. | .bootTimeout .. | .bootingEnd .. | .startingEnd .. | .partIdentityTimeout .. | .objectRead ..
  | .objectWrite .. | .plainObjectWrite .. | .commit .. | .commitStoreDone .. | .fwLoadErase .. | .fwLoadData ..
  | .fwLoadCheck .. | .fwCheckDone .. | .holdRequest .. | .drainStartDeferred .. | .drainComplete .. | .drainTimeout ..
  | .holdRelease .. | .warmRestart .. | .gleanerDramRead .. | .gleanerSramRead .. | .refClkReturn .. | .windowRead ..
  | .windowWrite .. | .windowDescribe .. | .windowNext .. | .windowUnknownOp .. | .mopReadInitiate ..
  | .mopWriteInitiate .. | .mopDescribe .. | .mopNext .. | .mopUnknownService .. | .mopWriteSegment ..
  | .mopReadSegmentRequest .. | .mopClientAbort .. | .coldStart .. | .logicPowerLoss .. | .partIdentityWord .. => true
  | _ => false

/-- The commands that may store in the Granary: the sequencers' and engines', those that end a job, and the zeroing of a crib's window
(R174, R483). -/
def storesGranary : Instr → Bool
  | .cribReset .. | .vfFunctionLevelReset .. | .cribResetComplete .. | .ccEnClear .. | .propertySet ..
  | .sequencerAssign .. | .nop .. | .halt .. | .ld .. | .st .. | .jmp .. | .loop .. | .setinc .. | .mova .. | .rda ..
  | .lcnt .. | .push .. | .fence .. | .illegalInstruction .. | .engineCommandEnd .. | .copy .. | .fill .. | .readNs ..
  | .toHost .. | .lincomb .. | .fieldMul .. | .shaInit .. | .shaUpdate .. | .shaFinal .. | .shaDigest .. | .crcUpdate ..
  | .crcDigest .. | .gcmEnc .. | .gcmDec .. | .vectorAdd .. | .vectorSub .. | .vectorAnd .. | .vectorOr .. | .vectorXor ..
  | .min .. | .max .. | .cmpeq .. | .cmplt .. | .sum .. | .countEq .. | .findEq .. | .blockErase .. | .cryptoErase ..
  | .lil .. | .lih .. | .addi .. | .andi .. | .ori .. | .xori .. | .shli .. | .shri .. | .sari .. | .add .. | .sub ..
  | .and .. | .or .. | .xor .. | .shl .. | .shr .. | .sar .. | .mul .. | .minu .. | .maxu .. | .beq .. | .bne .. | .blt ..
  | .bge .. | .bltu .. | .bgeu .. => true
  | _ => false

/-- The commands of the test port, of a start and of the loss of supply. -/
def ofTestPort : Instr → Bool
  | .bypass .. | .idcode .. | .samplePreload .. | .extest .. | .clamp .. | .coldStart .. | .logicPowerLoss .. => true
  | _ => false

/-- The commands that are a write of one object: who writes, the object and the element. -/
def objectWritten : Instr → Option (Nat × Ob × Nat)
  | .interlockAck who _ => some (who, Od.INTERLOCK_ACK, 0)
  | .pendingClear who _ => some (who, Od.PENDING_CLEAR, 0)
  | .fwFloorRaise who _ => some (who, Od.FW_FLOOR_RAISE, 0)
  | .generate who n => some (who, Od.NS_KEY_CTRL, n)
  | .load who n => some (who, Od.NS_KEY_CTRL, n)
  | .destroy who n => some (who, Od.NS_KEY_CTRL, n)
  | .jobKeyData who c k _ => some (who, Od.JOB_KEY_DATA, 8 * c + k)
  | .driveReset n => some (0, Od.DRIVE_RESET, n)
  | .feReset n => some (0, Od.FE_RESET, n)
  | .servo n => some (0, Od.CAL_REQUEST, n)
  | .eq n => some (0, Od.CAL_REQUEST, n)
  | .wpwr n => some (0, Od.CAL_REQUEST, n)
  | .motHalt a => some (0, Od.MOT_HALT, a)
  | .stageReset i => some (0, Od.STAGE_RESET, i)
  | .pickReset => some (0, Od.PICK_RESET, 0)
  | .pickPlace _ => some (0, Od.PICK_PLACE, 0)
  | .discRestore d => some (0, Od.DISC_RESTORE, d)
  | .memEraseDevWrite r _ => some (0, Od.MEM_ERASE_DEV, r)
  | .memCeClear => some (0, Od.MEM_CE_CLEAR, 0)
  | .memTestWrite => some (0, Od.MEM_TEST_OP, 0)
  | .writeRaw => some (0, Od.MEM_TEST_OP, 0)
  | .memTestRead => some (0, Od.MEM_TEST_OP, 0)
  | .readRaw => some (0, Od.MEM_TEST_OP, 0)
  | .memRetireReq _ => some (0, Od.MEM_RETIRE_REQ, 0)
  | .memRetireClear _ => some (0, Od.MEM_RETIRE_CLEAR, 0)
  | .evtCribClear c _ => some (c, Od.EVT_CRIB_CLEAR, c)
  | .evtCribMask c _ => some (c, Od.EVT_CRIB_MASK, c)
  | .evtRoute who e _ => some (who, Od.EVT_ROUTE, e)
  | .evrEnable who r _ => some (who, Od.EVR_ENABLE, r)
  | .spTxData who p _ => some (who, Od.SP_TX_DATA, p)
  | .padFunc who k _ _ => some (who, Od.PAD_FUNC, k)
  | .utcSet who _ => some (who, Od.UTC_SET, 0)
  | .arm who => some (who, Od.TARIFF_ARM, 0)
  | .cancel who => some (who, Od.TARIFF_ARM, 0)
  | .ledgerAck who _ => some (who, Od.LEDGER_ACK, 0)
  | _ => none

/-! ### Commands of the hosts -/

/-- The commands that are an entry of an I/O queue, or a capsule in place of one: the queue, the entry's common part and the
command (R413). -/
def ioCommand : Instr → Option (IoQueue × IoHdr × IoOp)
  | .flush q h => some (q, h, .flush)
  | .write q h lba nlb d => some (q, h, .write lba nlb d)
  | .read q h lba nlb lr => some (q, h, .read lba nlb lr)
  | .datasetManagement q h ad r => some (q, h, .dsm ad r)
  | .zoneClose q h lba all => some (q, h, .zoneClose lba all)
  | .zoneFinish q h lba all => some (q, h, .zoneFinish lba all)
  | .zoneOpen q h lba all => some (q, h, .zoneOpen lba all)
  | .zoneReset q h lba all => some (q, h, .zoneReset lba all)
  | .zoneManagementReceive q h lba a o p n => some (q, h, .zoneReceive lba a o p n)
  | .zoneAppend q h lba nlb d => some (q, h, .append lba nlb d)
  | .threshingJob q h w r d => some (q, h, .job w r d)
  | .zoneWarm q h lba w => some (q, h, .warm lba w)
  | .zoneRelease q h lba => some (q, h, .release lba)
  | .zoneLocate q h lba => some (q, h, .locate lba)
  | _ => none

/-- An entry that is the next of its queue and can be given what it needs; `u` is the state with it taken (R419). -/
def Taken (s : State) (q : IoQueue) (op : IoOp) (u : State) : Prop :=
  s.offered q = true ∧ s.fetching q = true ∧ s.waitingOn q = [] ∧ ioRoom s q op = true ∧ s.takeEntry q = some u

/-- It passes the checks every command goes through, and names namespace `n` (R414, R440). -/
def Passes (u : State) (q : IoQueue) (hdr : IoHdr) (op : IoOp) (n : Nat) (m : Ns) : Prop :=
  ioCheck u q hdr op = (u, .ok n) ∧ u.host.ns.find? n = some m

/-- The state in which an admitted command begins: the next context number has been used. -/
def begun (u : State) : State := { u with host := { u.host with nextCtx := u.host.nextCtx + 1 } }

/-- What follows an admission: a connection asks for the data that its commands still want (R460). -/
def asking (q : IoQueue) (t : State) : State :=
  match q with
  | .conn k => r2tFill t k
  | .sq .. => t

/-- A command's context joins those admitted. -/
def keeping (t : State) (x : Ctx) : State := { t with host := { t.host with ctxs := t.host.ctxs ++ [x] } }

/-- The commands that are an entry of an admin queue: the queue, the entry's common part, and whether a running Sanitize lets it
through to its own checks (R408, R485). -/
def adminCommand : Instr → Option (IoQueue × IoHdr × Bool)
  | .createIoSq q h .. => some (q, h, true)
  | .createIoCq q h .. => some (q, h, true)
  | .deleteIoSq q h _ => some (q, h, true)
  | .deleteIoCq q h _ => some (q, h, true)
  | .identify q h .. => some (q, h, true)
  | .getLogPage q h .. => some (q, h, true)
  | .abort q h .. => some (q, h, true)
  | .setFeatures q h .. => some (q, h, true)
  | .getFeatures q h .. => some (q, h, true)
  | .asynchronousEventRequest q h => some (q, h, true)
  | .keepAlive q h => some (q, h, true)
  | .exitFailureMode q h _ => some (q, h, true)
  | .overwrite q h _ => some (q, h, true)
  | .blockErase q h .. => some (q, h, true)
  | .cryptoErase q h .. => some (q, h, true)
  | .namespaceCreate q h .. => some (q, h, false)
  | .namespaceDelete q h => some (q, h, false)
  | .namespaceAttachment q h .. => some (q, h, false)
  | .formatNvm q h .. => some (q, h, false)
  | _ => none

/-- The frame of a command of the Threshing Floor, which may also store in the Granary. -/
def keepG (s t : State) : State := { keep s t with granary := tidy t.granary }

/-- The frame of an admin command: a Sanitize that erases may also store in the Granary (R483). -/
def adminFrame (c : Instr) (s t : State) : State := if storesGranary c then keepG s t else keep s t

/-- An entry that its admin queue holds and serves, with a context free for it; `u` is the state with it taken. -/
def AdminTaken (s : State) (q : IoQueue) (u : State) : Prop :=
  adminServed s q = true ∧ s.ctxFree (s.queueCrib q) = true ∧ s.takeEntry q = some u

/-- The same for an entry that passes the checks of R440, so that its own effect follows, or R485's answer. -/
def AdminClear (s : State) (q : IoQueue) (hdr : IoHdr) (u : State) : Prop :=
  AdminTaken s q u ∧ hdr.fuse = 0 ∧ hdr.reserved = false ∧ hdr.prpBad = false

/-- A capsule on an open connection that has had its ICReq: `u` is the state with it counted, `c` the connection then (R455,
R461). -/
def CapsuleOn (s : State) (k : Nat) (u : State) (c : Conn) : Prop :=
  (s.conn? k).elim False (fun d => d.icDone = true) ∧ s.takeEntry (.conn k) = some u ∧ u.conn? k = some c

/-- The commands that are a frame of the object protocol: the frame, its KIND and SERVICE, and the serial ports in the middle of a
character (R92 to R98). -/
def mopCommand : Instr → Option (MopFrame × Nat × Nat × BitVec 4)
  | .mopReadInitiate f => some (f, 0, 1, 0)
  | .mopWriteInitiate f b => some (f, 0, 2, b)
  | .mopDescribe f => some (f, 0, 3, 0)
  | .mopNext f => some (f, 0, 4, 0)
  | .mopUnknownService f k v => some (f, k, v, 0)
  | .mopWriteSegment f b => some (f, 1, 2, b)
  | .mopReadSegmentRequest f => some (f, 1, 1, 0)
  | .mopClientAbort f v => some (f, 3, 1 + v, 0)
  | _ => none

/-! ### The Threshing Floor -/

/-- The commands that are an instruction of a sequencer, with its opcode (R558). -/
def seqOpcode : Instr → Option (Fin 4 × Nat)
  | .nop q => some (q, 0x00) | .halt q => some (q, 0x01) | .lil q => some (q, 0x02) | .lih q => some (q, 0x03)
  | .add q => some (q, 0x04) | .sub q => some (q, 0x05) | .and q => some (q, 0x06) | .or q => some (q, 0x07)
  | .xor q => some (q, 0x08) | .shl q => some (q, 0x09) | .shr q => some (q, 0x0A) | .sar q => some (q, 0x0B)
  | .mul q => some (q, 0x0C) | .minu q => some (q, 0x0D) | .maxu q => some (q, 0x0E) | .addi q => some (q, 0x10)
  | .andi q => some (q, 0x11) | .ori q => some (q, 0x12) | .xori q => some (q, 0x13) | .shli q => some (q, 0x14)
  | .shri q => some (q, 0x15) | .sari q => some (q, 0x16) | .ld q => some (q, 0x18) | .st q => some (q, 0x19)
  | .beq q => some (q, 0x20) | .bne q => some (q, 0x21) | .blt q => some (q, 0x22) | .bge q => some (q, 0x23)
  | .bltu q => some (q, 0x24) | .bgeu q => some (q, 0x25) | .jmp q => some (q, 0x26) | .loop q => some (q, 0x28)
  | .setinc q => some (q, 0x29) | .mova q => some (q, 0x2A) | .rda q => some (q, 0x2B) | .lcnt q => some (q, 0x2C)
  | .push q => some (q, 0x30) | .fence q => some (q, 0x31)
  | _ => none

/-- Sequencer `sq` fetches the legal word `w` of opcode `op` for its job `j`. -/
def Fetches (s : State) (sq : Fin 4) (op : Nat) (j : JobRun) (w : Nat) : Prop :=
  s.issuing sq = some j ∧ fetchAt s j = .word w ∧ w >>> 26 = op ∧ legalWord w = true

/-- The commands that dispatch an engine's operation, with its class and number (R565, R568 to R575). -/
def engineOp : Instr → Option (Fin 4 × Fin 4 × Nat × Nat)
  | .copy sq q => some (sq, q, 1, 1) | .fill sq q => some (sq, q, 1, 2) | .readNs sq q => some (sq, q, 1, 3)
  | .toHost sq q => some (sq, q, 1, 4) | .lincomb sq q => some (sq, q, 2, 1) | .fieldMul sq q => some (sq, q, 2, 2)
  | .shaInit sq q => some (sq, q, 3, 1) | .shaUpdate sq q => some (sq, q, 3, 2) | .shaFinal sq q => some (sq, q, 3, 3)
  | .shaDigest sq q => some (sq, q, 3, 4) | .crcUpdate sq q => some (sq, q, 3, 5) | .crcDigest sq q => some (sq, q, 3, 6)
  | .gcmEnc sq q => some (sq, q, 4, 1) | .gcmDec sq q => some (sq, q, 4, 2) | .vectorAdd sq q => some (sq, q, 5, 1)
  | .vectorSub sq q => some (sq, q, 5, 2) | .vectorAnd sq q => some (sq, q, 5, 3) | .vectorOr sq q => some (sq, q, 5, 4)
  | .vectorXor sq q => some (sq, q, 5, 5) | .min sq q => some (sq, q, 5, 6) | .max sq q => some (sq, q, 5, 7)
  | .cmpeq sq q => some (sq, q, 5, 8) | .cmplt sq q => some (sq, q, 5, 9) | .sum sq q => some (sq, q, 5, 16)
  | .countEq sq q => some (sq, q, 5, 17) | .findEq sq q => some (sq, q, 5, 18)
  | _ => none

/-- The cluster's domain of an engine class (R689). -/
def clusterOf (cls : Nat) : Fin 21 := ⟨(cls - 1) % 21, Nat.mod_lt _ (by decide)⟩

end Sys2Proof.Machine
end

