-- ==== Sys2Proof/Certificates/Slice0/Obligations.lean ====
section
/-! DEFINITION. The statements for the provers. Each says what commands of the operation table do to the state, under conditions on the
state and the operands alone; the rules of the spec are named in each docstring. -/

open Sys2Proof Sys2Proof.Machine

/-- A step takes the command at the front of the queue and runs it on the state with the rest of the queue. -/
def Obligations.StepRunsTheFrontCommand : Prop :=
  ∀ (c : Instr) (s : State), step { s with pending := c :: s.pending } = exec c s

/-- An idle step is one cycle of the 25 MHz reference (the model's choice, assumption log 2); a block without supply stands still. -/
def Obligations.IdleStepPassesTime : Prop :=
  ∀ s : State, s.pending = [] →
    (s.dev = .off → step s = .next s) ∧
    (s.dev ≠ .off → ∃ t, step s = .next t ∧ t = keep s (refCycle s) ∧ t.pending = [] ∧ SameCore s t)

/-- Power-on: R107's Booting and R108's outputs, with the invariant that every step keeps. -/
def Obligations.ResetIsBootingWithOutputsLow : Prop :=
  State.reset.dev = .booting ∧ State.reset.g Od.DEVICE_STATE = 1 ∧ State.reset.boot.phase = .rom ∧ State.reset.boot.crs = true ∧
  State.reset.pins = { feRst := 0, laserEn := 0, stgRst := 0, bridgeEn := 0 } ∧ State.reset.pending = [] ∧ Inv State.reset

/-- No step, whatever the command, takes the block out of the invariant: canonical Granary, and laser and bridge enables low in every
device state that drives no output. -/
def Obligations.EveryStepKeepsTheInvariant : Prop :=
  ∀ s t : State, Inv s → step s = .next t → Inv t

/-- The queue is the step's alone; the device state and the flash move only through the commands of R107's causes and of the firmware
loader; the Granary changes only through those and the Threshing Floor's. -/
def Obligations.OnlyTheirCommandsMoveDeviceFlashAndGranary : Prop :=
  ∀ (c : Instr) (s t : State), exec c s = .next t →
    t.pending = s.pending ∧
    (movesDevice c = false → t.dev = s.dev ∧ t.flash = s.flash) ∧
    (movesDevice c = false → storesGranary c = false → ∀ a, gByte t.granary a = gByte s.granary a)

/-- No command stops the block unless a part's test port has taken its pins over. -/
def Obligations.EveryCommandCompletes : Prop :=
  ∀ (c : Instr) (s : State), s.scan.lost = 0 → ∃ t, exec c s = .next t

/-- R738: no behaviour of the manual holds while a part's test port has taken its pins over; the model stops, and only a start, the loss of
supply and the test port itself go on. -/
def Obligations.TestPortTakeoverStopsEveryCommand : Prop :=
  ∀ (c : Instr) (s : State), s.scan.lost.getLsbD 0 = true →
    (ofTestPort c = true → ∃ t, exec c s = .next t) ∧
    (ofTestPort c = false → ∃ part, exec c s = .fault (.boundaryScan part))

/-- The access check of R55, R58, R59 and R62 comes before any effect of a write. -/
def Obligations.RefusedWritesOnlyAnswer : Prop :=
  ∀ (c : Instr) (s : State) (who : Nat) (o : Ob) (e : Nat), objectWritten c = some (who, o, e) → Live s →
    s.writeCodeOf who o e ≠ 0 → exec c s = .next (s.answer who (s.writeCodeOf who o e))

/-- Clears and masks of device sources (R608) and of a crib's sources (R606, R607). -/
def Obligations.EventBitsFollowTheirWrites : Prop :=
  (∀ (s : State) (w : Fin 16) (bits : Nat), Live s →
    ∃ t, exec (.evtPendClear w bits) s = .next t ∧
      (∀ x < 1024, t.pendBit x = (s.pendBit x && !(decide (x / 32 = w) && bits.testBit (x % 32)))) ∧
      (∀ x < 1024, t.g Od.EVT_COUNT x =
        if x / 32 = w ∧ bits.testBit (x % 32) = true ∧ s.pendBit x = true then 0 else s.g Od.EVT_COUNT x) ∧
      t = { s with od := t.od, evt := { s.evt with pend := t.evt.pend } } ∧
      ObjectsKept ((List.range 32).map fun b => Od.EVT_COUNT.el (32 * w + b)) s t) ∧
  (∀ (s : State) (w : Fin 16) (bits : Nat), Live s →
    ∃ t, exec (.evtMask w bits) s = .next t ∧
      (∀ x < 1024, t.maskBit x = if x / 32 = w then bits.testBit (x % 32) else s.maskBit x) ∧
      EventsOnly s t ∧ ObjectsKeptEv [] s t) ∧
  (∀ (s : State) (c : Crib) (bits : Nat), Live s → s.writeCodeOf c Od.EVT_CRIB_CLEAR c = 0 → 1 ≤ c.val → bits < 2 ^ 16 →
    ∃ t, exec (.evtCribClear c bits) s = .next t ∧
      (∀ x < 1024, t.pendBit x = (s.pendBit x && !(decide (512 ≤ x ∧ srcOwner x = c) && bits.testBit (x % 16)))) ∧
      (∀ x < 1024, t.g Od.EVT_COUNT x =
        if 512 ≤ x ∧ srcOwner x = c ∧ bits.testBit (x % 16) = true ∧ s.pendBit x = true then 0 else s.g Od.EVT_COUNT x) ∧
      t = { s with od := t.od, evt := { s.evt with pend := t.evt.pend }, out := s.out ++ [.answer c 0 []] }) ∧
  (∀ (s : State) (c : Crib) (bits : Nat), Live s → s.writeCodeOf c Od.EVT_CRIB_MASK c = 0 → 1 ≤ c.val → bits < 2 ^ 16 →
    ∃ t, exec (.evtCribMask c bits) s = .next t ∧
      (∀ x < 1024, t.maskBit x = if 512 ≤ x ∧ srcOwner x = c then bits.testBit (x % 16) else s.maskBit x) ∧
      EventsOnly s t ∧ ObjectsKeptEv [] s t ∧ t.out.getLast? = some (.answer c 0 []))

/-- EVT_ROUTE (R602), EVR_ENABLE (R609, R613), EVR_HEAD (R611, R612) and the violation log's REPEAT (R618). -/
def Obligations.RoutesAndRingsFollowTheirWrites : Prop :=
  (∀ (s : State) (who : Crib) (e : Fin 1024) (v : Nat), Live s → s.writeCodeOf who Od.EVT_ROUTE e = 0 →
    exec (.evtRoute who e v) s = .next (if routeOk s e v then (s.p Od.EVT_ROUTE e v).answer who 0 else s.answer who 0x07)) ∧
  (∀ (s : State) (who : Crib) (r : Fin 8) (v : Nat), Live s → s.writeCodeOf who Od.EVR_ENABLE r = 0 →
    (v = 0 → exec (.evrEnable who r v) s = .next ((s.p Od.EVR_ENABLE r 0).answer who 0)) ∧
    (1 < v → exec (.evrEnable who r v) s = .next (s.answer who 0x07)) ∧
    (v = 1 → ∃ t, exec (.evrEnable who r v) s = .next t ∧ t.g Od.EVR_ENABLE r = 1 ∧ t.g Od.EVR_HEAD_SEEN r = 0 ∧
      EventsOnly s t ∧ ObjectsKeptEv [] s t ∧
      (heldOn s r = [] → t.g Od.EVR_TAIL r = 0 ∧ t.evt.phase[r] = true ∧ t.out = s.out ++ [.answer who 0 []]))) ∧
  (∀ (s : State) (f : Crib) (r : Fin 8) (v : Nat), Live s →
    ((s.g Od.EVR_OWNER r ≠ f.val ∨ s.cribEnabled f = false) → exec (.evrHead f r v) s = .next s) ∧
    (s.g Od.EVR_OWNER r = f.val → s.cribEnabled f = true → v < s.g Od.EVR_SIZE r →
      (v + s.g Od.EVR_SIZE r - s.g Od.EVR_HEAD_SEEN r) % s.g Od.EVR_SIZE r ≤
        (s.g Od.EVR_TAIL r + s.g Od.EVR_SIZE r - s.g Od.EVR_HEAD_SEEN r) % s.g Od.EVR_SIZE r →
      ∃ t, exec (.evrHead f r v) s = .next t ∧ t.g Od.EVR_HEAD_SEEN r = v % 2 ^ 16 ∧ EventsOnly s t ∧ ObjectsKeptEv [] s t) ∧
    (s.g Od.EVR_OWNER r = f.val → s.cribEnabled f = true →
      (s.g Od.EVR_SIZE r ≤ v ∨ (s.g Od.EVR_TAIL r + s.g Od.EVR_SIZE r - s.g Od.EVR_HEAD_SEEN r) % s.g Od.EVR_SIZE r <
        (v + s.g Od.EVR_SIZE r - s.g Od.EVR_HEAD_SEEN r) % s.g Od.EVR_SIZE r) →
      ∃ t, exec (.evrHead f r v) s = .next t ∧ t = violation s 5 f f 0 2 (leBytes 4 v) ∧
        t.g Od.EVR_HEAD_SEEN r = s.g Od.EVR_HEAD_SEEN r)) ∧
  (∀ s : State, Live s →
    (s.evt.vioDirty = true → s.chestClosed = false → exec .vioLogRepeatFlush s = .next
      (({ s with evt := { s.evt with vioDirty := false } }).chestWrite Region.vioLog (s.g Od.VIO_LOG_HEAD % 512))) ∧
    ((s.evt.vioDirty = false ∨ s.chestClosed = true) → exec .vioLogRepeatFlush s = .next s))

/-- The mailbox unit (R586 to R593) and the doorbells (R595 to R597). -/
def Obligations.MailboxesAndDoorbellsChangeTheirOwn : Prop :=
  (∀ (s : State) (f : Crib) (ch : Fin 32) (w : Nat) (b : List Byte), Live s → s.cribEnabled f = true →
    ∃ t, exec (.mailboxPost f ch w (some b)) s = .next t ∧
      Keyed.getD t.evt.staging (32 * f + ch) [] = padTo 64 b ∧ (∀ x : Fin 32, x ≠ ch → t.evt.slots[x] = s.evt.slots[x]) ∧
      (mbxAccepts s f ch w = true →
        (t.evt.slots[ch]).full = true ∧ (t.evt.slots[ch]).seq = ((s.evt.slots[ch]).seq + 1) % 256 ∧
        (t.evt.slots[ch]).collided = ((s.evt.slots[ch]).collided || (s.evt.slots[ch]).full) ∧
        (t.evt.slots[ch]).bytes = mbxMessage
          { s with evt := { s.evt with staging := Keyed.insert s.evt.staging (32 * f + ch) (padTo 64 b) } } f ch w ∧
        t.g Od.MBX_POST_CNT ch = (s.g Od.MBX_POST_CNT ch + 1) % 2 ^ 32 ∧
        (s.g Od.MBX_OWNER ch = 0 → Raised Src.mailbox s t) ∧
        (1 ≤ s.g Od.MBX_OWNER ch → Raised (Src.ofCrib (s.g Od.MBX_OWNER ch) 0) s t) ∧
        EventsOnly s t ∧ ObjectsKeptEv [Od.MBX_POST_CNT.el ch, Od.MBX_COLLIDE_CNT.el ch] s t) ∧
      (mbxAccepts s f ch w = false → t.evt.slots = s.evt.slots ∧
        t.g Od.MBX_REFUSED_CNT f = (s.g Od.MBX_REFUSED_CNT f + 1) % 2 ^ 32 ∧
        EventsOnly s t ∧ ObjectsKeptEv [Od.MBX_REFUSED_CNT.el f] s t)) ∧
  (∀ (s : State) (f : Crib) (ch : Fin 32) (w : Nat), Live s →
    ((s.cribEnabled f && s.g Od.MBX_OWNER ch == f.val && w.testBit 8 && fieldOf w 7 0 == s.evt.slots[ch].seq) = true →
      exec (.mailboxRelease f ch w) s = .next { s with evt := { s.evt with
        slots := vmod s.evt.slots ch fun m => { m with full := false, collided := false, collisions := 0 } } }) ∧
    ((s.cribEnabled f && s.g Od.MBX_OWNER ch == f.val && w.testBit 8 && fieldOf w 7 0 == s.evt.slots[ch].seq) = false →
      exec (.mailboxRelease f ch w) s = .next s)) ∧
  (∀ (s : State) (f : Crib) (w : Fin 8) (bits : Nat), Live s → s.cribEnabled f = true →
    ∃ t, exec (.dbRing f w bits) s = .next t ∧
      (∀ d < 256, t.evt.doorbells.getLsbD d = (s.evt.doorbells.getLsbD d ||
        (decide (d / 32 = w ∧ s.g Od.DB_OWNER d ≤ 32) && bits.testBit (d % 32) && s.gb Od.DB_WRITERS d f))) ∧
      EventsOnly s t ∧ ObjectsKeptEv [Od.DB_REFUSED_CNT.el f] s t) ∧
  (∀ (s : State) (f : Crib) (w : Fin 8) (bits : Nat), Live s → s.cribEnabled f = true →
    ∃ t, exec (.dbPendClear f w bits) s = .next t ∧
      (∀ d < 256, t.evt.doorbells.getLsbD d = (s.evt.doorbells.getLsbD d &&
        !(decide (d / 32 = w ∧ s.g Od.DB_OWNER d = f) && bits.testBit (d % 32)))) ∧
      t = { s with evt := { s.evt with doorbells := t.evt.doorbells } }) ∧
  (∀ (s : State) (f : Crib) (ch : Fin 32) (w : Fin 8) (v : Nat) (b : Option (List Byte)), Live s → s.cribEnabled f = false →
    exec (.mailboxPost f ch v b) s = .next s ∧ exec (.dbRing f w v) s = .next s ∧ exec (.dbPendClear f w v) s = .next s)

/-- R40 to R46: the interlock inputs and their latches. -/
def Obligations.InterlocksLatchAndRelease : Prop :=
  (∀ s : State, Live s → s.lock.estopHigh = true →
    exec .estopNLow s = .next (keep s
      (let l := ((s.setLock fun l => { l with estopHigh := false }).pb Od.INTERLOCK_STATE 0 1 true).pb Od.INTERLOCK_STATE 0 8 true
       if s.gb Od.INTERLOCK_STATE 0 8 then stopAll l else raise (stopAll l) Src.estop 0))) ∧
  (∀ s : State, Live s → s.lock.estopHigh = false →
    exec .estopNLow s = .next s ∧
    exec .estopNHigh s =
      .next ((s.setLock fun l => { l with estopHigh := true, estopSince := s.now }).pb Od.INTERLOCK_STATE 0 1 false)) ∧
  (∀ s : State, Live s → s.lock.estopHigh = true → exec .estopNHigh s = .next s) ∧
  (∀ s : State, Live s → s.lock.doorClosed = true →
    exec .doorClosedLow s = .next (keep s
      (let l := ((s.setLock fun l => { l with doorClosed := false }).pb Od.INTERLOCK_STATE 0 2 true).pb Od.INTERLOCK_STATE 0 9 true
       let l := l.each ([16, 17, 18, 19] : List Axis) fun s a => stopAxis s a .ramp true
       if s.gb Od.INTERLOCK_STATE 0 9 then l else raise l Src.door 0))) ∧
  (∀ s : State, Live s → s.lock.doorClosed = false → exec .doorClosedLow s = .next s) ∧
  (∀ s : State, Live s →
    exec .doorClosedHigh s = .next ((s.setLock fun l => { l with doorClosed := true }).pb Od.INTERLOCK_STATE 0 2 false)) ∧
  (∀ (s : State) (who : Crib) (v : Nat), Live s → s.writeCodeOf who Od.INTERLOCK_ACK 0 = 0 →
    ((v.testBit 8 && s.lock.estopHigh && decide (s.lock.estopSince + 10000000 ≤ s.now)) = true →
      exec (.interlockAck who v) s = .next (keep s ((resumeWork
        (let l := s.pb Od.INTERLOCK_STATE 0 8 false
         if v.testBit 9 && s.lock.doorClosed then l.pb Od.INTERLOCK_STATE 0 9 false else l)).answer who 0))) ∧
    ((v.testBit 8 && s.lock.estopHigh && decide (s.lock.estopSince + 10000000 ≤ s.now)) = false →
      exec (.interlockAck who v) s =
        .next ((if v.testBit 9 && s.lock.doorClosed then s.pb Od.INTERLOCK_STATE 0 9 false else s).answer who 0)))

/-- R685 to R688. -/
def Obligations.PowerFailSequenceRunsAndResumes : Prop :=
  (∀ s : State, Live s → s.lock.pfwHigh = true →
    let l := (s.setLock fun l => { l with pfwHigh := false }).pb Od.INTERLOCK_STATE 0 0 true
    (l.g Od.PF_STATE ≠ 0 → exec .pfwNLow s = .next { l with pwr := { l.pwr with resumeWanted := false } }) ∧
    (l.g Od.PF_STATE = 0 → exec .pfwNLow s = .next (keep s (
      let r := raise ((({ l with pwr := { l.pwr with resumeWanted := false, pfStart := l.now } } : State).p Od.PF_STATE 0 1).inc
        Od.PF_COUNT) Src.pfw 0
      let r := stopAll (ledgerPowerFail r)
      journalAll (if (r.dict.commit.elim false fun c => c.storing) then commitEnd r 0x14 else r))))) ∧
  (∀ s : State, Live s → s.lock.pfwHigh = false →
    exec .pfwNLow s = .next s ∧
    (let l := (s.setLock fun l => { l with pfwHigh := true }).pb Od.INTERLOCK_STATE 0 0 false
     (l.g Od.PF_STATE = 2 → exec .pfwNHigh s = .next (keep s (pfResume l))) ∧
     (l.g Od.PF_STATE ≠ 2 → exec .pfwNHigh s = .next { l with pwr := { l.pwr with resumeWanted := true } }))) ∧
  (∀ s : State, Live s → s.lock.pfwHigh = true → exec .pfwNHigh s = .next s) ∧
  (∀ s : State, Live s → s.g Od.PF_STATE = 1 →
    let e := (s.p Od.PF_STATE 0 2).p Od.PF_LAST_US 0 ((s.now - s.pwr.pfStart) / 1000)
    e.g Od.PF_STATE = 2 ∧
    (s.pwr.resumeWanted = false → exec .pfSequenceEnd s = .next e) ∧
    (s.pwr.resumeWanted = true → exec .pfSequenceEnd s = .next (keep s (pfResume e)))) ∧
  (∀ s : State, Live s → s.g Od.PF_STATE ≠ 1 → exec .pfSequenceEnd s = .next s)

/-- R689 to R692: the phases of the engine clusters and of the Giperlink ports. -/
def Obligations.DomainsEnterAndExit : Prop :=
  (∀ (s : State) (i : Fin 5), Live s →
    (s.pwr.dom[clusterDom i] = .on → s.g Od.DOM_IDLE_US i ≠ 0 → clusterIdle s i = true →
      ∃ t, exec (.domainIdleEntry i) s = .next t ∧ t.pwr.dom[clusterDom i] = .entering ∧ t.pwr.domAt[clusterDom i] = s.now ∧
        (∀ j, j ≠ clusterDom i → t.pwr.dom[j] = s.pwr.dom[j])) ∧
    (s.pwr.dom[clusterDom i] = .entering →
      exec (.domainEntryDone i) s = .next ((setDom s (clusterDom i) .off).inc Od.DOM_ENTRY_CNT i)) ∧
    (s.pwr.dom[clusterDom i] = .committed →
      exec (.domainEntryDone i) s = .next ((setDom s (clusterDom i) .exiting).inc Od.DOM_ENTRY_CNT i)) ∧
    (s.pwr.dom[clusterDom i] = .exiting → exec (.domainExitDone i) s = .next (setDom s (clusterDom i) .on)) ∧
    (s.pwr.dom[clusterDom i] = .on → exec (.domainEntryDone i) s = .next s ∧ exec (.domainExitDone i) s = .next s)) ∧
  (∀ (s : State) (n : Drive), Live s → s.glUp n = true → s.pwr.dom[portDom n] = .on → s.g Od.GL_SLEEP_MS ≠ 0 →
    3 ≤ s.g Od.DRV_STATE n → s.drives[n].wake = none → s.drives[n].bulk = [] → s.drives[n].toSend = [] →
    ∃ t, exec (.giperlinkSleep n) s = .next t ∧ t.pwr.dom[portDom n] = .entering ∧ t.freeCtr = s.freeCtr + 1 ∧
      t.drives[n].bulk = [⟨s.drives[n].seqNext % 256, 3, [BitVec.ofNat 8 (s.free 8)], 0⟩] ∧
      t.drives[n].seqNext = (s.drives[n].seqNext + 1) % 256) ∧
  (∀ (s : State) (n : Drive), LiveFe s n → s.pwr.dom[portDom n] = .entering →
    exec (.sleepAck n) s = .next
      ((setDom (s.setDv n fun d => { d with sent := [], missUp := 0 }) (portDom n) .off).inc Od.DOM_ENTRY_CNT (portDom n))) ∧
  (∀ (s : State) (n : Drive), Live s → s.pwr.dom[portDom n] = .exiting →
    exec (.giperlinkWakeDone n) s = .next (setDom s (portDom n) .on))

/-- R108, R679, R680, R695. -/
def Obligations.SuppliesAndReferenceDriveTheOutputs : Prop :=
  (∀ s : State, Live s → s.pwr.refLost = false →
    ∃ t, exec .refClkLoss s = .next t ∧ t.pwr.refLost = true ∧ t.pins.laserEn = 0 ∧ t.pins.bridgeEn = s.pins.bridgeEn ∧
      t.g Od.CLK_REF_LOSS_CNT = (s.g Od.CLK_REF_LOSS_CNT + 1) % 2 ^ 32 ∧
      t.g Od.CLK_STATUS = s.g Od.CLK_STATUS / 32 * 32 % 2 ^ 32 ∧ ObjectsKept [Od.CLK_REF_LOSS_CNT.el 0, Od.CLK_STATUS.el 0] s t) ∧
  (∀ s : State, Live s → s.pwr.refLost = true → exec .refClkLoss s = .next s) ∧
  (∀ (s : State) (rail : Fin 7) (mv : Nat), Live s → s.pwr.railOut.getLsbD rail = false →
    ∃ t, exec (.railExcursion rail mv false) s = .next t ∧ t.pins.laserEn = 0 ∧ t.pins.bridgeEn = 0 ∧ t.boot.crs = true ∧
      t = keep s (outputsDown (raise
        (let l := s.p Od.PWR_RAIL_MV rail mv
         { l with pwr := { s.pwr with railOut := s.pwr.railOut ||| BitVec.twoPow 7 rail } })
        Src.rail (rail + 65536 * (mv % 65536))))) ∧
  (∀ (s : State) (rail : Fin 7) (mv : Nat), Live s → s.pwr.railOut = BitVec.twoPow 7 rail → s.boot.phase = .ready → s.dev = .serving →
    ∃ t, exec (.railExcursion rail mv true) s = .next t ∧ t.pwr.railOut = 0 ∧ t.boot.crs = false ∧
      t.g Od.PWR_RAIL_MV rail = mv % 2 ^ 16 ∧ t.pins.bridgeEn = BitVec.ofNat 5 (s.g Od.STAGE_DECL) ∧
      t.pins.laserEn = (if s.pwr.refLost then 0 else BitVec.ofNat 16 (s.g Od.DRIVE_DECL)) ∧
      ObjectsKept [Od.PWR_RAIL_MV.el rail] s t) ∧
  (∀ (s : State) (n : Drive), LiveFe s n →
    exec (.feRailLoss n true) s = .next (keep s (((closeWriteGate s n).p Od.RC_STATE n 0).setDv n fun d =>
      { d with rail3Low := true, fe := .fresh })) ∧
    exec (.feRailLoss n false) s = .next (keep s (((closeWriteGate s n).p Od.RC_STATE n 0).setDv n fun d =>
      { d with rail5Low := true, fe := { d.fe with laserFault := true, gate := none, power := 0 } })) ∧
    exec (.feRailReturn n true) s = .next (s.setDv n fun d => { d with rail3Low := false }) ∧
    exec (.feRailReturn n false) s = .next (s.setDv n fun d => { d with rail5Low := false }))

/-- R701 to R704, R711, R715, R716. -/
def Obligations.SamplesReportsAndCheckpoints : Prop :=
  (∀ (s : State) (a b c d : Int) (stage : List Int), Live s →
    ∃ t, exec (.tempSample [a, b, c, d] stage) s = .next t ∧
      t.g Od.TEMP_CTRL 0 = ofInt 16 a ∧ t.g Od.TEMP_CTRL 1 = ofInt 16 b ∧ t.g Od.TEMP_CTRL 2 = ofInt 16 c ∧
      t.g Od.TEMP_CTRL 3 = ofInt 16 d ∧ t.g Od.LIFE_POWER_S = (s.g Od.LIFE_POWER_S + 1) % 2 ^ 32 ∧
      (∀ x < 0x78000000, x / 2 ^ 24 ≠ 0x62 → Keyed.getD t.od x 0 = Keyed.getD s.od x 0)) ∧
  (∀ (s : State) (n : Drive) (uj33 uj50 : Nat) (temp : Int), LiveFe s n →
    exec (.powerReport n uj33 uj50 temp) s = .next (keep s
      (let l := ((s.add Od.FE_RAIL_UJ (2 * n) uj33).add Od.FE_RAIL_UJ (2 * n + 1) uj50).pi Od.TEMP_FE n temp
       thermal (chargeEnergy l (if l.g Od.DRV_STATE n = 4 then 0 else l.ledger.holder[n]) (uj33 + uj50)) (4 + n) 1 [temp]))) ∧
  (∀ s : State, Live s →
    (s.g Od.PF_STATE = 0 → ∃ t, exec .longRunCheckpoint s = .next t ∧
      t.chest.lifeAt = (if s.chest.lifeAt = 0 then 1 else 0) ∧
      t.chest.life[t.chest.lifeAt] = some (s.od.filter fun p => isLife p.1) ∧
      t.chest.life[s.chest.lifeAt] = s.chest.life[s.chest.lifeAt] ∧
      (∀ x, x / 4096 ≠ 0x7E030 → x / 4096 ≠ 0x7E031 → Keyed.getD t.od x 0 = Keyed.getD s.od x 0)) ∧
    (s.g Od.PF_STATE ≠ 0 → exec .longRunCheckpoint s = .next s)) ∧
  (∀ (s : State) (region pos : Nat), Live s →
    ((s.chest.delayed.find? fun d => d.region == region && d.pos == pos) = none → exec (.chestDelayedWrite region pos) s = .next s) ∧
    (∀ d, (s.chest.delayed.find? fun d => d.region == region && d.pos == pos) = some d →
      (s.chestFree region pos = false → exec (.chestDelayedWrite region pos) s = .next s) ∧
      (s.chestFree region pos = true → exec (.chestDelayedWrite region pos) s = .next (keep s
        ((({ s with chest := { s.chest with delayed := s.chest.delayed.filter fun d => !(d.region == region && d.pos == pos) } } :
          State).chestMade region pos).each d.waiters release)))))

/-- R737, R738. -/
def Obligations.TestPortLoadsItsInstruction : Prop :=
  ∀ (s : State) (part : Fin 22), (part ≠ 0 ∨ s.dev ≠ .off) →
    exec (.bypass part) s = .next ((jtagLoad s part .bypass).emit (.jtag part 0)) ∧
    exec (.idcode part) s = .next ((jtagLoad s part .idcode).emit (.jtag part
      (if part.val = 0 then 0x5C04874F else if part.val < 17 then 0x2F01274F else 0x1504074F))) ∧
    (∀ pins preload, ∃ t, exec (.samplePreload part pins preload) s = .next t ∧ t.scan.boundary[part] = preload ∧
      t.scan.instr[part] = .samplePreload ∧ t.scan.lost = s.scan.lost ∧ t.out = s.out ++ [.jtag part pins] ∧ t.od = s.od ∧
      (∀ q, q ≠ part → t.scan.boundary[q] = s.scan.boundary[q] ∧ t.scan.instr[q] = s.scan.instr[q])) ∧
    (∃ t, exec (.extest part) s = .next t ∧ t.scan.lost.getLsbD part = true ∧ t.scan.instr[part] = .extest ∧ t.out = s.out ∧ t.od = s.od) ∧
    (∃ t, exec (.clamp part) s = .next t ∧ t.scan.lost.getLsbD part = true ∧ t.scan.instr[part] = .clamp ∧ t.out = s.out ∧ t.od = s.od)

/-- The receivers of the serial ports (R626 to R631), their time-out (R635) and SP_RX_DATA (R634). -/
def Obligations.SerialReceiversStoreAndHandOver : Prop :=
  (∀ (s : State) (p : Fin 4) (bits : List (Fin 8)), Live s → spHears s p = true → spMode s p = 1 → spParity s p = 0 →
    bits.length = 9 → (∃ b ∈ bits, majority b = true) →
    ∃ t, exec (.serialCharacter p bits) s = .next t ∧ (∀ q : Fin 4, q ≠ p → t.serial.ports[q] = s.serial.ports[q]) ∧
      (s.serial.ports[p].rx.length < spSize s p →
        ∃ e, t.serial.ports[p].rx = s.serial.ports[p].rx ++ [e] ∧ (∀ i : Fin 8, e.testBit i = majority (bits.getD i 0)) ∧
          e.testBit 8 = !majority (bits.getD 8 0) ∧ e.testBit 9 = false ∧ e.testBit 10 = false ∧
          e.testBit 11 = s.serial.ports[p].lost ∧ e.testBit 12 = bits.any disagrees ∧ t.serial.ports[p].lost = false ∧
          t.g Od.SP_RX_LEVEL p = s.serial.ports[p].rx.length + 1 ∧
          ObjectsKeptEv (Od.SP_RX_LEVEL.el p :: (List.range 8).map fun k => Od.SP_ERR_CNT.el (8 * p + k)) s t) ∧
      (spSize s p ≤ s.serial.ports[p].rx.length →
        t.serial.ports[p].rx = s.serial.ports[p].rx ∧ t.serial.ports[p].lost = true ∧
        t.g Od.SP_ERR_CNT (8 * p + 3) = (s.g Od.SP_ERR_CNT (8 * p + 3) + 1) % 2 ^ 32 ∧
        ObjectsKept [Od.SP_ERR_CNT.el (8 * p + 3)] s t)) ∧
  (∀ (s : State) (p : Fin 4) (noise : Bool), Live s → spHears s p = true → spMode s p = 1 → s.serial.ports[p].frame = none →
    s.serial.ports[p].rx.length < spSize s p →
    ∃ t, exec (.serialBreak p noise) s = .next t ∧ t.serial.ports[p].breakWait = true ∧
      t.serial.ports[p].rx = s.serial.ports[p].rx ++ [0x500 + 0x800 * b2n s.serial.ports[p].lost + 0x1000 * b2n noise] ∧
      Raised Src.spError s t ∧ ∀ q : Fin 4, q ≠ p → t.serial.ports[q] = s.serial.ports[q]) ∧
  (∀ (s : State) (p : Fin 4), Live s →
    exec (.serialBreakEnd p) s = .next (s.setSerial p fun q => { q with breakWait := false }) ∧
    exec (.falseStart p) s = .next (if spHears s p = true then s.inc Od.SP_ERR_CNT (8 * p + 5) else s)) ∧
  (∀ (s : State) (p : Fin 4), Live s →
    (spMode s p = 1 → s.serial.ports[p].rx ≠ [] → s.serial.ports[p].quiet = false →
      ∃ t, exec (.spRxTimeout p) s = .next t ∧ t.serial = (s.setSerial p fun q => { q with quiet := true }).serial ∧
        Raised Src.spRx s t ∧ ObjectsKeptEv [] s t) ∧
    ((spMode s p ≠ 1 ∨ s.serial.ports[p].rx = [] ∨ s.serial.ports[p].quiet = true) → exec (.spRxTimeout p) s = .next s)) ∧
  (∀ (s : State) (who : Crib) (p : Fin 4) (window : Bool) (off : Nat), Live s →
    (s.dev = .booting → exec (.spRxData who p window off) s = .next (s.answer who 0x0D)) ∧
    (s.dev ≠ .booting → who.val ≠ 0 → exec (.spRxData who p window off) s = .next (s.answer who 0x01)) ∧
    (s.dev ≠ .booting → who.val = 0 → off ≠ 0 → exec (.spRxData who p window off) s = .next (s.answer who 0x09)) ∧
    (s.dev ≠ .booting → who.val = 0 → off = 0 →
      let n := if window then 239 else s.serial.ports[p].rx.length
      let d := (s.serial.ports[p].rx.take n).flatMap (leBytes 2)
      exec (.spRxData who p window off) s = .next
        (((s.setSerial p fun q => { q with rx := q.rx.drop n }).p Od.SP_RX_LEVEL p (s.serial.ports[p].rx.drop n).length).emit
          (.answer who 0 (leBytes 2 d.length ++ d)))))

/-- The transmitters (R633, R636), the tray schedule (R638 to R641) and the pads (R646, R647). -/
def Obligations.SerialTransmittersSendInOrder : Prop :=
  (∀ (s : State) (who : Crib) (p : Fin 4) (d : List Byte), Live s → s.writeCodeOf who Od.SP_TX_DATA p = 0 →
    ((d.length = 0 ∨ 128 < d.length) → exec (.spTxData who p d) s = .next (s.answer who 0x06)) ∧
    (d.length ≠ 0 → d.length ≤ 128 → spFree s p < d.length → exec (.spTxData who p d) s = .next (s.answer who 0x07)) ∧
    (d.length ≠ 0 → d.length ≤ 128 → d.length ≤ spFree s p → spMode s p = 1 → s.serial.ports[p].frame = none →
      ∃ t, exec (.spTxData who p d) s = .next t ∧
        t.serial.ports[p].shift.toList ++ t.serial.ports[p].tx = s.serial.ports[p].shift.toList ++ s.serial.ports[p].tx ++ d ∧
        (spSends s p = true → t.serial.ports[p].shift.isSome = true) ∧ t.out.getLast? = some (.answer who 0 []) ∧
        (∀ q : Fin 4, q ≠ p → t.serial.ports[q] = s.serial.ports[q]) ∧ ObjectsKeptEv [] s t)) ∧
  (∀ (s : State) (p : Fin 4), Live s →
    (s.serial.ports[p].shift = none → exec (.serialCharacterSent p) s = .next s) ∧
    (s.serial.ports[p].shift.isSome = true → spMode s p = 1 → s.serial.ports[p].frame = none → (padOf s 1 p).isSome = true →
      s.dev ≠ .held →
      ∃ t, exec (.serialCharacterSent p) s = .next t ∧ t.serial.ports[p].shift = s.serial.ports[p].tx.head? ∧
        t.serial.ports[p].tx = s.serial.ports[p].tx.tail ∧ ObjectsKeptEv [] s t)) ∧
  (∀ (s : State) (p : Fin 4), Live s → s.serial.ports[p].frame = none →
    (trayRuns s p = false → exec (.traySlotStart p) s = .next s) ∧
    (trayRuns s p = true → tableLength s p = 0 → exec (.traySlotStart p) s = .next s) ∧
    (trayRuns s p = true → tableLength s p ≠ 0 → s.serial.ports[p].shift = none → (padOf s 1 p).isSome = true →
      let i := match s.serial.ports[p].cur with
        | some c => if c + 1 < tableLength s p then c + 1 else 0
        | none => 0
      let w := entryWord s (64 * (p - 1) + i)
      ∃ t, exec (.traySlotStart p) s = .next t ∧ t.serial.ports[p].cur = some i ∧ t.serial.ports[p].shift = some 0x55 ∧
        (t.serial.ports[p].frame.map TrayFrame.entry) = some (64 * (p - 1) + i) ∧
        (w.testBit 7 = true → t.serial.ports[p].frame.map TrayFrame.toSend = some [BitVec.ofNat 8 (trayPid (w % 64))]) ∧
        ObjectsKept [Od.TRAY_CYCLE_CNT.el (p - 1)] s t)) ∧
  (∀ (s : State) (p : Fin 4), Live s →
    (s.serial.ports[p].frame = none → exec (.trayResponseTimeout p) s = .next s) ∧
    (∀ f, s.serial.ports[p].frame = some f → f.back ≠ [] → exec (.trayResponseTimeout p) s = .next s) ∧
    (∀ f, s.serial.ports[p].frame = some f → f.back = [] → f.entry < 192 →
      ∃ t, exec (.trayResponseTimeout p) s = .next t ∧ t.serial.ports[p].frame = none ∧
        t.g Od.TRAY_RX_STAT f.entry % 16 = (if f.got = [] then 2 else 5) ∧
        t.g Od.TRAY_RX_DATA f.entry = s.g Od.TRAY_RX_DATA f.entry ∧
        t.g Od.TRAY_ERR_CNT (8 * (p - 1) + (if f.got = [] then 0 else 3)) =
          (s.g Od.TRAY_ERR_CNT (8 * (p - 1) + (if f.got = [] then 0 else 3)) + 1) % 2 ^ 32)) ∧
  (∀ (s : State) (who : Crib) (k : Fin 8) (v : Nat) (busy : BitVec 4), Live s → s.writeCodeOf who Od.PAD_FUNC k = 0 →
    ((4 < v % 8 ∨ v ≠ v % 8 + 16 * fieldOf v 5 4) → exec (.padFunc who k v busy) s = .next (s.answer who 0x07)) ∧
    (v % 8 ≤ 4 → v = v % 8 + 16 * fieldOf v 5 4 → (∀ p : Fin 4, s.serial.ports[p].frame = none) →
      ∃ t, exec (.padFunc who k v busy) s = .next t ∧ t.g Od.PAD_FUNC k = v ∧ t.out.getLast? = some (.answer who 0 []) ∧
        (∀ j : Fin 8, j ≠ k → (v % 8 = 1 ∨ v % 8 = 2) → padOf s (v % 8) (fieldOf v 5 4) = some j → t.g Od.PAD_FUNC j = 0) ∧
        (∀ j : Fin 8, j ≠ k → ¬((v % 8 = 1 ∨ v % 8 = 2) ∧ padOf s (v % 8) (fieldOf v 5 4) = some j) →
          t.g Od.PAD_FUNC j = s.g Od.PAD_FUNC j)))

/-- Time (R655 to R659), the second (R652, R701), tariffs (R662) and the ring's acknowledgement (R672). -/
def Obligations.LedgerTimeTariffAndAcknowledgement : Prop :=
  (∀ s : State, Live s →
    (s.ledgerRuns = false → exec .ledgerMinuteBoundary s = .next s) ∧
    (minuteEnd s = none → exec .ledgerMinuteBoundary s = .next s) ∧
    (∀ e, s.ledgerRuns = true → minuteEnd s = some e → s.utc < e →
      ∃ t, exec .ledgerMinuteBoundary s = .next t ∧ t = keep s (passTime s (e - s.utc) (e - s.utc))) ∧
    (∀ e, s.ledgerRuns = true → minuteEnd s = some e → e ≤ s.utc →
      ∃ t, exec .ledgerMinuteBoundary s = .next t ∧ t = keep s (boundary s))) ∧
  (∀ (s : State) (rails : List (Nat × Nat × Nat)), Live s →
    ∃ t, exec (.ledgerSecond rails) s = .next t ∧ t.ledger.sec = [] ∧ t.ledger.weight = [] ∧
      (∀ i < 7, ∀ r, rails[i]? = some r → t.g Od.PWR_RAIL_MV i = r.1 % 2 ^ 16 ∧ t.g Od.PWR_RAIL_MA i = r.2.1 % 2 ^ 32 ∧
        t.g Od.PWR_RAIL_UJ i = (s.g Od.PWR_RAIL_UJ i + r.2.2) % 2 ^ 64) ∧
      (s.ledgerRuns = false → t.ledger.accts = s.ledger.accts)) ∧
  (∀ (s : State) (who : Crib) (v : Nat), Live s → s.writeCodeOf who Od.UTC_SET 0 = 0 → v < 2 ^ 64 →
    let at_ := s.utc + (tickNs - s.utc % tickNs)
    let d : Int := (v : Int) - at_
    (s.g Od.TIME_SYNC ≠ 0 → |d| ≤ (s.g Od.LEDGER_SLEW_MAX * 1000000 : Int) →
      ∃ t, exec (.utcSet who v) s = .next t ∧ t.ledger.slew = d ∧ t.ledger.slewPhase = 0 ∧
        t.out.getLast? = some (.answer who 0 [])) ∧
    ((s.g Od.TIME_SYNC = 0 ∨ (s.g Od.LEDGER_SLEW_MAX * 1000000 : Int) < |d|) →
      ∃ t, exec (.utcSet who v) s = .next t ∧ (openAccts s = [] →
        t.utc = v ∧ t.g Od.TIME_SYNC = 1 ∧ t.ledger.slew = 0 ∧ Raised Src.timeStep s t))) ∧
  (∀ (s : State) (who : Crib) (arm : Bool), Live s → s.writeCodeOf who Od.TARIFF_ARM 0 = 0 →
    (s.g Od.PF_STATE ≠ 0 → exec (if arm then .arm who else .cancel who) s = .next (s.answer who 0x0A)) ∧
    (s.g Od.PF_STATE = 0 →
      ∃ t, exec (if arm then .arm who else .cancel who) s = .next t ∧
        t.ledger = { s.ledger with pend := if arm then some (Tariff.mk
          ((List.range 128).map fun i => s.g Od.TARIFF_PEND_RATE i) ((List.range 8).map fun i => s.g Od.TARIFF_PEND_FREE i)
          ((List.range 33).map fun i => s.g Od.TARIFF_PEND_PLAN i) (s.g Od.TARIFF_EFFECTIVE)) else none } ∧
        (s.chestWaiting Region.state Pos.tariff = false → s.chestFree Region.state Pos.tariff = true →
          t.g Od.TARIFF_PEND_STATE = b2n arm ∧ t.out = s.out ++ [.answer who 0 []]) ∧
        ObjectsKept [Od.TARIFF_PEND_STATE.el 0, Od.CHEST_WRITES.el Region.state, Od.CHEST_WEAR_MAX.el Region.state] s t)) ∧
  (∀ (s : State) (who : Crib) (seq : Nat), Live s → s.writeCodeOf who Od.LEDGER_ACK 0 = 0 →
    ((newerSeq seq (s.g Od.LEDGER_HEAD) || newerSeq (s.g Od.LEDGER_ACK) seq) = true →
      exec (.ledgerAck who seq) s = .next (s.answer who 0x07)) ∧
    ((newerSeq seq (s.g Od.LEDGER_HEAD) || newerSeq (s.g Od.LEDGER_ACK) seq) = false → seq < 2 ^ 32 →
      (∀ c : Fin 33, (s.ledger.accts[c]).spill = none) → s.ledger.gap = none →
      ∃ t, exec (.ledgerAck who seq) s = .next t ∧ t.g Od.LEDGER_ACK = seq ∧
        t.g Od.LEDGER_FREE = (65536 - (s.g Od.LEDGER_HEAD + 2 ^ 32 - seq) % 2 ^ 32) % 2 ^ 32 ∧
        t.blobs = s.blobs ∧ t.ledger.accts = s.ledger.accts ∧ t.g Od.LEDGER_HEAD = s.g Od.LEDGER_HEAD))

/-- R540 row by row; `testKey` is the line that MEM_TEST_TARGET and MEM_TEST_LINE name, `testLine` its bytes. -/
def Obligations.MemoryTestOperations : Prop :=
  ∀ s : State, Live s → s.writeCodeOf 0 Od.MEM_TEST_OP 0 = 0 →
    let dram := decide (s.g Od.MEM_TEST_TARGET < 4)
    let d := padTo 64 (s.blob Od.MEM_TEST_DATA)
    let store (l : List Byte) : State := { s with mem := { s.mem with test := Keyed.insert s.mem.test (testKey s) l } }
    exec .memTestWrite s = .next ((store (if dram then rsEncode 16 d
      else d ++ (List.range 8).map fun w => BitVec.ofNat 8 (secCheck (ofLe (slice (8 * w) 8 d))))).answer 0 0) ∧
    exec .writeRaw s = .next ((store (d ++ padTo (if dram then 16 else 8) (s.blob Od.MEM_TEST_CHECK))).answer 0 0) ∧
    exec .readRaw s = .next (((s.setBlob Od.MEM_TEST_DATA 0 ((testLine s).take 64)).setBlob Od.MEM_TEST_CHECK 0
      (padTo 16 ((testLine s).drop 64))).answer 0 0) ∧
    (∃ t, exec .memTestRead s = .next t ∧ t.out.getLast? = some (.answer 0 0 []) ∧ t.mem.test = s.mem.test ∧
      t.blob Od.MEM_TEST_CHECK = padTo 16 ((testLine s).drop 64) ∧
      (dram = true →
        let j := judgeLine (testLine s) (s.g Od.MEM_ERASE_DEV (s.g Od.MEM_TEST_TARGET))
        t.blob Od.MEM_TEST_DATA = j.data ∧ t.g Od.MEM_TEST_RESULT % 256 = j.result ∧
        (j.result ≠ 2 → t.g Od.MEM_TEST_RESULT = (j.result + 256 * j.count + 65536 * j.mask) % 2 ^ 32) ∧
        (j.result = 0 → t.mem = s.mem)) ∧
      (dram = false →
        let js := (List.range 8).map fun w => judgeWord (ofLe (slice (8 * w) 8 (testLine s))) (ofLe (slice (64 + w) 1 (testLine s)))
        t.blob Od.MEM_TEST_DATA = js.flatMap (fun j => j.data) ∧
        t.g Od.MEM_TEST_RESULT % 256 = js.foldl (fun m j => max m j.result) 0 ∧
        ((∀ j ∈ js, j.result = 0) → t.g Od.MEM_TEST_RESULT = 0 ∧ t.mem = s.mem)))

/-- The memory's own registers and lists (R529, R534, R539, R542 to R546). -/
def Obligations.MemoryErasureCountersAndRetirement : Prop :=
  (∀ (s : State) (r : Fin 4) (v : Nat), Live s → s.writeCodeOf 0 Od.MEM_ERASE_DEV r = 0 →
    (v ≤ 9 ∨ v = 0xFF → ∃ t, exec (.memEraseDevWrite r v) s = .next t ∧ t.g Od.MEM_ERASE_DEV r = v ∧
      t.out = s.out ++ [.answer 0 0 []] ∧ ObjectsKeptEv [Od.MEM_ERASE_DEV.el r] s t) ∧
    (¬(v ≤ 9 ∨ v = 0xFF) → exec (.memEraseDevWrite r v) s = .next (s.answer 0 0x07))) ∧
  (∀ s : State, Live s → s.writeCodeOf 0 Od.MEM_CE_CLEAR 0 = 0 →
    ∃ t, exec .memCeClear s = .next t ∧ (∀ e < 43, t.g Od.MEM_CE_CNT e = 0) ∧ (∀ w < 2, t.g Od.MEM_CE_STICKY w = 0) ∧
      t = { s with od := t.od, out := s.out ++ [.answer 0 0 []] } ∧
      ObjectsKept ((List.range 43).map Od.MEM_CE_CNT.el ++ (List.range 2).map Od.MEM_CE_STICKY.el) s t) ∧
  (∀ s : State, Live s →
    (s.mem.dirty = true → s.chestClosed = false → exec .memLogRepeatFlush s = .next
      (({ s with mem := { s.mem with dirty := false } }).chestWrite Region.memLog (s.g Od.MEM_ERR_HEAD % 256))) ∧
    ((s.mem.dirty = false ∨ s.chestClosed = true) → exec .memLogRepeatFlush s = .next s)) ∧
  (∀ (s : State) (v : Nat), Live s → s.writeCodeOf 0 Od.MEM_RETIRE_REQ 0 = 0 →
    ((s.g Od.PF_STATE ≠ 0 ∨ s.g Od.MEM_RETIRE_STATE = 1) → exec (.memRetireReq v) s = .next (s.answer 0 0x0A)) ∧
    (s.g Od.PF_STATE = 0 → s.g Od.MEM_RETIRE_STATE ≠ 1 → retireCheck s v ≠ 0 →
      exec (.memRetireReq v) s = .next ((s.p Od.MEM_RETIRE_STATE 0 (retireCheck s v)).answer 0 0)) ∧
    (s.g Od.PF_STATE = 0 → s.g Od.MEM_RETIRE_STATE ≠ 1 → retireCheck s v = 0 →
      exec (.memRetireReq v) s = .next
        ((let u := s.p Od.MEM_RETIRE_STATE 0 1; { u with mem := { u.mem with retiring := some v } }).answer 0 0))) ∧
  (∀ (s : State) (lines : List Nat), Live s →
    (s.mem.retiring = none → exec (.memRetireDone lines) s = .next s) ∧
    (∀ v, s.mem.retiring = some v → entryIsBank v = false → ∃ t, exec (.memRetireDone lines) s = .next t ∧
      t.mem.retiring = none ∧ t.g Od.MEM_RETIRE_STATE = 2 ∧
      (∀ k ∈ lines, t.cache.hay.find? k = none) ∧
      ((∀ k ∈ lines, s.cache.hay.find? k = none) → ∀ j < 4128, s.g Od.MEM_RETIRE_LIST j = 0 → (∀ i < j, s.g Od.MEM_RETIRE_LIST i ≠ 0) →
        t.g Od.MEM_RETIRE_LIST j = v % 2 ^ 32 ∧ ∀ i < 4128, i ≠ j → t.g Od.MEM_RETIRE_LIST i = s.g Od.MEM_RETIRE_LIST i))) ∧
  (∀ (s : State) (v : Nat), Live s → s.writeCodeOf 0 Od.MEM_RETIRE_CLEAR 0 = 0 →
    (v ≠ 0x434C5252 → exec (.memRetireClear v) s = .next (s.answer 0 0)) ∧
    (v = 0x434C5252 → ∃ t, exec (.memRetireClear v) s = .next t ∧ (∀ j < 4128, t.g Od.MEM_RETIRE_LIST j = 0) ∧
      (∀ r < 4, t.g Od.MEM_ERASE_DEV r = 0xFF) ∧ t.g Od.MEM_RETIRE_COUNT 0 = 0 ∧ t.g Od.MEM_RETIRE_COUNT 1 = 0 ∧
      t.g Od.HAY_LINES_RETIRED = 0))

/-- The Gleaner's reads and demand reads of memory (R527 to R537). -/
def Obligations.GleanerJudgesWhatItReads : Prop :=
  (∀ (s : State) (ch : Fin 2) (a b : MemRead), Live s → s.g Od.GLEAN_DRAM_RATE = 0 →
    exec (.gleanerDramRead ch none a b) s = .next (settleAll s s)) ∧
  (∀ (s : State) (ch : Fin 2) (d : DemandAt) (a b : MemRead), Live s →
    (judgeLine a.bytes (s.g Od.MEM_ERASE_DEV (2 * ch.val + d.rank.val))).result = 0 →
    (judgeLine b.bytes (s.g Od.MEM_ERASE_DEV (2 * ch.val + d.rank.val))).result = 0 →
    exec (.gleanerDramRead ch (some d) a b) s = .next (settleAll s s)) ∧
  (∀ (s : State) (tg : Fin 3) (e : Bool) (w : MemRead), Live s → s.g Od.GLEAN_SRAM_PASS = 0 →
    exec (.gleanerSramRead tg none e w) s = .next (settleAll s s)) ∧
  (∀ (s : State) (tg : Fin 3) (e : Bool) (w : MemRead), Live s → s.g Od.GLEAN_SRAM_PASS ≠ 0 →
    (judgeWord (ofLe (w.bytes.take 8)) (ofLe (slice 8 1 w.bytes))).result = 0 →
    exec (.gleanerSramRead tg none e w) s = .next (settleAll s (if e then s.inc Od.GLEAN_SRAM_PASS_CNT else s))) ∧
  (∀ (s : State) (tg : Fin 3) (c : Nat) (e : Bool) (w : MemRead), Live s →
    ((judgeWord (ofLe (w.bytes.take 8)) (ofLe (slice 8 1 w.bytes))).result = 0 →
      exec (.gleanerSramRead tg (some c) e w) s = .next (settleAll s s)) ∧
    ((judgeWord (ofLe (w.bytes.take 8)) (ofLe (slice 8 1 w.bytes))).result = 1 → s.g Od.MEM_CE_CNT (40 + tg.val) < 65535 →
      ∃ t, exec (.gleanerSramRead tg (some c) e w) s = .next t ∧
        t.g Od.MEM_CE_CNT (40 + tg.val) = s.g Od.MEM_CE_CNT (40 + tg.val) + 1 ∧ t.dev = s.dev ∧ t.cache = s.cache) ∧
    ((judgeWord (ofLe (w.bytes.take 8)) (ofLe (slice 8 1 w.bytes))).result = 2 → ∀ a, w.place = .granary a →
      ∃ t, exec (.gleanerSramRead tg (some c) e w) s = .next t ∧
        t.g Od.MEM_UE_CNT (2 + tg.val) = (s.g Od.MEM_UE_CNT (2 + tg.val) + 1) % 2 ^ 32 ∧
        t.mem.poison.find? (a / 8) = some () ∧ t.dev = s.dev))

/-- NS_KEY_CTRL (R154, R155) and JOB_KEY_DATA (R158). -/
def Obligations.KeyOperationsWaitForTheirRecord : Prop :=
  (∀ (s : State) (who : Crib) (n : Fin 256) (kind : Nat) (c : Instr), Live s → s.writeCodeOf who Od.NS_KEY_CTRL n = 0 →
    (kind = 1 ∧ c = .generate who n ∨ kind = 2 ∧ c = .load who n ∨ kind = 3 ∧ c = .destroy who n) →
    (s.g Od.PF_STATE ≠ 0 → exec c s = .next (s.answer who 0x0A)) ∧
    (s.g Od.PF_STATE = 0 → s.g Od.NS_KEY_STATE n = 3 → exec c s = .next (s.answer who 0x0C)) ∧
    (s.g Od.PF_STATE = 0 → s.g Od.NS_KEY_STATE n ≠ 3 → kind = 2 → (s.blob Od.NS_KEY_DATA n).length ≠ 32 →
      exec c s = .next (s.answer who 0x06)) ∧
    (s.g Od.PF_STATE = 0 → s.g Od.NS_KEY_STATE n ≠ 3 → (kind = 2 → (s.blob Od.NS_KEY_DATA n).length = 32) →
      ∃ t, exec c s = .next t ∧ t.g Od.NS_KEY_STATE n = 3 ∧ t.out = s.out ++ [.answer who 0 []] ∧
        (∃ secret, t.keys.ops.find? n.val = some ⟨kind, s.g Od.NS_KEY_STATE n, secret⟩ ∧
          (kind = 1 → secret = Config.drawnSecret s.keys.draws) ∧ (kind = 2 → secret = s.blob Od.NS_KEY_DATA n)) ∧
        (∀ m, m ≠ n.val → t.keys.ops.find? m = s.keys.ops.find? m) ∧ t.keys.recs = s.keys.recs ∧
        t.keys.secrets = s.keys.secrets ∧ t.keys.jobKeys = s.keys.jobKeys ∧ t.blobs = s.blobs ∧
        ObjectsKeptEv [Od.NS_KEY_STATE.el n] s t)) ∧
  (∀ (s : State) (who c : Crib) (k : Fin 8) (d : List Byte), Live s → s.writeCodeOf who Od.JOB_KEY_DATA (8 * c + k) = 0 →
    (d.length ≠ 32 → exec (.jobKeyData who c k d) s = .next (s.answer who 0x06)) ∧
    (d.length = 32 → exec (.jobKeyData who c k d) s = .next
      (({ s with keys := { s.keys with jobKeys := Keyed.insert s.keys.jobKeys (8 * c.val + k.val) d } }).answer who 0)))

/-- Calibrations (R339, R342 to R346) and their requests (R353, R354). -/
def Obligations.CalibrationsStoreWhatTheyMeasure : Prop :=
  (∀ (s : State) (n : Drive) (a b c : Int), LiveFe s n →
    (s.g Od.CAL_STATE n = 1 → exec (.darkOffsetDone n a b c) s = .next
      ((((s.pi Od.FE_DARK (3 * n) a).pi Od.FE_DARK (3 * n + 1) b).pi Od.FE_DARK (3 * n + 2) c).p Od.CAL_STATE n 0)) ∧
    (s.g Od.CAL_STATE n ≠ 1 → exec (.darkOffsetDone n a b c) s = .next s)) ∧
  (∀ (s : State) (n : Drive), Live s →
    ((s.focusReady n && s.drives[n].cal.focusDone != 15 && s.g Od.CAL_STATE n == 0) = true →
      ∃ t, exec (.calSweep n) s = .next t ∧ t.g Od.CAL_STATE n = 2 ∧ t.g Od.DRIVE_SERVO_STATE n = 2 ∧
        t.drives[n].proc = .sweep 1 false false 0 false 0 true ∧ t.drives[n].fcmd = s.gsi Od.FOCUS_SWEEP_START ∧
        t.drives[n].cal.sweepFe = [] ∧ (∀ m : Drive, m ≠ n → t.drives[m] = s.drives[m]) ∧
        ObjectsKept [Od.CAL_STATE.el n, Od.DRIVE_SERVO_STATE.el n] s t) ∧
    ((s.focusReady n && s.drives[n].cal.focusDone != 15 && s.g Od.CAL_STATE n == 0) = false →
      exec (.calSweep n) s = .next s)) ∧
  (∀ (s : State) (n : Drive) (attempt curves : Nat) (surface onSurface onLayer : Bool) (fe : Int), Live s →
    s.drives[n].proc = .sweep attempt surface onSurface curves onLayer fe true →
    (s.drives[n].fcmd < s.gsi Od.FOCUS_SWEEP_END → exec (.calSweepDone n) s = .next s) ∧
    (s.gsi Od.FOCUS_SWEEP_END ≤ s.drives[n].fcmd →
      let layers := (mediaOf (s.mediaIn n)).layers
      ∃ t, exec (.calSweepDone n) s = .next t ∧ t.drives[n].proc = .idle ∧ t.drives[n].cal.focusDone = 15 ∧
        t.g Od.CAL_STATE n = (if s.drives[n].cal.req ≠ 0 then 5 else 0) ∧
        (∀ j hi lo, j < layers → s.drives[n].cal.sweepFe[j]? = some (hi, lo) →
          t.gi Od.CAL_FO_OFS (4 * n + (layers - 1 - j)) = toInt 16 (ofInt 16 ((hi + lo).tdiv 2)) ∧
          t.g Od.CAL_FO_PP (4 * n + (layers - 1 - j)) = ofInt 16 (hi - lo)) ∧
        (s.drives[n].cal.sweepFe.length < layers → t.gb Od.CAL_FLAGS n 4 = true))) ∧
  (∀ (s : State) (n : Drive) (r : Nat), Live s → s.drives[n].focusClosed = true → s.drives[n].trackClosed = false →
    s.drives[n].proc = .pullIn r → s.balanceDone n = false → s.drives[n].hold = none → (s.ax (sledOf n)).move = none →
    exec (.trackingBalance n) s = .next ((s.p Od.CAL_STATE n 3).setDv n fun d => { d with
      proc := .balance (s.g Od.REV_COUNT n), cal := { d.cal with teHalf := [], teCur := none, teAll := none } })) ∧
  (∀ (s : State) (n : Drive) (r : Nat), Live s → s.drives[n].proc = .balance r →
    (s.g Od.REV_COUNT n < r + s.g Od.CAL_TE_REVS → exec (.trackingBalanceDone n) s = .next s) ∧
    (r + s.g Od.CAL_TE_REVS ≤ s.g Od.REV_COUNT n →
      let e := 4 * n.val + s.g Od.CUR_LAYER n % 4
      ∃ t, exec (.trackingBalanceDone n) s = .next t ∧ t.drives[n].proc = .pullIn (s.g Od.REV_COUNT n) ∧
        t.drives[n].cal.trackDone = (s.drives[n].cal.trackDone ||| BitVec.twoPow 4 (s.g Od.CUR_LAYER n % 4)) ∧
        t.g Od.CAL_TR_XINGS e = min 65535 s.drives[n].cal.teHalf.length ∧
        t.g Od.LOOP_OFFSET (4 * n + 1) = t.g Od.CAL_TR_OFS e ∧ t.g Od.LOOP_TRIM (4 * n + 1) = t.g Od.CAL_TR_TRIM e ∧
        (∀ m : Drive, m ≠ n → t.drives[m] = s.drives[m]))) ∧
  (∀ (s : State) (n : Drive), Live s →
    let c := s.drives[n].cal
    (s.g Od.MEDIA_STATE n = 1 → c.eqDone = false → s.g Od.ANGLE_STATE n = 3 → s.g Od.CUR_LAYER n = 0 → s.g Od.CAL_STATE n = 0 →
      exec (.eqCalibration n) s = .next ((s.p Od.CAL_STATE n 4).setDv n fun d => { d with cal := { d.cal with
        eqLeft := s.g Od.EQ_CAL_SHEAVES, eqTaps := none, eqJitter := 0, eqUsed := 0, eqDone := true } })) ∧
    (s.g Od.CAL_STATE n ≠ 0 → exec (.eqCalibration n) s = .next s) ∧
    ((s.g Od.CAL_STATE n ≠ 4 ∨ c.eqLeft ≠ 0) → exec (.eqCalibrationDone n) s = .next s) ∧
    (s.g Od.CAL_STATE n = 4 → c.eqLeft = 0 → (∀ l, c.eqTaps = some l → l.length = 15) →
      ∃ t, exec (.eqCalibrationDone n) s = .next t ∧ t.g Od.CAL_EQ_USED n = c.eqUsed % 2 ^ 8 ∧
        t.g Od.CAL_STATE n = (if c.req ≠ 0 then 5 else 0) ∧ t.drives[n].cal.eqTaps = none ∧
        (∀ l, c.eqTaps = some l → ∀ i v, l[i]? = some v → t.g Od.EQ_TAPS_INIT (15 * n + i) = v % 2 ^ 16) ∧
        (c.eqTaps = none → t.gb Od.CAL_FLAGS n 2 = true))) ∧
  (∀ (s : State) (n : Drive) (k : Nat) (c : Instr), Live s → s.writeCodeOf 0 Od.CAL_REQUEST n = 0 →
    (k = 1 ∧ c = .servo n ∨ k = 2 ∧ c = .eq n ∨ k = 4 ∧ c = .wpwr n) →
    (s.g Od.MEDIA_STATE n ≠ 2 → exec c s = .next (s.answer 0 0)) ∧
    (s.g Od.MEDIA_STATE n = 2 → exec c s = .next
      ((let u := s.setDv n fun d => { d with cal := { d.cal with req := d.cal.req ||| k } }
        if s.g Od.CAL_STATE n = 0 then u.p Od.CAL_STATE n 5 else u).answer 0 0))) ∧
  (∀ (s : State) (n : Drive), Live s →
    let req := s.drives[n].cal.req
    ((req = 0 ∨ s.g Od.CAL_STATE n ≠ 5 ∨ (s.media.cur[n]).isSome = true) → exec (.calRequestStart n) s = .next s) ∧
    (req ≠ 0 → s.g Od.CAL_STATE n = 5 → s.media.cur[n] = none → s.g Od.MEDIA_STATE n ≠ 2 →
      exec (.calRequestStart n) s = .next ((s.setDv n fun d => { d with cal := { d.cal with req := 0 } }).p Od.CAL_STATE n 0)) ∧
    (req = 4 → s.mediaIn n ≤ 3 → s.g Od.CAL_STATE n = 5 → s.media.cur[n] = none → s.g Od.MEDIA_STATE n = 2 →
      ∃ t, exec (.calRequestStart n) s = .next t ∧ t.drives[n].cal.req = 0 ∧ t.g Od.CAL_STATE n = 0 ∧
        (∀ l < 4, t.g Od.WRITE_PWR_CUR (4 * n + l) = s.g Od.WRITE_PWR_INIT (s.powerIx n l) % 2 ^ 16)) ∧
    (req % 8 = 1 → s.g Od.CAL_STATE n = 5 → s.media.cur[n] = none → s.g Od.MEDIA_STATE n = 2 →
      ∃ t, exec (.calRequestStart n) s = .next t ∧ t.drives[n].cal.focusDone = 0 ∧ t.drives[n].cal.trackDone = 0 ∧
        t.g Od.CAL_STATE n = 2))

/-- The read channel (R268 to R282, R290 to R293), the Winnower (R283 to R287) and bulk cells (R189, R190, R280). -/
def Obligations.ReadChannelWinnowerAndCells : Prop :=
  (∀ (s : State) (n : Drive), LiveFe s n →
    ((s.drives[n].fe.reading && s.drives[n].fe.lockBit == 0) = false → exec (.acqFail n) s = .next s) ∧
    ((s.drives[n].fe.reading && s.drives[n].fe.lockBit == 0) = true →
      ∃ t, exec (.acqFail n) s = .next t ∧ t.drives[n].fe.gate = none) ∧
    (s.drives[n].fe.reading = false → exec (.readGateAbort n) s = .next s ∧ exec (.readFifoOverrun n) s = .next s) ∧
    (s.drives[n].fe.reading = true →
      (∃ t, exec (.readGateAbort n) s = .next t ∧ t.drives[n].fe.gate = none ∧ t.drives[n].cal.carry = true ∧
        (∀ m : Drive, m ≠ n → t.drives[m] = s.drives[m])) ∧
      exec (.readFifoOverrun n) s = .next (s.setFe n fun f => { f with overrun := true }))) ∧
  (∀ (s : State) (n : Drive) (bit : Nat) (errs : List Int) (amps : List Nat), LiveFe s n →
    ((s.drives[n].fe.reading && s.drives[n].fe.lockBit == 0 && decide (640 ≤ bit ∧ bit ≤ 1280 ∧ bit % 128 = 0)) = false →
      exec (.preambleLock n bit errs amps) s = .next s) ∧
    ((s.drives[n].fe.reading && s.drives[n].fe.lockBit == 0 && decide (640 ≤ bit ∧ bit ≤ 1280 ∧ bit % 128 = 0)) = true →
      let target : Rat := s.gf n Od.AGC_TARGET
      let tol : Rat := target * (s.gf n Od.ACQ_AMPL_TOL : Rat) / 100
      let good := meanNat (errs.map Int.natAbs) ≤ (s.gf n Od.ACQ_PHASE_MAX : Rat) ∧ target - tol ≤ meanNat amps ∧
        meanNat amps ≤ target + tol
      ∃ t, exec (.preambleLock n bit errs amps) s = .next t ∧
        (good → t.drives[n].fe.lockBit = bit ∧ t.g Od.RC_STATE n = (if s.drives[n].fe.crit ≠ 0 then 3 else 2)) ∧
        (¬good → t.drives[n].fe.lockBit = 0 ∧ t.od = s.od) ∧ (∀ m : Drive, m ≠ n → t.drives[m] = s.drives[m]))) ∧
  (∀ (s : State) (n : Drive) (x e : List Int), LiveFe s n →
    ((s.drives[n].fe.reading && s.drives[n].fe.lockBit != 0) = false → exec (.frameSync n x e) s = .next s) ∧
    ((s.drives[n].fe.reading && s.drives[n].fe.lockBit != 0) = true →
      ∃ t, exec (.frameSync n x e) s = .next t ∧ t.drives[n].fe.det.fed = s.drives[n].fe.det.fed + x.length ∧
        (∀ m : Drive, m ≠ n → t.drives[m] = s.drives[m]))) ∧
  (∀ (s : State) (n : Drive) (crit : Fin 4) (value ref bit : Nat), LiveFe s n →
    let fe := s.drives[n].fe
    let judged := criterion s n crit value ref
    (fe.crit.getLsbD crit = false → (judged.1 = false ∨ critEvaluated s n crit = false) →
      exec (.winnowerCriterion n crit value ref bit) s = .next s) ∧
    (fe.crit.getLsbD crit = false → judged.1 = true → critEvaluated s n crit = true → fe.armed = false →
      ∃ t, exec (.winnowerCriterion n crit value ref bit) s = .next t ∧
        t.drives[n].fe.crit = (fe.crit ||| BitVec.twoPow 4 crit) ∧
        t.drives[n].fe.spans = (if fe.reading then fe.spans ++ [⟨crit, bit, none⟩] else fe.spans) ∧
        t.g Od.RC_STATE n = (if fe.reading then 3 else s.g Od.RC_STATE n) ∧ ObjectsKept [Od.RC_STATE.el n] s t) ∧
    (fe.crit.getLsbD crit = true → judged.2 = false → exec (.winnowerCriterion n crit value ref bit) s = .next s) ∧
    (fe.crit.getLsbD crit = true → judged.2 = true →
      ∃ t, exec (.winnowerCriterion n crit value ref bit) s = .next t ∧
        t.drives[n].fe.crit = (fe.crit &&& ~~~ BitVec.twoPow 4 crit) ∧
        (fe.reading = true → fe.crit = BitVec.twoPow 4 crit → t.g Od.RC_STATE n = if fe.lockBit ≠ 0 then 2 else 1))) ∧
  (∀ (s : State) (n : Drive) (p : List Byte), LiveFe s n →
    let idx := fieldOf (ofLe (p.take 2)) 10 0
    (s.drives[n].rx = none → exec (.readDataCell n p) s = .next s) ∧
    (∀ rx, s.drives[n].rx = some rx →
      ((rx.tag ≠ fieldOf (ofLe (p.take 2)) 15 12 ∨ 1032 ≤ idx ∨ rx.status ≠ none) → exec (.readDataCell n p) s = .next s) ∧
      (rx.tag = fieldOf (ofLe (p.take 2)) 15 12 → idx < 1032 → rx.status = none →
        exec (.readDataCell n p) s = .next (s.setDv n fun d => { d with rx := some { rx with
          cells := Keyed.insert rx.cells idx (padTo 92 p)
          last := if (ofLe (p.take 2)).testBit 11 then some idx else rx.last } })))) ∧
  (∀ (s : State) (n : Drive) (p : List Byte), LiveFe s n → s.drives[n].fe.reading = false →
    let st := ofLe (slice 2 1 (padTo 92 p))
    ∃ t, exec (.readSummary n p) s = .next t ∧ t.g Od.RC_GATE_CNT n = (s.g Od.RC_GATE_CNT n + 1) % 2 ^ 32 ∧
      t.g Od.RC_ACQ_FAIL_CNT n = (if st = 1 then (s.g Od.RC_ACQ_FAIL_CNT n + 1) % 2 ^ 32 else s.g Od.RC_ACQ_FAIL_CNT n) ∧
      (st = 0 → t.g Od.RC_PHASE_RMS n = ofLe (slice 38 2 (padTo 92 p)) ∧ t.g Od.RC_AGC_GAIN n = ofLe (slice 44 2 (padTo 92 p))) ∧
      (∀ rx, s.drives[n].rx = some rx → rx.tag = ofLe (slice 1 1 (padTo 92 p)) % 16 → rx.status = none → st = 0 →
        s.drives[n].cal.eqLeft = 0 → t.drives[n].rx = some { rx with status := some 0 } ∧ t.drives[n].acqFails = 0)) ∧
  (∀ (s : State) (n : Drive) (down : Bool) (slot : Fin 8) (c : List Byte), Live s →
    let link : Fin 21 := ⟨n.val, by omega⟩
    (s.glUp n = false → exec (.bulkCell link down slot c) s = .next s) ∧
    (s.glUp n = true → bulkOk 92 c = false → ∃ t, exec (.bulkCell link down slot c) s = .next t ∧
      t.g Od.GL_CRC_CNT n = (s.g Od.GL_CRC_CNT n + 1) % 2 ^ 32) ∧
    (s.glUp n = true → bulkOk 92 c = true → down = false → ofLe (slice 1 1 c) = 1 →
      ∃ t, exec (.bulkCell link down slot c) s = .next t ∧ t.drives[n].ackNext = putBit s.drives[n].ackNext slot.val true ∧
        t.drives[n].rx = (readDataCell s n (slice 4 (min 92 (ofLe (slice 3 1 c))) c)).drives[n].rx ∧ t.od = s.od)) ∧
  (∀ (s : State) (i : Stage) (down : Bool) (slot : Fin 8) (c : List Byte), Live s →
    let link : Fin 21 := ⟨16 + i.val, by omega⟩
    (bulkOk 70 c = true → ∃ t, exec (.bulkCell link down slot c) s = .next t ∧ t.od = s.od ∧ t.drives = s.drives ∧
      t.motion.stages[i].ackNext = (if down then s.motion.stages[i].ackNext else putBit s.motion.stages[i].ackNext slot.val true)) ∧
    (bulkOk 70 c = false → ∃ t, exec (.bulkCell link down slot c) s = .next t ∧
      t.g Od.SL_CRC_CNT i = (s.g Od.SL_CRC_CNT i + 1) % 2 ^ 32)) ∧
  (∀ (s : State) (n : Drive), Live s →
    exec (.bulkCellResendExhausted n true) s = .next (s.setDv n fun d => { d with rx := none }) ∧
    exec (.bulkCellResendExhausted n false) s = .next (s.setDv n fun d => { d with
      bulk := d.bulk.filter fun c => c.kind != 2, toSend := d.toSend.filter fun e => !(e.kind == 1)
      fe := { d.fe with fifo := 0 } }))

/-- Decoding (R316, R318), verification (R326, R327), stooks (R333 to R336) and the recognition of a disc (R322). -/
def Obligations.SheavesStooksAndDiscsAreJudged : Prop :=
  (∀ (s : State) (n : Drive), Live s →
    (s.media.cur[n] = none → exec (.sheafDecode n) s = .next (keep s (settle s)) ∧ exec (.sheafVerify n) s = .next (keep s (settle s))) ∧
    (∀ o rx, s.media.cur[n] = some o → s.drives[n].rx = some rx → o.todo = [] → o.verifying = false →
      (3 ≤ s.drives[n].acqFails → exec (.sheafDecode n) s = .next (keep s (settle (sheafLost s n o)))) ∧
      (s.drives[n].acqFails < 3 → rx.status ≠ some 0 → exec (.sheafDecode n) s = .next (keep s (settle s))) ∧
      (s.drives[n].acqFails < 3 → rx.status = some 0 →
        let r := readSheaf (s.g Od.INNER_TRUST) (physSlot (s.physSheaf n (s.homePhys o.disc o.dz o.q))) (rxFrames rx)
        exec (.sheafDecode n) s = .next (keep s (settle (match r.sheaf with
          | some (m, user) =>
            if o.kind = .stook then memberRead (endOp (countRows s n r) n) o m user
            else deliverSheaf (endOp (countRows s n r) n) o m.firstLba m.valid user
          | none =>
            if o.lr = false ∧ o.rereads < s.g Od.REREAD_MAX then
              ((countRows s n r).setCur n (some { o with rereads := o.rereads + 1 })).setDv n fun d => { d with rx := none }
            else sheafLost (countRows s n r) n o))) ∧
          (countRows s n r).g Od.CODEC_ROW_ERASED_CNT n =
            (s.g Od.CODEC_ROW_ERASED_CNT n + (r.rows.filter fun w => w.data.isNone).length) % 2 ^ 64)) ∧
    (∀ o rx w rest, s.media.cur[n] = some o → s.drives[n].rx = some rx → o.wrote = w :: rest → o.verifying = true → rx.status = some 0 →
      s.drives[n].acqFails < 3 → o.todo = [] → rest = [] →
        let r := readSheaf (s.g Od.INNER_TRUST) (physSlot w.phys) (rxFrames rx)
        let u := (powerAdjust (countRows s n r) n (physLayer w.phys)).setDv n fun d => { d with rx := none, acqFails := 0 }
        exec (.sheafVerify n) s = .next (keep s (settle (
          if verifies u r = true then writeEnd (sheafVerified u n o w).1 n { (sheafVerified u n o w).2 with wrote := [] }
          else match replaceSheaf u n o w true with
            | (u, some v) => u.setCur n (some { o with wrote := [], todo := [v], verifying := false })
            | (u, none) => endOp u n))))) ∧
  (∀ (s : State) (f : Nat) (z q d : Nat), Live s →
    (s.media.rebuilds.find? fun r => r.family == f && r.dz == z && r.q == q && r.disc == d) = none →
      exec (.stookSolve f z q d) s = .next (keep s (settle s)) ∧ exec (.stookRebuildFail f z q d) s = .next (keep s (settle s))) ∧
  (∀ (s : State) (f : Nat) (z q d : Nat) (r : Rebuild), Live s →
    (s.media.rebuilds.find? fun r => r.family == f && r.dz == z && r.q == q && r.disc == d) = some r →
    let k := fieldOf (s.g Od.STOOK_FAM_KM f) 3 0
    (r.have_.length < k → exec (.stookSolve f z q d) s = .next (keep s (settle s))) ∧
    ((r.toRead ≠ [] ∨ k ≤ r.have_.length) → exec (.stookRebuildFail f z q d) s = .next (keep s (settle s))) ∧
    (k ≤ r.have_.length → r.op.kind = .parity → exec (.stookSolve f z q d) s = .next (keep s (settle
      (match stookRebuild k (fieldOf (s.g Od.DISC_STOOK d) 13 10) r.have_ with
       | some user => memberWrite (rebuildEnd (mediaUses s 1) r) r .parity user
       | none => s)))) ∧
    (r.toRead = [] → r.have_.length < k → r.op.kind ≠ .parity →
      exec (.stookRebuildFail f z q d) s = .next (keep s (settle
        (failSheaf (raise ((rebuildEnd s r).inc Od.STOOK_FAIL_CNT f) Src.stookFail f) r.op))))) ∧
  (∀ (s : State) (f : Nat) (z q : Nat), Live s →
    ((Keyed.find? s.media.unprot (stookKey f z q)).isSome = false ∨ fieldOf (s.g Od.STOOK_FAM_KM f) 3 0 = 0) →
      exec (.stookParityWrite f z q) s = .next s) ∧
  (∀ (s : State) (f : Nat) (z q d : Nat), Live s → (Keyed.find? s.media.unprot (stookKey f z q)).isSome = true →
    (∀ u ∈ s.media.unprot, ¬(stookKey f z 0 ≤ u.1 ∧ u.1 < stookKey f z q)) →
    (∀ r ∈ s.media.rebuilds, ¬(r.family = f ∧ r.dz = z ∧ r.q = q)) →
    let k := fieldOf (s.g Od.STOOK_FAM_KM f) 3 0
    k ≠ 0 → (∀ p < k, ∃ m w, s.stookDisc f p = some m ∧ memberReady s m z q = some w) →
    fieldOf (s.g Od.STOOK_FAM_KM f) 6 4 = 1 → s.stookDisc f k = some d →
    (Keyed.getD s.media.parity (stookKey f z q) 0).testBit 0 = false →
    ∃ r : Rebuild, (r.family, r.dz, r.q, r.disc) = (f, z, q, d) ∧ r.op.kind = .parity ∧ r.op.disc = d ∧
      exec (.stookParityWrite f z q) s = .next (keep s (rebuildNext s r))) ∧
  (∀ (s : State) (n : Drive) (disc : List (Nat × SlotRead)), Live s →
    let ready := s.g Od.MEDIA_STATE n = 1 ∧ s.drives[n].cal.eqDone = true ∧ s.g Od.CAL_STATE n = 0 ∧ s.g Od.ANGLE_STATE n = 3
    let d := s.g Od.DRV_DISC n
    (¬ready → exec (.discRecognition n disc) s = .next s) ∧
    (ready → discInfoOf disc = none → ((List.range 16).all fun k => slotAt disc (physOf 0 k) == .blank) = true →
      exec (.discRecognition n disc) s = .next (keep s (restoreEnd (setMedia s n 3 0) n d false))) ∧
    (ready → discInfoOf disc = none → ((List.range 16).all fun k => slotAt disc (physOf 0 k) == .blank) = false →
      exec (.discRecognition n disc) s = .next (keep s (restoreEnd (faultDrive (setMedia s n 4 2) n 7) n d false))) ∧
    (ready → ∀ media layers id slots, discInfoOf disc = some (media, layers, id, slots) →
      ((media ≠ s.discMedia d ∨ layers ≠ (mediaOf media).layers ∨ slots ≠ (mediaOf media).slots) →
        exec (.discRecognition n disc) s = .next (keep s (restoreEnd (faultDrive (setMedia s n 4 1) n 7) n d false))) ∧
      (media = s.discMedia d → layers = (mediaOf media).layers → slots = (mediaOf media).slots →
        let i := buildList media id disc
        let i := if media = 2 then { i with repl := i.repl.filter fun p => stillWritten s d p.1 } else i
        let u := spareReport (powersInit (setMedia ((s.setDisc n (some i)).p Od.DRV_DISC_ID n id) n 2 0) n true) n
        exec (.discRecognition n disc) s = .next (keep s (restoreEnd u n d (restoreCheck u n d disc))))))

/-- The servo's own progress (R192, R199 to R208, R212, R214). -/
def Obligations.ServoAcquiresJumpsAndSeeks : Prop :=
  (∀ (s : State) (n : Drive), Live s →
    ((s.focusReady n && s.drives[n].cal.focusDone == 15) = false → exec (.focusAcquisition n) s = .next s) ∧
    ((s.focusReady n && s.drives[n].cal.focusDone == 15) = true →
      ∃ t, exec (.focusAcquisition n) s = .next t ∧ t.drives[n].target = wantLayer s n ∧
        t.drives[n].proc = .sweep 1 false false 0 false 0 false ∧ t.drives[n].fcmd = s.gsi Od.FOCUS_SWEEP_START ∧
        t.g Od.DRIVE_SERVO_STATE n = 2 ∧ ObjectsKept [Od.DRIVE_SERVO_STATE.el n] s t)) ∧
  (∀ (s : State) (n : Drive) (r : Nat), Live s → s.drives[n].proc = .pullIn r →
    (s.drives[n].focusClosed = true → s.drives[n].trackClosed = false → s.balanceDone n = true →
      (s.ax (sledOf n)).move = none → s.drives[n].hold = none → crossingRate s n ≤ s.gs Od.TRACK_PULLIN_RATE →
      ∃ t, exec (.trackingPullIn n) s = .next t ∧ t.drives[n].trackClosed = true ∧ t.drives[n].proc = .idle ∧
        t.drives[n].fe.armed = true ∧ t.g Od.DRIVE_SERVO_STATE n = 4 ∧ ObjectsKept [Od.DRIVE_SERVO_STATE.el n] s t) ∧
    ((s.drives[n].focusClosed = false ∨ s.drives[n].trackClosed = true ∨ s.gs Od.TRACK_PULLIN_RATE < crossingRate s n) →
      exec (.trackingPullIn n) s = .next s) ∧
    (s.g Od.REV_COUNT n < r + 4 → exec (.trackPullInTimeout n) s = .next s) ∧
    (r + 4 ≤ s.g Od.REV_COUNT n → s.balanceDone n = true →
      exec (.trackPullInTimeout n) s = .next (keep s (loseLock s n 1 false)))) ∧
  (∀ (s : State) (n : Drive), LiveFe s n →
    ((s.drives[n].focusClosed && s.drives[n].trackClosed && s.g Od.ANGLE_STATE n == 1) = false →
      exec (.wobbleLock n) s = .next s) ∧
    ((s.drives[n].focusClosed && s.drives[n].trackClosed && s.g Od.ANGLE_STATE n == 1) = true →
      exec (.wobbleLock n) s = .next ((s.p Od.ANGLE_STATE n 2).setDv n fun d => { d with addrGood := 0, addrBad := 0 }))) ∧
  (∀ (s : State) (n : Drive), Live s → s.drives[n].proc = .idle →
    (wantLayer s n = s.g Od.CUR_LAYER n → exec (.layerJump n) s = .next s) ∧
    (s.drives[n].focusClosed = true → s.drives[n].hold = none → wantLayer s n ≠ s.g Od.CUR_LAYER n →
      s.drives[n].fe.gate = none →
      ∃ t, exec (.layerJump n) s = .next t ∧ t.drives[n].focusClosed = false ∧ t.drives[n].trackClosed = false ∧
        t.g Od.DRIVE_SERVO_STATE n = 6 ∧
        t.drives[n].target = (if s.g Od.CUR_LAYER n < wantLayer s n then s.g Od.CUR_LAYER n + 1 else s.g Od.CUR_LAYER n - 1))) ∧
  (∀ (s : State) (n : Drive) (up : Bool) (phase left since : Nat) (fe : Int), Live s →
    s.drives[n].proc = .jump up phase left fe since →
    (since < s.gs Od.LAYER_JUMP_WINDOW → exec (.layerJumpTimeout n) s = .next s) ∧
    (s.gs Od.LAYER_JUMP_WINDOW ≤ since → exec (.layerJumpTimeout n) s = .next (sweepStart s n 1 false))) ∧
  (∀ (s : State) (n : Drive), Live s →
    ((s.drives[n].focusClosed && s.drives[n].trackClosed && decide (2 ≤ s.g Od.ANGLE_STATE n)) = false →
      exec (.landGrooveSwitch n) s = .next s) ∧
    ((s.drives[n].focusClosed && s.drives[n].trackClosed && decide (2 ≤ s.g Od.ANGLE_STATE n)) = true →
      ∃ t, exec (.landGrooveSwitch n) s = .next t ∧ t.drives[n].lg = s.gs Od.LG_HOLD_SAMPLES ∧
        (s.g Od.DRV_STATE n = 1 → t.drives[n].land = s.drives[n].land ∧ t.od = s.od) ∧
        (s.g Od.DRV_STATE n ≠ 1 → t.drives[n].land = !s.drives[n].land ∧
          t.g Od.CUR_TRACK n = (s.g Od.CUR_TRACK n + 1) % 2 ^ 32 ∧ ObjectsKept [Od.CUR_TRACK.el n] s t))) ∧
  (∀ (s : State) (n : Drive), Live s →
    (s.seekReady n = false → exec (.fineSeek n) s = .next s ∧ exec (.longSeek n) s = .next s) ∧
    (∀ t d, s.seekReady n = true → ((seekWay s n).bind fun w => seekGoal w.1 w.2) = some (t, d) →
      (d.natAbs ≤ s.gs Od.SEEK_SHORT_MAX → exec (.longSeek n) s = .next s ∧
        exec (.fineSeek n) s = .next (keep s (((openTracking s n).p Od.DRIVE_SERVO_STATE n 5).setDv n fun x =>
          { x with proc := .seek t 1 false, land := decide (t % 2 = 1) }))) ∧
      (s.gs Od.SEEK_SHORT_MAX < d.natAbs → exec (.fineSeek n) s = .next s ∧
        exec (.longSeek n) s = .next (keep s (
          let u := ((openTracking s n).p Od.DRIVE_SERVO_STATE n 5).setDv n fun x =>
            { x with proc := .seek t 0 true, land := decide (t % 2 = 1) }
          startMove u (sledOf n) ((u.ax (sledOf n)).pos / 65536 + seekMicrosteps u d) .seek))))) ∧
  (∀ (s : State) (n : Drive) (w t tries : Nat) (long : Bool), LiveFe s n → s.drives[n].proc = .seek t tries long →
    (s.drives[n].trackClosed = false → exec (.seekEnd n w) s = .next s) ∧
    (s.drives[n].trackClosed = true → wordTrack w = t → nextPlace s n = none →
      exec (.seekEnd n w) s = .next (((s.p Od.CUR_TRACK n t).p Od.DRIVE_SERVO_STATE n 4).setDv n fun d => { d with proc := .idle })) ∧
    (s.drives[n].trackClosed = true → wordTrack w ≠ t → tries < s.gs Od.SEEK_FINE_ATTEMPTS →
      exec (.seekEnd n w) s = .next (keep s ((openTracking (s.p Od.CUR_TRACK n (wordTrack w)) n).setDv n fun d =>
        { d with proc := .seek t (tries + 1) false }))) ∧
    (s.drives[n].trackClosed = true → wordTrack w ≠ t → s.gs Od.SEEK_FINE_ATTEMPTS ≤ tries →
      exec (.seekEnd n w) s = .next (keep s (loseLock (s.p Od.CUR_TRACK n (wordTrack w)) n 2 false)))) ∧
  (∀ (s : State) (n : Drive), Live s →
    (s.drives[n].hold = none → exec (.defectHoldMaxExpiry n) s = .next s) ∧
    (∀ h, s.drives[n].hold = some h → (h.count < s.gs Od.DEFECT_HOLD_MAX → exec (.defectHoldMaxExpiry n) s = .next s) ∧
      (s.gs Od.DEFECT_HOLD_MAX ≤ h.count → s.drives[n].sumLow = 0 → exec (.defectHoldMaxExpiry n) s = .next (keep s
        (loseLock ((s.inc Od.DEFECT_HOLD_OVER_CNT n).setDv n fun d => { d with hold := none }) n 1 false)))))

/-- Angle events (R191, R195, R196, R261, R294, R295), resets (R218, R219, R222) and faults of the front end (R220, R263). -/
def Obligations.AngleEventsFaultsAndResets : Prop :=
  (∀ (s : State) (n : Drive) (id : Nat), LiveFe s n →
    ((s.drives[n].fe.events.find? fun e => e.id == id) = none → exec (.angleEventExecute n id) s = .next s) ∧
    (∀ e, (s.drives[n].fe.events.find? fun e => e.id == id) = some e →
      let dark := s.drives[n].fe.selfSafe || s.drives[n].fe.laserFault || s.drives[n].rail5Low || !s.pins.laserEn.getLsbD n
      (e.kind = 2 → s.drives[n].fe.gate = none → dark = false →
        ∃ t, exec (.angleEventExecute n id) s = .next t ∧ t.drives[n].fe.gate = some ⟨e, false⟩ ∧ t.drives[n].fe.lockBit = 0 ∧
          t.drives[n].fe.fifoRead = [] ∧ t.drives[n].fe.doneId = id % 256 ∧ t.g Od.RC_STATE n = 1 ∧
          ObjectsKept [Od.RC_STATE.el n] s t) ∧
      (e.kind = 2 → s.drives[n].fe.gate = none → dark = true → exec (.angleEventExecute n id) s = .next (feTake s n id false)) ∧
      (e.kind = 3 → s.drives[n].fe.gate = none → exec (.angleEventExecute n id) s = .next ((feTake s n id false).setDv n
        fun d => { d with fe := { d.fe with power := e.arg % 16384 }, laserPwr := e.arg % 16384 })) ∧
      (e.kind = 3 → ∀ g, s.drives[n].fe.gate = some g → g.write = false → exec (.angleEventExecute n id) s = .next
        ((feTake s n id false).setDv n fun d => { d with fe := { d.fe with stepWaiting := some e } })) ∧
      (e.kind = 1 → dark = false → s.drives[n].inhibit = false → 1 < s.drives[n].laserMode → s.drives[n].fe.fifo < 82560 →
        exec (.angleEventExecute n id) s = .next
          ((feTake s n id false).setDv n fun d => { d with fe := { d.fe with underrun := true } })) ∧
      (e.kind = 1 → (dark = true ∨ s.drives[n].inhibit = true ∨ s.drives[n].laserMode ≤ 1) →
        exec (.angleEventExecute n id) s = .next (feTake s n id false)))) ∧
  (∀ (s : State) (n : Drive) (id : Nat), LiveFe s n →
    ((s.drives[n].fe.events.any fun e => e.id == id) = false → (s.drives[n].outstanding.any fun e => e.id == id) = false →
      exec (.evtLate n id) s = .next s) ∧
    ((s.drives[n].outstanding.any fun e => e.id == id) = true →
      ∃ t, exec (.evtLate n id) s = .next t ∧ t.g Od.ANGLE_SLIP_CNT n = (s.g Od.ANGLE_SLIP_CNT n + 1) % 2 ^ 32 ∧
        t.drives[n].rx = none ∧ t.drives[n].fe.late = true ∧ (t.drives[n].outstanding.any fun e => e.id == id) = false ∧
        ObjectsKept [Od.ANGLE_SLIP_CNT.el n] s t)) ∧
  (∀ (s : State) (n : Drive), Live s → s.writeCodeOf 0 Od.DRIVE_RESET n = 0 →
    (s.driveDeclared n = false → exec (.driveReset n) s = .next (s.answer 0 0)) ∧
    (s.driveDeclared n = true → ∃ t, exec (.driveReset n) s = .next t ∧ t.g Od.DRIVE_FAULT n = 0 ∧
      t.g Od.DRIVE_SERVO_STATE n = 0 ∧ t.out.getLast? = some (.answer 0 0 []))) ∧
  (∀ (s : State) (n : Drive), Live s → s.writeCodeOf 0 Od.FE_RESET n = 0 →
    (s.driveDeclared n = false → exec (.feReset n) s = .next (s.answer 0 0)) ∧
    (s.driveDeclared n = true → ∃ t, exec (.feReset n) s = .next t ∧ t.pins.feRst.getLsbD n = false ∧
      t.parts.feUp.getLsbD n = false ∧ t.drives[n].resetting = true ∧ t.out.getLast? = some (.answer 0 0 []))) ∧
  (∀ (s : State) (n : Drive), Live s →
    (s.g Od.DRIVE_FAULT n = 0 → exec (.driveFaultTimeout (some n)) s = .next (keep s (settle s))) ∧
    (s.g Od.PICK_STATE ≠ 2 → exec (.driveFaultTimeout none) s = .next (keep s (settle s))) ∧
    (s.g Od.DRIVE_FAULT n ≠ 0 → s.media.cur[n] = none →
      exec (.driveFaultTimeout (some n)) s = .next (keep s (opsFault (settle (if s.g Od.DRV_DISC n = 0xFFFF then s
        else failDisc s (s.g Od.DRV_DISC n) .internalError false)) 1 (· == s.g Od.DRV_DISC n))))) ∧
  (∀ (s : State) (n : Drive), LiveFe s n →
    let p := s.pwr.dom[(⟨5 + n.val, by omega⟩ : Fin 21)]
    ((p = .off ∨ p = .exiting) → exec (.selfSafe n) s = .next s) ∧
    (p ≠ .off → p ≠ .exiting → ∃ t, exec (.selfSafe n) s = .next t ∧ t.drives[n].fe.selfSafe = true ∧
      t.drives[n].fe.gate = none ∧ t.drives[n].fe.events = [] ∧ t.drives[n].fe.power = 0 ∧ t.g Od.RC_STATE n = 0) ∧
    (∃ t, exec (.laserFault n) s = .next t ∧ t.drives[n].fe.laserFault = true ∧ t.drives[n].fe.gate = none ∧
      t.drives[n].fe.power = 0 ∧ t.g Od.RC_STATE n = 0)) ∧
  (∀ (s : State) (n : Drive), Live s →
    (s.drives[n].retraining = false → exec (.giperlinkAligned n) s = .next s) ∧
    (s.drives[n].retraining = true → exec (.giperlinkAligned n) s = .next (s.setDv n fun d => { d with
      retraining := false, missUp := 0, sent := [], fe := { d.fe with selfSafe := false, missDown := 0 } })) ∧
    (s.drives[n].retraining = false → s.pwr.dom[(⟨5 + n.val, by omega⟩ : Fin 21)] ≠ .exiting →
      exec (.giperlinkRetrainTimeout n) s = .next s) ∧
    (s.drives[n].retraining = true → exec (.giperlinkRetrainTimeout n) s = .next (keep s (feReset s n))) ∧
    ((s.drives[n].resetting = false ∨ s.driveDeclared n = false ∨ s.pwr.railOut ≠ 0) →
      exec (.feResetRelease n) s = .next s) ∧
    (s.drives[n].resetting = true → s.driveDeclared n = true → s.pwr.railOut = 0 →
      ∃ t, exec (.feResetRelease n) s = .next t ∧ t.pins.feRst.getLsbD n = true ∧ t.g Od.CAL_STATE n = 1 ∧
        ObjectsKept [Od.CAL_STATE.el n] s t))

/-- The two periodic exchanges (R184 to R188, R221, R224, R225, R361, R362, R390) and R74's instants. -/
def Obligations.PeriodicExchangesSendAndMiss : Prop :=
  (∀ s : State, Live s →
    (∃ t, exec .superframeSend s = .next t ∧ t.sf = s.sf + 1 ∧ t.servoImg = none ∧ t.stageImg = s.stageImg ∧
      ((∀ n : Drive, s.glUp n = false) → t = { s with sf := s.sf + 1, servoImg := none })) ∧
    (∃ t, exec .motionTickSend s = .next t ∧ t.g Od.MOT_TICK = (s.g Od.MOT_TICK + 1) % 2 ^ 64 ∧
      t.stageImg = Vector.replicate 5 none ∧ t.servoImg = s.servoImg)) ∧
  (∀ (s : State) (n : Drive) (st ack : Nat) (a b : CellCopy), LiveFe s n →
    (s.glUp n = false → exec (.upstreamACell n st ack a b) s = .next s ∧ exec (.upstreamACellMissed n) s = .next s) ∧
    (s.glUp n = true → crc32c a.bytes ≠ a.crc → crc32c b.bytes ≠ b.crc →
      exec (.upstreamACell n st ack a b) s = exec (.upstreamACellMissed n) s) ∧
    (s.glUp n = true → s.drives[n].missUp < 7 →
      ∃ t, exec (.upstreamACellMissed n) s = .next t ∧ t.g Od.GL_MISS_CNT n = (s.g Od.GL_MISS_CNT n + 1) % 2 ^ 32 ∧
        t.drives[n].missUp = s.drives[n].missUp + 1 ∧ ObjectsKept [Od.GL_MISS_CNT.el n] s t) ∧
    (s.glUp n = true → crc32c a.bytes = a.crc → st.testBit 1 = false →
      exec (.upstreamACell n st ack a b) s = .next (keep s (cellUp (driveAck s n ack) n (UpCell.parse (padTo 64 a.bytes))))) ∧
    (s.glUp n = true → crc32c a.bytes ≠ a.crc → crc32c b.bytes = b.crc → st.testBit 1 = false →
      exec (.upstreamACell n st ack a b) s = .next (keep s
        (cellUp (driveAck (s.inc Od.GL_REPEAT_CNT n) n ack) n (UpCell.parse (padTo 64 b.bytes)))))) ∧
  (∀ (s : State) (i : Stage) (st ack : Nat) (c : CellCopy), LiveStage s i →
    (s.stageLink i = false → exec (.stageUpstreamTick i st ack c) s = .next s) ∧
    (s.stageLink i = true → crc32c c.bytes ≠ c.crc → exec (.stageUpstreamTick i st ack c) s = .next (keep s (stageMissed s i))) ∧
    (s.stageLink i = true → crc32c c.bytes = c.crc → st.testBit 1 = false →
      exec (.stageUpstreamTick i st ack c) s = .next (keep s (stageUp (stageAck s i ack) i (padTo 320 c.bytes)))))

/-- Spindles and the carousel's resolver (R227, R231, R243 to R248, R254, R256). -/
def Obligations.SpindleStartsStopsAndFaults : Prop :=
  (∀ (s : State) (n : Drive), Live s →
    (s.g Od.SPIN_STATE n = 1 → s.g Od.HFI_SETTLE ≤ (s.mot (spindleOf n)).ticks →
      exec (.hfiAlignDone n) s = .next ((s.p Od.SPIN_STATE n 2).setMot (spindleOf n) fun m => { m with ticks := 0 })) ∧
    ((s.g Od.SPIN_STATE n ≠ 1 ∨ (s.mot (spindleOf n)).ticks < s.g Od.HFI_SETTLE) → exec (.hfiAlignDone n) s = .next s)) ∧
  (∀ (s : State) (n : Drive) (plus minus : Nat), Live s →
    let big := max plus minus
    let small := min plus minus
    let clear := 0 < big ∧ small * (100 + s.g Od.HFI_SIGN_MARGIN) ≤ big * 100
    (s.g Od.SPIN_STATE n ≠ 2 → exec (.hfiSignDecision n plus minus) s = .next s) ∧
    (s.g Od.SPIN_STATE n = 2 → clear → ∃ t, exec (.hfiSignDecision n plus minus) s = .next t ∧ t.g Od.SPIN_STATE n = 3 ∧
      (small ≠ 0 → big * 1000 / small ≤ 65535 → t.g Od.HFI_SIGN_RATIO n = big * 1000 / small) ∧
      (t.mot (spindleOf n)).eangle = (if plus < minus then ((s.mot (spindleOf n)).eangle + 32768) % 65536
        else (s.mot (spindleOf n)).eangle) ∧
      ObjectsKept [Od.SPIN_STATE.el n, Od.HFI_SIGN_RATIO.el n] s t) ∧
    (s.g Od.SPIN_STATE n = 2 → ¬clear → (s.mot (spindleOf n)).attempts < 2 →
      ∃ t, exec (.hfiSignDecision n plus minus) s = .next t ∧ t.g Od.SPIN_STATE n = 1 ∧
        (t.mot (spindleOf n)).attempts = (s.mot (spindleOf n)).attempts + 1) ∧
    (s.g Od.SPIN_STATE n = 2 → ¬clear → 2 ≤ (s.mot (spindleOf n)).attempts →
      let r := signRatio s big small
      exec (.hfiSignDecision n plus minus) s = .next (keep s (spinFault (r.1.p Od.HFI_SIGN_RATIO n r.2) n 1)))) ∧
  (∀ (s : State) (m : Motor), Live s →
    (s.vlim m = false → s.g Od.VLIM_TICKS ≤ (s.mot m).vHigh → ∃ t, exec (.voltageLimitSet m) s = .next t ∧ t.vlim m = true ∧
      t.g Od.VLIM_CNT m = (s.g Od.VLIM_CNT m + 1) % 2 ^ 32 ∧ (t.mot m).vlimTick = s.g Od.MOT_TICK ∧
      Raised (Src.voltageLimit m) s t) ∧
    ((s.vlim m = true ∨ (s.mot m).vHigh < s.g Od.VLIM_TICKS) → exec (.voltageLimitSet m) s = .next s) ∧
    (s.vlim m = true → s.g Od.VLIM_TICKS ≤ (s.mot m).vLow → ∃ t, exec (.voltageLimitClear m) s = .next t ∧ t.vlim m = false ∧
      (m.val < 16 → t.gb Od.SPIN_FLAGS m 2 = false)) ∧
    ((s.vlim m = false ∨ (s.mot m).vLow < s.g Od.VLIM_TICKS) → exec (.voltageLimitClear m) s = .next s)) ∧
  (∀ (s : State) (n : Drive), Live s →
    let m := s.mot (spindleOf n)
    let v := s.gi Od.SPIN_SPEED_MEAS n
    let st := s.g Od.SPIN_STATE n
    (s.vlim (spindleOf n) = true → 3 ≤ st → st ≤ 5 → m.vlimTick + 2000 ≤ s.g Od.MOT_TICK → 400 ≤ m.speeds.length →
      (v - m.speeds.getLastD 0).natAbs * 1000 < v.natAbs * 2 →
      exec (.spinSettled n) s = .next ((s.p Od.SPIN_TARGET n v.toNat).pb Od.SPIN_FLAGS n 2 true)) ∧
    ((s.vlim (spindleOf n) = false ∨ st < 3 ∨ 5 < st) → exec (.spinSettled n) s = .next s) ∧
    ((s.media.cur[n] ≠ none ∨ s.g Od.DRV_STATE n < 2 ∨ st = 0 ∨ 6 ≤ st) → exec (.spinBrake n) s = .next s) ∧
    (s.media.cur[n] = none → 2 ≤ s.g Od.DRV_STATE n → 1 ≤ st → st ≤ 5 →
      ∃ t, exec (.spinBrake n) s = .next t ∧ t.g Od.SPIN_STATE n = (if v.toNat < rpmUnits 180 then 7 else 6)) ∧
    ((st ≠ 7 ∧ st ≠ 8 ∧ st ≠ 9 ∨ m.lowTicks < 4000) → exec (.spinStopped n) s = .next s) ∧
    (st = 9 → 4000 ≤ m.lowTicks → ∃ t, exec (.spinStopped n) s = .next t ∧ t.g Od.SPIN_STATE n = 9 ∧ t.drives[n].laserMode = 0 ∧
      (t.mot (spindleOf n)).tripped = false) ∧
    (st = 7 → m.tripped = false → 4000 ≤ m.lowTicks → s.hasWork n = false →
      ∃ t, exec (.spinStopped n) s = .next t ∧ t.g Od.SPIN_STATE n = 0 ∧ t.g Od.SPIN_TARGET n = 0 ∧
        t.g Od.DRV_STATE n = (if s.g Od.DRV_DISC n = 0xFFFF then 4 else 3) ∧ t.drives[n].focusClosed = false) ∧
    (st ≠ 6 → st ≠ 7 → exec (.spinStopTimeout n) s = .next s) ∧
    ((st = 6 ∨ st = 7) → exec (.spinStopTimeout n) s = .next (keep s (spinFault s n 6))) ∧
    ((st = 1 ∨ st = 2 ∨ (st = 3 ∧ s.spinMeas n < rpmUnits 240)) →
      exec (.spinStartTimeout n) s = .next (keep s (spinFault s n 3))) ∧
    ((st = 0 ∨ 4 ≤ st) → exec (.spinStartTimeout n) s = .next s) ∧
    ((st ≠ 6 ∨ s.hasWork n = false) → exec (.brakeReverse n) s = .next s) ∧
    (st = 6 → s.hasWork n = true → s.driven = true → s.g Od.DRIVE_FAULT n = 0 →
      ∃ t, exec (.brakeReverse n) s = .next t ∧ t = keep s (wakeDrive (spinResume s n) n) ∧
        (spinResume s n).g Od.SPIN_STATE n = 4)) ∧
  (∀ (s : State) (n : Drive) (cause : Nat), s.drives[n].fe.gate = none → (spinFault s n cause).g Od.SPIN_FAULT_CAUSE n = cause % 256 ∧
    (spinFault s n cause).gb Od.DRIVE_FAULT n 6 = true ∧ (spinFault s n cause).g Od.SPIN_TARGET n = 0) ∧
  (∀ (s : State) (n : Drive), Live s → s.scan.lost.getLsbD (motorPart (spindleOf n)) = false →
    ((s.g Od.SPIN_STATE n = 0 ∨ 8 ≤ s.g Od.SPIN_STATE n) → exec (.overcurrent (spindleOf n)) s = .next s) ∧
    (1 ≤ s.g Od.SPIN_STATE n → s.g Od.SPIN_STATE n ≤ 7 →
      exec (.overcurrent (spindleOf n)) s = .next (keep s (spinFault s n 5)))) ∧
  (∀ s : State, Live s →
    (s.scan.lost.getLsbD 21 = false → s.g Od.CAR_STATE = 1 → ∃ t, exec (.overcurrent 16) s = .next t ∧ t.g Od.CAR_STATE = 3 ∧
      t.g Od.PICK_STATE = 2 ∧ t.g Od.PICK_FAULT_CAUSE = Cause.carousel) ∧
    (3 ≤ (s.mot 16).resBad → (s.mot 16).openRate = none → s.g Od.CAR_STATE ≠ 0 →
      ∃ t, exec .resolverFault s = .next t ∧ t.g Od.CAR_STATE = 3 ∧ t.g Od.RES_FAULT_CNT = (s.g Od.RES_FAULT_CNT + 1) % 2 ^ 32 ∧
        t.g Od.PICK_STATE = 2) ∧
    ((s.mot 16).resBad < 3 → exec .resolverFault s = .next s))

/-- Axes (R367, R374, R375, R379 to R383, R387) and their switches (R377, R378). -/
def Obligations.AxesHomeStopAndLatch : Prop :=
  (∀ (s : State) (a : Axis), Live s →
    ((a = 16 ∨ a = 19 ∨ (s.gb Od.MOT_FLAGS a 1 = false ∧ s.gb Od.MOT_FLAGS a 0 = true) ∨ (s.ax a).homeFrom ≠ none ∨
      s.axisHeld a = true) → exec (.homing a) s = .next s) ∧
    (a ≠ 16 → a ≠ 19 → s.gb Od.MOT_FLAGS a 1 = true → (s.ax a).homeFrom = none → s.axisHeld a = false →
      ∃ t, exec (.homing a) s = .next t ∧ t = keep s (homeAxis s a) ∧ (t.ax a).homeFrom = some ((s.ax a).pos / 65536) ∧
        t.g Od.MOT_STATE a = 4) ∧
    ((s.ax a).homeFrom = none → exec (.homingFail a) s = .next s) ∧
    ((s.ax a).homeFrom.isSome = true → (s.ax a).move = none → (s.ax a).stop = .run → s.g Od.MOT_STATE a = 4 →
      (∀ n, axisDrive a = some n → s.drives[n].fe.gate = none) →
      ∃ t, exec (.homingFail a) s = .next t ∧ (t.ax a).homeFrom = none ∧ t.g Od.MOT_STATE a = 5) ∧
    ((s.ax a).resume = none → exec (.moveStart a) s = .next s) ∧
    (∀ x, (s.ax a).resume = some x → (s.ax a).stop = .run → s.axisHeld a = false →
      exec (.moveStart a) s = .next (keep s (startMove s a x .sequence)))) ∧
  (∀ s : State, Live s →
    ((s.gb Od.MOT_FLAGS 16 0 = true ∨ (s.ax 16).homeFrom ≠ none ∨ s.axisHeld 16 = true) → exec .carouselHoming s = .next s) ∧
    (s.gb Od.MOT_FLAGS 16 0 = false → (s.ax 16).homeFrom = none → s.axisHeld 16 = false → s.motion.picker.homing = 0 →
      ∃ t, exec .carouselHoming s = .next t ∧ (t.ax 16).homeFrom = some ((s.ax 16).pos / 65536) ∧ t.g Od.MOT_STATE 16 = 4)) ∧
  (∀ (s : State) (a : Axis), Live s → s.writeCodeOf 0 Od.MOT_HALT a = 0 →
    ((s.ax a).move = none → exec (.motHalt a) s = .next (s.answer 0 0)) ∧
    (∀ m, (s.ax a).move = some m → exec (.motHalt a) s = .next
      (((s.p Od.MOT_STATE a 3).setAx a fun x => { x with
        stop := .profile, move := none, halt := some (x.pos, x.speed, s.g Od.MOT_TICK), after := .none, resume := none }).answer 0 0))) ∧
  (∀ (s : State) (a : Axis), LiveStage s (axisStage a) →
    ((a = 16 ∨ (s.ax a).move = none ∨ (s.ax a).stallRun < s.gm (axisStage a) Od.MOT_STALL_N a) →
      exec (.stall a) s = .next s) ∧
    (∀ n, axisDrive a = some n → s.drives[n].fe.gate = none → (s.ax a).move.isSome = true → s.gm (axisStage a) Od.MOT_STALL_N a ≤ (s.ax a).stallRun →
      ∃ t, exec (.stall a) s = .next t ∧ t.gb Od.MOT_FLAGS a 1 = true ∧ t.gb Od.MOT_FLAGS a 0 = false ∧
        t.gb Od.MOT_FLAGS a 2 = true ∧ t.g Od.MOT_STALL_CNT a = (s.g Od.MOT_STALL_CNT a + 1) % 2 ^ 32 ∧
        t.g Od.MOT_STATE a = 5 ∧ t.gb Od.DRIVE_FAULT n 5 = true) ∧
    ((a = 16 ∨ (s.ax a).move = none) → exec (.limitStop a) s = .next s) ∧
    (∀ n m, axisDrive a = some n → s.drives[n].fe.gate = none → (s.ax a).move = some m → (m.use = .plain ∨ m.use = .sequence ∨ m.use = .seek) →
      ∃ t, exec (.limitStop a) s = .next t ∧ t.gb Od.MOT_FLAGS a 3 = true ∧ (t.ax a).move = none ∧
        t.g Od.MOT_LIMIT_CNT a = (s.g Od.MOT_LIMIT_CNT a + 1) % 2 ^ 32 ∧ t.g Od.MOT_STATE a = 5 ∧ t.gb Od.DRIVE_FAULT n 5 = true)) ∧
  (∀ (s : State) (i : Stage) (input : Fin 8) (rising : Bool) (tick sub : Nat) (pos : Int), LiveStage s i →
    (homeAxisOf i input = none → ¬(i = 4 ∧ input = 6) →
      ∃ t, exec (.switchLatch i input rising tick sub pos) s = .next t ∧
        t.gi Od.MOT_LATCH_POS (8 * i + input) = toInt 32 (ofInt 32 pos) ∧
        t.g Od.MOT_LATCH_SUB (8 * i + input) = sub % 64 + 128 * b2n rising ∧
        t.g Od.MOT_LATCH_TICK (8 * i + input) % 65536 = (if s.g Od.MOT_TICK < 65536 ∧ s.g Od.MOT_TICK < tick % 65536 then 0 else tick % 65536) ∧
        ObjectsKept [Od.MOT_LATCH_POS.el (8 * i + input), Od.MOT_LATCH_TICK.el (8 * i + input),
          Od.MOT_LATCH_SUB.el (8 * i + input)] s t) ∧
    (s.motion.stages[i].level.getLsbD input = rising → exec (.switchInputEdge i input rising tick sub pos) s = .next s) ∧
    (s.motion.stages[i].level.getLsbD input ≠ rising →
      ∃ t, exec (.switchInputEdge i input rising tick sub pos) s = .next t ∧
        t.motion.stages[i].level.getLsbD input = rising ∧
        t.motion.stages[i].latches = s.motion.stages[i].latches ++ [(input.val, rising, tick % 65536, sub % 50, pos)] ∧
        t.od = s.od)) ∧
  (∀ (s : State) (a : Axis) (u : Option Nat), Live s →
    let i := axisStage a
    ((a = 16 ∨ (s.ax a).energised = true ∨ s.stageDeclared i = false ∨ s.pins.bridgeEn.getLsbD i = false ∨
      s.powerDownWanted i = true) → exec (.reEnergise a u) s = .next s) ∧
    (a ≠ 16 → (s.ax a).energised = false → s.stageDeclared i = true → s.pins.bridgeEn.getLsbD i = true →
      s.powerDownWanted i = false → s.motion.stages[i].vbusCut = false → s.motion.stages[i].resetting = false →
      s.motion.stages[i].retraining = false →
      ∃ t, exec (.reEnergise a u) s = .next t ∧ (t.ax a).energised = true ∧ t.g Od.MOT_STATE a = 1 ∧
        t.gb Od.MOT_FLAGS a 4 = false ∧ t.motion.stages[i].energise = true ∧ t.motion.stages[i].linkLost = false ∧
        (∀ v, u = some v → (v : Int) ≠ s.gi Od.MOT_POS a % 1024 → t.gb Od.MOT_FLAGS a 1 = true)))

/-- Stages (R386 to R391, R681) and the picker (R392 to R397). -/
def Obligations.StagesAndPickerFollowTheirRules : Prop :=
  (∀ (s : State) (i : Stage), Live s →
    ((s.powerDownWanted i && s.stageAtRest i) = false → exec (.bridgePowerDown i) s = .next s) ∧
    ((s.powerDownWanted i && s.stageAtRest i) = true → s.motion.stages[i].resetWanted = false →
      ∃ t, exec (.bridgePowerDown i) s = .next t ∧ t = keep s (bridgeDown s i) ∧ t.motion.stages[i].pwrDown = true ∧
        ∀ a ∈ stageSteppers i, (t.ax a).energised = false) ∧
    ((s.motion.stages[i].retraining || s.motion.stages[i].resetting || !s.parts.stageUp.getLsbD i) = true →
      exec (.stageACellMissed i) s = .next s) ∧
    ((s.motion.stages[i].retraining || s.motion.stages[i].resetting || !s.parts.stageUp.getLsbD i) = false →
      s.motion.stages[i].missUp < 3 → exec (.stageACellMissed i) s = .next
        ((s.inc Od.SL_MISS_CNT i).setStage i fun g => { g with missUp := g.missUp + 1 })) ∧
    (s.motion.stages[i].retraining = true →
      exec (.stageLinkAligned i) s = .next (s.setStage i fun g => { g with retraining := false, missUp := 0 })) ∧
    (s.motion.stages[i].retraining = false → exec (.stageLinkAligned i) s = .next s ∧ exec (.stageRetrainTimeout i) s = .next s) ∧
    (s.motion.stages[i].retraining = true → ∃ t, exec (.stageRetrainTimeout i) s = .next t ∧ t.pins.stgRst.getLsbD i = false ∧
      t.parts.stageUp.getLsbD i = false ∧ t.motion.stages[i].resetting = true ∧ t.g Od.STAGE_ID_SEEN i = 0) ∧
    ((s.motion.stages[i].resetting = false ∨ s.stageDeclared i = false ∨ s.pwr.railOut ≠ 0) →
      exec (.stageResetRelease i) s = .next s) ∧
    (s.motion.stages[i].resetting = true → s.stageDeclared i = true → s.pwr.railOut = 0 →
      exec (.stageResetRelease i) s = .next { s with pins := { s.pins with stgRst := s.pins.stgRst ||| BitVec.twoPow 5 i } })) ∧
  (∀ (s : State) (i : Stage), Live s → s.writeCodeOf 0 Od.STAGE_RESET i = 0 →
    (s.stageDeclared i = false → exec (.stageReset i) s = .next (s.answer 0 0)) ∧
    (s.stageDeclared i = true → s.stageAtRest i = true → ∃ t, exec (.stageReset i) s = .next t ∧
      t.pins.stgRst.getLsbD i = false ∧ t.motion.stages[i].resetting = true ∧ t.out.getLast? = some (.answer 0 0 []))) ∧
  (∀ (s : State) (i : Stage), LiveStage s i →
    (∃ t, exec (.vbusLoss i) s = .next t ∧ t.motion.stages[i].vbusCut = true ∧
      ∀ a ∈ stageSteppers i, t.gb Od.MOT_FLAGS a 1 = true ∧ t.gb Od.MOT_FLAGS a 0 = false ∧ (t.ax a).energised = false) ∧
    exec (.vbusReturn i) s = .next (s.setStage i fun g => { g with vbusCut := false }) ∧
    (∃ t, exec (.linkHold i) s = .next t ∧ t.motion.stages[i].linkHold = true ∧ ∀ a ∈ stageSteppers i, (t.ax a).move = none) ∧
    (∃ t, exec (.linkLost i) s = .next t ∧ t.motion.stages[i].linkLost = true ∧ t.motion.stages[i].linkHold = true ∧
      ∀ a ∈ stageSteppers i, t.gb Od.MOT_FLAGS a 1 = true ∧ (t.ax a).energised = false)) ∧
  (∀ s : State, Live s →
    ((s.g Od.PICK_STATE ≠ 0 ∨ s.motion.picker.seq ≠ none ∨ s.axisHeld Pick.car = true ∨ s.g Od.PF_STATE ≠ 0) →
      exec .pickerSequenceStart s = .next s) ∧
    (s.g Od.PICK_STATE = 0 → s.motion.picker.seq = none → s.axisHeld Pick.car = false → s.g Od.PF_STATE = 0 →
      (serveLoads s).pickNext = none → exec .pickerSequenceStart s = .next (keep s (serveLoads s))) ∧
    (∀ r, s.g Od.PICK_STATE = 0 → s.motion.picker.seq = none → s.axisHeld Pick.car = false → s.g Od.PF_STATE = 0 →
      (serveLoads s).pickNext = some r → exec .pickerSequenceStart s = .next (keep s (pickStep
        (((((serveLoads s).setPicker fun p => { p with queue := p.queue.erase r, stalled := false }).p Od.PICK_STATE 0 1)).inc
          Od.LIFE_PICK_SEQ) r 1))) ∧
    (s.motion.picker.seq = none → exec .pickerStepDone s = .next (keep s (settle s))) ∧
    (∀ r k, s.motion.picker.seq = some (r, k) →
      ((s.g Od.PICK_STATE ≠ 1 ∨ s.pickStill r = false) → exec .pickerStepDone s = .next (keep s (settle s))) ∧
      (s.g Od.PICK_STATE = 1 → s.pickStill r = true → exec .pickerStepDone s = .next (keep s (settle (pickStepDone s r k)))))) ∧
  (∀ s : State, Live s → s.writeCodeOf 0 Od.PICK_RESET 0 = 0 →
    ((s.g Od.PICK_STATE = 1 ∨ s.g Od.PICK_STATE = 3 ∨ (s.g Od.PICK_STATE = 2 ∧ s.g Od.PICK_FAULT_CAUSE = Cause.orphan)) →
      exec .pickReset s = .next (s.answer 0 0)) ∧
    (s.g Od.PICK_STATE = 2 → s.g Od.PICK_FAULT_CAUSE ≠ Cause.orphan →
      ∃ t, exec .pickReset s = .next t ∧ t.g Od.PICK_STATE = 3 ∧ t.g Od.PICK_FAULT_CAUSE = 0 ∧ t.motion.picker.homing = 1 ∧
        t.motion.picker.seq = none ∧ t.out.getLast? = some (.answer 0 0 []))) ∧
  (∀ (s : State) (d : Nat), Live s → s.writeCodeOf 0 Od.PICK_PLACE 0 = 0 →
    ((s.discDeclared d = false ∨ (s.driveOf d).isSome = true) → exec (.pickPlace d) s = .next (s.answer 0 0x07)) ∧
    (s.discDeclared d = true → s.driveOf d = none → ¬(s.g Od.PICK_STATE = 2 ∧ s.g Od.PICK_FAULT_CAUSE = Cause.orphan) →
      exec (.pickPlace d) s = .next (s.answer 0 0)) ∧
    (s.discDeclared d = true → s.driveOf d = none → s.g Od.PICK_STATE = 2 → s.g Od.PICK_FAULT_CAUSE = Cause.orphan →
      exec (.pickPlace d) s = .next (keep s
        ((jawCheck (writeDiscRec (s.p Od.PICK_FAULT_CAUSE 0 0) Pick.jaw 1 d)).answer 0 0))))

/-- The clean eviction path and the write path (R497, R509, R511, R513 to R516). -/
def Obligations.OffersAgeingAndWriteStaging : Prop :=
  (∀ s : State, Live s →
    (s.cache.offers = [] → exec .hayloftOffer s = .next s) ∧
    (∀ o rest, s.cache.offers = o :: rest →
      let u : State := { s with cache := { s.cache with offers := rest } }
      let held := (hayFind s o.tag o.ns (o.lba / 16)).bind fun k => s.cache.hay.find? k
      let put := hayPut u o.tag o.ns (o.lba / 16) [(o.lba % 16, o.data)] 2 false
      (s.haySets = 0 → exec .hayloftOffer s = .next (u.inc Od.HAY_OFFER_CNT 5)) ∧
      (s.haySets ≠ 0 → o.streamed = true → exec .hayloftOffer s = .next (u.inc Od.HAY_OFFER_CNT 3)) ∧
      (s.haySets ≠ 0 → o.streamed = false → ∀ l, held = some l → (l.blocks.find? (o.lba % 16)).isSome = true →
        exec .hayloftOffer s = .next (u.inc Od.HAY_OFFER_CNT 2)) ∧
      (s.haySets ≠ 0 → o.streamed = false → s.raked o.tag o.ns o.lba = true →
        (∀ l, held = some l → l.blocks.find? (o.lba % 16) = none) → exec .hayloftOffer s = .next u) ∧
      (s.haySets ≠ 0 → o.streamed = false → s.raked o.tag o.ns o.lba = false → ∀ l, held = some l →
        l.blocks.find? (o.lba % 16) = none → exec .hayloftOffer s = .next (keep s (put.1.inc Od.HAY_OFFER_CNT 0))) ∧
      (s.haySets ≠ 0 → o.streamed = false → s.raked o.tag o.ns o.lba = false → held = none →
        exec .hayloftOffer s = .next (keep s (put.1.inc Od.HAY_OFFER_CNT (if put.2 then 1 else 4)))))) ∧
  (∀ s : State, Live s →
    (∃ t, exec .shelfAgeSweep s = .next t ∧ t = { s with cache := { s.cache with shelf := t.cache.shelf } } ∧
      ∀ k, t.cache.shelf.find? k = (s.cache.shelf.find? k).map fun l => { l with age := min 3 (l.age + 1) }) ∧
    (∃ t, exec .hayloftAgeSweep s = .next t ∧ t = { s with cache := { s.cache with hay := t.cache.hay } } ∧
      ∀ k, t.cache.hay.find? k = (s.cache.hay.find? k).map fun l => { l with age := min 3 (l.age + 1) })) ∧
  (∀ s : State, Live s →
    (s.staged = [] → exec .hayloftStageReserve s = .next s) ∧
    (∀ x rest, s.staged = x :: rest →
      (x.blocks.length ≠ x.nlb ∨ 16384 * s.g Od.HAYLOFT_STAGE_SIZE < s.g Od.HAY_STAGE_USED + x.sheaves →
        exec .hayloftStageReserve s = .next s) ∧
      (x.blocks.length = x.nlb → s.g Od.HAY_STAGE_USED + x.sheaves ≤ 16384 * s.g Od.HAYLOFT_STAGE_SIZE →
        exec .hayloftStageReserve s = .next
          ((s.p Od.HAY_STAGE_USED 0 (s.g Od.HAY_STAGE_USED + x.sheaves)).setCtx x.id fun x => { x with stage := 1 })))) ∧
  (∀ s : State, Live s →
    let first := s.host.ctxs.find? fun x => x.isWrite && x.stage == 1 && x.left != 0
    (first = none ∨ 64 ≤ s.cache.side.length → exec .sideboardMove s = .next s) ∧
    (∀ x, first = some x → s.cache.side.length < 64 →
      let i := x.nlb - x.left
      let e : SideEntry := ⟨x.id, x.lba + i, padTo 4096 (Keyed.getD x.blocks i zeroBlock)⟩
      let u := (((({ s with cache := { s.cache with side := s.cache.side ++ [e] } } : State).inc Od.SIDEBOARD_USED).sub
        Od.STAGE_LINES_USED 0 1)).setCtx x.id fun x => { x with left := x.left - 1 }
      (x.left ≠ 1 → exec .sideboardMove s = .next u) ∧
      (x.left = 1 → exec .sideboardMove s = .next (keep s (handZone u x.ns x.zone))))) ∧
  (∀ s : State, Live s →
    (s.cache.side = [] → exec .sideboardDramWrite s = .next s) ∧
    (∀ e rest, s.cache.side = e :: rest → ∃ t, exec .sideboardDramWrite s = .next t ∧ t.cache.side = rest ∧
      Keyed.find? (Keyed.getD t.cache.stage e.ctx []) e.block = some e.data ∧
      (∀ id lba, (id, lba) ≠ (e.ctx, e.block) →
        Keyed.find? (Keyed.getD t.cache.stage id []) lba = Keyed.find? (Keyed.getD s.cache.stage id []) lba) ∧
      t.g Od.SIDEBOARD_USED = (s.g Od.SIDEBOARD_USED - 1) % 2 ^ Od.SIDEBOARD_USED.bits ∧
      ObjectsKept [Od.SIDEBOARD_USED.el 0] s t ∧ t.host = s.host ∧ t.cache.shelf = s.cache.shelf ∧ t.cache.hay = s.cache.hay))

/-- The Rake (R521 to R524). -/
def Obligations.RakeOperations : Prop :=
  (∀ (s : State) (k : Nat) (c : Instr), Live s →
    (k = 1 ∧ c = .invalidate ∨ k = 2 ∧ c = .demote ∨ k = 3 ∧ c = .prefetch ∨ k = 4 ∧ c = .invalidateAll) →
    (s.cache.rakeRun.isSome = true ∨ s.cache.rakes = [] → exec c s = .next s) ∧
    (∀ r rest, s.cache.rakeRun = none → s.cache.rakes = r :: rest →
      let u : State := { s with cache := { s.cache with rakes := rest, rakeRun := some { r with status := rakeCheck s r } } }
      (r.op ≠ k → exec c s = .next s) ∧
      (r.op = k → rakeCheck s r ≠ 0 → exec c s = .next u) ∧
      (r.op = k → rakeCheck s r = 0 → k = 1 ∨ k = 4 → exec c s = .next (keep s (cacheDrop u r.reaches)) ∧
        ∀ t, exec c s = .next t → ∀ i l, t.cache.shelf.find? i = some l → r.reaches l.tag l.ns l.key = false) ∧
      (r.op = k → rakeCheck s r = 0 → k = 2 → ∃ t, exec c s = .next t ∧
        t = { u with cache := { u.cache with shelf := t.cache.shelf, hay := t.cache.hay } } ∧
        ∀ i, t.cache.shelf.find? i = (s.cache.shelf.find? i).map fun l =>
          if r.reaches l.tag l.ns l.key then { l with age := 3 } else l) ∧
      (r.op = k → rakeCheck s r = 0 → k = 3 → exec c s = .next (keep s
        (u.each (List.range ((r.slba + r.nlb + 15) / 16 - r.slba / 16)) fun s i =>
          prefetchSheaf s (r.nsid - 1) (r.slba / 16 + i) 1 false [rakeMark r.crib]))))) ∧
  (∀ s : State, Live s →
    (s.cache.rakeRun = none → s.cache.rakes = [] → exec .rakeDone s = .next s) ∧
    (∀ r, s.cache.rakeRun = some r → r.op = 3 → r.status = 0 → rakeReading s r.crib = true → exec .rakeDone s = .next s) ∧
    (∀ r, s.cache.rakeRun = some r → r.crib ≤ 32 → ¬(r.op = 3 ∧ r.status = 0 ∧ rakeReading s r.crib = true) →
      ∃ t, exec .rakeDone s = .next t ∧ t.cache = { s.cache with rakeRun := none } ∧ t.g Od.RAKE_BUSY r.crib = 0 ∧
        t.g Od.RAKE_STATUS r.crib = r.status % 2 ^ Od.RAKE_STATUS.bits ∧
        ObjectsKeptEv [Od.RAKE_BUSY.el r.crib, Od.RAKE_STATUS.el r.crib] s t) ∧
    (∀ r rest, s.cache.rakeRun = none → s.cache.rakes = r :: rest → r.op ≠ 0 → exec .rakeDone s = .next s))

/-- Fetching and checking the I/O commands (R408, R414, R419, R439, R440, R460, R478, R554). -/
def Obligations.IoEntriesAreTakenInTurnAndChecked : Prop :=
  ∀ (s : State) (c : Instr) (q : IoQueue) (hdr : IoHdr) (op : IoOp), Live s → ioCommand c = some (q, hdr, op) →
    (s.offered q = false → exec c s = .next s) ∧
    (s.offered q = true → (s.fetching q = false ∨ s.waitingOn q ≠ [] ∨ ioRoom s q op = false) →
      exec c s = .next { s with host := { s.host with waiting := s.host.waiting ++ [⟨q, hdr, op⟩] } }) ∧
    (s.offered q = true → s.fetching q = true → s.waitingOn q = [] → ioRoom s q op = true →
      ∃ u, s.takeEntry q = some u ∧ exec c s = .next (keep s (ioAdmit u q hdr op)) ∧ u.od = s.od ∧ u.host.ctxs = s.host.ctxs) ∧
    (∀ u, Taken s q op u →
      let psdtBad := match q with
        | .sq .. => hdr.psdt ≠ 0
        | .conn _ => False
      let cr := u.queueCrib q
      (u.admin.sanitize.state = 2 → exec c s = .next (keep s (u.complete q hdr.cid .sanitizeInProgress))) ∧
      (u.admin.sanitize.state = 3 → exec c s = .next (keep s (u.complete q hdr.cid .sanitizeFailed))) ∧
      (u.admin.sanitize.state ≠ 2 → u.admin.sanitize.state ≠ 3 →
        ((hdr.fuse ≠ 0 ∨ hdr.reserved = true) → exec c s = .next (keep s ((ioViol u q 3).complete q hdr.cid .invalidField))) ∧
        (hdr.fuse = 0 → hdr.reserved = false →
          (hdr.prpBad = true → exec c s = .next (keep s ((ioViol u q 2).complete q hdr.cid .invalidPrpOffset))) ∧
          (hdr.prpBad = false →
            (opMoves op = true → (hdr.prinfo ≠ 0 ∨ psdtBad) → exec c s = .next (keep s (u.complete q hdr.cid .invalidField))) ∧
            (opMoves op = false → opJob op = false → u.nsOf cr hdr.nsid = none →
              exec c s = .next (keep s ((cribViol u cr 2).complete q hdr.cid .invalidNamespace))) ∧
            (opMoves op = true → hdr.prinfo = 0 → ¬psdtBad → u.nsOf cr hdr.nsid = none →
              exec c s = .next (keep s ((cribViol u cr 2).complete q hdr.cid .invalidNamespace))) ∧
            (opJob op = true → u.g Od.CRIB_SEQ_MAX cr = 0 →
              exec c s = .next (keep s (u.complete q hdr.cid .invalidOpcode))) ∧
            (∀ w r d, op = .job w r d → u.g Od.CRIB_SEQ_MAX cr ≠ 0 → exec c s = .next (keep s (asking q
              (keeping (begun u) (newCtx u q hdr (.job w (r && hdr.nsid == 0) d) noNs)))))))))

/-- READ, WRITE and ZONE_APPEND (R415, R421, R425, R426, R429). -/
def Obligations.ReadsWritesAndAppends : Prop :=
  (∀ (s u : State) (q : IoQueue) (hdr : IoHdr) (lba nlb n : Nat) (lr : Bool) (m : Ns), Live s →
    Taken s q (.read lba nlb lr) u → Passes u q hdr (.read lba nlb lr) n m →
    let done (st : Status) (dnr : Option Bool) : Out := .next (keep s (asking q ((begun u).complete q hdr.cid st dnr)))
    let c : Instr := .read q hdr lba nlb lr
    let x : Ctx := { newCtx u q hdr (.read lba nlb lr) n with zone := lba / zoneBlocks, lba := lba, nlb := nlb }
    ((nlb = 0 ∨ 256 < nlb) → exec c s = done .invalidField none) ∧
    (nlb ≠ 0 → nlb ≤ 256 →
      (m.blocks < lba + nlb → exec c s = done .lbaOutOfRange none) ∧
      (lba + nlb ≤ m.blocks → lba / zoneBlocks ≠ (lba + nlb - 1) / zoneBlocks → exec c s = done .zoneBoundary none) ∧
      (lba + nlb ≤ m.blocks → lba / zoneBlocks = (lba + nlb - 1) / zoneBlocks →
        (u.g Od.NS_KEY_STATE n ≠ 1 → exec c s = done .namespaceNotReady (some true)) ∧
        (u.g Od.NS_KEY_STATE n = 1 → u.zoneOffline n (lba / zoneBlocks) = true → exec c s = done .zoneIsOffline (some true)) ∧
        (u.g Od.NS_KEY_STATE n = 1 → u.zoneOffline n (lba / zoneBlocks) = false →
          exec c s = .next (keep s (asking q (readStart ((keeping (begun u) x).add Od.HAY_LAND_USED 0 x.sheaves) x lr))) ∧
          (lba / zoneBlocks * zoneBlocks + (u.zone n (lba / zoneBlocks)).wp ≤ lba → (∃ f i, q = .sq f i) →
            ∃ t, exec c s = .next t ∧ Output.hostData q hdr.cid (List.replicate (4096 * nlb) 0#8) ∈ t.out))))) ∧
  (∀ (s u : State) (q : IoQueue) (hdr : IoHdr) (lba nlb n : Nat) (d : Option (List Byte)) (m : Ns), Live s →
    Taken s q (.write lba nlb d) u → Passes u q hdr (.write lba nlb d) n m →
    let done (st : Status) (dnr : Option Bool) : Out := .next (keep s (asking q ((begun u).complete q hdr.cid st dnr)))
    let c : Instr := .write q hdr lba nlb d
    let z := lba / zoneBlocks
    ((nlb = 0 ∨ 256 < nlb) → exec c s = done .invalidField none) ∧
    (nlb ≠ 0 → nlb ≤ 256 →
      (m.blocks < lba + nlb → exec c s = done .lbaOutOfRange none) ∧
      (lba + nlb ≤ m.blocks → z ≠ (lba + nlb - 1) / zoneBlocks → exec c s = done .zoneBoundary none) ∧
      (lba + nlb ≤ m.blocks → z = (lba + nlb - 1) / zoneBlocks →
        (u.g Od.NS_KEY_STATE n ≠ 1 → exec c s = done .namespaceNotReady (some true)) ∧
        (u.g Od.NS_KEY_STATE n = 1 →
          (∀ st, writeCheck (begun u) n z nlb (some (lba % zoneBlocks)) = some st →
            exec c s = done st (if st = .zoneIsOffline then some true else none)) ∧
          (writeCheck (begun u) n z nlb (some (lba % zoneBlocks)) = none → d = none →
            exec c s = .next (keep s (asking q (keeping ((writeOpens (begun u) n z).add Od.STAGE_LINES_USED 0 nlb)
              { newCtx u q hdr (.write lba nlb d) n with zone := z, lba := lba, nlb := nlb, left := nlb })))) ∧
          (writeCheck (begun u) n z nlb (some (lba % zoneBlocks)) = none → ∀ b, d = some b →
            exec c s = .next (keep s (asking q (keeping ((writeOpens (begun u) n z).add Od.STAGE_LINES_USED 0 nlb)
              { newCtx u q hdr (.write lba nlb d) n with
                zone := z, lba := lba, nlb := nlb, left := nlb
                blocks := (chunks nlb 4096 b).zipIdx.map fun (b, i) => (i, padTo 4096 b) }))))))) ∧
    (∀ e, (begun u).zone n z = e → e.state ≠ .offline → e.state ≠ .full →
      (zoneBlocks < (begun u).admission n z + nlb → writeCheck (begun u) n z nlb (some (lba % zoneBlocks)) = some .zoneBoundary) ∧
      ((begun u).admission n z + nlb ≤ zoneBlocks → lba % zoneBlocks ≠ (begun u).admission n z →
        writeCheck (begun u) n z nlb (some (lba % zoneBlocks)) = some .zoneInvalidWrite))) ∧
  (∀ (s u : State) (q : IoQueue) (hdr : IoHdr) (lba nlb n : Nat) (d : Option (List Byte)) (m : Ns), Live s →
    Taken s q (.append lba nlb d) u → Passes u q hdr (.append lba nlb d) n m →
    let done (st : Status) (dnr : Option Bool) : Out := .next (keep s (asking q ((begun u).complete q hdr.cid st dnr)))
    let c : Instr := .zoneAppend q hdr lba nlb d
    let z := lba / zoneBlocks
    ((nlb = 0 ∨ 256 < nlb ∨ lba % zoneBlocks ≠ 0) → exec c s = done .invalidField none) ∧
    (nlb ≠ 0 → nlb ≤ 256 → lba % zoneBlocks = 0 →
      (m.blocks ≤ lba → exec c s = done .lbaOutOfRange none) ∧
      (lba < m.blocks → u.g Od.NS_KEY_STATE n ≠ 1 → exec c s = done .namespaceNotReady (some true)) ∧
      (lba < m.blocks → u.g Od.NS_KEY_STATE n = 1 →
        (∀ st, writeCheck (begun u) n z nlb none = some st →
          exec c s = done st (if st = .zoneIsOffline then some true else none)) ∧
        (writeCheck (begun u) n z nlb none = none → d = none →
          exec c s = .next (keep s (asking q (keeping ((writeOpens (begun u) n z).add Od.STAGE_LINES_USED 0 nlb)
            { newCtx u q hdr (.append lba nlb d) n with
              zone := z, lba := lba + (begun u).admission n z, nlb := nlb, left := nlb })))) ∧
        (writeCheck (begun u) n z nlb none = none → ∀ b, d = some b →
          exec c s = .next (keep s (asking q (keeping ((writeOpens (begun u) n z).add Od.STAGE_LINES_USED 0 nlb)
            { newCtx u q hdr (.append lba nlb d) n with
              zone := z, lba := lba + (begun u).admission n z, nlb := nlb, left := nlb
              blocks := (chunks nlb 4096 b).zipIdx.map fun (b, i) => (i, padTo 4096 b) })))))))

/-- The other commands of R413, and R431, R432. -/
def Obligations.ZoneManagementAndDiscOperations : Prop :=
  (∀ (s u : State) (q : IoQueue) (hdr : IoHdr) (n : Nat) (m : Ns), Live s → Taken s q .flush u → Passes u q hdr .flush n m →
    exec (.flush q hdr) s = .next (keep s (asking q ((begun u).complete q hdr.cid .success)))) ∧
  (∀ (s u : State) (q : IoQueue) (hdr : IoHdr) (n : Nat) (m : Ns) (ad : Bool) (rs : List DsmRange), Live s →
    Taken s q (.dsm ad rs) u → Passes u q hdr (.dsm ad rs) n m →
    (ad = true → exec (.datasetManagement q hdr ad rs) s =
      .next (keep s (asking q ((begun u).complete q hdr.cid .invalidField)))) ∧
    (ad = false → ∃ v, exec (.datasetManagement q hdr ad rs) s = .next (keep s (asking q (v.complete q hdr.cid .success))) ∧
      (∀ r ∈ rs, (r.freq = 2 ∨ r.freq = 3) → (u.queueCrib q, n, r.slba, r.nlb) ∈ v.cache.hints) ∧
      ((∀ r ∈ rs, r.sr = false) → (∀ r ∈ rs, r.freq ≠ 2 ∧ r.freq ≠ 3) → v = begun u))) ∧
  (∀ (s u : State) (q : IoQueue) (hdr : IoHdr) (lba n : Nat) (all : Bool) (m : Ns) (c : Instr) (op : IoOp), Live s →
    (op = .zoneClose lba all ∧ c = .zoneClose q hdr lba all ∨ op = .zoneOpen lba all ∧ c = .zoneOpen q hdr lba all ∨
      op = .zoneFinish lba all ∧ c = .zoneFinish q hdr lba all ∨ op = .zoneReset lba all ∧ c = .zoneReset q hdr lba all) →
    Taken s q op u → Passes u q hdr op n m →
    let z := lba / zoneBlocks
    let b := begun u
    let done (st : Status) : Out := .next (keep s (asking q (b.complete q hdr.cid st)))
    let x := newCtx u q hdr op n
    (m.blocks ≤ lba → exec c s = done .lbaOutOfRange) ∧
    (lba < m.blocks → all = false → lba % zoneBlocks ≠ 0 → exec c s = done .invalidField) ∧
    (lba < m.blocks → (all = true ∨ lba % zoneBlocks = 0) →
      (op = .zoneClose lba all → all = false → (b.zone n z).state.isOpen = false → (b.zone n z).state ≠ .closed →
        exec c s = done .zoneInvalidTransition) ∧
      (op = .zoneClose lba all → (all = true ∨ (b.zone n z).state.isOpen = true ∨ (b.zone n z).state = .closed) →
        exec c s = .next (keep s (asking q (zonesKeep ((b.each (sendZones b n z all ZoneSt.isOpen)) fun v z =>
          v.setZoneRaw n z { v.zone n z with st := .closed }) n (sendZones b n z all ZoneSt.isOpen) (x.cpl .success))))) ∧
      (op = .zoneOpen lba all → all = false →
        ((b.zone n z).state = .full ∨ (b.zone n z).state = .offline → exec c s = done .zoneInvalidTransition) ∧
        ((b.zone n z).state = .empty ∨ (b.zone n z).state = .closed → 8 ≤ (b.zonesWith n ZoneSt.isOpen).length →
          exec c s = done .tooManyOpen) ∧
        ((b.zone n z).state = .empty → (b.zonesWith n ZoneSt.isOpen).length < 8 → activeRoom b n = false →
          exec c s = done .tooManyActive) ∧
        ((b.zone n z).st = .empty → (b.zone n z).offline = false → (b.zonesWith n ZoneSt.isOpen).length < 8 → activeRoom b n = true →
          exec c s = .next (keep s (asking q (zonesKeep (zoneEnter b n z .explicitOpen) n [z] (x.cpl .success))))) ∧
        ((b.zone n z).st ≠ .empty → (b.zone n z).st ≠ .full → (b.zone n z).offline = false →
          (b.zonesWith n ZoneSt.isOpen).length + (if (b.zone n z).st.isOpen then 0 else 1) ≤ 8 →
          exec c s = .next (keep s (asking q (zonesKeep (b.setZoneRaw n z { b.zone n z with st := .explicitOpen }) n [z]
            (x.cpl .success)))))) ∧
      (op = .zoneOpen lba all → all = true →
        let zs := b.zonesWith n fun st => st == .closed
        (8 < (b.zonesWith n ZoneSt.isOpen).length + zs.length → exec c s = done .tooManyOpen) ∧
        ((b.zonesWith n ZoneSt.isOpen).length + zs.length ≤ 8 →
          exec c s = .next (keep s (asking q (zonesKeep (b.each zs fun v z =>
            if (v.zone n z).st = .empty then zoneEnter v n z .explicitOpen
            else v.setZoneRaw n z { v.zone n z with st := .explicitOpen }) n zs (x.cpl .success)))))) ∧
      (op = .zoneFinish lba all ∨ op = .zoneReset lba all →
        (all = false → (b.zone n z).state = .offline → exec c s = done .zoneInvalidTransition) ∧
        ((all = true ∨ (b.zone n z).state ≠ .offline) → exec c s = .next (keep s (asking q (settle
          (keeping b { x with zone := z, stage := waitStage })))))))) ∧
  (∀ (s u : State) (q : IoQueue) (hdr : IoHdr) (lba a o k n : Nat) (p : Bool) (m : Ns), Live s →
    Taken s q (.zoneReceive lba a o p k) u → Passes u q hdr (.zoneReceive lba a o p k) n m →
    let c : Instr := .zoneManagementReceive q hdr lba a o p k
    let b := begun u
    let x := newCtx u q hdr (.zoneReceive lba a o p k) n
    (m.blocks ≤ lba → exec c s = .next (keep s (asking q (b.complete q hdr.cid .lbaOutOfRange)))) ∧
    (lba < m.blocks → a ≠ 0 → exec c s = .next (keep s (asking q (b.complete q hdr.cid .invalidField)))) ∧
    (lba < m.blocks → a = 0 → exec c s = .next (keep s (asking q ((hostSend b x
      (zoneReport b n (lba / zoneBlocks) o p k m.zones)).complete q hdr.cid .success))))) ∧
  (∀ (s u : State) (q : IoQueue) (hdr : IoHdr) (lba want n : Nat) (m : Ns), Live s →
    Taken s q (.warm lba want) u → Passes u q hdr (.warm lba want) n m →
    let b := begun u
    let z := lba / zoneBlocks
    (m.blocks ≤ lba → exec (.zoneWarm q hdr lba want) s = .next (keep s (asking q (b.complete q hdr.cid .lbaOutOfRange)))) ∧
    (lba < m.blocks → want ≠ 1 → want ≠ 2 →
      exec (.zoneWarm q hdr lba want) s = .next (keep s (asking q (b.complete q hdr.cid .invalidField)))) ∧
    (lba < m.blocks → (want = 1 ∨ want = 2) → (b.zone n z).bound = none →
      exec (.zoneWarm q hdr lba want) s = .next (keep s (asking q (b.complete q hdr.cid .success)))) ∧
    (lba < m.blocks → (want = 1 ∨ want = 2) → ∀ d dz, (b.zone n z).bound = some (d, dz) → b.driveOf d = none →
      b.zoneOffline n z = false → exec (.zoneWarm q hdr lba want) s = .next (keep s (asking q (settle (askLoad
        (keeping b { newCtx u q hdr (.warm lba want) n with zone := z, stage := waitStage }) d .media))))) ∧
    (lba < m.blocks → (want = 1 ∨ want = 2) → ∀ d dz k, (b.zone n z).bound = some (d, dz) → b.driveOf d = some k →
      let v := keeping b { newCtx u q hdr (.warm lba want) n with zone := z, stage := waitStage }
      exec (.zoneWarm q hdr lba want) s = .next (keep s (asking q (settle
        (if want < b.g Od.DRV_STATE k then wakeDrive v k else v)))))) ∧
  (∀ (s u : State) (q : IoQueue) (hdr : IoHdr) (lba n : Nat) (m : Ns), Live s →
    Taken s q (.release lba) u → Passes u q hdr (.release lba) n m →
    (m.blocks ≤ lba → exec (.zoneRelease q hdr lba) s = .next (keep s (asking q ((begun u).complete q hdr.cid .lbaOutOfRange)))) ∧
    (lba < m.blocks → exec (.zoneRelease q hdr lba) s = .next (keep s (asking q
      ((releaseZone (begun u) n (lba / zoneBlocks)).complete q hdr.cid .success))))) ∧
  (∀ (s u : State) (q : IoQueue) (hdr : IoHdr) (lba n : Nat) (m : Ns), Live s →
    Taken s q (.locate lba) u → Passes u q hdr (.locate lba) n m →
    (m.blocks ≤ lba → exec (.zoneLocate q hdr lba) s = .next (keep s (asking q ((begun u).complete q hdr.cid .lbaOutOfRange)))) ∧
    (lba < m.blocks → exec (.zoneLocate q hdr lba) s = .next (keep s (asking q ((hostSend (begun u)
      (newCtx u q hdr (.locate lba) n) (locateBytes (begun u) n (lba / zoneBlocks))).complete q hdr.cid .success)))) ∧
    (∀ n z, (locateBytes u n z).length = 16))

/-- Doorbells (R172, R439), admission (R418, R419), MEDIA_OP_START (R433), DRIVE_IDLE_TIMEOUT (R204, R435) and DISC_RESTORE (R430). -/
def Obligations.DoorbellsAdmissionAndDriveQueues : Prop :=
  (∀ (s : State) (f : Crib) (qid tail : Nat), Live s →
    (s.host.ctl[f].sqs.find? qid = none → exec (.sqTailDoorbell f qid tail) s = .next (keep s
      (asyncEvent (hqViol s f 0 f qid) f .invalidDoorbellRegister))) ∧
    (∀ q, s.host.ctl[f].sqs.find? qid = some q →
      (q.size ≤ tail → exec (.sqTailDoorbell f qid tail) s = .next (keep s
        (asyncEvent (hqViol s f 1 f qid) f .invalidDoorbellValue))) ∧
      (tail < q.size → ∃ t, exec (.sqTailDoorbell f qid tail) s = .next t ∧
        t.host.ctl[f].sqs.find? qid = some { q with tail := tail } ∧
        (∀ j, j ≠ qid → t.host.ctl[f].sqs.find? j = s.host.ctl[f].sqs.find? j) ∧
        t = s.setCtl f fun g => { g with sqs := t.host.ctl[f].sqs }))) ∧
  (∀ (s : State) (f : Crib) (qid head : Nat), Live s →
    (s.host.ctl[f].cqs.find? qid = none → exec (.cqHeadDoorbell f qid head) s = .next (keep s
      (asyncEvent (hqViol s f 0 f qid) f .invalidDoorbellRegister))) ∧
    (∀ q, s.host.ctl[f].cqs.find? qid = some q →
      ((q.size ≤ head ∨ (q.tail + q.size - q.head) % q.size < (head + q.size - q.head) % q.size) →
        exec (.cqHeadDoorbell f qid head) s = .next (keep s (asyncEvent (hqViol s f 1 f qid) f .invalidDoorbellValue))) ∧
      (head < q.size → (head + q.size - q.head) % q.size ≤ (q.tail + q.size - q.head) % q.size → q.waiting = [] → q.tail < q.size →
        ∃ t, exec (.cqHeadDoorbell f qid head) s = .next t ∧ t.host.ctl[f].cqs.find? qid = some { q with head := head } ∧
          t.od = s.od ∧ t.out = s.out))) ∧
  (∀ s : State, Live s → (∀ w ∈ (settle s).host.waiting, (settle s).fetching w.queue = false ∨ ioRoom (settle s) w.queue w.op = false) →
    exec .commandAdmission s = .next (keep s (settle s))) ∧
  (∀ (s : State) (n : Drive) (seeks : List (Nat × Nat)), Live s →
    let u := serveLoads s
    let ready := u.media.cur[n] = none ∧ u.g Od.DRV_STATE n = 0 ∧ u.g Od.MEDIA_STATE n = 2 ∧ u.g Od.DRIVE_FAULT n = 0 ∧
      u.g Od.CAL_STATE n = 0 ∧ u.drives[n].cal.req = 0
    (¬ready → exec (.mediaOpStart n seeks) s = .next (keep s u)) ∧
    (ready → nextOp u n seeks = none → exec (.mediaOpStart n seeks) s = .next (keep s u)) ∧
    (ready → ∀ o, nextOp u n seeks = some o → o.todo = [] → ∃ t, exec (.mediaOpStart n seeks) s = .next t ∧
      t.media.cur[n] = some o ∧ t.media.ops = u.media.ops.filter (fun p => p.id != o.id) ∧ t.drives[n].acqFails = 0)) ∧
  (∀ (s : State) (n : Drive), Live s →
    let idle := s.media.cur[n] = none ∧ s.hasWork n = false ∧ s.g Od.DRIVE_FAULT n = 0 ∧ s.g Od.DRV_DISC n ≠ 0xFFFF ∧
      s.drives[n].wake = none
    let u : State := { s with media := { s.media with idleFrom := s.media.idleFrom.set n s.now } }
    (¬idle → exec (.driveIdleTimeout n) s = .next s) ∧
    (idle → s.g Od.DRV_STATE n = 0 → exec (.driveIdleTimeout n) s = .next (keep s (settle (u.p Od.DRV_STATE n 1)))) ∧
    (idle → s.g Od.DRV_STATE n = 1 → exec (.driveIdleTimeout n) s = .next (keep s (settle
      ((angleOpen ((openLoops u n true).setDv n fun d => { d with laserMode := 0, proc := .idle }) n).p Od.DRV_STATE n 2)))) ∧
    (idle → s.g Od.DRV_STATE n = 2 → exec (.driveIdleTimeout n) s = .next (keep s (spinBrake u n))) ∧
    (idle → s.g Od.DRV_STATE n = 3 → u.pickBusy n = false → exec (.driveIdleTimeout n) s = .next
      (u.setPicker fun p => { p with queue := p.queue ++ [⟨false, s.g Od.DRV_DISC n, n, s.now, .evict⟩] }))) ∧
  (∀ (s : State) (d : Fin 1536), Live s → s.writeCodeOf 0 Od.DISC_RESTORE d = 0 →
    (s.media.restores.contains d.val = true → exec (.discRestore d) s = .next (s.answer 0 0)) ∧
    (s.media.restores.contains d.val = false → ∃ t, exec (.discRestore d) s = .next t ∧ t.g Od.DISC_RESTORE_RESULT d = 4 ∧
      t.media.restores = s.media.restores ++ [d.val] ∧ t.out = s.out ++ [.answer 0 0 []] ∧
      ObjectsKept [Od.DISC_RESTORE_RESULT.el d] s t ∧ t.host = s.host))

/-- Admin queues (R168, R408, R419, R440, R485). -/
def Obligations.AdminEntriesAreTakenAndChecked : Prop :=
  ∀ (s : State) (c : Instr) (q : IoQueue) (hdr : IoHdr) (during : Bool), Live s → adminCommand c = some (q, hdr, during) →
    ((adminServed s q = false ∨ s.ctxFree (s.queueCrib q) = false ∨ s.takeEntry q = none) → exec c s = .next (adminFrame c s s)) ∧
    (∀ u, AdminTaken s q u →
      (during = false → u.admin.sanitize.state = 2 →
        exec c s = .next (adminFrame c s (u.complete q hdr.cid .sanitizeInProgress))) ∧
      ((during = true ∨ u.admin.sanitize.state ≠ 2) →
        ((hdr.fuse ≠ 0 ∨ hdr.reserved = true) →
          exec c s = .next (adminFrame c s ((ioViol u q 3).complete q hdr.cid .invalidField))) ∧
        (hdr.fuse = 0 → hdr.reserved = false → hdr.prpBad = true →
          exec c s = .next (adminFrame c s ((ioViol u q 2).complete q hdr.cid .invalidPrpOffset)))))

/-- Queues (R409, R416, R417) and the function's registers (R400 to R407, R441, R613). -/
def Obligations.QueuesAndControllers : Prop :=
  (∀ (s u : State) (k : Nat) (hdr : IoHdr) (qid a b : Nat) (i pc : Bool) (c : Instr), Live s → AdminClear s (.conn k) hdr u →
    (c = .createIoSq (.conn k) hdr qid a b 0 pc ∨ c = .createIoCq (.conn k) hdr qid a b i pc ∨ c = .deleteIoSq (.conn k) hdr qid ∨
      c = .deleteIoCq (.conn k) hdr qid) → exec c s = .next (keep s (u.complete (.conn k) hdr.cid .invalidOpcode))) ∧
  (∀ (s u : State) (f : Crib) (j : Nat) (hdr : IoHdr) (qid size cq prio : Nat) (pc : Bool), Live s → AdminClear s (.sq f j) hdr u →
    let c : Instr := .createIoSq (.sq f j) hdr qid size cq prio pc
    let g := u.host.ctl[f]
    let no (st : Status) : Out := .next (keep s (u.complete (.sq f j) hdr.cid st))
    ((qidOk g qid false = false ∨ (g.sqs.find? qid).isSome = true) → exec c s = no .invalidQueueId) ∧
    (qidOk g qid false = true → g.sqs.find? qid = none →
      ((size < 2 ∨ 4096 < size) → exec c s = no .invalidQueueSize) ∧
      (2 ≤ size → size ≤ 4096 →
        (pc = false → exec c s = no .invalidField) ∧
        (pc = true → (cq = 0 ∨ g.cqs.find? cq = none) → exec c s = no .completionQueueInvalid) ∧
        (pc = true → cq ≠ 0 → (g.cqs.find? cq).isSome = true →
          (unitFree u f (sqUnits u) = false →
            exec c s = .next (keep s ((hqViol u f 5 f qid).complete (.sq f j) hdr.cid .invalidQueueId))) ∧
          (unitFree u f (sqUnits u) = true → exec c s = .next (keep s
            ((u.setCtl f fun g => { g with sqs := g.sqs.insert qid ⟨size, 0, 0, cq, prio⟩ }).complete (.sq f j) hdr.cid .success))))))) ∧
  (∀ (s u : State) (f : Crib) (j : Nat) (hdr : IoHdr) (qid size vec : Nat) (ien pc : Bool), Live s → AdminClear s (.sq f j) hdr u →
    let c : Instr := .createIoCq (.sq f j) hdr qid size vec ien pc
    let g := u.host.ctl[f]
    let no (st : Status) : Out := .next (keep s (u.complete (.sq f j) hdr.cid st))
    ((qidOk g qid true = false ∨ (g.cqs.find? qid).isSome = true) → exec c s = no .invalidQueueId) ∧
    (qidOk g qid true = true → g.cqs.find? qid = none →
      ((size < 2 ∨ 4096 < size) → exec c s = no .invalidQueueSize) ∧
      (2 ≤ size → size ≤ 4096 →
        (pc = false → exec c s = no .invalidField) ∧
        (pc = true → 64 ≤ vec → exec c s = no .invalidVector) ∧
        (pc = true → vec < 64 →
          (unitFree u f (cqUnits u) = false →
            exec c s = .next (keep s ((hqViol u f 5 f qid).complete (.sq f j) hdr.cid .invalidQueueId))) ∧
          (unitFree u f (cqUnits u) = true → exec c s = .next (keep s
            ((u.setCtl f fun g => { g with cqs := g.cqs.insert qid ⟨size, 0, 0, vec, ien, []⟩ }).complete (.sq f j) hdr.cid .success))))))) ∧
  (∀ (s u : State) (f : Crib) (j : Nat) (hdr : IoHdr) (qid : Nat), Live s → AdminClear s (.sq f j) hdr u →
    let g := u.host.ctl[f]
    let no (st : Status) : Out := .next (keep s (u.complete (.sq f j) hdr.cid st))
    let leaving := u.host.dels.any fun d => d.1 == f && d.2.2 == qid
    ((qid = 0 ∨ g.sqs.find? qid = none ∨ leaving = true) → exec (.deleteIoSq (.sq f j) hdr qid) s = no .invalidQueueId) ∧
    (qid ≠ 0 → (g.sqs.find? qid).isSome = true → leaving = false → exec (.deleteIoSq (.sq f j) hdr qid) s = .next (keep s
      (settleQueues { u with host := { u.host with
        waiting := u.host.waiting.filter fun w => w.queue != .sq f qid, dels := u.host.dels ++ [(f, hdr.cid, qid)] } }))) ∧
    ((qid = 0 ∨ g.cqs.find? qid = none) → exec (.deleteIoCq (.sq f j) hdr qid) s = no .invalidQueueId) ∧
    (qid ≠ 0 → (g.cqs.find? qid).isSome = true → (∃ p ∈ g.sqs, p.2.cq = qid) →
      exec (.deleteIoCq (.sq f j) hdr qid) s = no .queueDeletionOrder) ∧
    (qid ≠ 0 → (g.cqs.find? qid).isSome = true → (∀ p ∈ g.sqs, p.2.cq ≠ qid) → exec (.deleteIoCq (.sq f j) hdr qid) s = .next (keep s
      ((u.setCtl f fun g => { g with cqs := Keyed.erase g.cqs qid }).complete (.sq f j) hdr.cid .success)))) ∧
  (∀ (s : State) (f : Crib) (cc aqa : Nat), Live s →
    ((s.host.ctl[f].en = true ∨ s.fnThere f = false ∨ s.boot.crs = true) → exec (.ccEnSet f cc aqa) s = .next s) ∧
    (s.host.ctl[f].en = false → s.fnThere f = true → s.boot.crs = false → ∃ t, exec (.ccEnSet f cc aqa) s = .next t ∧
      t = s.setCtl f (fun _ => t.host.ctl[f]) ∧ t.host.ctl[f].en = true ∧ t.host.ctl[f].cc = cc ∧ t.host.ctl[f].nq = none ∧
      t.host.ctl[f].cfs = false ∧ (t.host.ctl[f].rdy = true ↔ s.g Od.CRIB_STATE f = 1 ∧ s.dev ≠ .booting))) ∧
  (∀ (s : State) (f : Crib) (shn : Nat), Live s →
    ((s.host.ctl[f].rdy = false ∨ (shn ≠ 1 ∧ shn ≠ 2)) → exec (.ccShn f shn) s = .next s) ∧
    (s.host.ctl[f].rdy = true → (shn = 1 ∨ shn = 2) →
      exec (.ccShn f shn) s = .next (keep s (settleQueues (s.setCtl f fun g => { g with shst := 1 }))))) ∧
  (∀ (s : State) (f : Crib), Live s →
    ((adminServed s (.sq f 0) = false ∨ s.host.ctl[f].kato = 0) → exec (.keepAliveExpiry f) s = .next s) ∧
    (adminServed s (.sq f 0) = true → s.host.ctl[f].kato ≠ 0 → ∃ t, exec (.keepAliveExpiry f) s = .next t ∧
      t.host.ctl[f].cfs = true ∧ t.g Od.HQ_VIOL_CNT (8 * f + 4) = (s.g Od.HQ_VIOL_CNT (8 * f + 4) + 1) % 2 ^ 32 ∧
      t.fetching (.sq f 0) = false)) ∧
  (∀ (s : State) (f : Crib) (vec : Fin 64) (addr data : Nat) (m : Bool), Live s →
    ((s.fnThere f = false ∨ s.boot.crs = true) → exec (.msixTableWrite f vec addr data m) s = .next s) ∧
    (s.fnThere f = true → s.boot.crs = false → ∃ t, exec (.msixTableWrite f vec addr data m) s = .next t ∧
      t.fns[f].vtab.find? vec = some (addr, data) ∧ t.fns[f].vmask.getLsbD vec = m ∧
      (∀ w, w ≠ vec → t.fns[f].vmask.getLsbD w = s.fns[f].vmask.getLsbD w) ∧ t.od = s.od ∧ t.host = s.host ∧
      (m = true → t.fns[f].vpend = s.fns[f].vpend ∧ t.out = s.out))) ∧
  (∀ (s : State) (f : Crib) (bme : Option Bool) (vfs : Option Nat), Live s →
    (s.boot.crs = true → exec (.pcieConfigRequest f bme vfs) s = .next (s.emit (.pcie f 1))) ∧
    (s.boot.crs = false → s.fnThere f = false → exec (.pcieConfigRequest f bme vfs) s = .next (s.emit (.pcie f 2))) ∧
    (s.boot.crs = false → s.fnThere f = true →
      (bme = none → vfs = none → exec (.pcieConfigRequest f bme vfs) s = .next (s.emit (.pcie f 0))) ∧
      (∀ n, f.val = 0 → bme = none → vfs = some n → exec (.pcieConfigRequest f bme vfs) s =
        .next (({ s with host := { s.host with numVfs := min n 32 } } : State).emit (.pcie f 0))) ∧
      (bme = some false → vfs = none → exec (.pcieConfigRequest f bme vfs) s =
        .next (({ s with fns := vmod s.fns f fun x => { x with bme := false } } : State).emit (.pcie f 0)))) ∧
    exec (.peerBarRequest f) s = .next (s.emit (.pcie f 2))) ∧
  (∀ (s : State) (rate width : Nat), Live s →
    exec (.perstNRelease rate width) s = .next (s.p Od.PCIE_LINK 0 (min 5 (max 1 rate) + 16 * min 8 (max 1 width))))

/-- Identify (R410), logs (R411), features (R412, R417), Abort (R420), events (R409, R439) and Keep Alive (R409). -/
def Obligations.IdentifyLogsFeaturesAndAbort : Prop :=
  (∀ (s : State) (q : IoQueue) (hdr : IoHdr) (opc : Nat), Live s →
    (∀ u, isAdmin s q = true → AdminClear s q hdr u →
      exec (.invalidCommandOpcode q hdr opc) s = .next (keep s (u.complete q hdr.cid .invalidOpcode))) ∧
    (∀ u, isAdmin s q = false → Taken s q (.invalid opc) u →
      exec (.invalidCommandOpcode q hdr opc) s = .next (keep s (u.complete q hdr.cid .invalidOpcode)))) ∧
  (∀ (s u : State) (q : IoQueue) (hdr : IoHdr), Live s → AdminClear s q hdr u →
    let no (st : Status) : Out := .next (keep s (u.complete q hdr.cid st))
    (∀ cns csi,
      (cns = 1 → exec (.identify q hdr cns csi) s = .next (keep s (adminData u.useFree q hdr (identifyCtl u q)))) ∧
      (cns = 0 → u.nsOf (u.queueCrib q) hdr.nsid = none →
        exec (.identify q hdr cns csi) s = .next (keep s ((cribViol u (u.queueCrib q) 2).complete q hdr.cid .invalidNamespace))) ∧
      (cns = 0 → ∀ i n, u.nsOf (u.queueCrib q) hdr.nsid = some (i, n) →
        exec (.identify q hdr cns csi) s = .next (keep s (adminData u.useFree q hdr (identifyNs u n)))) ∧
      ((cns = 0x10 ∨ cns = 0x11 ∨ cns = 0x12) → onPf q = false → exec (.identify q hdr cns csi) s = no .invalidField) ∧
      ((cns = 5 ∨ cns = 6) → csi ≠ 2 → exec (.identify q hdr cns csi) s = no .invalidField) ∧
      (cns ∉ [0, 1, 2, 3, 5, 6, 7, 0x10, 0x11, 0x12, 0x1C] → exec (.identify q hdr cns csi) s = no .invalidField)) ∧
    (∀ lid bytes off,
      (lid ∉ [1, 2, 4, 5, 0x81, 0xBF] → exec (.getLogPage q hdr lid bytes off) s = no .invalidField) ∧
      (lid = 0x81 → onPf q = false → exec (.getLogPage q hdr lid bytes off) s = no .invalidField) ∧
      (lid = 0x81 → onPf q = true → exec (.getLogPage q hdr lid bytes off) s = .next (keep s
        (adminData u.useFree q hdr (padTo bytes (slice off bytes (sanitizeLog u)))))) ∧
      (lid = 4 → exec (.getLogPage q hdr lid bytes off) s = .next (keep s
        (adminData (u.modCtl q fun g => { g with changedNs := [] }).useFree q hdr (padTo bytes (slice off bytes
          (padTo 4096 (((u.ctlOf q).getD NvmeCtl.fresh).changedNs.flatMap fun n => leBytes 4 n)))))))) ∧
    (∀ fid v save,
      ((fid ∉ [1, 2, 4, 7, 8, 9, 0xB, 0xF] ∨ save = true) → exec (.setFeatures q hdr fid v save) s = no .invalidField) ∧
      (save = false →
        (fid = 2 → v % 32 ≠ 0 → exec (.setFeatures q hdr fid v save) s = no .invalidField) ∧
        (fid = 2 → v % 32 = 0 → exec (.setFeatures q hdr fid v save) s = no .success) ∧
        (fid = 7 → ((u.ctlOf q).bind fun g => g.nq).isSome = true → exec (.setFeatures q hdr fid v save) s = no .commandSequence) ∧
        (fid = 7 → ((u.ctlOf q).bind fun g => g.nq) = none →
          let most := u.g Od.CRIB_QP_MAX (u.queueCrib q) - 1
          let n := min most (v % 65536) + 65536 * min most (v / 65536 % 65536)
          exec (.setFeatures q hdr fid v save) s = .next (keep s
            ((u.modCtl q fun g => { g with nq := some n }).complete q hdr.cid .success none n))) ∧
        (fid = 0xF → exec (.setFeatures q hdr fid v save) s = .next (keep s
          ((u.modCtl q fun g => { g with kato := v % 2 ^ 32 }).complete q hdr.cid .success))) ∧
        (fid ∈ [1, 4, 8, 9, 0xB] → exec (.setFeatures q hdr fid v save) s = .next (keep s
          ((u.modCtl q fun g => { g with feats := Keyed.put g.feats fid (v % 2 ^ 32) 0 }).complete q hdr.cid .success))))) ∧
    (∀ fid sel,
      ((fid ∉ [1, 2, 4, 7, 8, 9, 0xB, 0xF] ∨ sel ≠ 0) → exec (.getFeatures q hdr fid sel) s = no .invalidField) ∧
      (fid = 7 → sel = 0 → let most := u.g Od.CRIB_QP_MAX (u.queueCrib q) - 1
        exec (.getFeatures q hdr fid sel) s = .next (keep s (u.complete q hdr.cid .success none (most + 65536 * most)))) ∧
      (fid = 0xF → sel = 0 → exec (.getFeatures q hdr fid sel) s = .next (keep s
        (u.complete q hdr.cid .success none ((u.ctlOf q).getD NvmeCtl.fresh).kato)))) ∧
    (∀ qid cid,
      (sameCtl u q qid = none → exec (.abort q hdr qid cid) s = .next (keep s (u.complete q hdr.cid .success none 1))) ∧
      (∀ tq x, sameCtl u q qid = some tq → (u.host.ctxs.find? fun x => x.queue == tq && x.cid == cid) = some x →
        ((ctxStarted u x = true ∨ x.result.isSome = true) →
          exec (.abort q hdr qid cid) s = .next (keep s (u.complete q hdr.cid .success none 1))) ∧
        (ctxStarted u x = false → x.result = none →
          exec (.abort q hdr qid cid) s = .next (keep s ((endCtx u x .abortRequested).complete q hdr.cid .success))))) ∧
    (∀ e rest, ((u.ctlOf q).getD NvmeCtl.fresh).kept = e :: rest → exec (.asynchronousEventRequest q hdr) s = .next (keep s
      ((u.modCtl q fun g => { g with kept := rest }).post ⟨q, hdr.cid, .success, none, 0, 0, some e, 0⟩))) ∧
    (((u.ctlOf q).getD NvmeCtl.fresh).kept = [] →
      (4 ≤ ((u.ctlOf q).getD NvmeCtl.fresh).aers.length → exec (.asynchronousEventRequest q hdr) s = no .asyncLimit) ∧
      (((u.ctlOf q).getD NvmeCtl.fresh).aers.length < 4 → exec (.asynchronousEventRequest q hdr) s = .next (keep s
        (u.modCtl q fun g => { g with aers := g.aers ++ [hdr.cid] })))) ∧
    exec (.keepAlive q hdr) s = no .success)

/-- Namespaces (R409, R422, R424), Format NVM (R475 to R479), Sanitize (R483 to R485), the steps (R471, R480, R495) and key records (R154, R155). -/
def Obligations.NamespacesFormatAndSanitize : Prop :=
  (∀ (s u : State) (q : IoQueue) (hdr : IoHdr), Live s → AdminClear s q hdr u → u.admin.sanitize.state ≠ 2 →
    let no (st : Status) : Out := .next (keep s (u.complete q hdr.cid st))
    (∀ csi flbas nsze ncap media so,
      (onPf q = false → exec (.namespaceCreate q hdr csi flbas nsze ncap media so) s = no .invalidOpcode) ∧
      (onPf q = true →
        ((csi ≠ 2 ∨ flbas ≠ 0 ∨ ncap ≠ nsze ∨ nsze % zoneBlocks ≠ 0 ∨ (media ≠ 1 ∧ media ≠ 2) ∨ 1 < so) →
          exec (.namespaceCreate q hdr csi flbas nsze ncap media so) s = no .invalidField) ∧
        (csi = 2 → flbas = 0 → ncap = nsze → nsze % zoneBlocks = 0 → (media = 1 ∨ media = 2) → so ≤ 1 →
          ((u.freeDiscZones media (so == 1)).length < nsze / zoneBlocks →
            exec (.namespaceCreate q hdr csi flbas nsze ncap media so) s = no .insufficientCapacity) ∧
          (nsze / zoneBlocks ≤ (u.freeDiscZones media (so == 1)).length → ∀ i,
            ((List.range 256).find? fun i => (u.host.ns.find? i).isNone && u.g Od.NS_KEY_STATE i != 3) = some i →
            ∃ v : State, exec (.namespaceCreate q hdr csi flbas nsze ncap media so) s = .next (keep s (v.complete q hdr.cid .success none (i + 1))) ∧
              v.host.ns.find? i = some { zones := nsze / zoneBlocks, media := media, stookOnly := so == 1, attached := none
                                         reserved := (u.freeDiscZones media (so == 1)).take (nsze / zoneBlocks), lastMag := none } ∧
              (∀ j, j ≠ i → v.host.ns.find? j = u.host.ns.find? j) ∧ v.g Od.NS_KEY_STATE i = 3 ∧
              (v.keys.ops.find? i).isSome = true ∧ v.g Od.NS_ZONES_BOUND i = 0 ∧ v.g Od.NS_ZONES_SHORT i = 0)))) ∧
    ((onPf q = false → exec (.namespaceDelete q hdr) s = no .invalidOpcode) ∧
      (onPf q = true → hdr.nsid ≠ 0xFFFFFFFF →
        ((hdr.nsid = 0 ∨ u.host.ns.find? (hdr.nsid - 1) = none) → exec (.namespaceDelete q hdr) s = no .invalidNamespace) ∧
        (hdr.nsid ≠ 0 → (u.host.ns.find? (hdr.nsid - 1)).isSome = true →
          (u.g Od.NS_FORMAT_STATE (hdr.nsid - 1) = 1 → exec (.namespaceDelete q hdr) s = no .formatInProgress) ∧
          (u.g Od.NS_FORMAT_STATE (hdr.nsid - 1) ≠ 1 → exec (.namespaceDelete q hdr) s = .next (keep s
            ((deleteNs u (hdr.nsid - 1)).complete q hdr.cid .success)))))) ∧
    (∀ attach f,
      (onPf q = false → exec (.namespaceAttachment q hdr attach [f]) s = no .invalidOpcode) ∧
      (onPf q = true → hdr.nsid = 0 → exec (.namespaceAttachment q hdr attach [f]) s = no .invalidNamespace) ∧
      (onPf q = true → hdr.nsid ≠ 0 → ∀ n, u.host.ns.find? (hdr.nsid - 1) = some n →
        let held := (u.host.ns.filter fun p => p.2.attached == some f.val).length
        let put (a : Option Nat) : State := { u with host := { u.host with ns := u.host.ns.insert (hdr.nsid - 1) { n with attached := a } } }
        (u.g Od.NS_FORMAT_STATE (hdr.nsid - 1) = 1 → exec (.namespaceAttachment q hdr attach [f]) s = no .formatInProgress) ∧
        (u.g Od.NS_FORMAT_STATE (hdr.nsid - 1) ≠ 1 → attach = true →
          (n.attached.isSome = true → exec (.namespaceAttachment q hdr attach [f]) s = no .alreadyAttached) ∧
          (n.attached = none → 8 ≤ held → exec (.namespaceAttachment q hdr attach [f]) s = no .attachLimit) ∧
          (n.attached = none → held < 8 → exec (.namespaceAttachment q hdr attach [f]) s = .next (keep s
            ((nsChanged (put (some f.val)) f hdr.nsid).complete q hdr.cid .success)))) ∧
        (u.g Od.NS_FORMAT_STATE (hdr.nsid - 1) ≠ 1 → attach = false →
          (n.attached ≠ some f.val → exec (.namespaceAttachment q hdr attach [f]) s = no .notAttached) ∧
          (n.attached = some f.val → exec (.namespaceAttachment q hdr attach [f]) s = .next (keep s
            ((nsChanged (put none) f hdr.nsid).complete q hdr.cid .success)))))) ∧
    (∀ lbaf mset pi pil ses,
      ((lbaf ≠ 0 ∨ mset ≠ 0 ∨ pi ≠ 0 ∨ pil ≠ 0 ∨ 2 < ses) → exec (.formatNvm q hdr lbaf mset pi pil ses) s = no .invalidField) ∧
      (lbaf = 0 → mset = 0 → pi = 0 → pil = 0 → ses ≤ 2 → hdr.nsid ≠ 0xFFFFFFFF →
        (u.nsOf (u.queueCrib q) hdr.nsid = none → exec (.formatNvm q hdr lbaf mset pi pil ses) s = .next (keep s
          ((cribViol u (u.queueCrib q) 2).complete q hdr.cid .invalidNamespace))) ∧
        (∀ i n, u.nsOf (u.queueCrib q) hdr.nsid = some (i, n) →
          (u.g Od.NS_FORMAT_STATE i = 1 → exec (.formatNvm q hdr lbaf mset pi pil ses) s = no .formatInProgress) ∧
          (u.g Od.NS_FORMAT_STATE i ≠ 1 → exec (.formatNvm q hdr lbaf mset pi pil ses) s = .next (keep s
            (let f : FormatCmd := {
              id := u.host.nextCtx, queue := q, cid := hdr.cid, func := u.queueCrib q, ses := ses, units := [i], format := true
              certify := false, ops := 1, failed := false, started := false }
            formatSettle (formatsStart { u with
              host := { u.host with nextCtx := u.host.nextCtx + 1 }
              admin := { u.admin with formats := u.admin.formats ++ [f] } }) u.host.nextCtx)))))) ∧
    (∀ ndas,
      (onPf q = false → exec (.exitFailureMode q hdr ndas) s = no .invalidOpcode ∧ exec (.overwrite q hdr ndas) s = no .invalidOpcode) ∧
      (onPf q = true → exec (.overwrite q hdr ndas) s = no .invalidField) ∧
      (onPf q = true → ndas = true → exec (.exitFailureMode q hdr ndas) s = no .invalidField) ∧
      (onPf q = true → ndas = false → ¬(u.admin.sanitize.state = 3 ∧ u.admin.sanitize.ause = true) →
        exec (.exitFailureMode q hdr ndas) s = no .sanitizeFailed) ∧
      (onPf q = true → ndas = false → u.admin.sanitize.state = 3 → u.admin.sanitize.ause = true →
        exec (.exitFailureMode q hdr ndas) s = .next (keep s (({ u with admin := { u.admin with
          sanitize := { u.admin.sanitize with state := u.free 1 } } } : State).useFree.complete q hdr.cid .success)))) ∧
    (∀ ndas ause w c, (c = .blockErase q hdr ndas ause w ∨ c = .cryptoErase q hdr ndas ause w) →
      let stop (st : Status) : Out := .next (adminFrame c s (u.complete q hdr.cid st))
      (onPf q = false → exec c s = stop .invalidOpcode) ∧
      (onPf q = true → ndas = true → exec c s = stop .invalidField) ∧
      (onPf q = true → ndas = false → (u.admin.ops ≠ [] ∨ u.admin.formats ≠ []) → exec c s = stop .formatInProgress) ∧
      (onPf q = true → ndas = false → u.admin.ops = [] → u.admin.formats = [] → exec c s = .next (adminFrame c s
        (let v := sanitizeStart u q hdr w ause
        scrubSettle (stopJobs { v with thresh := { v.thresh with scrub := List.range 33 } } .sanitize fun _ => true)))))) ∧
  (∀ (s u : State) (q : IoQueue) (hdr : IoHdr) (ndas ause : Bool) (w : Nat) (c : Instr), Live s → AdminClear s q hdr u →
    u.admin.sanitize.state = 2 → onPf q = true → ndas = false →
    (c = .exitFailureMode q hdr ndas ∨ c = .overwrite q hdr ndas ∨ c = .blockErase q hdr ndas ause w ∨ c = .cryptoErase q hdr ndas ause w) →
    exec c s = .next (adminFrame c s (u.complete q hdr.cid .sanitizeInProgress))) ∧
  (∀ (s : State) (st : Fin 8) (lost ok : Bool) (found : List (Nat × Nat)), Live s →
    (s.adminRuns = false → exec (.adminOpStep st lost) s = .next s ∧ exec (.certificationStep st found ok lost) s = .next s) ∧
    (s.adminRuns = true → s.adminOp? st = none → exec (.adminOpStep st lost) s = .next (keep s (formatsStart s)) ∧
      exec (.certificationStep st found ok lost) s = .next s) ∧
    (s.adminRuns = true → ∀ o, s.adminOp? st = some o →
      (o.kind = 3 → exec (.certificationStep st found ok lost) s = .next (keep s (certStep s o found ok lost))) ∧
      (o.kind ≠ 3 → exec (.adminOpStep st lost) s = .next (keep s (formatsStart (opStep s o lost))) ∧
        exec (.certificationStep st found ok lost) s = .next s))) ∧
  (∀ (s : State) (n : Fin 256), Live s →
    ((s.keys.ops.find? n.val = none ∨ s.chestWaiting Region.state (keyPos s n) = true) → ∀ ok, exec (.keyRecordReadBack n ok) s = .next s) ∧
    (s.chestWaiting Region.state (keyPos s n) = false → ∀ op, s.keys.ops.find? n.val = some op →
      exec (.keyRecordReadBack n true) s = .next (keep s (keyReadBack s n true)) ∧
      (s.slotCrib n ≤ 32 → ∃ t, exec (.keyRecordReadBack n false) s = .next t ∧ t.keys.ops.find? n.val = none ∧ t.keys.recs = s.keys.recs ∧
        t.keys.secrets = s.keys.secrets ∧ t.g Od.NS_KEY_STATE n = op.before % 2 ^ Od.NS_KEY_STATE.bits)))

/-- The ports (R443 to R451), new connections (R452, R454) and the link (R464). -/
def Obligations.EthernetPorts : Prop :=
  (∀ (s : State) (p : Fin 2) (vlan len taken : Nat) (q : Fin 8) (good wanted : Bool) (conn peer : Option Nat), Live s →
    let c : Instr := .ethFrameReceive p vlan q len good wanted taken conn peer
    let own := (conn.bind s.net.conns.find?).bind fun c => c.crib
    let occ := (s.net.ports[p]).rx[q] - taken
    let v := (meterIn (s.add Od.NET_RX_FRAMES p 1) (own.getD 0) len).setPort p fun x => { x with rx := x.rx.set q occ }
    ((s.g Od.NET_LINK p ≠ 2 ∨ s.dev = .booting) → exec c s = .next s) ∧
    (s.g Od.NET_LINK p = 2 → s.dev ≠ .booting → good = false → exec c s = .next (s.add Od.NET_RX_DROP (5 * p) 1)) ∧
    (s.g Od.NET_LINK p = 2 → s.dev ≠ .booting → good = true →
      let long := decide (v.g Od.NET_MTU p + (if vlan = 0 then 18 else 22) < len)
      (s.dev = .held → exec c s = .next (keep s (v.add Od.NET_RX_DROP (5 * p + 2) 1))) ∧
      (s.dev ≠ .held → long = true → exec c s = .next (keep s (v.add Od.NET_RX_DROP (5 * p + 4) 1))) ∧
      (s.dev ≠ .held → long = false → 262144 < occ + len → exec c s = .next (keep s (v.add Od.NET_RX_DROP (5 * p + 1) 1))) ∧
      (s.dev ≠ .held → long = false → occ + len ≤ 262144 →
        ((wanted = false ∨ ifaceOf v p vlan = none) → exec c s = .next (keep s (v.add Od.NET_RX_DROP (5 * p + 3) 1))) ∧
        (wanted = true → (ifaceOf v p vlan).isSome = true →
          let w := pfcCheck (v.setPort p fun x => { x with rx := x.rx.set q (occ + len) }) p q
          (conn = none → peer = none → exec c s = .next (keep s w)) ∧
          (conn = none → ∀ a, peer = some a → exec c s = .next (keep s (portSend w p q (.rst a)))) ∧
          (conn.isSome = true → exec c s = .next (keep s (meterOut w (own.getD 0) (w.free 8)).useFree)))))) ∧
  (∀ (s : State) (p : Fin 2) (vlan hi lo ip a : Nat) (q : Fin 8) (v6 : Bool) (d : List Byte), Live s →
    (ifaceOf s p vlan = none → exec (.arpRequest p vlan q ip a) s = .next s ∧
      exec (.neighbourSolicitation p vlan q hi lo a) s = .next s ∧ exec (.echoRequest p vlan q v6 hi lo a d) s = .next s) ∧
    (∀ i, ifaceOf s p vlan = some i →
      (ifaceHas s i false 0 ip = false → exec (.arpRequest p vlan q ip a) s = .next s) ∧
      (ifaceHas s i false 0 ip = true → exec (.arpRequest p vlan q ip a) s = .next (keep s (portSend s p q (.arpReply ip a)))) ∧
      (ifaceHas s i true hi lo = false → exec (.neighbourSolicitation p vlan q hi lo a) s = .next s) ∧
      (ifaceHas s i true hi lo = true → exec (.neighbourSolicitation p vlan q hi lo a) s =
        .next (keep s (portSend s p q (.neighbourAdvert hi lo a)))) ∧
      (ifaceHas s i v6 hi lo = false → exec (.echoRequest p vlan q v6 hi lo a d) s = .next s) ∧
      (ifaceHas s i v6 hi lo = true → exec (.echoRequest p vlan q v6 hi lo a d) s = .next (keep s (portSend s p q (.echoReply a d)))))) ∧
  (∀ (s : State) (p : Fin 2) (q : Fin 8) (level n : Nat), Live s →
    let x := s.net.ports[p]
    let resumed := s.setPort p fun x => { x with paused := x.paused &&& ~~~ BitVec.twoPow 8 q }
    ((x.xoff.getLsbD q = false ∨ x.rx[q] ≤ 1024 * s.g Od.NET_PFC_XON) → exec (.pfcRepeat p q) s = .next s) ∧
    (x.xoff.getLsbD q = true → 1024 * s.g Od.NET_PFC_XON < x.rx[q] → exec (.pfcRepeat p q) s = .next (keep s (pfcSend s p q 0xFFFF))) ∧
    ((x.xoff.getLsbD q = false ∨ 1024 * s.g Od.NET_PFC_XON < level) → exec (.pfcXon p q level) s = .next s) ∧
    (x.xoff.getLsbD q = true → level ≤ 1024 * s.g Od.NET_PFC_XON → ∃ t, exec (.pfcXon p q level) s = .next t ∧
      t.net.ports[p].xoff.getLsbD q = false ∧ t.net.ports[p].rx[q] = min level x.rx[q] ∧ t.net.ports[p].paused = x.paused ∧
      (s.portUp p = true → t.out = s.out ++ [.net p (.pfc q 0)])) ∧
    (x.paused.getLsbD q = false → exec (.pfcPauseExpiry p q) s = .next s) ∧
    (x.paused.getLsbD q = true → exec (.pfcPauseExpiry p q) s = .next (keep s (portFlush resumed p q))) ∧
    ((s.g Od.NET_LINK p ≠ 2 ∨ s.dev = .booting) → exec (.pfcFrameReceive p [(q, n)]) s = .next s) ∧
    (s.g Od.NET_LINK p = 2 → s.dev ≠ .booting →
      let u := meterIn (s.add Od.NET_RX_FRAMES p 1) 0 64
      (s.dev = .held → exec (.pfcFrameReceive p [(q, n)]) s = .next (keep s (u.add Od.NET_RX_DROP (5 * p + 2) 1))) ∧
      (s.dev ≠ .held → u.gb Od.NET_PFC_EN p q = false → exec (.pfcFrameReceive p [(q, n)]) s =
        .next (keep s (u.inc Od.NET_PAUSE_RX_CNT p))) ∧
      (s.dev ≠ .held → u.gb Od.NET_PFC_EN p q = true → n ≠ 0 → exec (.pfcFrameReceive p [(q, n)]) s = .next (keep s
        ((u.setPort p fun x => { x with paused := x.paused ||| BitVec.twoPow 8 q }).inc Od.NET_PAUSE_RX_CNT p))) ∧
      (s.dev ≠ .held → u.gb Od.NET_PFC_EN p q = true → n = 0 → exec (.pfcFrameReceive p [(q, n)]) s = .next (keep s
        ((portFlush (u.setPort p fun x => { x with paused := x.paused &&& ~~~ BitVec.twoPow 8 q }) p q).inc Od.NET_PAUSE_RX_CNT p))))) ∧
  (∀ (s : State) (p : Fin 2) (vlan hi lo dport peer : Nat) (q : Fin 8) (v6 : Bool), Live s →
    let c : Instr := .tcpSyn p vlan q v6 hi lo dport peer
    let full := decide (256 ≤ (s.net.conns.filter fun c => !c.2.closed).length)
    ((s.g Od.NET_LINK p ≠ 2 ∨ s.dev = .booting ∨ s.dev = .held) → exec c s = .next s) ∧
    (s.g Od.NET_LINK p = 2 → s.dev ≠ .booting → s.dev ≠ .held →
      (ifaceOf s p vlan = none → exec c s = .next (s.add Od.NET_RX_DROP (5 * p + 3) 1)) ∧
      (∀ i, ifaceOf s p vlan = some i →
        ((ifaceHas s i v6 hi lo = false ∨ dport ≠ s.g Od.NVT_TCP_PORT) → exec c s = .next (s.add Od.NET_RX_DROP (5 * p + 3) 1)) ∧
        (ifaceHas s i v6 hi lo = true → dport = s.g Od.NVT_TCP_PORT →
          ((full = true ∨ s.dev ≠ .serving) → exec c s = .next (keep s (netViol (portSend s p q (.rst peer)) p 0 4))) ∧
          (full = false → s.dev = .serving → (∃ k < 65536, s.net.conns.find? k = none) →
            ∃ t k d, exec c s = .next t ∧ s.net.conns.find? k = none ∧ t.net.conns.find? k = some d ∧ d.port = p.val ∧ d.iface = i ∧
              d.peer = peer ∧ d.icDone = false ∧ d.closed = false ∧ d.cntlid = none ∧ d.crib = none))))) ∧
  (∀ (s : State) (k : Nat) (first : Bool), Live s →
    (s.net.conns.find? k = none → exec (.tcpRetransmitTimeout k first) s = .next s) ∧
    (∀ c, s.net.conns.find? k = some c →
      let r := if first then 1 else c.retrans + 1
      ((c.closed = true ∨ s.g Od.NET_LINK c.port ≠ 2) → exec (.tcpRetransmitTimeout k first) s = .next s) ∧
      (c.closed = false → s.g Od.NET_LINK c.port = 2 → 12 < r → exec (.tcpRetransmitTimeout k first) s = .next (keep s (connReset s k))) ∧
      (c.closed = false → s.g Od.NET_LINK c.port = 2 → r ≤ 12 → exec (.tcpRetransmitTimeout k first) s = .next (keep s
        (connEmit (s.setConn k { c with retrans := r }) c (.segment c.peer)))))) ∧
  (∀ (s : State) (p : Fin 2), Live s →
    (s.g Od.NET_LINK p ≠ 2 → exec (.netLinkDown p) s = .next s) ∧
    (s.g Od.NET_LINK p = 2 → ∃ t, exec (.netLinkDown p) s = .next t ∧ t.g Od.NET_LINK p = 1 ∧
      t.g Od.NET_LINK_DOWN_CNT p = (s.g Od.NET_LINK_DOWN_CNT p + 1) % 2 ^ Od.NET_LINK_DOWN_CNT.bits ∧ Raised Src.netLink s t) ∧
    (s.g Od.NET_LINK p ≠ 1 → exec (.netLinkUp p) s = .next s) ∧
    (s.g Od.NET_LINK p = 1 → exec (.netLinkUp p) s = .next (keep s
      ((setLink s p 2).each (List.finRange 8) fun s (q : Fin 8) => portFlush s p q))) ∧
    (s.g Od.NET_LINK p = 2 → exec (.netLinkHoldExpiry p) s = .next s) ∧
    (s.g Od.NET_LINK p ≠ 2 → exec (.netLinkHoldExpiry p) s = .next (keep s
      (s.each (s.net.conns.filter fun c => c.2.port == p.val && !c.2.closed) fun s c => connClose s c.1))))

/-- Connections, capsules and associations (R455 to R468). -/
def Obligations.NvmeTcpConnections : Prop :=
  (∀ (s : State) (k cid qid off v i2 i3 i4 : Nat) (n1 n2 d : List Byte) (h : IoHdr) (op : IoOp) (bad : Bool) (c : Instr), Live s →
    (c = .connect k cid qid off v i2 n1 n2 i3 ∨ c = .propertyGet k cid off ∨ c = .disconnect k cid ∨ c = .authenticationSend k cid ∨
      c = .authenticationReceive k cid ∨ c = .capsuleCommand k h op bad ∨ c = .h2cdata k i4 off d bad) →
    (s.conn? k = none → exec c s = .next s) ∧
    (∀ e, s.conn? k = some e → e.icDone = false → exec c s = .next (keep s (pduViol s k .sequence 7)))) ∧
  (∀ (s : State) (k pfv r2t : Nat) (hd dd : Bool), Live s →
    (s.conn? k = none → exec (.icreq k pfv hd dd r2t) s = .next s ∧ exec (.icreqTimeout k) s = .next s) ∧
    (∀ c, s.conn? k = some c →
      (c.icDone = true → exec (.icreq k pfv hd dd r2t) s = .next (keep s (pduViol s k .sequence 7)) ∧ exec (.icreqTimeout k) s = .next s) ∧
      (c.icDone = false → exec (.icreqTimeout k) s = .next (keep s (connReset s k)) ∧
        (pfv ≠ 0 → exec (.icreq k pfv hd dd r2t) s = .next (keep s (pduViol s k .unsupported 6))) ∧
        (pfv = 0 → let a := hd && s.gb Od.NVT_DIGEST_ALLOW 0 0
          let b := dd && s.gb Od.NVT_DIGEST_ALLOW 0 1
          exec (.icreq k pfv hd dd r2t) s = .next (keep s (netSend
            (s.setConn k { c with icDone := true, hdgst := a, ddgst := b, maxR2t := r2t }) k
            (.net c.port (.icResp c.peer 0 0 131072 a b))))))) ∧
    exec (.tcpPeerClose k) s = .next (keep s (connClose s k))) ∧
  (∀ (s u : State) (k cid qid sq kato cn hid : Nat) (sub host : List Byte) (c : Conn), Live s → CapsuleOn s k u c →
    let q : IoQueue := .conn k
    let e : Instr := .connect k cid qid sq kato cn sub host hid
    let no (t : State) (st : Status) : Out := .next (keep s (t.complete q cid st))
    (c.crib.isSome = true → exec e s = no u .commandSequence) ∧
    (c.crib = none → (sq = 0 ∨ 4095 < sq ∨ (qid = 0 ∧ (kato = 0 ∨ cn ≠ 0xFFFF))) → exec e s = no u .connectInvalid) ∧
    (c.crib = none → sq ≠ 0 → sq ≤ 4095 → (qid = 0 → kato ≠ 0 ∧ cn = 0xFFFF) →
      (sub ≠ u.blob Od.NVT_SUBNQN → exec e s = no (netViol u c.port 0 3) .connectInvalid) ∧
      (sub = u.blob Od.NVT_SUBNQN → bindingOf u c host = none → exec e s = no (netViol u c.port 0 3) .connectHost) ∧
      (sub = u.blob Od.NVT_SUBNQN → ∀ b, bindingOf u c host = some b → ∀ w : Crib, u.g Od.NVT_BIND_CRIB b = w.val →
        let bound (id : Nat) : Conn := { c with
          crib := some w.val, cntlid := some id, qid := qid, sqSize := sq + 1, sqHead := c.sqHead % (sq + 1) }
        let admins := (u.net.conns.filter fun p => !p.2.closed && p.2.crib.isSome && p.2.qid == 0).length
        ((u.g Od.CRIB_STATE w ≠ 1 ∨ u.dev ≠ .serving) → exec e s = no u .connectBusy) ∧
        (u.g Od.CRIB_STATE w = 1 → u.dev = .serving →
          (qid = 0 → 64 ≤ admins → exec e s = no u .connectBusy) ∧
          (qid = 0 → admins < 64 → ∀ id, (((List.range 0xFFEF).map (· + 1)).find? fun i => (u.net.assocs.find? i).isNone) = some id →
            ∃ v : State, exec e s = .next (keep s (v.complete q cid .success none id)) ∧ v.net.conns.find? k = some (bound id) ∧
              v.net.assocs.find? id = some { crib := w.val, hostNqn := host, hostId := hid, admin := k,
                                             ctl := { NvmeCtl.fresh with kato := kato } }) ∧
          (qid ≠ 0 → u.net.assocs.find? cn = none → exec e s = no u .connectInvalid) ∧
          (qid ≠ 0 → ∀ a, u.net.assocs.find? cn = some a →
            ((a.crib ≠ w.val ∨ a.hostNqn ≠ host ∨ a.hostId ≠ hid) → exec e s = no u .connectInvalid) ∧
            (a.crib = w.val → a.hostNqn = host → a.hostId = hid →
              ((unitFree u w (sqUnits u) = false ∨ unitFree u w (cqUnits u) = false) →
                exec e s = no (hqViol u w 5 c.port qid) .connectBusy) ∧
              (unitFree u w (sqUnits u) = true → unitFree u w (cqUnits u) = true →
                ∃ v : State, exec e s = .next (keep s (v.complete q cid .success none cn)) ∧
                  v.net.conns.find? k = some (bound cn) ∧ v.net.assocs = u.net.assocs))))))) ∧
  (∀ (s u : State) (k cid off : Nat) (c : Conn), Live s → CapsuleOn s k u c →
    let q : IoQueue := .conn k
    exec (.disconnect k cid) s = .next (keep s (connClose (u.complete q cid .success) k)) ∧
    exec (.authenticationSend k cid) s = .next (keep s (u.complete q cid .invalidOpcode)) ∧
    exec (.authenticationReceive k cid) s = .next (keep s (u.complete q cid .invalidOpcode)) ∧
    ((c.qid ≠ 0 ∨ c.cntlid = none) → exec (.propertyGet k cid off) s = .next (keep s (u.complete q cid .commandSequence))) ∧
    (∀ i a, c.qid = 0 → c.cntlid = some i → u.net.assocs.find? i = some a →
      (∀ v, (off = 0 ∧ v = capReg ∨ off = 8 ∧ v = 0x20000 ∨ off = 0x14 ∧ v = a.ctl.cc ∨ off = 0x1C ∧ v = a.ctl.csts) →
        exec (.propertyGet k cid off) s = .next (keep s ((netSend u k (.net c.port (.property c.peer cid v))).complete q cid
          .success none (v % 2 ^ 32) (v / 2 ^ 32)))) ∧
      (off ≠ 0 → off ≠ 8 → off ≠ 0x14 → off ≠ 0x1C →
        exec (.propertyGet k cid off) s = .next (keep s (u.complete q cid .invalidField))))) ∧
  (∀ (s u : State) (k : Nat) (hdr : IoHdr) (op : IoOp) (bad : Bool) (c d : Conn), Live s → CapsuleOn s k u c → s.conn? k = some d →
    ((d.crib = none ∨ d.qid = 0) → exec (.capsuleCommand k hdr op bad) s = .next (keep s (u.complete (.conn k) hdr.cid .commandSequence))) ∧
    (d.crib.isSome = true → d.qid ≠ 0 → bad = true → exec (.capsuleCommand k hdr op bad) s = .next (keep s
      ((netViol u d.port (d.crib.getD 0) 2).complete (.conn k) hdr.cid .transientTransport))) ∧
    (d.crib.isSome = true → d.qid ≠ 0 → bad = false →
      exec (.capsuleCommand k hdr op bad) s = .next (keep s (ioSubmit s (.conn k) hdr op)))) ∧
  (∀ (s : State) (k tag off : Nat) (data : List Byte) (bad : Bool) (c : Conn), Live s → s.conn? k = some c → c.icDone = true →
    let e : Instr := .h2cdata k tag off data bad
    let r? := c.r2ts.find? fun r => r.ttag == tag
    (r? = none → exec e s = .next (keep s (pduViol s k .sequence 7))) ∧
    (∀ r, r? = some r →
      let mine := s.host.ctxs.find? fun x => x.queue == .conn k && x.cid == r.cid
      let got := (Keyed.getD c.bufs r.cid (0, 0, [])).2.1 + data.length
      let buf := overlay (Keyed.getD c.bufs r.cid (0, 0, [])).2.2 off data
      ((off < r.offset ∨ r.offset + r.len < off + data.length ∨ 131072 < data.length) →
        exec e s = .next (keep s (pduViol s k .outOfRange 7))) ∧
      (r.offset ≤ off → off + data.length ≤ r.offset + r.len → data.length ≤ 131072 →
        (bad = true → ∀ x, mine = some x → exec e s = .next (keep s (endCtx
          ((netViol s c.port (c.crib.getD 0) 2).setConn k { c with
            r2ts := c.r2ts.filter fun t => t.cid != r.cid, bufs := Keyed.erase c.bufs r.cid }) x .transientTransport))) ∧
        (bad = false →
          let left := if r.got + data.length < r.len then
              c.r2ts.map fun t => if t.ttag == tag then { t with got := t.got + data.length } else t
            else c.r2ts.filter fun t => t.ttag != tag
          (buf.length ≤ got → ∀ x, mine = some x →
            exec e s = .next ((s.setConn k { c with r2ts := left, bufs := Keyed.erase c.bufs r.cid }).setCtx x.id fun x => match x.op with
              | .job cdw10 rest0 _ => { x with op := .job cdw10 rest0 (some buf) }
              | _ => { x with blocks := (chunks x.nlb 4096 buf).zipIdx.map fun (b, i) => (i, b) })) ∧
          (got < buf.length → mine.isSome = true →
            exec e s = .next (keep s (r2tFill (s.setConn k { c with
              r2ts := left, bufs := Keyed.insert c.bufs r.cid ((Keyed.getD c.bufs r.cid (0, 0, [])).1, got, buf) }) k))))))) ∧
  (∀ (s : State) (k i : Nat) (kind : Fin 3), Live s →
    exec (.pduViolation k kind) s = .next (keep s (pduViol s k
      (if kind = 0 then .pduHeader else if kind = 1 then .headerDigest else .sequence) (if kind = 0 then 0 else if kind = 1 then 1 else 7))) ∧
    (s.conn? k = none → exec (.h2ctermreq k) s = .next s) ∧
    (∀ c, s.conn? k = some c → exec (.h2ctermreq k) s = .next (keep s (connClose (netViol s c.port (c.crib.getD 0) 0) k))) ∧
    (s.net.assocs.find? i = none → exec (.associationKeepAliveExpiry i) s = .next s) ∧
    (∀ a, s.net.assocs.find? i = some a →
      (a.ctl.kato = 0 → exec (.associationKeepAliveExpiry i) s = .next s) ∧
      (a.ctl.kato ≠ 0 → exec (.associationKeepAliveExpiry i) s = .next (keep s (assocEnd ((netViol s
        ((s.net.conns.find? a.admin).elim 0 fun c => c.port) a.crib 5).inc Od.HQ_VIOL_CNT (8 * a.crib + 4)) i)))))

/-- Crib resets (R173, R174) and what starts them (R84, R404, R406, R459). -/
def Obligations.CribResets : Prop :=
  (∀ (s : State) (who c : Crib), Live s → s.writeCodeOf who Od.CRIB_RESET c = 0 →
    exec (.cribReset who c) s = .next (keepG s ((cribResetStart s c).answer who 0))) ∧
  (∀ (s : State) (c : Crib), (c = 0 ∨ s.g Od.CRIB_STATE c = 2) → cribResetStart s c = s) ∧
  (∀ (s : State) (f : Crib), Live s →
    ((f = 0 ∨ s.fnThere f = false ∨ s.boot.crs = true) → exec (.vfFunctionLevelReset f) s = .next (keepG s s)) ∧
    (f ≠ 0 → s.fnThere f = true → s.boot.crs = false →
      exec (.vfFunctionLevelReset f) s = .next (keepG s (cribResetStart { s with fns := s.fns.set f Fn.fresh } f))) ∧
    ((s.host.ctl[f].en = false ∨ s.fnThere f = false ∨ s.boot.crs = true) → exec (.ccEnClear f) s = .next (keepG s s)) ∧
    (s.host.ctl[f].en = true → s.fnThere f = true → s.boot.crs = false →
      (f = 0 → exec (.ccEnClear f) s = .next (keepG s (ctlReset s 0))) ∧
      (f ≠ 0 → exec (.ccEnClear f) s = .next (keepG s (cribResetStart s f)))) ∧
    ((s.g Od.CRIB_STATE f ≠ 2 ∨ cribQuiet s f = false) → exec (.cribResetComplete f) s = .next (keepG s s)) ∧
    (s.g Od.CRIB_STATE f = 2 → cribQuiet s f = true → exec (.cribResetComplete f) s = .next (keepG s (cribResetEnd s f)))) ∧
  (∀ (s : State) (c : Crib), Live s → c ≠ 0 → s.g Od.CRIB_STATE c ≠ 2 → s.host.ctxs = [] → s.thresh.seq = Vector.replicate 4 none →
    s.cache.rakes = [] → s.cache.rakeRun = none →
    (∃ t, t = cribResetStart s c ∧ t.g Od.CRIB_STATE c = 2 ∧ t.host.ctl[c].en = false ∧ t.host.ctl[c].rdy = false ∧
      t.host.ctl[c].kept = [] ∧ (∀ d : Fin 256, s.g Od.DB_OWNER d = c → t.evt.doorbells.getLsbD d = false) ∧
      ObjectsKept [Od.CRIB_STATE.el c] s t)) ∧
  (∀ s : State, Live s →
    (s.boot.crs = true → exec .pfFunctionLevelReset s = .next s) ∧
    (s.boot.crs = false → ∃ t, exec .pfFunctionLevelReset s = .next t ∧ t.host.ctl[(0 : Crib)] = NvmeCtl.fresh ∧
      t.fns[(0 : Crib)] = Fn.fresh ∧ t.dict.slots = Vector.replicate 8 WinSlot.empty ∧ (∀ a ∈ t.dict.assemblies, a.path ≠ 0) ∧
      t.od = s.od ∧ (∀ f : Crib, f ≠ 0 → t.host.ctl[f] = s.host.ctl[f] ∧ t.fns[f] = s.fns[f]))) ∧
  (∀ (s u : State) (k cid off v : Nat) (c : Conn), Live s → CapsuleOn s k u c →
    let q : IoQueue := .conn k
    ((c.qid ≠ 0 ∨ c.cntlid = none) → exec (.propertySet k cid off v) s = .next (keepG s (u.complete q cid .commandSequence))) ∧
    (∀ i a, c.qid = 0 → c.cntlid = some i → u.net.assocs.find? i = some a →
      let w := (setAssocCtl u i fun g => { g with cc := v }).complete q cid .success
      (off ≠ 0x14 → exec (.propertySet k cid off v) s = .next (keepG s (u.complete q cid .invalidField))) ∧
      (off = 0x14 →
        (v.testBit 0 = true → a.ctl.en = false → exec (.propertySet k cid off v) s = .next (keepG s
          (setAssocCtl w i fun g => { g with en := true, rdy := true }))) ∧
        (v.testBit 0 = false → a.ctl.en = true → ∀ b : Crib, a.crib = b.val → exec (.propertySet k cid off v) s = .next (keepG s
          (cribResetStart (setAssocCtl w i fun g => { g with en := false, rdy := false, shst := 0, cfs := false }) b))) ∧
        (v.testBit 0 = true → a.ctl.en = true → (fieldOf v 15 14 = 1 ∨ fieldOf v 15 14 = 2) →
          exec (.propertySet k cid off v) s = .next (keepG s (settleQueues (setAssocCtl w i fun g => { g with shst := 1 })))) ∧
        (v.testBit 0 = a.ctl.en → (fieldOf v 15 14 = 0 ∨ fieldOf v 15 14 = 3 ∨ v.testBit 0 = false) →
          exec (.propertySet k cid off v) s = .next (keepG s w)))))

/-- Start-up (R107 to R116, R139), identities (R28) and the reference clock (R138, R695). -/
def Obligations.PowerBootAndStart : Prop :=
  (∀ s : State, ∃ t, exec .logicPowerLoss s = .next t ∧ t.dev = .off ∧ OutputsSafe t ∧ t.pins.feRst = 0 ∧ t.pins.stgRst = 0 ∧
    t.parts.feUp = 0 ∧ t.parts.stageUp = 0 ∧ t.g Od.DEVICE_STATE = 0 ∧ t.pending = s.pending) ∧
  (∀ (s : State) (flash : List (Fin 2 × List Byte)) (torn : List Nat) (lt : Bool),
    ∃ t, exec (.coldStart flash torn lt) s = .next t ∧ t = settleAll s (coldStart s flash torn lt) ∧ t.dev = .booting ∧
      t.boot.phase = .rom ∧ t.boot.crs = true ∧ OutputsSafe t ∧ t.pins.feRst = 0 ∧ t.pins.stgRst = 0 ∧ t.parts.feUp = 0 ∧
      t.granary = [] ∧ t.host.ctxs = [] ∧ t.host.waiting = [] ∧
      (∀ k : Fin 2, (∀ p ∈ flash, p.1 ≠ k) → t.flash[k] = s.flash[k])) ∧
  (∀ (s : State) (tr cb : Bool), Live s →
    ((s.dev ≠ .booting ∨ s.boot.phase ≠ .rom ∨ bootSlot s = none) → exec (.firmwareStart tr cb) s = .next (settleAll s s)) ∧
    (s.dev = .booting → s.boot.phase = .rom → ∀ k, bootSlot s = some k →
      let f := s.flash[k]
      let u := ((((s.p Od.FW_SLOT_RUNNING 0 k).p Od.FW_RUNNING 0 f.release).p Od.FW_STAGED 0 f.release).p Od.OD_LAYOUT 0 f.layout)
      exec (.firmwareStart tr cb) s = .next (settleAll s (chooseConfig
        ({ u with boot := { u.boot with phase := .parts, crs := false } }.p Od.HOLD_REASON 0
          (s.g Od.HOLD_REASON / 32 * 32 + 16 * b2n cb)) tr))) ∧
    (∀ k, bootSlot s = some k → s.g Od.FW_SLOT_CHECK k = 0 ∧ (∀ j : Fin 2, s.g Od.FW_SLOT_CHECK j = 0 →
      (s.flash[j]).imageSeq ≤ (s.flash[k]).imageSeq)) ∧
    ((s.dev ≠ .booting ∨ s.boot.phase = .rom) → exec .bootTimeout s = .next (settleAll s s)) ∧
    (s.dev = .booting → s.boot.phase ≠ .rom →
      let k : Fin 2 := if s.g Od.FW_SLOT_RUNNING = 0 then 0 else 1
      ∃ t, exec .bootTimeout s = .next t ∧ t.dev = .booting ∧ t.boot.phase = .rom ∧ t.boot.crs = true ∧ OutputsSafe t ∧
        t = settleAll s (romStart ({ s with boot := { s.boot with
          marks := s.boot.marks.set k (some ((s.flash[k]).imageSeq, (s.flash[k]).bodySha)) } }.chestWrite Region.state (Pos.bootMark k)) true)) ∧
    (¬(s.dev = .booting ∧ s.boot.phase = .rom ∧ bootSlot s = none) → exec .bootNoimgLine s = .next s) ∧
    (s.dev = .booting → s.boot.phase = .rom → bootSlot s = none →
      exec .bootNoimgLine s = .next (s.emit (.serial 0 (asciiBytes "KRY-C48 BOOT NOIMG"))))) ∧
  (∀ s : State, Live s →
    (¬(s.dev = .booting ∧ s.boot.phase = .ready) → exec .bootingEnd s = .next (settleAll s s)) ∧
    (s.dev = .booting → s.boot.phase = .ready → exec .bootingEnd s = .next (settleAll s (bootingEnd s)) ∧
      ((bootingEnd s).dev = .starting ∨ (bootingEnd s).dev = .held)) ∧
    (¬(s.dev = .starting ∧ ∀ a : Axis, positioned s a = true) → exec .startingEnd s = .next (settleAll s s)) ∧
    (s.dev = .starting → (∀ a : Axis, positioned s a = true) → ∃ t, exec .startingEnd s = .next t ∧ t.dev = .serving)) ∧
  (∀ (s : State) (part : Fin 21) (w : Nat), Live s → s.scan.lost.getLsbD (scanPart part) = false →
    (partReleased s part = false → exec (.partIdentityWord part w) s = .next (settleAll s s)) ∧
    (partReleased s part = true →
      let u := if part.val < 16 then s.p Od.FE_ID_SEEN part (w % 2 ^ 32) else s.p Od.STAGE_ID_SEEN (part.val - 16) (w % 2 ^ 32)
      (partAwaited s part = false → exec (.partIdentityWord part w) s = .next (settleAll s u)) ∧
      (partAwaited s part = true → exec (.partIdentityWord part w) s =
        .next (settleAll s (partSettled u part (w % 2 ^ 32 == expectedId u part)))))) ∧
  (∀ (s : State) (part : Fin 21), Live s →
    (partAwaited s part = false → exec (.partIdentityTimeout part) s = .next (settleAll s s)) ∧
    (partAwaited s part = true → exec (.partIdentityTimeout part) s = .next (settleAll s (partSettled s part false)))) ∧
  (∀ s : State, Live s →
    (s.pwr.refLost = false → exec .refClkReturn s = .next (settleAll s s)) ∧
    (s.pwr.refLost = true → ∃ t, exec .refClkReturn s = .next t ∧ t.g Od.CLK_STATUS = 0x11F ∧
      t = settleAll s ((warmRestart { s with pwr := { s.pwr with refLost := false } }).p Od.CLK_STATUS 0 0x11F)))

/-- Firmware (R117 to R120) and the device states' commands (R129 to R136). -/
def Obligations.FirmwareLoadingAndDeviceStates : Prop :=
  (∀ (s : State) (who : Crib), Live s → s.writeCodeOf who Od.FW_LOAD_CTRL 0 = 0 →
    let ans (u : State) (c : Nat) : Out := .next (settleAll s (u.answer who c))
    let st := s.g Od.FW_LOAD_STATE
    ((s.g Od.PF_STATE ≠ 0 ∨ st = 1 ∨ st = 3) → exec (.fwLoadErase who) s = ans s 0x0A ∧ exec (.fwLoadCheck who) s = ans s 0x0A) ∧
    (s.g Od.PF_STATE = 0 → st ≠ 1 → st ≠ 3 →
      (exec (.fwLoadErase who) s = ans ((((s.p Od.FW_LOAD_STATE 0 1).p Od.FW_LOAD_ADDR 0 0).p Od.FW_STAGED 0 (s.g Od.FW_RUNNING)).setFlash
        (loadSlot s) ⟨[], true⟩) 0) ∧
      (st = 2 → exec (.fwLoadCheck who) s = ans (s.p Od.FW_LOAD_STATE 0 3) 0) ∧
      (st ≠ 2 → exec (.fwLoadCheck who) s = ans s 0x0C))) ∧
  (∀ s : State, Live s →
    (s.g Od.FW_LOAD_STATE = 1 → exec .fwEraseDone s = .next (s.p Od.FW_LOAD_STATE 0 2)) ∧
    (s.g Od.FW_LOAD_STATE ≠ 1 → exec .fwEraseDone s = .next s) ∧
    (s.g Od.FW_LOAD_STATE ≠ 3 → exec .fwCheckDone s = .next (settleAll s s)) ∧
    (s.g Od.FW_LOAD_STATE = 3 →
      let f : FlashSlot := { s.flash[loadSlot s] with torn := false }
      ∃ t, exec .fwCheckDone s = .next t ∧ t.flash = s.flash.set (loadSlot s) f ∧ Raised Src.fwLoad s t ∧
        (f.check (s.g Od.FW_FLOOR) false = 0 → t.g Od.FW_LOAD_STATE = 4 ∧ t.g Od.FW_STAGED = f.release % 2 ^ 32) ∧
        (f.check (s.g Od.FW_FLOOR) false ≠ 0 → t.g Od.FW_LOAD_STATE = 5 ∧ t.g Od.FW_STAGED = s.g Od.FW_STAGED))) ∧
  (∀ (s : State) (who : Crib) (d : List Byte), Live s → s.writeCodeOf who Od.FW_LOAD_DATA 0 = 0 →
    let a := s.g Od.FW_LOAD_ADDR
    let bad := s.g Od.FW_LOAD_STATE ≠ 2 ∨ a % 256 ≠ 0 ∨ d = [] ∨ 4096 < d.length ∨ 2 ^ 24 < a + d.length
    (s.g Od.PF_STATE ≠ 0 → exec (.fwLoadData who d) s = .next (settleAll s (s.answer who 0x0A))) ∧
    (s.g Od.PF_STATE = 0 → bad → exec (.fwLoadData who d) s = .next (settleAll s (s.answer who 0x07))) ∧
    (s.g Od.PF_STATE = 0 → ¬bad → exec (.fwLoadData who d) s = .next (settleAll s
      (((s.setFlash (loadSlot s) { s.flash[loadSlot s] with bytes := padTo a (s.flash[loadSlot s]).bytes ++ d }).p Od.FW_LOAD_ADDR 0
        (a + d.length)).answer who 0)))) ∧
  (∀ (s : State) (who : Crib) (v : Nat), Live s → s.writeCodeOf who Od.FW_FLOOR_RAISE 0 = 0 →
    (v ≠ 0x464C4F52 → exec (.fwFloorRaise who v) s = .next (s.answer who 0)) ∧
    (v = 0x464C4F52 → exec (.fwFloorRaise who v) s = .next ((s.p Od.FW_FLOOR 0
      (max (s.g Od.FW_FLOOR) (s.flash[(if s.g Od.FW_SLOT_RUNNING = 0 then 0 else 1 : Fin 2)]).secVer)).answer who 0))) ∧
  (∀ (s : State) (who : Crib) (v : Nat), Live s → s.writeCodeOf who Od.HOLD_REQUEST 0 = 0 →
    let ans (u : State) (c : Nat) : Out := .next (settleAll s (u.answer who c))
    (1 < v → exec (.holdRequest who v) s = ans s 0x07) ∧ (v = 0 → exec (.holdRequest who v) s = ans s 0) ∧
    (v = 1 → s.dev = .serving → exec (.holdRequest who v) s = ans (orderDrain (s.pb Od.HOLD_REASON 0 5 true) .hold) 0) ∧
    (v = 1 → s.dev = .held → exec (.holdRequest who v) s = ans (s.pb Od.HOLD_REASON 0 5 true) 0) ∧
    (v = 1 → s.dev ≠ .serving → s.dev ≠ .held → exec (.holdRequest who v) s = ans s 0x0C)) ∧
  (∀ (s : State) (why : DrainFor), s.dev = .serving →
    (s.dict.commit = none → (orderDrain s why).dev = .draining ∧ (orderDrain s why).boot.drain = some why ∧ Raised Src.state s (orderDrain s why)) ∧
    (s.dict.commit.isSome = true → (orderDrain s why).dev = .serving ∧ (orderDrain s why).boot.drainDeferred = true)) ∧
  (∀ s : State, Live s →
    (¬(s.dev = .serving ∧ s.boot.drainDeferred = true ∧ s.dict.commit = none) → exec .drainStartDeferred s = .next (settleAll s s)) ∧
    (s.dev = .serving → s.boot.drainDeferred = true → s.dict.commit = none → ∃ t, exec .drainStartDeferred s = .next t ∧
      t.dev = .draining ∧ t.boot.drainDeferred = false) ∧
    (¬(s.dev = .draining ∧ drainBusy s = false) → exec .drainComplete s = .next (settleAll s s)) ∧
    (s.dev = .draining → drainBusy s = false →
      (s.boot.drain = some .restart → exec .drainComplete s = .next (settleAll s (warmRestart s))) ∧
      (s.boot.drain ≠ some .restart → exec .drainComplete s = .next (settleAll s (enterHeld s)))) ∧
    (¬(s.dev = .draining ∧ drainBusy s = true) → exec .drainTimeout s = .next (settleAll s s)) ∧
    (s.dev = .draining → drainBusy s = true →
      ((interruptAll s).host.ctxs ≠ [] → exec .drainTimeout s = .next (settleAll s (interruptAll s))) ∧
      ((interruptAll s).host.ctxs = [] → exec .drainTimeout s = .next (settleAll s (drainEnd (interruptAll s)))))) ∧
  (∀ (s : State) (who : Crib) (v : Nat), Live s → s.writeCodeOf who Od.HOLD_RELEASE 0 = 0 →
    let ans (u : State) (c : Nat) : Out := .next (settleAll s (u.answer who c))
    let u := s.pb Od.HOLD_REASON 0 5 false
    (1 < v → exec (.holdRelease who v) s = ans s 0x07) ∧ (v = 0 → exec (.holdRelease who v) s = ans s 0) ∧
    (v = 1 → s.dev ≠ .held → exec (.holdRelease who v) s = ans u 0) ∧
    (v = 1 → s.dev = .held →
      ((u.gb Od.HOLD_REASON 0 2 = true ∨ u.gb Od.HOLD_REASON 0 3 = true) →
        exec (.holdRelease who v) s = ans (popGo { u with boot := { u.boot with revalidate := true } }) 0) ∧
      (u.gb Od.HOLD_REASON 0 2 = false → u.gb Od.HOLD_REASON 0 3 = false →
        (u.g Od.HOLD_REASON = 0 → exec (.holdRelease who v) s = ans (enterStarting u 3) 0) ∧
        (u.g Od.HOLD_REASON ≠ 0 → exec (.holdRelease who v) s = ans u 0)))) ∧
  (∀ (s : State) (who : Crib) (v : Nat), Live s → s.writeCodeOf who Od.WARM_RESTART 0 = 0 →
    let ans (u : State) (c : Nat) : Out := .next (settleAll s (u.answer who c))
    (v ≠ 0x5741524D → exec (.warmRestart who v) s = ans s 0x07) ∧
    (v = 0x5741524D →
      (s.dev = .serving → exec (.warmRestart who v) s = ans (orderDrain s .restart) 0) ∧
      (s.dev = .draining → exec (.warmRestart who v) s = ans { s with boot := { s.boot with drain := some .restart } } 0) ∧
      (s.dev = .held → exec (.warmRestart who v) s = ans (warmRestart s) 0) ∧
      (s.dev ≠ .serving → s.dev ≠ .draining → s.dev ≠ .held → exec (.warmRestart who v) s = ans s 0x0C)))

/-- COMMIT (R69 to R71), its store and apply instant (R33, R71, R133), and PENDING_CLEAR (R65, R70). -/
def Obligations.CommitsAndThePendingSet : Prop :=
  (∀ (s : State) (who : Crib) (crc : Nat), Live s → s.writeCodeOf who Od.COMMIT 0 = 0 →
    let ans (u : State) (c : Nat) : Out := .next (settleAll s (u.answer who c))
    ((2 ≤ s.g Od.CONFIG_STATE ∨ s.g Od.PF_STATE ≠ 0) → exec (.commit who crc) s = ans s 0x0A) ∧
    (s.g Od.CONFIG_STATE < 2 → s.g Od.PF_STATE = 0 →
      ((s.dev = .starting ∨ s.dev = .draining) → exec (.commit who crc) s = ans s 0x0C) ∧
      (s.dev ≠ .starting → s.dev ≠ .draining → exec (.commit who crc) s = ans (commitStart s crc) 0))) ∧
  (∀ (s : State) (crc : Nat),
    let u := ((s.p Od.CONFIG_STATE 0 2).p Od.COMMIT_FAIL_OBJ 0 0).p Od.POP_FAULT 0 0
    let set := s.dict.pendingSet
    (set = [] → commitStart s crc = commitEnd u 0x11 ∧ (commitStart s crc).g Od.COMMIT_STATUS = 0x11 ∧
      (commitStart s crc).g Od.CONFIG_STATE = 0 ∧ Raised Src.commitDone s (commitStart s crc)) ∧
    (set ≠ [] → crc32c (pendingStream s) ≠ crc → commitStart s crc = commitEnd u 0x10 ∧ (commitStart s crc).g Od.COMMIT_STATUS = 0x10 ∧
      (commitStart s crc).g Od.CONFIG_STATE = 1 ∧ (commitStart s crc).dict.pendingSet = set) ∧
    (set ≠ [] → crc32c (pendingStream s) = crc →
      (∀ p rest, set.filter (fun (p : Nat × PendEntry) => !p.2.complete) = p :: rest →
        commitStart s crc = commitEnd (u.p Od.COMMIT_FAIL_OBJ 0 p.1) 0x06) ∧
      ((∀ p ∈ set, p.2.complete = true) → (∃ p ∈ set, p.1 / 2 ^ 24 = 1) → s.dev ≠ .held →
        commitStart s crc = commitEnd (u.p Od.POP_FAULT 0 (2 ^ 23)) 0x04) ∧
      ((∀ p ∈ set, p.2.complete = true) → ((∀ p ∈ set, p.1 / 2 ^ 24 ≠ 1) ∨ s.dev = .held) →
        commitStart s crc = popGo { u with dict := { u.dict with commit := some ⟨mergedImage u, false⟩ } }))) ∧
  (∀ (s : State) (same : Bool) (busy : BitVec 4), Live s →
    (s.dict.commit = none → exec (.commitStoreDone same busy) s = .next (settleAll s s)) ∧
    (∀ c, s.dict.commit = some c →
      (s.g Od.CONFIG_STATE ≠ 3 → s.g Od.CONFIG_STATE ≠ 4 → exec (.commitStoreDone same busy) s = .next (settleAll s s)) ∧
      (s.g Od.CONFIG_STATE = 3 → (∃ d ∈ s.chest.delayed, d.region = cfgRegion (storeSlot s)) →
        exec (.commitStoreDone same busy) s = .next (settleAll s s)) ∧
      (s.g Od.CONFIG_STATE = 3 → (∀ d ∈ s.chest.delayed, d.region ≠ cfgRegion (storeSlot s)) →
        (same = true → exec (.commitStoreDone same busy) s = .next (settleAll s (popGo (commitPoint s c.image busy)))) ∧
        (same = false → exec (.commitStoreDone same busy) s = .next (settleAll s (popGo (commitEnd (dropUndeclared s) 0x13))))) ∧
      (s.g Od.CONFIG_STATE = 4 →
        (s.jobsGone (movedWindows s c.image).contains = false → exec (.commitStoreDone same busy) s = .next (settleAll s s)) ∧
        (s.jobsGone (movedWindows s c.image).contains = true →
          exec (.commitStoreDone same busy) s = .next (settleAll s (popGo (commitApply s c.image busy))))))) ∧
  (∀ (s : State) (who : Crib) (v : Nat), Live s → s.writeCodeOf who Od.PENDING_CLEAR 0 = 0 →
    (1 < v → exec (.pendingClear who v) s = .next (s.answer who 0x07)) ∧
    (v ≤ 1 → 2 ≤ s.g Od.CONFIG_STATE → exec (.pendingClear who v) s = .next (s.answer who 0x0A)) ∧
    (v = 0 → s.g Od.CONFIG_STATE < 2 → exec (.pendingClear who v) s = .next (s.answer who 0)) ∧
    (v = 1 → s.g Od.CONFIG_STATE < 2 → exec (.pendingClear who v) s = .next
      (({ s with dict := { s.dict with pendingSet := [] } }.p Od.CONFIG_STATE 0 0).answer who 0)))

/-- The object dictionary's WRITE (R50, R51, R55, R58 to R66, R70). -/
def Obligations.WhatAWriteIsRefusedFor : Prop :=
  (∀ (s : State) (who : Crib) (addr : Nat) (d : List Byte) (b : BitVec 4), Live s →
    let r := objWrite s who none addr 0 d b
    exec (.plainObjectWrite who addr d b) s = .next (settleAll s (r.1.answer who r.2))) ∧
  (∀ (s : State) (who : Nat) (path : Option Nat) (addr off : Nat) (d : List Byte) (b : BitVec 4),
    let w := objWrite s who path addr off d b
    (s.dev = .booting → w = (s, 0x0D)) ∧
    (s.dev ≠ .booting → objRow addr = none → w = (s, 0x01)) ∧
    (s.dev ≠ .booting → ∀ r e, objRow addr = some (r, e) →
      (writeCode s who r e ≠ 0 → w = (s, writeCode s who r e)) ∧
      (writeCode s who r e = 0 →
        (r.ty ≠ .blob → off ≠ 0 → w = (s, 0x09)) ∧
        ((r.ty = .blob ∨ off = 0) → r.acc = .wc → 2 ≤ s.g Od.CONFIG_STATE → w = (s, 0x0A)) ∧
        (r.ty ≠ .blob → off = 0 → (r.acc = .wc → s.g Od.CONFIG_STATE < 2) →
          (valueCode r d ≠ 0 → w = (s, valueCode r d)) ∧
          (valueCode r d = 0 → r.acc = .wc → w = pendPut s addr (if r.ty = .str32 then padTo 32 d else d) true) ∧
          (valueCode r d = 0 → r.acc ≠ .wc → w = writeEffect s r addr d b))))) ∧
  (∀ (s : State) (who : Nat) (r : ObjRow) (e : Nat), s.dev ≠ .booting →
    ((seeCode s who r e ≠ 0 → writeCode s who r e = seeCode s who r e) ∧
    (seeCode s who r e = 0 → (r.acc = .ro → writeCode s who r e = 0x03) ∧ (r.acc = .wc → who ≠ 0 → writeCode s who r e = 0x05) ∧
      (r.acc = .rwh → s.dev ≠ .held → writeCode s who r e = 0x04) ∧ (r.acc = .rwh → s.dev = .held → writeCode s who r e = 0) ∧
      (r.acc = .rw ∨ r.acc = .wo → writeCode s who r e = 0)))) ∧
  (∀ (s : State) (k : Nat) (bytes : List Byte) (whole : Bool),
    let set := s.dict.pendingSet
    let count := if (set.find? k).isSome then set.length else set.length + 1
    let total := (set.map fun p => p.2.bytes.length).sum + bytes.length - (set.find? k).elim 0 fun p => p.bytes.length
    ((4096 < count ∨ 262144 < total) → pendPut s k bytes whole = (s, 0x0B)) ∧
    (count ≤ 4096 → total ≤ 262144 → (pendPut s k bytes whole).2 = 0 ∧
      (pendPut s k bytes whole).1.dict.pendingSet.find? k = some ⟨bytes, whole⟩ ∧
      (∀ j, j ≠ k → (pendPut s k bytes whole).1.dict.pendingSet.find? j = set.find? j) ∧
      (s.g Od.CONFIG_STATE = 0 → (pendPut s k bytes whole).1.g Od.CONFIG_STATE = 1) ∧
      ObjectsKept [Od.CONFIG_STATE.el 0] s (pendPut s k bytes whole).1))

/-- The PF window (R78 to R83, R106) and the two admin commands (R60, R61, R67). -/
def Obligations.WindowAndAdminObjectRequests : Prop :=
  (∀ (s : State) (k : Fin 8) (addr off len : Nat) (d : List Byte) (view rsv : Bool) (op : Fin 4) (b : BitVec 4), Live s →
    let go (f : WinSlot → WinSlot) : State := s.setSlot k fun w => { f w with go := true, done := false, fromActive := false, code := 0, rlen := 0 }
    let run (c : Instr) (f : WinSlot → WinSlot) (g : State → State × ReadAnswer × Nat) : Prop :=
      (s.dev = .booting → exec c s = .next (settleAll s (slotEnd (go f) k 0x0D false 0 []))) ∧
      (s.dev ≠ .booting → rsv = true → exec c s = .next (settleAll s (slotEnd (go f) k 0x20 false 0 []))) ∧
      (s.dev ≠ .booting → rsv = false → ∀ t a n, g (go f) = (t, a, n) → t.dev ≠ .booting →
        exec c s = .next (settleAll s (slotEnd t k a.code a.fromActive n a.bytes)))
    run (.windowRead k addr off view rsv) (fun w => { w with op := 0, pendingView := view, obj := addr, offset := off })
      (fun s => ((objRead s 0 addr off 480 view true).1, (objRead s 0 addr off 480 view true).2, (objRead s 0 addr off 480 view true).2.bytes.length)) ∧
    run (.windowWrite k addr off len d rsv b)
      (fun w => { w with op := 1, pendingView := false, length := len, obj := addr, offset := off, data := padTo 480 d })
      (fun s => if len = 0 ∨ 480 < len then (s, ⟨0x20, false, []⟩, 0)
        else ((objWrite s 0 (some 0) addr off (padTo len d) b).1, ⟨(objWrite s 0 (some 0) addr off (padTo len d) b).2, false, []⟩,
          if (objWrite s 0 (some 0) addr off (padTo len d) b).2 = 0 then len else 0)) ∧
    run (.windowDescribe k addr rsv) (fun w => { w with op := 2, obj := addr })
      (fun s => (s, objDescribe s 0 addr, (objDescribe s 0 addr).bytes.length)) ∧
    run (.windowNext k addr rsv) (fun w => { w with op := 3, obj := addr }) (fun s => (s, ⟨0, false, leBytes 4 (nextAddr s 0 addr)⟩, 4)) ∧
    run (.windowUnknownOp k op rsv) (fun w => { w with op := 4 + op.val }) (fun s => (s, ⟨0x21, false, []⟩, 0))) ∧
  (∀ (s : State) (k : Fin 8) (code n : Nat) (fa : Bool) (bytes : List Byte),
    let t := slotEnd s k code fa n bytes
    t.dict.slots[k].done = true ∧ t.dict.slots[k].go = false ∧ t.dict.slots[k].code = code ∧ t.dict.slots[k].fromActive = fa ∧
      t.dict.slots[k].rlen = n ∧ (bytes.length ≤ 480 → t.dict.slots[k].data.take bytes.length = bytes) ∧
      (∀ j : Fin 8, j ≠ k → t.dict.slots[j] = s.dict.slots[j]) ∧ Raised Src.windowDone s t ∧ ObjectsKeptEv [] s t) ∧
  (∀ (s : State) (k : Fin 8) (d : List Byte), Live s → ∃ t, exec (.slotWriteWhileBusy k d) s = .next t ∧
    t.g Od.ODW_VIOL_CNT = (s.g Od.ODW_VIOL_CNT + 1) % 2 ^ 32 ∧ t.dict = s.dict) ∧
  (∀ (s : State) (q : IoQueue) (hdr : IoHdr) (addr off len : Nat) (d : List Byte) (view : Bool) (b : BitVec 4), Live s →
    ((adminServed s q = false ∨ s.ctxFree (s.queueCrib q) = false ∨ s.takeEntry q = none) →
      exec (.objectRead q hdr addr off len view) s = .next (settleAll s s) ∧ exec (.objectWrite q hdr addr off len d b) s = .next (settleAll s s)) ∧
    (∀ u, AdminClear s q hdr u →
      let who := u.queueCrib q
      ((len = 0 ∨ 4096 < len) →
        exec (.objectRead q hdr addr off len view) s = .next (settleAll s (u.complete q hdr.cid .invalidField)) ∧
        exec (.objectWrite q hdr addr off len d b) s = .next (settleAll s (u.complete q hdr.cid .invalidField))) ∧
      (len ≠ 0 → len ≤ 4096 →
        (∀ v a, objRead u who addr off len view false = (v, a) → a.bytes = [] →
          exec (.objectRead q hdr addr off len view) s = .next (settleAll s (v.complete q hdr.cid .success none (objDw0 a.code a.fromActive 0)))) ∧
        (∀ v a, objRead u who addr off len view false = (v, a) → len < a.bytes.length →
          exec (.objectRead q hdr addr off len view) s = .next (settleAll s (v.complete q hdr.cid .success none (objDw0 0x06 false 0)))) ∧
        (∀ v a f qid, objRead u who addr off len view false = (v, a) → a.bytes ≠ [] → a.bytes.length ≤ len → q = .sq f qid →
          exec (.objectRead q hdr addr off len view) s = .next (settleAll s ((v.emit (.hostData q hdr.cid a.bytes)).complete q hdr.cid
            .success none (objDw0 a.code a.fromActive a.bytes.length)))) ∧
        (∀ v c, objWrite u who (some (1 + who)) addr off (padTo len d) b = (v, c) → v.dev ≠ .booting →
          exec (.objectWrite q hdr addr off len d b) s = .next (settleAll s (v.complete q hdr.cid .success none
            (objDw0 c false (if c = 0 then len else 0))))))))

/-- Frames of the object protocol (R86 to R95, R103, R106). -/
def Obligations.ProtocolFramesAreTaken : Prop :=
  (∀ (s : State) (c : Instr) (f : MopFrame) (kind service : Nat) (b : BitVec 4), Live s → mopCommand c = some (f, kind, service, b) →
    let r : MopReq := ⟨f, service⟩
    ((mopOn s f.bus = false ∨ f.dest ≠ s.g Od.MOP_NODE) → exec c s = .next (settleAll s s)) ∧
    (mopOn s f.bus = true → f.dest = s.g Od.MOP_NODE →
      ((f.source = 0 ∨ f.source = 0xFF ∨ f.source = s.g Od.MOP_NODE) →
        exec c s = .next (settleAll s (mopViol s f.bus f.source 0 (r.raw kind)))) ∧
      (f.source ≠ 0 → f.source ≠ 0xFF → f.source ≠ s.g Od.MOP_NODE →
        let soon := s.dict.lastMop.elim false fun t => decide (s.now < t + 2000)
        let v := if soon then s.inc Od.CLASSA_OVER_CNT else s
        let u : State := { v with dict := { v.dict with lastMop := some s.now } }
        let w := match u.session? r with
          | some m => if mopLate u m then mopExpire u m else u
          | none => u
        (kind = 0 → exec c s = .next (settleAll s (mopInitiate w r b))) ∧ (kind = 1 → exec c s = .next (settleAll s (mopSegment w r b))) ∧
        (kind = 3 → exec c s = .next (settleAll s (mopClientAbort w r))) ∧
        (kind = 2 → exec c s = .next (settleAll s (mopRefuse w r 2 false (mfAddr f) 0x20 0)))))) ∧
  (∀ (s : State) (bus : Fin 2) (source dest : Nat) (session : Fin 16) (d : List Byte), Live s →
    let m? := s.dict.sessions.find? fun m => m.bus == bus.val && m.source == source && m.session == session.val
    ((m? = none ∨ mopOn s bus = false) → exec (.mopSegTimeout bus source session) s = .next s) ∧
    (∀ m, m? = some m → mopOn s bus = true → exec (.mopSegTimeout bus source session) s = .next (keep s (mopExpire s m)) ∧
      (∃ d, (mopExpire s m).out.getLast? = some (.canFrame bus (mopIdent s (m.prio % 32) m.service m.source) d)) ∧
      (∀ x ∈ (mopExpire s m).dict.sessions, ¬(x.bus = bus.val ∧ x.source = source ∧ x.session = session.val)) ∧
      (mopExpire s m).g Od.MOP_VIOL_CNT 7 = (s.g Od.MOP_VIOL_CNT 7 + 1) % 2 ^ 32) ∧
    ((mopOn s bus = false ∨ dest ≠ s.g Od.MOP_NODE) → exec (.mopClassicFrame bus source dest d) s = .next s) ∧
    (mopOn s bus = true → dest = s.g Od.MOP_NODE → ∃ t, exec (.mopClassicFrame bus source dest d) s = .next t ∧
      t.g Od.MOP_VIOL_CNT 9 = (s.g Od.MOP_VIOL_CNT 9 + 1) % 2 ^ 32 ∧ t.dict = s.dict) ∧
    (mopOn s bus = false → exec (.mopBusOff bus) s = .next s) ∧
    (mopOn s bus = true → ∃ t, exec (.mopBusOff bus) s = .next t ∧
      t.g Od.MOP_BUSOFF_CNT bus = (s.g Od.MOP_BUSOFF_CNT bus + 1) % 2 ^ 32 ∧ t.dict = s.dict ∧ Raised Src.mopBusoff s t))

/-- Transfers of the object protocol (R93 to R104). -/
def Obligations.ProtocolTransfers : Prop :=
  (∀ (s : State) (r : MopReq) (b : BitVec 4),
    let f := r.f
    let broken := f.body.length < 11 ∨ 1 < (f.body.headD 0).toNat ∨ allZero (slice 1 2 f.body) = false
    let view := (f.body.headD 0).getLsbD 0
    (broken → mopInitiate s r b = mopRefuse s r 0 false (mfAddr f) 0x20 0) ∧
    (¬broken → (r.service = 0 ∨ 4 < r.service) → mopInitiate s r b = mopRefuse s r 0 false (mfAddr f) 0x21 1) ∧
    (¬broken → 1 ≤ r.service → r.service ≤ 4 → initiateBad f r.service = true → mopInitiate s r b = mopRefuse s r 0 false (mfAddr f) 0x20 0) ∧
    (¬broken → 1 ≤ r.service → r.service ≤ 4 → initiateBad f r.service = false →
      let u := if (s.session? r).isSome then mopViol (mopClose s r) f.bus f.source 8 (r.raw 0) else s
      (r.service = 1 → mopInitiate s r b = mopAnswer (objRead u 0 (mfAddr f) 0 65537 view false).1 r (objRead u 0 (mfAddr f) 0 65537 view false).2) ∧
      (r.service = 3 → mopInitiate s r b = mopAnswer u r (objDescribe u 0 (mfAddr f))) ∧
      (r.service = 4 → mopInitiate s r b = mopAnswer u r ⟨0, false, leBytes 4 (nextAddr u 0 (mfAddr f))⟩) ∧
      (r.service = 2 → f.last = true → mopInitiate s r b = mopWrite u r false (mfAddr f) ((mfRest f).take (mfTotal f)) b) ∧
      (r.service = 2 → f.last = false →
        (addrCode u (mfAddr f) ≠ 0 → mopInitiate s r b = mopAbort u r false (mfAddr f) (addrCode u (mfAddr f))) ∧
        (addrCode u (mfAddr f) = 0 → 8 ≤ u.dict.sessions.length → mopInitiate s r b = mopRefuse u r 0 false (mfAddr f) 0x24 4) ∧
        (addrCode u (mfAddr f) = 0 → u.dict.sessions.length < 8 → (mopInitiate s r b).dict.sessions.length = u.dict.sessions.length + 1)))) ∧
  (∀ (s : State) (r : MopReq) (a : ReadAnswer),
    (a.code ≠ 0 → mopAnswer s r a = mopAbort s r false (mfAddr r.f) a.code) ∧
    (a.code = 0 → a.bytes.length ≤ 52 →
      mopAnswer s r a = mopRespond s r false true (mfAddr r.f) a.bytes.length a.fromActive a.bytes) ∧
    (a.code = 0 → 52 < a.bytes.length → 8 ≤ s.dict.sessions.length → mopAnswer s r a = mopRefuse s r 0 false (mfAddr r.f) 0x24 4) ∧
    (a.code = 0 → 52 < a.bytes.length → s.dict.sessions.length < 8 → s.session? r = none →
      (mopAnswer s r a).dict.sessions.length = s.dict.sessions.length + 1 ∧
      ∃ m, (mopAnswer s r a).session? r = some m ∧ m.write = false ∧ m.bytes = a.bytes ∧ m.sent = 0 ∧ m.toggle = none)) ∧
  (∀ (s : State) (r : MopReq) (b : BitVec 4),
    let f := r.f
    (f.body.length ≠ 63 → mopSegment s r b = mopRefuse s r 1 f.toggle 0 0x20 0) ∧
    (f.body.length = 63 → (r.service = 0 ∨ 4 < r.service) → mopSegment s r b = mopRefuse s r 1 f.toggle 0 0x21 1) ∧
    (f.body.length = 63 → 1 ≤ r.service → r.service ≤ 4 →
      (s.session? r = none → mopSegment s r b = mopRefuse s r 1 f.toggle 0 0x23 3) ∧
      (∀ m, s.session? r = some m →
        ((r.service ≠ m.service ∨ segmentBad f m.write = true) → mopSegment s r b = mopRefuse s r 1 f.toggle m.addr 0x20 0) ∧
        (r.service = m.service → segmentBad f m.write = false →
          (m.toggle = none → f.toggle = true → mopSegment s r b = mopRefuse (mopClose s r) r 1 true m.addr 0x22 2) ∧
          (m.toggle = some f.toggle → ∃ t, t = mopSegment s r b ∧ t.g Od.MOP_RETX_CNT = (s.g Od.MOP_RETX_CNT + 1) % 2 ^ 32 ∧
            t.out = s.out ++ [.canFrame f.bus (mopIdent s m.prio m.service m.source) m.answer] ∧
            ObjectsKept [Od.MOP_RETX_CNT.el 0] s t) ∧
          ((m.toggle = some (!f.toggle) ∨ m.toggle = none ∧ f.toggle = false) →
            (m.write = false → mopSegment s r b = mopReadSegment s r m) ∧
            (m.write = true → mopSegment s r b = mopWriteSegment s r m b)))))) ∧
  (∀ (s : State) (r : MopReq) (m : MopSession) (b : BitVec 4),
    let f := r.f
    let bytes := m.bytes ++ slice 1 (f.body.headD 0).toNat f.body
    ((m.total < bytes.length ∨ (f.last = true ∧ bytes.length < m.total)) →
      mopWriteSegment s r m b = mopRefuse (mopClose s r) r 1 f.toggle m.addr 0x25 5) ∧
    (f.last = true → bytes.length = m.total → crc32c bytes ≠ ofLe (slice 59 4 f.body) →
      mopWriteSegment s r m b = mopRefuse (mopClose s r) r 1 f.toggle m.addr 0x26 6) ∧
    (f.last = true → bytes.length = m.total → crc32c bytes = ofLe (slice 59 4 f.body) →
      mopWriteSegment s r m b = mopWrite (mopClose s r) r f.toggle m.addr bytes b) ∧
    (f.last = false → bytes.length ≤ m.total → mopWriteSegment s r m b =
      mopRespond (mopSet s r fun m => { m with bytes := bytes, toggle := some f.toggle }) r f.toggle false m.addr m.total false []) ∧
    (m.bytes.length ≤ m.sent + 58 → ∀ x ∈ (mopReadSegment s r m).dict.sessions, r.names x = false)) ∧
  (∀ (s : State) (r : MopReq),
    let f := r.f
    let broken := f.body.length < 11 ∨ allZero (slice 1 2 f.body) = false ∨ allZero (f.body.drop 7) = false
    (broken → mopClientAbort s r = mopRefuse s r 3 false (mfAddr f) 0x20 0) ∧
    (¬broken → (r.service = 0 ∨ 4 < r.service) → mopClientAbort s r = mopRefuse s r 3 false (mfAddr f) 0x21 1) ∧
    (¬broken → 1 ≤ r.service → r.service ≤ 4 → mopClientAbort s r = violation (mopClose s r) 3 0 f.bus f.source 0x28 (r.raw 3) ∧
      ∀ x ∈ (mopClientAbort s r).dict.sessions, r.names x = false))

/-- Instructions of the sequencers on registers, and sequencing (R557 to R562). -/
def Obligations.SequencerRegistersAndSequencing : Prop :=
  (∀ (s : State) (c : Instr) (sq : Fin 4) (op : Nat), Live s → GranaryOk s → seqOpcode c = some (sq, op) →
    (s.issuing sq = none → exec c s = .next s) ∧
    (∀ j, s.issuing sq = some j → ((∀ w, fetchAt s j = .word w → w >>> 26 ≠ op ∨ legalWord w = false) → exec c s = .next s))) ∧
  (∀ (s : State) (sq : Fin 4) (op w : Nat) (j : JobRun), Live s → GranaryOk s → Fetches s sq op j w →
    let set (v : Word32) : Out := .next (seqDone s sq (j.setReg (fD w) v))
    let a := j.reg (fA w)
    let b := j.reg (fB w)
    let n := b.toNat % 32
    (op = 0x00 → exec (.nop sq) s = .next (seqDone s sq j)) ∧
    (op = 0x02 → exec (.lil sq) s = set (BitVec.ofInt 32 (toInt 16 w))) ∧
    (op = 0x03 → exec (.lih sq) s = set (BitVec.ofNat 32 (w % 65536 * 65536 + (j.reg (fD w)).toNat % 65536))) ∧
    (op = 0x04 → exec (.add sq) s = set (a + b)) ∧ (op = 0x05 → exec (.sub sq) s = set (a - b)) ∧
    (op = 0x06 → exec (.and sq) s = set (a &&& b)) ∧ (op = 0x07 → exec (.or sq) s = set (a ||| b)) ∧
    (op = 0x08 → exec (.xor sq) s = set (a ^^^ b)) ∧ (op = 0x09 → exec (.shl sq) s = set (a <<< n)) ∧
    (op = 0x0A → exec (.shr sq) s = set (a >>> n)) ∧ (op = 0x0B → exec (.sar sq) s = set (a.sshiftRight n)) ∧
    (op = 0x0C → exec (.mul sq) s = set (a * b)) ∧ (op = 0x0D → exec (.minu sq) s = set (BitVec.ofNat 32 (min a.toNat b.toNat))) ∧
    (op = 0x0E → exec (.maxu sq) s = set (BitVec.ofNat 32 (max a.toNat b.toNat))) ∧
    (op = 0x10 → exec (.addi sq) s = set (a + BitVec.ofInt 32 (toInt 18 w))) ∧
    (op = 0x11 → exec (.andi sq) s = set (a &&& BitVec.ofNat 32 (w % 2 ^ 18))) ∧
    (op = 0x12 → exec (.ori sq) s = set (a ||| BitVec.ofNat 32 (w % 2 ^ 18))) ∧
    (op = 0x13 → exec (.xori sq) s = set (a ^^^ BitVec.ofNat 32 (w % 2 ^ 18))) ∧
    (op = 0x14 → exec (.shli sq) s = set (a <<< (w % 32))) ∧ (op = 0x15 → exec (.shri sq) s = set (a >>> (w % 32))) ∧
    (op = 0x16 → exec (.sari sq) s = set (a.sshiftRight (w % 32))) ∧
    (op = 0x29 → ∀ h : 4 * fieldOf w 25 24 + fieldOf w 23 22 < 16,
      exec (.setinc sq) s = .next (seqDone s sq { j with inc := j.inc.set (4 * fieldOf w 25 24 + fieldOf w 23 22) a h })) ∧
    (op = 0x2A → exec (.mova sq) s = .next (seqDone s sq (j.setAreg (fieldOf w 25 24) a))) ∧
    (op = 0x2B → exec (.rda sq) s = .next (seqDone s sq (j.setReg (fA w) (j.areg (fieldOf w 25 24))))) ∧
    (op = 0x2C → exec (.lcnt sq) s = .next (seqDone s sq (j.setReg (fA w)
      (BitVec.ofNat 32 ((j.loops.reverse[fieldOf w 25 24]?).elim 0 fun l => l.count)))))) ∧
  (∀ (s : State) (sq : Fin 4) (op w : Nat) (j : JobRun), Live s → GranaryOk s → Fetches s sq op j w →
    let x := j.reg (fD w)
    let y := j.reg (fA w)
    let taken := setSeq s sq (some (j.goto (((j.pc : Int) + 4 * toInt 18 w) % 2 ^ 32).toNat))
    let past := seqDone s sq j
    (op = 0x20 → exec (.beq sq) s = .next (if x = y then taken else past)) ∧
    (op = 0x21 → exec (.bne sq) s = .next (if x = y then past else taken)) ∧
    (op = 0x22 → exec (.blt sq) s = .next (if x.toInt < y.toInt then taken else past)) ∧
    (op = 0x23 → exec (.bge sq) s = .next (if x.toInt < y.toInt then past else taken)) ∧
    (op = 0x24 → exec (.bltu sq) s = .next (if x.toNat < y.toNat then taken else past)) ∧
    (op = 0x25 → exec (.bgeu sq) s = .next (if x.toNat < y.toNat then past else taken)) ∧
    (op = 0x26 → exec (.jmp sq) s = .next (setSeq s sq (some (j.goto (((j.pc : Int) + 4 * toInt 26 w) % 2 ^ 32).toNat)))) ∧
    (op = 0x28 →
      let len := w % 4096
      let n := (j.reg (fieldOf w 23 20)).toNat
      let stop := j.pc + 4 * len
      let crossed := j.loops.head?.elim false fun l => decide (l.stop < stop)
      (len = 0 → exec (.loop sq) s = .next (keepG s (trap s sq 1))) ∧
      (len ≠ 0 → n = 0 → exec (.loop sq) s = .next (setSeq s sq (some (j.after (stop + 4))))) ∧
      (len ≠ 0 → n ≠ 0 → (fieldOf w 25 24 ≠ j.loops.length ∨ crossed = true) → exec (.loop sq) s = .next (keepG s (trap s sq 5))) ∧
      (len ≠ 0 → n ≠ 0 → fieldOf w 25 24 = j.loops.length → crossed = false →
        exec (.loop sq) s = .next (setSeq s sq (some { j with pc := j.pc + 4, loops := ⟨j.pc + 4, stop, n⟩ :: j.loops }))))) ∧
  (∀ (s : State) (sq : Fin 4) (j : JobRun),
    (j.loops = [] → seqDone s sq j = setSeq s sq (some { j with pc := (j.pc + 4) % 2 ^ 32 })) ∧
    (∀ l rest, j.loops = l :: rest → l.stop = j.pc → 1 < l.count → ∃ k, seqDone s sq j = setSeq s sq (some k) ∧ k.pc = l.start ∧
      k.loops = { l with count := l.count - 1 } :: rest ∧ k.g = j.g ∧ ∀ i < 4, k.areg i = j.areg i + j.incAt rest.length i) ∧
    (∀ k, ObjectsKept [] s (setSeq s sq k) ∧ (setSeq s sq k).granary = s.granary ∧
      ∀ r : Fin 4, r ≠ sq → (setSeq s sq k).thresh.seq[r] = s.thresh.seq[r]))

/-- Memory, PUSH, FENCE, HALT and exceptions (R558 to R564, R577 to R581), and assignment (R552 to R555). -/
def Obligations.SequencerMemoryAndJobs : Prop :=
  (∀ (s : State) (sq : Fin 4) (w : Nat) (j : JobRun), Live s → GranaryOk s → Fetches s sq 0x18 j w →
    let a := memAddr j w
    (inWindow s j.crib a 4 = false → exec (.ld sq) s = .next (keepG s (trap s sq 3 (some 3)))) ∧
    (inWindow s j.crib a 4 = true → a % 4 ≠ 0 → exec (.ld sq) s = .next (keepG s (trap s sq 4))) ∧
    (inWindow s j.crib a 4 = true → a % 4 = 0 → s.poisoned a 4 = true → exec (.ld sq) s = .next (keepG s (trap s sq 12))) ∧
    (inWindow s j.crib a 4 = true → a % 4 = 0 → s.poisoned a 4 = false →
      exec (.ld sq) s = .next (seqDone s sq (j.setReg (fD w) (BitVec.ofNat 32 (gWord s.granary a)))))) ∧
  (∀ (s : State) (sq : Fin 4) (w : Nat) (j : JobRun), Live s → GranaryOk s → Fetches s sq 0x19 j w →
    let a := memAddr j w
    (inWindow s j.crib a 4 = false → exec (.st sq) s = .next (keepG s (trap s sq 3 (some 3)))) ∧
    (inWindow s j.crib a 4 = true → a % 4 ≠ 0 → exec (.st sq) s = .next (keepG s (trap s sq 4))) ∧
    (inWindow s j.crib a 4 = true → a % 4 = 0 → ∃ t, exec (.st sq) s = .next t ∧
      (∀ i < 4, gByte t.granary (a + i) = BitVec.ofNat 8 ((j.reg (fD w)).toNat / 256 ^ i)) ∧
      (∀ b, (b < a ∨ a + 4 ≤ b) → gByte t.granary b = gByte s.granary b) ∧ GranaryOk t ∧
      t.thresh = (seqDone s sq j).thresh ∧ t.od = s.od ∧ t.host = s.host ∧ t.out = s.out)) ∧
  (∀ (s : State) (sq : Fin 4) (w : Nat) (j : JobRun), Live s → GranaryOk s → Fetches s sq 0x30 j w →
    let a := ((j.reg (fA w)).toNat + 32 * fieldOf w 17 8) % 2 ^ 32
    let c := pushBuild s j a (w % 16)
    (inWindow s j.crib a 32 = false → exec (.push sq) s = .next (keepG s (trap s sq 3 (some 3)))) ∧
    (inWindow s j.crib a 32 = true → a % 4 ≠ 0 → exec (.push sq) s = .next (keepG s (trap s sq 4))) ∧
    (inWindow s j.crib a 32 = true → a % 4 = 0 → s.poisoned a 32 = true → exec (.push sq) s = .next (keepG s (trap s sq 12))) ∧
    (inWindow s j.crib a 32 = true → a % 4 = 0 → s.poisoned a 32 = false →
      (∀ n v, pushCheck s j c = some (n, v) → exec (.push sq) s = .next (keepG s (trap s sq n v))) ∧
      (pushCheck s j c = none → ∀ q : Fin 4, q.val = fieldOf w 25 24 →
        (16 ≤ (j.queues[q]).length → exec (.push sq) s = .next s) ∧
        ((j.queues[q]).length < 16 → exec (.push sq) s = .next (seqDone
          { s with thresh := { s.thresh with nextCmd := s.thresh.nextCmd + 1 } } sq
          { j with queues := j.queues.set q (j.queues[q] ++ [c]) }))))) ∧
  (∀ (s : State) (sq : Fin 4) (w : Nat) (j : JobRun), Live s → GranaryOk s →
    (Fetches s sq 0x31 j w →
      ((∃ q : Fin 4, w.testBit q = true ∧ j.queues[q] ≠ []) → exec (.fence sq) s = .next s) ∧
      ((∀ q : Fin 4, w.testBit q = true → j.queues[q] = []) → exec (.fence sq) s = .next (seqDone s sq j))) ∧
    (Fetches s sq 0x01 j w →
      (j.drained = false → exec (.halt sq) s = .next (setSeq s sq (some { j with halted := true }))) ∧
      (j.drained = true → exec (.halt sq) s = .next (keepG s (jobSettle (setSeq s sq (some { j with halted := true })) sq))))) ∧
  (∀ (s : State) (sq : Fin 4), Live s → GranaryOk s →
    (s.issuing sq = none → exec (.illegalInstruction sq) s = .next s) ∧
    (∀ j, s.issuing sq = some j →
      (fetchAt s j = .outside → exec (.illegalInstruction sq) s = .next (keepG s (trap s sq 2 (some 3)))) ∧
      (fetchAt s j = .poison → exec (.illegalInstruction sq) s = .next (keepG s (trap s sq 12))) ∧
      (∀ w, fetchAt s j = .word w →
        (legalWord w = false → exec (.illegalInstruction sq) s = .next (keepG s (trap s sq 1))) ∧
        (legalWord w = true → exec (.illegalInstruction sq) s = .next s))) ∧
    (s.thresh.seq[sq] = none → exec (.jobTimeLimitExpiry sq) s = .next s) ∧
    (∀ j, s.thresh.seq[sq] = some j → j.stop = none → j.drained = false → exec (.jobTimeLimitExpiry sq) s =
      .next (setSeq s sq (some { j with stop := some ⟨.cause 15 0, j.pc, s.now⟩ }))) ∧
    (∀ j, s.thresh.seq[sq] = some j → exec (.jobTimeLimitExpiry sq) s = .next (keep s (stopJob s sq (.cause 15 0))))) ∧
  (∀ (s : State) (sq : Fin 4) (bad : Bool), Live s → GranaryOk s →
    let holds (c : Nat) := ((List.finRange 4).filter fun q => (s.thresh.seq[q]).elim false fun j => j.crib == c).length
    let ready := s.host.ctxs.filter fun x => x.jobWaits && x.wants == 0 && s.g Od.CRIB_STATE x.crib == 1 &&
      decide (holds x.crib < s.g Od.CRIB_SEQ_MAX x.crib)
    ((s.thresh.seq[sq] ≠ none ∨ s.dev ≠ .serving ∨ s.admin.sanitize.state = 2 ∨ ready = []) →
      exec (.sequencerAssign sq bad) s = .next s) ∧
    (s.thresh.seq[sq] = none → s.dev = .serving → s.admin.sanitize.state ≠ 2 → ∀ p turn x cdw10 rest0 data,
      drrPick s s.thresh.turn (ready.map fun x => (2, x.crib)) = (some p, turn) → (ready.find? fun x => x.crib == p.2) = some x →
      x.op = .job cdw10 rest0 data →
      let u : State := { s with thresh := { s.thresh with turn := turn } }
      let d := padTo (max 128 (min cdw10 1048576)) (data.getD [])
      (∀ st, jobCheck u x cdw10 rest0 d bad = some st → exec (.sequencerAssign sq bad) s = .next (keepG s (endCtx u x st))) ∧
      (jobCheck u x cdw10 rest0 d bad = none → ∃ t j, exec (.sequencerAssign sq bad) s = .next t ∧ t.thresh.seq[sq] = some j ∧
        j.id = x.id ∧ j.crib = x.crib ∧ j.pc = ofLe (slice 8 4 d) ∧ j.loops = [] ∧ j.halted = false ∧ j.stop = none ∧ j.drained = true ∧
        (∀ b, (b < ofLe (slice 12 4 d) ∨ ofLe (slice 12 4 d) + (slice 128 (ofLe (slice 16 4 d)) d).length ≤ b) →
          gByte t.granary b = gByte s.granary b))))

/-- The engines' dispatch, effects and ends (R533, R565 to R570, R580 to R584, R690). -/
def Obligations.EngineCommands : Prop :=
  (∀ (s : State) (c : Instr) (sq q : Fin 4) (cls op : Nat), Live s → GranaryOk s → engineOp c = some (sq, q, cls, op) →
    (s.headCmd sq q = none → exec c s = .next s) ∧
    (∀ j e, s.headCmd sq q = some (j, e) →
      let u := domArrive s (clusterOf cls) e.held
      let run := setHead u sq q fun e => { e with engine := some (pickEngine u cls), begun := u.now }
      ((e.engine.isSome = true ∨ e.cls ≠ cls ∨ e.op ≠ op) → exec c s = .next s) ∧
      (e.engine = none → e.cls = cls → e.op = op →
        (u.pwr.dom[clusterOf cls] ≠ .on → exec c s = .next (keepG s (setHead u sq q fun e => { e with held := true }))) ∧
        (u.pwr.dom[clusterOf cls] = .on →
          (cls = 1 → op = 3 → landingRoom u e = false → exec c s = .next (keepG s u)) ∧
          (cls = 1 → op = 3 → landingRoom u e = true → exec c s = .next (keepG s (readNsStart run j sq q e))) ∧
          (¬(cls = 1 ∧ op = 3) → exec c s = .next (keepG s (engineRun run j sq q e)))))) ) ∧
  (∀ (s : State) (j : JobRun) (sq q : Fin 4) (e : EngCmd), ¬(e.cls = 1 ∧ e.op = 3) → poisonedWords s e = [] →
    let key := Keyed.getD s.keys.jobKeys (8 * j.crib + e.opts % 8) []
    let ws := cmdWrites s.granary key (leBytes 112 (Config.freeValue s.freeCtr)) e
    let t := engineRun s j sq q e
    (¬(e.cls = 1 ∧ e.op = 4) →
      (∀ b, (∀ p ∈ ws, b < p.1 ∨ p.1 + p.2.length ≤ b) → gByte t.granary b = gByte s.granary b) ∧
      (∀ a bs, ws = [(a, bs)] → ∀ i (h : i < bs.length), gByte t.granary (a + i) = bs[i]) ∧
      t.od = s.od ∧ t.host = s.host ∧ t.out = s.out ∧ t.thresh = s.thresh) ∧
    (e.cls = 1 → e.op = 4 → ∀ x, s.ctx? j.id = some x → t = { s with
      freeCtr := s.freeCtr + 1, out := s.out ++ [.jobData x.queue x.cid (e.w 3) (gBytes s.granary (e.w 2) (e.w 1))] })) ∧
  (∀ (s : State) (sq q : Fin 4), Live s → GranaryOk s →
    (s.headCmd sq q = none → exec (.engineCommandEnd sq q) s = .next s) ∧
    (∀ j c, s.headCmd sq q = some (j, c) →
      (c.engine = none → exec (.engineCommandEnd sq q) s = .next s) ∧
      (c.engine.isSome = true → (∃ r ∈ s.cache.jobReads, r.job = c.num ∧ r.data = none ∧ r.failed = false) →
        exec (.engineCommandEnd sq q) s = .next s) ∧
      (∀ e, c.engine = some e → (∀ r ∈ s.cache.jobReads, r.job ≠ c.num ∨ r.data.isSome = true ∨ r.failed = true) → ¬(c.cls = 1 ∧ c.op = 3) →
        exec (.engineCommandEnd sq q) s = .next (keepG s (jobSettle (setSeq (chargeEngine s e j.crib (s.now - c.begun)) sq
          (some { j with queues := j.queues.set q (j.queues[q].drop 1) })) sq))) ∧
      (∀ e, c.engine = some e → (∀ r ∈ s.cache.jobReads, r.job ≠ c.num ∨ r.data.isSome = true ∨ r.failed = true) → c.cls = 1 → c.op = 3 →
        exec (.engineCommandEnd sq q) s = .next (keepG s (
          let u := readNsEnd (chargeEngine s e j.crib (s.now - c.begun)) j sq c
          jobSettle (match u.thresh.seq[sq] with
            | some j => setSeq u sq (some { j with queues := j.queues.set q (j.queues[q].drop 1) })
            | none => u) sq))))) ∧
  (∀ (s : State) (f : Crib) (qid k cid : Nat) (h : Option (Fin 4)), Live s →
    let x? := s.host.ctxs.find? fun x => x.queue == .sq f qid && x.cid == cid
    exec (.hostTransferError (.conn k) cid h) s = .next s ∧
    (x? = none → exec (.hostTransferError (.sq f qid) cid h) s = .next s) ∧
    (∀ x, x? = some x → h = none → (opJob x.op = false ∨ x.started = false) → exec (.hostTransferError (.sq f qid) cid h) s =
      .next (keep s (endCtx (s.inc Od.HQ_VIOL_CNT (8 * x.crib + 6)) x .dataTransferError (some false)))) ∧
    (∀ x q sq j c, x? = some x → h = some q →
      ((List.finRange 4).find? fun sq => (s.thresh.seq[sq]).elim false fun j => j.id == x.id) = some sq → s.headCmd sq q = some (j, c) →
      (c.cls = 1 → c.op = 4 → c.engine.isSome = true → exec (.hostTransferError (.sq f qid) cid h) s =
        .next (keep s (stopJob s sq (.cause 14 c.push)))) ∧
      ((c.cls ≠ 1 ∨ c.op ≠ 4 ∨ c.engine = none) → exec (.hostTransferError (.sq f qid) cid h) s = .next s)))

/-- The results of the engines' operations (R568, R571, R572, R574, R575). -/
def Obligations.WhatTheEnginesCompute : Prop :=
  ∀ (g : List Host.Cell) (key op : List Byte) (c : EngCmd),
    let n := c.w 1
    let apart (a : Nat) : Prop := a + n ≤ c.w 2 ∨ c.w 2 + n ≤ a ∨ a = c.w 2
    (c.cls = 1 → c.op = 1 → apart (c.w 3) → cmdWrites g key op c = [(c.w 2, gBytes g (c.w 3) n)]) ∧
    (c.cls = 1 → c.op = 2 → n % 4 = 0 → ∃ bs, cmdWrites g key op c = [(c.w 2, bs)] ∧ bs.length = n ∧
      ∀ i (h : i < bs.length), bs[i] = BitVec.ofNat 8 (c.w 6 / 256 ^ (i % 4))) ∧
    (c.cls = 1 → (c.op = 3 ∨ c.op = 4) → cmdWrites g key op c = []) ∧
    (c.cls = 2 → c.op = 2 → apart (c.w 3) → apart (c.w 4) → cmdWrites g key op c =
      [(c.w 2, (List.range n).map fun x => gfMul (gByte g (c.w 3 + x)) (gByte g (c.w 4 + x)))]) ∧
    (c.cls = 2 → c.op = 1 → apart (c.w 3) → apart (c.w 4) → apart (c.w 5) → cmdWrites g key op c =
      [(c.w 2, (List.range n).map fun x => gfMul (BitVec.ofNat 8 (c.coef 3)) (gByte g (c.w 2 + x)) ^^^
        gfMul (BitVec.ofNat 8 (c.coef 0)) (gByte g (c.w 3 + x)) ^^^ gfMul (BitVec.ofNat 8 (c.coef 1)) (gByte g (c.w 4 + x)) ^^^
        gfMul (BitVec.ofNat 8 (c.coef 2)) (gByte g (c.w 5 + x)))]) ∧
    (c.cls = 3 → c.op = 1 → ∃ bs, cmdWrites g key op c = [(c.w 2, bs)] ∧ bs.length = 112 ∧
      bs.take 48 = sha256Init.flatMap (fun w => leBytes 4 w.toNat) ++ List.replicate 16 0#8) ∧
    (c.cls = 3 → c.op = 4 → cmdWrites g key op c = [(c.w 4, sha256 (gBytes g (c.w 3) n))]) ∧
    (c.cls = 3 → c.op = 5 → cmdWrites g key op c =
      [(c.w 2, leBytes 8 (crc64From (ofLe (gBytes g (c.w 2) 8)) (gBytes g (c.w 3) n)))]) ∧
    (c.cls = 3 → c.op = 6 → cmdWrites g key op c = [(c.w 4, leBytes 8 (crc64From 0 (gBytes g (c.w 3) n)))]) ∧
    (c.cls = 3 → c.op = 2 → cmdWrites g key op c = [(c.w 2, shaUpdate (gBytes g (c.w 2) 112) (gBytes g (c.w 3) n) op)]) ∧
    (c.cls = 3 → c.op = 3 → cmdWrites g key op c = [(c.w 4, shaFinal (gBytes g (c.w 2) 112) op)]) ∧
    (∀ ms : List (List Byte), ms.flatten.length < 2 ^ 61 →
      shaFinal (ms.foldl (fun st m => shaUpdate st m op) (shaState sha256Init 0 [] op)) op = sha256 ms.flatten) ∧
    (c.cls = 4 → key.length = 32 → apart (c.w 3) →
      let iv := gBytes g (c.w 4) 12
      let aad := gBytes g (c.w 6) (c.w 7)
      let src := gBytes g (c.w 3) n
      let out := gcmCrypt key iv src
      out.length = n ∧ gcmCrypt key iv out = src ∧
      (c.op = 1 → cmdWrites g key op c = [(c.w 2, out), (c.w 5, gcmTag key iv aad out)]) ∧
      (c.op = 2 → (c.w 5 + 16 ≤ c.w 2 ∨ c.w 2 + n ≤ c.w 5) → cmdWrites g key op c =
        [(c.w 2, out), (c.w 5 + 16, leBytes 4 (if gcmTag key iv aad src = gBytes g (c.w 5) 16 then 1 else 0))])) ∧
    (c.cls = 5 → c.op = 16 → ∃ v < 2 ^ 64, cmdWrites g key op c = [(c.w 2, leBytes 8 v)] ∧
      (v : Int) = ((List.range n).map fun i => laneVal c (laneAt g c (c.w 3) i)).sum % 2 ^ 64) ∧
    (c.cls = 5 → c.op = 17 → cmdWrites g key op c =
      [(c.w 2, leBytes 8 ((List.range n).filter fun i => laneAt g c (c.w 3) i == laneB g c i).length)]) ∧
    (c.cls = 5 → c.op = 18 → (∀ i < n, laneAt g c (c.w 3) i ≠ laneB g c i) →
      cmdWrites g key op c = [(c.w 2, List.replicate 8 0xFF#8)]) ∧
    (c.cls = 5 → c.op = 18 → ∀ i < n, laneAt g c (c.w 3) i = laneB g c i → (∀ k < i, laneAt g c (c.w 3) k ≠ laneB g c k) →
      cmdWrites g key op c = [(c.w 2, leBytes 8 i)]) ∧
    (c.cls = 5 → 1 ≤ c.op → c.op ≤ 9 → c.lane ≤ c.stride →
      (c.w 3 + n * c.stride ≤ c.w 2 ∨ c.w 2 + n * c.lane ≤ c.w 3) →
      (c.scalar = true ∨ c.w 4 + n * c.stride ≤ c.w 2 ∨ c.w 2 + n * c.lane ≤ c.w 4) →
      cmdWrites g key op c = [(c.w 2, (List.range n).flatMap fun i => leBytes c.lane (laneOp c (laneAt g c (c.w 3) i) (laneB g c i)))]) ∧
    (∀ x y, x < 256 ^ c.lane → y < 256 ^ c.lane →
      let m := 256 ^ c.lane
      (laneVal c x = if c.signed = true ∧ m ≤ 2 * x then (x : Int) - m else x) ∧
      (c.op = 1 → laneOp c x y = (x + y) % m) ∧ (c.op = 2 → (laneOp c x y : Int) = ((x : Int) - y) % m) ∧
      (c.op = 3 → laneOp c x y = x &&& y) ∧ (c.op = 4 → laneOp c x y = x ||| y) ∧ (c.op = 5 → laneOp c x y = x ^^^ y) ∧
      (c.op = 6 → laneVal c (laneOp c x y) = min (laneVal c x) (laneVal c y)) ∧
      (c.op = 7 → laneVal c (laneOp c x y) = max (laneVal c x) (laneVal c y)) ∧
      (c.op = 8 → laneOp c x y = if x = y then m - 1 else 0) ∧
      (c.op = 9 → laneOp c x y = if laneVal c x < laneVal c y then m - 1 else 0))
end

