-- ==== Sys2Proof/Laws/Dispatch.lean ====
section
/-! SUPPORT. The dispatcher, arm by arm: what exec of each command is. -/

namespace Sys2Proof.Machine

theorem exec_coldStart (flash : List (Fin 2 × List Byte)) (torn : List Nat) (lifeTorn : Bool) (s : State) :
    exec (.coldStart flash torn lifeTorn) s = execColdStart flash torn lifeTorn s := rfl
theorem exec_logicPowerLoss (s : State) : exec (.logicPowerLoss) s = execLogicPowerLoss s := rfl
theorem exec_firmwareStart (trained : Bool) (chestBad : Bool) (s : State) :
    exec (.firmwareStart trained chestBad) s = execFirmwareStart trained chestBad s := rfl
theorem exec_bootTimeout (s : State) : exec (.bootTimeout) s = execBootTimeout s := rfl
theorem exec_bootNoimgLine (s : State) : exec (.bootNoimgLine) s = execBootNoimgLine s := rfl
theorem exec_bootingEnd (s : State) : exec (.bootingEnd) s = execBootingEnd s := rfl
theorem exec_startingEnd (s : State) : exec (.startingEnd) s = execStartingEnd s := rfl
theorem exec_partIdentityWord (part : Fin 21) (word : Nat) (s : State) :
    exec (.partIdentityWord part word) s = execPartIdentityWord part word s := rfl
theorem exec_partIdentityTimeout (part : Fin 21) (s : State) : exec (.partIdentityTimeout part) s = execPartIdentityTimeout part s := rfl
theorem exec_pfwNLow (s : State) : exec (.pfwNLow) s = execPfwNLow s := rfl
theorem exec_pfwNHigh (s : State) : exec (.pfwNHigh) s = execPfwNHigh s := rfl
theorem exec_pfSequenceEnd (s : State) : exec (.pfSequenceEnd) s = execPfSequenceEnd s := rfl
theorem exec_estopNLow (s : State) : exec (.estopNLow) s = execEstopNLow s := rfl
theorem exec_estopNHigh (s : State) : exec (.estopNHigh) s = execEstopNHigh s := rfl
theorem exec_doorClosedLow (s : State) : exec (.doorClosedLow) s = execDoorClosedLow s := rfl
theorem exec_doorClosedHigh (s : State) : exec (.doorClosedHigh) s = execDoorClosedHigh s := rfl
theorem exec_interlockAck (who : Crib) (v : Nat) (s : State) : exec (.interlockAck who v) s = execInterlockAck who v s := rfl
theorem exec_windowRead (k : Fin 8) (addr : Nat) (offset : Nat) (view : Bool) (rsv : Bool) (s : State) :
    exec (.windowRead k addr offset view rsv) s = execWindowRead k addr offset view rsv s := rfl
theorem exec_windowWrite (k : Fin 8) (addr : Nat) (offset : Nat) (length : Nat) (data : List Byte) (rsv : Bool) (rxBusy : BitVec 4) (s : State) :
    exec (.windowWrite k addr offset length data rsv rxBusy) s = execWindowWrite k addr offset length data rsv rxBusy s := rfl
theorem exec_windowDescribe (k : Fin 8) (addr : Nat) (rsv : Bool) (s : State) :
    exec (.windowDescribe k addr rsv) s = execWindowDescribe k addr rsv s := rfl
theorem exec_windowNext (k : Fin 8) (addr : Nat) (rsv : Bool) (s : State) :
    exec (.windowNext k addr rsv) s = execWindowNext k addr rsv s := rfl
theorem exec_windowUnknownOp (k : Fin 8) (op : Fin 4) (rsv : Bool) (s : State) :
    exec (.windowUnknownOp k op rsv) s = execWindowUnknownOp k op rsv s := rfl
theorem exec_slotWriteWhileBusy (k : Fin 8) (data : List Byte) (s : State) :
    exec (.slotWriteWhileBusy k data) s = execSlotWriteWhileBusy k data s := rfl
theorem exec_objectRead (q : IoQueue) (hdr : IoHdr) (addr : Nat) (offset : Nat) (length : Nat) (view : Bool) (s : State) :
    exec (.objectRead q hdr addr offset length view) s = execObjectRead q hdr addr offset length view s := rfl
theorem exec_objectWrite (q : IoQueue) (hdr : IoHdr) (addr : Nat) (offset : Nat) (length : Nat) (data : List Byte) (rxBusy : BitVec 4) (s : State) :
    exec (.objectWrite q hdr addr offset length data rxBusy) s = execObjectWrite q hdr addr offset length data rxBusy s := rfl
theorem exec_plainObjectWrite (who : Crib) (addr : Nat) (data : List Byte) (rxBusy : BitVec 4) (s : State) :
    exec (.plainObjectWrite who addr data rxBusy) s = execPlainObjectWrite who addr data rxBusy s := rfl
theorem exec_pendingClear (who : Crib) (v : Nat) (s : State) : exec (.pendingClear who v) s = execPendingClear who v s := rfl
theorem exec_commit (who : Crib) (crc : Nat) (s : State) : exec (.commit who crc) s = execCommit who crc s := rfl
theorem exec_commitStoreDone (same : Bool) (rxBusy : BitVec 4) (s : State) :
    exec (.commitStoreDone same rxBusy) s = execCommitStoreDone same rxBusy s := rfl
theorem exec_mopReadInitiate (f : MopFrame) (s : State) : exec (.mopReadInitiate f) s = execMopReadInitiate f s := rfl
theorem exec_mopWriteInitiate (f : MopFrame) (rxBusy : BitVec 4) (s : State) :
    exec (.mopWriteInitiate f rxBusy) s = execMopWriteInitiate f rxBusy s := rfl
theorem exec_mopDescribe (f : MopFrame) (s : State) : exec (.mopDescribe f) s = execMopDescribe f s := rfl
theorem exec_mopNext (f : MopFrame) (s : State) : exec (.mopNext f) s = execMopNext f s := rfl
theorem exec_mopUnknownService (f : MopFrame) (kind : Fin 4) (service : Nat) (s : State) :
    exec (.mopUnknownService f kind service) s = execMopUnknownService f kind service s := rfl
theorem exec_mopWriteSegment (f : MopFrame) (rxBusy : BitVec 4) (s : State) :
    exec (.mopWriteSegment f rxBusy) s = execMopWriteSegment f rxBusy s := rfl
theorem exec_mopReadSegmentRequest (f : MopFrame) (s : State) : exec (.mopReadSegmentRequest f) s = execMopReadSegmentRequest f s := rfl
theorem exec_mopClientAbort (f : MopFrame) (service : Fin 4) (s : State) :
    exec (.mopClientAbort f service) s = execMopClientAbort f service s := rfl
theorem exec_mopSegTimeout (bus : Fin 2) (source : Nat) (session : Fin 16) (s : State) :
    exec (.mopSegTimeout bus source session) s = execMopSegTimeout bus source session s := rfl
theorem exec_mopClassicFrame (bus : Fin 2) (source : Nat) (dest : Nat) (data : List Byte) (s : State) :
    exec (.mopClassicFrame bus source dest data) s = execMopClassicFrame bus source dest data s := rfl
theorem exec_mopBusOff (bus : Fin 2) (s : State) : exec (.mopBusOff bus) s = execMopBusOff bus s := rfl
theorem exec_fwLoadErase (who : Crib) (s : State) : exec (.fwLoadErase who) s = execFwLoadErase who s := rfl
theorem exec_fwEraseDone (s : State) : exec (.fwEraseDone) s = execFwEraseDone s := rfl
theorem exec_fwLoadData (who : Crib) (data : List Byte) (s : State) : exec (.fwLoadData who data) s = execFwLoadData who data s := rfl
theorem exec_fwLoadCheck (who : Crib) (s : State) : exec (.fwLoadCheck who) s = execFwLoadCheck who s := rfl
theorem exec_fwCheckDone (s : State) : exec (.fwCheckDone) s = execFwCheckDone s := rfl
theorem exec_fwFloorRaise (who : Crib) (v : Nat) (s : State) : exec (.fwFloorRaise who v) s = execFwFloorRaise who v s := rfl
theorem exec_holdRequest (who : Crib) (v : Nat) (s : State) : exec (.holdRequest who v) s = execHoldRequest who v s := rfl
theorem exec_drainStartDeferred (s : State) : exec (.drainStartDeferred) s = execDrainStartDeferred s := rfl
theorem exec_drainComplete (s : State) : exec (.drainComplete) s = execDrainComplete s := rfl
theorem exec_drainTimeout (s : State) : exec (.drainTimeout) s = execDrainTimeout s := rfl
theorem exec_holdRelease (who : Crib) (v : Nat) (s : State) : exec (.holdRelease who v) s = execHoldRelease who v s := rfl
theorem exec_warmRestart (who : Crib) (v : Nat) (s : State) : exec (.warmRestart who v) s = execWarmRestart who v s := rfl
theorem exec_cribReset (who : Crib) (c : Crib) (s : State) : exec (.cribReset who c) s = execCribReset who c s := rfl
theorem exec_vfFunctionLevelReset (f : Crib) (s : State) : exec (.vfFunctionLevelReset f) s = execVfFunctionLevelReset f s := rfl
theorem exec_pfFunctionLevelReset (s : State) : exec (.pfFunctionLevelReset) s = execPfFunctionLevelReset s := rfl
theorem exec_cribResetComplete (c : Crib) (s : State) : exec (.cribResetComplete c) s = execCribResetComplete c s := rfl
theorem exec_generate (who : Crib) (n : Fin 256) (s : State) : exec (.generate who n) s = execGenerate who n s := rfl
theorem exec_load (who : Crib) (n : Fin 256) (s : State) : exec (.load who n) s = execLoad who n s := rfl
theorem exec_destroy (who : Crib) (n : Fin 256) (s : State) : exec (.destroy who n) s = execDestroy who n s := rfl
theorem exec_keyRecordReadBack (n : Fin 256) (ok : Bool) (s : State) :
    exec (.keyRecordReadBack n ok) s = execKeyRecordReadBack n ok s := rfl
theorem exec_superframeSend (s : State) : exec (.superframeSend) s = execSuperframeSend s := rfl
theorem exec_upstreamACell (n : Drive) (status : Nat) (ack : Nat) (first : CellCopy) (second : CellCopy) (s : State) :
    exec (.upstreamACell n status ack first second) s = execUpstreamACell n status ack first second s := rfl
theorem exec_upstreamACellMissed (n : Drive) (s : State) : exec (.upstreamACellMissed n) s = execUpstreamACellMissed n s := rfl
theorem exec_bulkCell (link : Fin 21) (down : Bool) (slot : Fin 8) (cell : List Byte) (s : State) :
    exec (.bulkCell link down slot cell) s = execBulkCell link down slot cell s := rfl
theorem exec_bulkCellResendExhausted (n : Drive) (readData : Bool) (s : State) :
    exec (.bulkCellResendExhausted n readData) s = execBulkCellResendExhausted n readData s := rfl
theorem exec_wobbleLock (n : Drive) (s : State) : exec (.wobbleLock n) s = execWobbleLock n s := rfl
theorem exec_angleEventExecute (n : Drive) (id : Nat) (s : State) : exec (.angleEventExecute n id) s = execAngleEventExecute n id s := rfl
theorem exec_evtLate (n : Drive) (id : Nat) (s : State) : exec (.evtLate n id) s = execEvtLate n id s := rfl
theorem exec_focusAcquisition (n : Drive) (s : State) : exec (.focusAcquisition n) s = execFocusAcquisition n s := rfl
theorem exec_layerJump (n : Drive) (s : State) : exec (.layerJump n) s = execLayerJump n s := rfl
theorem exec_layerJumpTimeout (n : Drive) (s : State) : exec (.layerJumpTimeout n) s = execLayerJumpTimeout n s := rfl
theorem exec_trackingPullIn (n : Drive) (s : State) : exec (.trackingPullIn n) s = execTrackingPullIn n s := rfl
theorem exec_trackPullInTimeout (n : Drive) (s : State) : exec (.trackPullInTimeout n) s = execTrackPullInTimeout n s := rfl
theorem exec_landGrooveSwitch (n : Drive) (s : State) : exec (.landGrooveSwitch n) s = execLandGrooveSwitch n s := rfl
theorem exec_fineSeek (n : Drive) (s : State) : exec (.fineSeek n) s = execFineSeek n s := rfl
theorem exec_longSeek (n : Drive) (s : State) : exec (.longSeek n) s = execLongSeek n s := rfl
theorem exec_seekEnd (n : Drive) (word : Nat) (s : State) : exec (.seekEnd n word) s = execSeekEnd n word s := rfl
theorem exec_defectHoldMaxExpiry (n : Drive) (s : State) : exec (.defectHoldMaxExpiry n) s = execDefectHoldMaxExpiry n s := rfl
theorem exec_driveReset (n : Drive) (s : State) : exec (.driveReset n) s = execDriveReset n s := rfl
theorem exec_driveFaultTimeout (who : Option Drive) (s : State) : exec (.driveFaultTimeout who) s = execDriveFaultTimeout who s := rfl
theorem exec_selfSafe (n : Drive) (s : State) : exec (.selfSafe n) s = execSelfSafe n s := rfl
theorem exec_giperlinkAligned (n : Drive) (s : State) : exec (.giperlinkAligned n) s = execGiperlinkAligned n s := rfl
theorem exec_giperlinkRetrainTimeout (n : Drive) (s : State) :
    exec (.giperlinkRetrainTimeout n) s = execGiperlinkRetrainTimeout n s := rfl
theorem exec_feReset (n : Drive) (s : State) : exec (.feReset n) s = execFeReset n s := rfl
theorem exec_feResetRelease (n : Drive) (s : State) : exec (.feResetRelease n) s = execFeResetRelease n s := rfl
theorem exec_motionTickSend (s : State) : exec (.motionTickSend) s = execMotionTickSend s := rfl
theorem exec_stageUpstreamTick (g : Stage) (status : Nat) (ack : Nat) (cell : CellCopy) (s : State) :
    exec (.stageUpstreamTick g status ack cell) s = execStageUpstreamTick g status ack cell s := rfl
theorem exec_hfiAlignDone (n : Drive) (s : State) : exec (.hfiAlignDone n) s = execHfiAlignDone n s := rfl
theorem exec_hfiSignDecision (n : Drive) (plus : Nat) (minus : Nat) (s : State) :
    exec (.hfiSignDecision n plus minus) s = execHfiSignDecision n plus minus s := rfl
theorem exec_voltageLimitSet (m : Motor) (s : State) : exec (.voltageLimitSet m) s = execVoltageLimitSet m s := rfl
theorem exec_voltageLimitClear (m : Motor) (s : State) : exec (.voltageLimitClear m) s = execVoltageLimitClear m s := rfl
theorem exec_spinSettled (n : Drive) (s : State) : exec (.spinSettled n) s = execSpinSettled n s := rfl
theorem exec_spinBrake (n : Drive) (s : State) : exec (.spinBrake n) s = execSpinBrake n s := rfl
theorem exec_spinStopped (n : Drive) (s : State) : exec (.spinStopped n) s = execSpinStopped n s := rfl
theorem exec_spinStopTimeout (n : Drive) (s : State) : exec (.spinStopTimeout n) s = execSpinStopTimeout n s := rfl
theorem exec_spinStartTimeout (n : Drive) (s : State) : exec (.spinStartTimeout n) s = execSpinStartTimeout n s := rfl
theorem exec_brakeReverse (n : Drive) (s : State) : exec (.brakeReverse n) s = execBrakeReverse n s := rfl
theorem exec_overcurrent (m : Motor) (s : State) : exec (.overcurrent m) s = execOvercurrent m s := rfl
theorem exec_resolverFault (s : State) : exec (.resolverFault) s = execResolverFault s := rfl
theorem exec_acqFail (n : Drive) (s : State) : exec (.acqFail n) s = execAcqFail n s := rfl
theorem exec_readFifoOverrun (n : Drive) (s : State) : exec (.readFifoOverrun n) s = execReadFifoOverrun n s := rfl
theorem exec_readDataCell (n : Drive) (payload : List Byte) (s : State) :
    exec (.readDataCell n payload) s = execReadDataCell n payload s := rfl
theorem exec_readSummary (n : Drive) (payload : List Byte) (s : State) :
    exec (.readSummary n payload) s = execReadSummary n payload s := rfl
theorem exec_readGateAbort (n : Drive) (s : State) : exec (.readGateAbort n) s = execReadGateAbort n s := rfl
theorem exec_laserFault (n : Drive) (s : State) : exec (.laserFault n) s = execLaserFault n s := rfl
theorem exec_sheafDecode (n : Drive) (s : State) : exec (.sheafDecode n) s = execSheafDecode n s := rfl
theorem exec_stookSolve (f : Nat) (z : Nat) (q : Nat) (disc : Nat) (s : State) :
    exec (.stookSolve f z q disc) s = execStookSolve f z q disc s := rfl
theorem exec_stookRebuildFail (f : Nat) (z : Nat) (q : Nat) (disc : Nat) (s : State) :
    exec (.stookRebuildFail f z q disc) s = execStookRebuildFail f z q disc s := rfl
theorem exec_stookParityWrite (f : Nat) (z : Nat) (q : Nat) (s : State) :
    exec (.stookParityWrite f z q) s = execStookParityWrite f z q s := rfl
theorem exec_discRecognition (n : Drive) (disc : List (Nat × SlotRead)) (s : State) :
    exec (.discRecognition n disc) s = execDiscRecognition n disc s := rfl
theorem exec_sheafVerify (n : Drive) (s : State) : exec (.sheafVerify n) s = execSheafVerify n s := rfl
theorem exec_darkOffsetDone (n : Drive) (fe : Int) (te : Int) (sum : Int) (s : State) :
    exec (.darkOffsetDone n fe te sum) s = execDarkOffsetDone n fe te sum s := rfl
theorem exec_calSweep (n : Drive) (s : State) : exec (.calSweep n) s = execCalSweep n s := rfl
theorem exec_calSweepDone (n : Drive) (s : State) : exec (.calSweepDone n) s = execCalSweepDone n s := rfl
theorem exec_trackingBalance (n : Drive) (s : State) : exec (.trackingBalance n) s = execTrackingBalance n s := rfl
theorem exec_trackingBalanceDone (n : Drive) (s : State) : exec (.trackingBalanceDone n) s = execTrackingBalanceDone n s := rfl
theorem exec_eqCalibration (n : Drive) (s : State) : exec (.eqCalibration n) s = execEqCalibration n s := rfl
theorem exec_eqCalibrationDone (n : Drive) (s : State) : exec (.eqCalibrationDone n) s = execEqCalibrationDone n s := rfl
theorem exec_servo (n : Drive) (s : State) : exec (.servo n) s = execServo n s := rfl
theorem exec_eq (n : Drive) (s : State) : exec (.eq n) s = execEq n s := rfl
theorem exec_wpwr (n : Drive) (s : State) : exec (.wpwr n) s = execWpwr n s := rfl
theorem exec_calRequestStart (n : Drive) (s : State) : exec (.calRequestStart n) s = execCalRequestStart n s := rfl
theorem exec_moveStart (a : Axis) (s : State) : exec (.moveStart a) s = execMoveStart a s := rfl
theorem exec_motHalt (a : Axis) (s : State) : exec (.motHalt a) s = execMotHalt a s := rfl
theorem exec_stall (a : Axis) (s : State) : exec (.stall a) s = execStall a s := rfl
theorem exec_limitStop (a : Axis) (s : State) : exec (.limitStop a) s = execLimitStop a s := rfl
theorem exec_switchLatch (g : Stage) (input : Fin 8) (rising : Bool) (tick : Nat) (sub : Nat) (pos : Int) (s : State) :
    exec (.switchLatch g input rising tick sub pos) s = execSwitchLatch g input rising tick sub pos s := rfl
theorem exec_homing (a : Axis) (s : State) : exec (.homing a) s = execHoming a s := rfl
theorem exec_homingFail (a : Axis) (s : State) : exec (.homingFail a) s = execHomingFail a s := rfl
theorem exec_carouselHoming (s : State) : exec (.carouselHoming) s = execCarouselHoming s := rfl
theorem exec_bridgePowerDown (g : Stage) (s : State) : exec (.bridgePowerDown g) s = execBridgePowerDown g s := rfl
theorem exec_reEnergise (a : Axis) (ustep : Option Nat) (s : State) : exec (.reEnergise a ustep) s = execReEnergise a ustep s := rfl
theorem exec_vbusLoss (g : Stage) (s : State) : exec (.vbusLoss g) s = execVbusLoss g s := rfl
theorem exec_linkHold (g : Stage) (s : State) : exec (.linkHold g) s = execLinkHold g s := rfl
theorem exec_linkLost (g : Stage) (s : State) : exec (.linkLost g) s = execLinkLost g s := rfl
theorem exec_stageACellMissed (g : Stage) (s : State) : exec (.stageACellMissed g) s = execStageACellMissed g s := rfl
theorem exec_stageRetrainTimeout (g : Stage) (s : State) : exec (.stageRetrainTimeout g) s = execStageRetrainTimeout g s := rfl
theorem exec_stageReset (g : Stage) (s : State) : exec (.stageReset g) s = execStageReset g s := rfl
theorem exec_stageResetRelease (g : Stage) (s : State) : exec (.stageResetRelease g) s = execStageResetRelease g s := rfl
theorem exec_pickerSequenceStart (s : State) : exec (.pickerSequenceStart) s = execPickerSequenceStart s := rfl
theorem exec_pickerStepDone (s : State) : exec (.pickerStepDone) s = execPickerStepDone s := rfl
theorem exec_pickReset (s : State) : exec (.pickReset) s = execPickReset s := rfl
theorem exec_pickPlace (d : Nat) (s : State) : exec (.pickPlace d) s = execPickPlace d s := rfl
theorem exec_ccEnClear (f : Crib) (s : State) : exec (.ccEnClear f) s = execCcEnClear f s := rfl
theorem exec_ccShn (f : Crib) (shn : Nat) (s : State) : exec (.ccShn f shn) s = execCcShn f shn s := rfl
theorem exec_deleteIoSq (q : IoQueue) (hdr : IoHdr) (qid : Nat) (s : State) :
    exec (.deleteIoSq q hdr qid) s = execDeleteIoSq q hdr qid s := rfl
theorem exec_deleteIoCq (q : IoQueue) (hdr : IoHdr) (qid : Nat) (s : State) :
    exec (.deleteIoCq q hdr qid) s = execDeleteIoCq q hdr qid s := rfl
theorem exec_createIoSq (q : IoQueue) (hdr : IoHdr) (qid : Nat) (size : Nat) (cqid : Nat) (prio : Nat) (pc : Bool) (s : State) :
    exec (.createIoSq q hdr qid size cqid prio pc) s = execCreateIoSq q hdr qid size cqid prio pc s := rfl
theorem exec_createIoCq (q : IoQueue) (hdr : IoHdr) (qid : Nat) (size : Nat) (vec : Nat) (ien : Bool) (pc : Bool) (s : State) :
    exec (.createIoCq q hdr qid size vec ien pc) s = execCreateIoCq q hdr qid size vec ien pc s := rfl
theorem exec_getLogPage (q : IoQueue) (hdr : IoHdr) (lid : Nat) (bytes : Nat) (offset : Nat) (s : State) :
    exec (.getLogPage q hdr lid bytes offset) s = execGetLogPage q hdr lid bytes offset s := rfl
theorem exec_identify (q : IoQueue) (hdr : IoHdr) (cns : Nat) (csi : Nat) (s : State) :
    exec (.identify q hdr cns csi) s = execIdentify q hdr cns csi s := rfl
theorem exec_abort (q : IoQueue) (hdr : IoHdr) (qid : Nat) (cid : Nat) (s : State) :
    exec (.abort q hdr qid cid) s = execAbort q hdr qid cid s := rfl
theorem exec_setFeatures (q : IoQueue) (hdr : IoHdr) (fid : Nat) (value : Nat) (save : Bool) (s : State) :
    exec (.setFeatures q hdr fid value save) s = execSetFeatures q hdr fid value save s := rfl
theorem exec_getFeatures (q : IoQueue) (hdr : IoHdr) (fid : Nat) (sel : Nat) (s : State) :
    exec (.getFeatures q hdr fid sel) s = execGetFeatures q hdr fid sel s := rfl
theorem exec_asynchronousEventRequest (q : IoQueue) (hdr : IoHdr) (s : State) :
    exec (.asynchronousEventRequest q hdr) s = execAsynchronousEventRequest q hdr s := rfl
theorem exec_namespaceCreate (q : IoQueue) (hdr : IoHdr) (csi : Nat) (flbas : Nat) (nsze : Nat) (ncap : Nat) (media : Nat) (stookOnly : Nat) (s : State) :
    exec (.namespaceCreate q hdr csi flbas nsze ncap media stookOnly) s = execNamespaceCreate q hdr csi flbas nsze ncap media stookOnly s := rfl
theorem exec_namespaceDelete (q : IoQueue) (hdr : IoHdr) (s : State) :
    exec (.namespaceDelete q hdr) s = execNamespaceDelete q hdr s := rfl
theorem exec_namespaceAttachment (q : IoQueue) (hdr : IoHdr) (attach : Bool) (fns : List Crib) (s : State) :
    exec (.namespaceAttachment q hdr attach fns) s = execNamespaceAttachment q hdr attach fns s := rfl
theorem exec_keepAlive (q : IoQueue) (hdr : IoHdr) (s : State) : exec (.keepAlive q hdr) s = execKeepAlive q hdr s := rfl
theorem exec_keepAliveExpiry (f : Crib) (s : State) : exec (.keepAliveExpiry f) s = execKeepAliveExpiry f s := rfl
theorem exec_formatNvm (q : IoQueue) (hdr : IoHdr) (lbaf : Nat) (mset : Nat) (pi : Nat) (pil : Nat) (ses : Nat) (s : State) :
    exec (.formatNvm q hdr lbaf mset pi pil ses) s = execFormatNvm q hdr lbaf mset pi pil ses s := rfl
theorem exec_exitFailureMode (q : IoQueue) (hdr : IoHdr) (ndas : Bool) (s : State) :
    exec (.exitFailureMode q hdr ndas) s = execExitFailureMode q hdr ndas s := rfl
theorem exec_blockErase (q : IoQueue) (hdr : IoHdr) (ndas : Bool) (ause : Bool) (cdw10 : Nat) (s : State) :
    exec (.blockErase q hdr ndas ause cdw10) s = execBlockErase q hdr ndas ause cdw10 s := rfl
theorem exec_overwrite (q : IoQueue) (hdr : IoHdr) (ndas : Bool) (s : State) :
    exec (.overwrite q hdr ndas) s = execOverwrite q hdr ndas s := rfl
theorem exec_cryptoErase (q : IoQueue) (hdr : IoHdr) (ndas : Bool) (ause : Bool) (cdw10 : Nat) (s : State) :
    exec (.cryptoErase q hdr ndas ause cdw10) s = execCryptoErase q hdr ndas ause cdw10 s := rfl
theorem exec_invalidCommandOpcode (q : IoQueue) (hdr : IoHdr) (opcode : Nat) (s : State) :
    exec (.invalidCommandOpcode q hdr opcode) s = execInvalidCommandOpcode q hdr opcode s := rfl
theorem exec_flush (q : IoQueue) (hdr : IoHdr) (s : State) : exec (.flush q hdr) s = execFlush q hdr s := rfl
theorem exec_write (q : IoQueue) (hdr : IoHdr) (slba : Nat) (nlb : Nat) (data : Option (List Byte)) (s : State) :
    exec (.write q hdr slba nlb data) s = execWrite q hdr slba nlb data s := rfl
theorem exec_read (q : IoQueue) (hdr : IoHdr) (slba : Nat) (nlb : Nat) (lr : Bool) (s : State) :
    exec (.read q hdr slba nlb lr) s = execRead q hdr slba nlb lr s := rfl
theorem exec_datasetManagement (q : IoQueue) (hdr : IoHdr) (ad : Bool) (ranges : List DsmRange) (s : State) :
    exec (.datasetManagement q hdr ad ranges) s = execDatasetManagement q hdr ad ranges s := rfl
theorem exec_zoneClose (q : IoQueue) (hdr : IoHdr) (slba : Nat) (all : Bool) (s : State) :
    exec (.zoneClose q hdr slba all) s = execZoneClose q hdr slba all s := rfl
theorem exec_zoneFinish (q : IoQueue) (hdr : IoHdr) (slba : Nat) (all : Bool) (s : State) :
    exec (.zoneFinish q hdr slba all) s = execZoneFinish q hdr slba all s := rfl
theorem exec_zoneOpen (q : IoQueue) (hdr : IoHdr) (slba : Nat) (all : Bool) (s : State) :
    exec (.zoneOpen q hdr slba all) s = execZoneOpen q hdr slba all s := rfl
theorem exec_zoneReset (q : IoQueue) (hdr : IoHdr) (slba : Nat) (all : Bool) (s : State) :
    exec (.zoneReset q hdr slba all) s = execZoneReset q hdr slba all s := rfl
theorem exec_zoneManagementReceive (q : IoQueue) (hdr : IoHdr) (slba : Nat) (action : Nat) (opt : Nat) (part : Bool) (bytes : Nat) (s : State) :
    exec (.zoneManagementReceive q hdr slba action opt part bytes) s = execZoneManagementReceive q hdr slba action opt part bytes s := rfl
theorem exec_zoneAppend (q : IoQueue) (hdr : IoHdr) (zslba : Nat) (nlb : Nat) (data : Option (List Byte)) (s : State) :
    exec (.zoneAppend q hdr zslba nlb data) s = execZoneAppend q hdr zslba nlb data s := rfl
theorem exec_threshingJob (q : IoQueue) (hdr : IoHdr) (cdw10 : Nat) (rest0 : Bool) (data : Option (List Byte)) (s : State) :
    exec (.threshingJob q hdr cdw10 rest0 data) s = execThreshingJob q hdr cdw10 rest0 data s := rfl
theorem exec_zoneWarm (q : IoQueue) (hdr : IoHdr) (lba : Nat) (want : Nat) (s : State) :
    exec (.zoneWarm q hdr lba want) s = execZoneWarm q hdr lba want s := rfl
theorem exec_zoneRelease (q : IoQueue) (hdr : IoHdr) (lba : Nat) (s : State) :
    exec (.zoneRelease q hdr lba) s = execZoneRelease q hdr lba s := rfl
theorem exec_zoneLocate (q : IoQueue) (hdr : IoHdr) (lba : Nat) (s : State) :
    exec (.zoneLocate q hdr lba) s = execZoneLocate q hdr lba s := rfl
theorem exec_commandAdmission (s : State) : exec (.commandAdmission) s = execCommandAdmission s := rfl
theorem exec_mediaOpStart (n : Drive) (seeks : List (Nat × Nat)) (s : State) :
    exec (.mediaOpStart n seeks) s = execMediaOpStart n seeks s := rfl
theorem exec_driveIdleTimeout (n : Drive) (s : State) : exec (.driveIdleTimeout n) s = execDriveIdleTimeout n s := rfl
theorem exec_sqTailDoorbell (f : Crib) (qid : Nat) (tail : Nat) (s : State) :
    exec (.sqTailDoorbell f qid tail) s = execSqTailDoorbell f qid tail s := rfl
theorem exec_cqHeadDoorbell (f : Crib) (qid : Nat) (head : Nat) (s : State) :
    exec (.cqHeadDoorbell f qid head) s = execCqHeadDoorbell f qid head s := rfl
theorem exec_discRestore (d : Fin 1536) (s : State) : exec (.discRestore d) s = execDiscRestore d s := rfl
theorem exec_ethFrameReceive (p : Fin 2) (vlan : Nat) (pcp : Fin 8) (len : Nat) (good : Bool) (wanted : Bool) (taken : Nat) (conn : Option Nat) (peer : Option Nat) (s : State) :
    exec (.ethFrameReceive p vlan pcp len good wanted taken conn peer) s = execEthFrameReceive p vlan pcp len good wanted taken conn peer s := rfl
theorem exec_arpRequest (p : Fin 2) (vlan : Nat) (pcp : Fin 8) (ip : Nat) (requester : Nat) (s : State) :
    exec (.arpRequest p vlan pcp ip requester) s = execArpRequest p vlan pcp ip requester s := rfl
theorem exec_neighbourSolicitation (p : Fin 2) (vlan : Nat) (pcp : Fin 8) (hi : Nat) (lo : Nat) (requester : Nat) (s : State) :
    exec (.neighbourSolicitation p vlan pcp hi lo requester) s = execNeighbourSolicitation p vlan pcp hi lo requester s := rfl
theorem exec_echoRequest (p : Fin 2) (vlan : Nat) (pcp : Fin 8) (v6 : Bool) (hi : Nat) (lo : Nat) (requester : Nat) (payload : List Byte) (s : State) :
    exec (.echoRequest p vlan pcp v6 hi lo requester payload) s = execEchoRequest p vlan pcp v6 hi lo requester payload s := rfl
theorem exec_pfcRepeat (p : Fin 2) (q : Fin 8) (s : State) : exec (.pfcRepeat p q) s = execPfcRepeat p q s := rfl
theorem exec_pfcXon (p : Fin 2) (q : Fin 8) (level : Nat) (s : State) : exec (.pfcXon p q level) s = execPfcXon p q level s := rfl
theorem exec_pfcFrameReceive (p : Fin 2) (quanta : List (Fin 8 × Nat)) (s : State) :
    exec (.pfcFrameReceive p quanta) s = execPfcFrameReceive p quanta s := rfl
theorem exec_pfcPauseExpiry (p : Fin 2) (q : Fin 8) (s : State) : exec (.pfcPauseExpiry p q) s = execPfcPauseExpiry p q s := rfl
theorem exec_tcpSyn (p : Fin 2) (vlan : Nat) (pcp : Fin 8) (v6 : Bool) (hi : Nat) (lo : Nat) (dport : Nat) (peer : Nat) (s : State) :
    exec (.tcpSyn p vlan pcp v6 hi lo dport peer) s = execTcpSyn p vlan pcp v6 hi lo dport peer s := rfl
theorem exec_tcpRetransmitTimeout (k : Nat) (first : Bool) (s : State) :
    exec (.tcpRetransmitTimeout k first) s = execTcpRetransmitTimeout k first s := rfl
theorem exec_tcpPeerClose (k : Nat) (s : State) : exec (.tcpPeerClose k) s = execTcpPeerClose k s := rfl
theorem exec_icreq (k : Nat) (pfv : Nat) (hdgst : Bool) (ddgst : Bool) (maxR2t : Nat) (s : State) :
    exec (.icreq k pfv hdgst ddgst maxR2t) s = execIcreq k pfv hdgst ddgst maxR2t s := rfl
theorem exec_icreqTimeout (k : Nat) (s : State) : exec (.icreqTimeout k) s = execIcreqTimeout k s := rfl
theorem exec_connect (k : Nat) (cid : Nat) (qid : Nat) (sqSize : Nat) (kato : Nat) (cntlid : Nat) (subNqn : List Byte) (hostNqn : List Byte) (hostId : Nat) (s : State) :
    exec (.connect k cid qid sqSize kato cntlid subNqn hostNqn hostId) s = execConnect k cid qid sqSize kato cntlid subNqn hostNqn hostId s := rfl
theorem exec_propertyGet (k : Nat) (cid : Nat) (offset : Nat) (s : State) :
    exec (.propertyGet k cid offset) s = execPropertyGet k cid offset s := rfl
theorem exec_propertySet (k : Nat) (cid : Nat) (offset : Nat) (value : Nat) (s : State) :
    exec (.propertySet k cid offset value) s = execPropertySet k cid offset value s := rfl
theorem exec_disconnect (k : Nat) (cid : Nat) (s : State) : exec (.disconnect k cid) s = execDisconnect k cid s := rfl
theorem exec_authenticationSend (k : Nat) (cid : Nat) (s : State) :
    exec (.authenticationSend k cid) s = execAuthenticationSend k cid s := rfl
theorem exec_authenticationReceive (k : Nat) (cid : Nat) (s : State) :
    exec (.authenticationReceive k cid) s = execAuthenticationReceive k cid s := rfl
theorem exec_capsuleCommand (k : Nat) (hdr : IoHdr) (op : IoOp) (digestBad : Bool) (s : State) :
    exec (.capsuleCommand k hdr op digestBad) s = execCapsuleCommand k hdr op digestBad s := rfl
theorem exec_h2cdata (k : Nat) (ttag : Nat) (offset : Nat) (data : List Byte) (digestBad : Bool) (s : State) :
    exec (.h2cdata k ttag offset data digestBad) s = execH2cdata k ttag offset data digestBad s := rfl
theorem exec_h2ctermreq (k : Nat) (s : State) : exec (.h2ctermreq k) s = execH2ctermreq k s := rfl
theorem exec_pduViolation (k : Nat) (kind : Fin 3) (s : State) : exec (.pduViolation k kind) s = execPduViolation k kind s := rfl
theorem exec_associationKeepAliveExpiry (n : Nat) (s : State) :
    exec (.associationKeepAliveExpiry n) s = execAssociationKeepAliveExpiry n s := rfl
theorem exec_netLinkDown (p : Fin 2) (s : State) : exec (.netLinkDown p) s = execNetLinkDown p s := rfl
theorem exec_netLinkUp (p : Fin 2) (s : State) : exec (.netLinkUp p) s = execNetLinkUp p s := rfl
theorem exec_netLinkHoldExpiry (p : Fin 2) (s : State) : exec (.netLinkHoldExpiry p) s = execNetLinkHoldExpiry p s := rfl
theorem exec_adminOpStep (st : Fin 8) (lost : Bool) (s : State) : exec (.adminOpStep st lost) s = execAdminOpStep st lost s := rfl
theorem exec_certificationStep (st : Fin 8) (found : List (Nat × Nat)) (ok : Bool) (lost : Bool) (s : State) :
    exec (.certificationStep st found ok lost) s = execCertificationStep st found ok lost s := rfl
theorem exec_hayloftOffer (s : State) : exec (.hayloftOffer) s = execHayloftOffer s := rfl
theorem exec_hayloftStageReserve (s : State) : exec (.hayloftStageReserve) s = execHayloftStageReserve s := rfl
theorem exec_sideboardMove (s : State) : exec (.sideboardMove) s = execSideboardMove s := rfl
theorem exec_sideboardDramWrite (s : State) : exec (.sideboardDramWrite) s = execSideboardDramWrite s := rfl
theorem exec_shelfAgeSweep (s : State) : exec (.shelfAgeSweep) s = execShelfAgeSweep s := rfl
theorem exec_hayloftAgeSweep (s : State) : exec (.hayloftAgeSweep) s = execHayloftAgeSweep s := rfl
theorem exec_invalidate (s : State) : exec (.invalidate) s = execInvalidate s := rfl
theorem exec_demote (s : State) : exec (.demote) s = execDemote s := rfl
theorem exec_prefetch (s : State) : exec (.prefetch) s = execPrefetch s := rfl
theorem exec_invalidateAll (s : State) : exec (.invalidateAll) s = execInvalidateAll s := rfl
theorem exec_rakeDone (s : State) : exec (.rakeDone) s = execRakeDone s := rfl
theorem exec_gleanerDramRead (ch : Fin 2) (demand : Option DemandAt) (even : MemRead) (odd : MemRead) (s : State) :
    exec (.gleanerDramRead ch demand even odd) s = execGleanerDramRead ch demand even odd s := rfl
theorem exec_gleanerSramRead (target : Fin 3) (demand : Option Nat) (passEnd : Bool) (word : MemRead) (s : State) :
    exec (.gleanerSramRead target demand passEnd word) s = execGleanerSramRead target demand passEnd word s := rfl
theorem exec_memEraseDevWrite (r : Fin 4) (v : Nat) (s : State) : exec (.memEraseDevWrite r v) s = execMemEraseDevWrite r v s := rfl
theorem exec_memCeClear (s : State) : exec (.memCeClear) s = execMemCeClear s := rfl
theorem exec_memTestWrite (s : State) : exec (.memTestWrite) s = execMemTestWrite s := rfl
theorem exec_writeRaw (s : State) : exec (.writeRaw) s = execWriteRaw s := rfl
theorem exec_memTestRead (s : State) : exec (.memTestRead) s = execMemTestRead s := rfl
theorem exec_readRaw (s : State) : exec (.readRaw) s = execReadRaw s := rfl
theorem exec_memRetireReq (v : Nat) (s : State) : exec (.memRetireReq v) s = execMemRetireReq v s := rfl
theorem exec_memRetireDone (lines : List Nat) (s : State) : exec (.memRetireDone lines) s = execMemRetireDone lines s := rfl
theorem exec_memRetireClear (v : Nat) (s : State) : exec (.memRetireClear v) s = execMemRetireClear v s := rfl
theorem exec_memLogRepeatFlush (s : State) : exec (.memLogRepeatFlush) s = execMemLogRepeatFlush s := rfl
theorem exec_sequencerAssign (sq : Fin 4) (listBad : Bool) (s : State) :
    exec (.sequencerAssign sq listBad) s = execSequencerAssign sq listBad s := rfl
theorem exec_nop (sq : Fin 4) (s : State) : exec (.nop sq) s = execNop sq s := rfl
theorem exec_halt (sq : Fin 4) (s : State) : exec (.halt sq) s = execHalt sq s := rfl
theorem exec_lil (sq : Fin 4) (s : State) : exec (.lil sq) s = execLil sq s := rfl
theorem exec_lih (sq : Fin 4) (s : State) : exec (.lih sq) s = execLih sq s := rfl
theorem exec_add (sq : Fin 4) (s : State) : exec (.add sq) s = execAdd sq s := rfl
theorem exec_sub (sq : Fin 4) (s : State) : exec (.sub sq) s = execSub sq s := rfl
theorem exec_and (sq : Fin 4) (s : State) : exec (.and sq) s = execAnd sq s := rfl
theorem exec_or (sq : Fin 4) (s : State) : exec (.or sq) s = execOr sq s := rfl
theorem exec_xor (sq : Fin 4) (s : State) : exec (.xor sq) s = execXor sq s := rfl
theorem exec_shl (sq : Fin 4) (s : State) : exec (.shl sq) s = execShl sq s := rfl
theorem exec_shr (sq : Fin 4) (s : State) : exec (.shr sq) s = execShr sq s := rfl
theorem exec_sar (sq : Fin 4) (s : State) : exec (.sar sq) s = execSar sq s := rfl
theorem exec_mul (sq : Fin 4) (s : State) : exec (.mul sq) s = execMul sq s := rfl
theorem exec_minu (sq : Fin 4) (s : State) : exec (.minu sq) s = execMinu sq s := rfl
theorem exec_maxu (sq : Fin 4) (s : State) : exec (.maxu sq) s = execMaxu sq s := rfl
theorem exec_addi (sq : Fin 4) (s : State) : exec (.addi sq) s = execAddi sq s := rfl
theorem exec_andi (sq : Fin 4) (s : State) : exec (.andi sq) s = execAndi sq s := rfl
theorem exec_ori (sq : Fin 4) (s : State) : exec (.ori sq) s = execOri sq s := rfl
theorem exec_xori (sq : Fin 4) (s : State) : exec (.xori sq) s = execXori sq s := rfl
theorem exec_shli (sq : Fin 4) (s : State) : exec (.shli sq) s = execShli sq s := rfl
theorem exec_shri (sq : Fin 4) (s : State) : exec (.shri sq) s = execShri sq s := rfl
theorem exec_sari (sq : Fin 4) (s : State) : exec (.sari sq) s = execSari sq s := rfl
theorem exec_ld (sq : Fin 4) (s : State) : exec (.ld sq) s = execLd sq s := rfl
theorem exec_st (sq : Fin 4) (s : State) : exec (.st sq) s = execSt sq s := rfl
theorem exec_beq (sq : Fin 4) (s : State) : exec (.beq sq) s = execBeq sq s := rfl
theorem exec_bne (sq : Fin 4) (s : State) : exec (.bne sq) s = execBne sq s := rfl
theorem exec_blt (sq : Fin 4) (s : State) : exec (.blt sq) s = execBlt sq s := rfl
theorem exec_bge (sq : Fin 4) (s : State) : exec (.bge sq) s = execBge sq s := rfl
theorem exec_bltu (sq : Fin 4) (s : State) : exec (.bltu sq) s = execBltu sq s := rfl
theorem exec_bgeu (sq : Fin 4) (s : State) : exec (.bgeu sq) s = execBgeu sq s := rfl
theorem exec_jmp (sq : Fin 4) (s : State) : exec (.jmp sq) s = execJmp sq s := rfl
theorem exec_loop (sq : Fin 4) (s : State) : exec (.loop sq) s = execLoop sq s := rfl
theorem exec_setinc (sq : Fin 4) (s : State) : exec (.setinc sq) s = execSetinc sq s := rfl
theorem exec_mova (sq : Fin 4) (s : State) : exec (.mova sq) s = execMova sq s := rfl
theorem exec_rda (sq : Fin 4) (s : State) : exec (.rda sq) s = execRda sq s := rfl
theorem exec_lcnt (sq : Fin 4) (s : State) : exec (.lcnt sq) s = execLcnt sq s := rfl
theorem exec_push (sq : Fin 4) (s : State) : exec (.push sq) s = execPush sq s := rfl
theorem exec_fence (sq : Fin 4) (s : State) : exec (.fence sq) s = execFence sq s := rfl
theorem exec_illegalInstruction (sq : Fin 4) (s : State) : exec (.illegalInstruction sq) s = execIllegalInstruction sq s := rfl
theorem exec_engineCommandEnd (sq : Fin 4) (q : Fin 4) (s : State) : exec (.engineCommandEnd sq q) s = execEngineCommandEnd sq q s := rfl
theorem exec_copy (sq : Fin 4) (q : Fin 4) (s : State) : exec (.copy sq q) s = execCopy sq q s := rfl
theorem exec_fill (sq : Fin 4) (q : Fin 4) (s : State) : exec (.fill sq q) s = execFill sq q s := rfl
theorem exec_readNs (sq : Fin 4) (q : Fin 4) (s : State) : exec (.readNs sq q) s = execReadNs sq q s := rfl
theorem exec_toHost (sq : Fin 4) (q : Fin 4) (s : State) : exec (.toHost sq q) s = execToHost sq q s := rfl
theorem exec_lincomb (sq : Fin 4) (q : Fin 4) (s : State) : exec (.lincomb sq q) s = execLincomb sq q s := rfl
theorem exec_fieldMul (sq : Fin 4) (q : Fin 4) (s : State) : exec (.fieldMul sq q) s = execFieldMul sq q s := rfl
theorem exec_shaInit (sq : Fin 4) (q : Fin 4) (s : State) : exec (.shaInit sq q) s = execShaInit sq q s := rfl
theorem exec_shaUpdate (sq : Fin 4) (q : Fin 4) (s : State) : exec (.shaUpdate sq q) s = execShaUpdate sq q s := rfl
theorem exec_shaFinal (sq : Fin 4) (q : Fin 4) (s : State) : exec (.shaFinal sq q) s = execShaFinal sq q s := rfl
theorem exec_shaDigest (sq : Fin 4) (q : Fin 4) (s : State) : exec (.shaDigest sq q) s = execShaDigest sq q s := rfl
theorem exec_crcUpdate (sq : Fin 4) (q : Fin 4) (s : State) : exec (.crcUpdate sq q) s = execCrcUpdate sq q s := rfl
theorem exec_crcDigest (sq : Fin 4) (q : Fin 4) (s : State) : exec (.crcDigest sq q) s = execCrcDigest sq q s := rfl
theorem exec_gcmEnc (sq : Fin 4) (q : Fin 4) (s : State) : exec (.gcmEnc sq q) s = execGcmEnc sq q s := rfl
theorem exec_gcmDec (sq : Fin 4) (q : Fin 4) (s : State) : exec (.gcmDec sq q) s = execGcmDec sq q s := rfl
theorem exec_vectorAdd (sq : Fin 4) (q : Fin 4) (s : State) : exec (.vectorAdd sq q) s = execVectorAdd sq q s := rfl
theorem exec_vectorSub (sq : Fin 4) (q : Fin 4) (s : State) : exec (.vectorSub sq q) s = execVectorSub sq q s := rfl
theorem exec_vectorAnd (sq : Fin 4) (q : Fin 4) (s : State) : exec (.vectorAnd sq q) s = execVectorAnd sq q s := rfl
theorem exec_vectorOr (sq : Fin 4) (q : Fin 4) (s : State) : exec (.vectorOr sq q) s = execVectorOr sq q s := rfl
theorem exec_vectorXor (sq : Fin 4) (q : Fin 4) (s : State) : exec (.vectorXor sq q) s = execVectorXor sq q s := rfl
theorem exec_min (sq : Fin 4) (q : Fin 4) (s : State) : exec (.min sq q) s = execMin sq q s := rfl
theorem exec_max (sq : Fin 4) (q : Fin 4) (s : State) : exec (.max sq q) s = execMax sq q s := rfl
theorem exec_cmpeq (sq : Fin 4) (q : Fin 4) (s : State) : exec (.cmpeq sq q) s = execCmpeq sq q s := rfl
theorem exec_cmplt (sq : Fin 4) (q : Fin 4) (s : State) : exec (.cmplt sq q) s = execCmplt sq q s := rfl
theorem exec_sum (sq : Fin 4) (q : Fin 4) (s : State) : exec (.sum sq q) s = execSum sq q s := rfl
theorem exec_countEq (sq : Fin 4) (q : Fin 4) (s : State) : exec (.countEq sq q) s = execCountEq sq q s := rfl
theorem exec_findEq (sq : Fin 4) (q : Fin 4) (s : State) : exec (.findEq sq q) s = execFindEq sq q s := rfl
theorem exec_jobTimeLimitExpiry (sq : Fin 4) (s : State) : exec (.jobTimeLimitExpiry sq) s = execJobTimeLimitExpiry sq s := rfl
theorem exec_mailboxPost (f : Crib) (ch : Fin 32) (w : Nat) (staged : Option (List Byte)) (s : State) :
    exec (.mailboxPost f ch w staged) s = execMailboxPost f ch w staged s := rfl
theorem exec_mailboxRelease (f : Crib) (ch : Fin 32) (w : Nat) (s : State) :
    exec (.mailboxRelease f ch w) s = execMailboxRelease f ch w s := rfl
theorem exec_dbRing (f : Crib) (w : Fin 8) (bits : Nat) (s : State) : exec (.dbRing f w bits) s = execDbRing f w bits s := rfl
theorem exec_dbPendClear (f : Crib) (w : Fin 8) (bits : Nat) (s : State) :
    exec (.dbPendClear f w bits) s = execDbPendClear f w bits s := rfl
theorem exec_evrHead (f : Crib) (r : Fin 8) (v : Nat) (s : State) : exec (.evrHead f r v) s = execEvrHead f r v s := rfl
theorem exec_evtPendClear (w : Fin 16) (bits : Nat) (s : State) : exec (.evtPendClear w bits) s = execEvtPendClear w bits s := rfl
theorem exec_evtMask (w : Fin 16) (bits : Nat) (s : State) : exec (.evtMask w bits) s = execEvtMask w bits s := rfl
theorem exec_evtCribClear (c : Crib) (bits : Nat) (s : State) : exec (.evtCribClear c bits) s = execEvtCribClear c bits s := rfl
theorem exec_evtCribMask (c : Crib) (bits : Nat) (s : State) : exec (.evtCribMask c bits) s = execEvtCribMask c bits s := rfl
theorem exec_evtRoute (who : Crib) (e : Fin 1024) (v : Nat) (s : State) : exec (.evtRoute who e v) s = execEvtRoute who e v s := rfl
theorem exec_evrEnable (who : Crib) (r : Fin 8) (v : Nat) (s : State) : exec (.evrEnable who r v) s = execEvrEnable who r v s := rfl
theorem exec_vioLogRepeatFlush (s : State) : exec (.vioLogRepeatFlush) s = execVioLogRepeatFlush s := rfl
theorem exec_serialCharacter (p : Fin 4) (bits : List (Fin 8)) (s : State) :
    exec (.serialCharacter p bits) s = execSerialCharacter p bits s := rfl
theorem exec_falseStart (p : Fin 4) (s : State) : exec (.falseStart p) s = execFalseStart p s := rfl
theorem exec_serialBreak (p : Fin 4) (noise : Bool) (s : State) : exec (.serialBreak p noise) s = execSerialBreak p noise s := rfl
theorem exec_spRxTimeout (p : Fin 4) (s : State) : exec (.spRxTimeout p) s = execSpRxTimeout p s := rfl
theorem exec_spTxData (who : Crib) (p : Fin 4) (data : List Byte) (s : State) :
    exec (.spTxData who p data) s = execSpTxData who p data s := rfl
theorem exec_spRxData (who : Crib) (p : Fin 4) (window : Bool) (offset : Nat) (s : State) :
    exec (.spRxData who p window offset) s = execSpRxData who p window offset s := rfl
theorem exec_serialCharacterSent (p : Fin 4) (s : State) : exec (.serialCharacterSent p) s = execSerialCharacterSent p s := rfl
theorem exec_traySlotStart (p : Fin 4) (s : State) : exec (.traySlotStart p) s = execTraySlotStart p s := rfl
theorem exec_trayResponseTimeout (p : Fin 4) (s : State) : exec (.trayResponseTimeout p) s = execTrayResponseTimeout p s := rfl
theorem exec_padFunc (who : Crib) (k : Fin 8) (v : Nat) (rxBusy : BitVec 4) (s : State) :
    exec (.padFunc who k v rxBusy) s = execPadFunc who k v rxBusy s := rfl
theorem exec_ledgerMinuteBoundary (s : State) : exec (.ledgerMinuteBoundary) s = execLedgerMinuteBoundary s := rfl
theorem exec_ledgerSecond (rails : List (Nat × Nat × Nat)) (s : State) : exec (.ledgerSecond rails) s = execLedgerSecond rails s := rfl
theorem exec_powerReport (n : Drive) (uj33 : Nat) (uj50 : Nat) (temp : Int) (s : State) :
    exec (.powerReport n uj33 uj50 temp) s = execPowerReport n uj33 uj50 temp s := rfl
theorem exec_utcSet (who : Crib) (t : Nat) (s : State) : exec (.utcSet who t) s = execUtcSet who t s := rfl
theorem exec_arm (who : Crib) (s : State) : exec (.arm who) s = execArm who s := rfl
theorem exec_cancel (who : Crib) (s : State) : exec (.cancel who) s = execCancel who s := rfl
theorem exec_ledgerAck (who : Crib) (seq : Nat) (s : State) : exec (.ledgerAck who seq) s = execLedgerAck who seq s := rfl
theorem exec_domainIdleEntry (d : Fin 5) (s : State) : exec (.domainIdleEntry d) s = execDomainIdleEntry d s := rfl
theorem exec_domainExitDone (d : Fin 5) (s : State) : exec (.domainExitDone d) s = execDomainExitDone d s := rfl
theorem exec_giperlinkSleep (n : Drive) (s : State) : exec (.giperlinkSleep n) s = execGiperlinkSleep n s := rfl
theorem exec_sleepAck (n : Drive) (s : State) : exec (.sleepAck n) s = execSleepAck n s := rfl
theorem exec_giperlinkWakeDone (n : Drive) (s : State) : exec (.giperlinkWakeDone n) s = execGiperlinkWakeDone n s := rfl
theorem exec_refClkLoss (s : State) : exec (.refClkLoss) s = execRefClkLoss s := rfl
theorem exec_refClkReturn (s : State) : exec (.refClkReturn) s = execRefClkReturn s := rfl
theorem exec_railExcursion (rail : Fin 7) (mv : Nat) (back : Bool) (s : State) :
    exec (.railExcursion rail mv back) s = execRailExcursion rail mv back s := rfl
theorem exec_tempSample (ctrl : List Int) (stage : List Int) (s : State) :
    exec (.tempSample ctrl stage) s = execTempSample ctrl stage s := rfl
theorem exec_longRunCheckpoint (s : State) : exec (.longRunCheckpoint) s = execLongRunCheckpoint s := rfl
theorem exec_chestDelayedWrite (region : Nat) (pos : Nat) (s : State) :
    exec (.chestDelayedWrite region pos) s = execChestDelayedWrite region pos s := rfl
theorem exec_bypass (part : Fin 22) (s : State) : exec (.bypass part) s = execBypass part s := rfl
theorem exec_idcode (part : Fin 22) (s : State) : exec (.idcode part) s = execIdcode part s := rfl
theorem exec_samplePreload (part : Fin 22) (pins : Nat) (preload : Nat) (s : State) :
    exec (.samplePreload part pins preload) s = execSamplePreload part pins preload s := rfl
theorem exec_extest (part : Fin 22) (s : State) : exec (.extest part) s = execExtest part s := rfl
theorem exec_clamp (part : Fin 22) (s : State) : exec (.clamp part) s = execClamp part s := rfl
theorem exec_stageLinkAligned (g : Stage) (s : State) : exec (.stageLinkAligned g) s = execStageLinkAligned g s := rfl
theorem exec_preambleLock (n : Drive) (bit : Nat) (errs : List Int) (amps : List Nat) (s : State) :
    exec (.preambleLock n bit errs amps) s = execPreambleLock n bit errs amps s := rfl
theorem exec_frameSync (n : Drive) (samples : List Int) (errs : List Int) (s : State) :
    exec (.frameSync n samples errs) s = execFrameSync n samples errs s := rfl
theorem exec_winnowerCriterion (n : Drive) (crit : Fin 4) (value : Nat) (ref : Nat) (bit : Nat) (s : State) :
    exec (.winnowerCriterion n crit value ref bit) s = execWinnowerCriterion n crit value ref bit s := rfl
theorem exec_switchInputEdge (g : Stage) (input : Fin 8) (rising : Bool) (tick : Nat) (sub : Nat) (pos : Int) (s : State) :
    exec (.switchInputEdge g input rising tick sub pos) s = execSwitchInputEdge g input rising tick sub pos s := rfl
theorem exec_serialBreakEnd (p : Fin 4) (s : State) : exec (.serialBreakEnd p) s = execSerialBreakEnd p s := rfl
theorem exec_feRailLoss (n : Drive) (logic : Bool) (s : State) : exec (.feRailLoss n logic) s = execFeRailLoss n logic s := rfl
theorem exec_feRailReturn (n : Drive) (logic : Bool) (s : State) : exec (.feRailReturn n logic) s = execFeRailReturn n logic s := rfl
theorem exec_vbusReturn (g : Stage) (s : State) : exec (.vbusReturn g) s = execVbusReturn g s := rfl
theorem exec_domainEntryDone (d : Fin 5) (s : State) : exec (.domainEntryDone d) s = execDomainEntryDone d s := rfl
theorem exec_ccEnSet (f : Crib) (cc : Nat) (aqa : Nat) (s : State) : exec (.ccEnSet f cc aqa) s = execCcEnSet f cc aqa s := rfl
theorem exec_pcieConfigRequest (f : Crib) (bme : Option Bool) (vfs : Option Nat) (s : State) :
    exec (.pcieConfigRequest f bme vfs) s = execPcieConfigRequest f bme vfs s := rfl
theorem exec_msixTableWrite (f : Crib) (vec : Fin 64) (addr : Nat) (data : Nat) (masked : Bool) (s : State) :
    exec (.msixTableWrite f vec addr data masked) s = execMsixTableWrite f vec addr data masked s := rfl
theorem exec_perstNRelease (rate : Nat) (width : Nat) (s : State) :
    exec (.perstNRelease rate width) s = execPerstNRelease rate width s := rfl
theorem exec_peerBarRequest (f : Crib) (s : State) : exec (.peerBarRequest f) s = execPeerBarRequest f s := rfl
theorem exec_jobKeyData (who : Crib) (c : Crib) (k : Fin 8) (data : List Byte) (s : State) :
    exec (.jobKeyData who c k data) s = execJobKeyData who c k data s := rfl
theorem exec_hostTransferError (q : IoQueue) (cid : Nat) (toHost : Option (Fin 4)) (s : State) :
    exec (.hostTransferError q cid toHost) s = execHostTransferError q cid toHost s := rfl

end Sys2Proof.Machine
end

