-- ==== Sys2Proof/Laws/Keyed.lean ====
section
/-! SUPPORT. Laws of sparse data under keys: what a read gives after a write, and that writes keep the canonical form. -/

namespace Sys2Proof.Keyed

variable {α : Type}

theorem find?_insert (m : Keyed α) (k j : Nat) (v : α) :
    (insert m k v).find? j = if k = j then some v else m.find? j := by
  induction m with
  | nil => simp [insert, find?]
  | cons p t ih =>
    obtain ⟨i, w⟩ := p
    simp only [insert]
    split
    · simp [find?]
    · split
      · next h => subst h; simp only [find?]; split <;> simp_all
      · next h => simp only [find?, ih]; split <;> split <;> simp_all

theorem find?_erase (m : Keyed α) (k j : Nat) :
    (erase m k).find? j = if k = j then none else m.find? j := by
  induction m with
  | nil => simp [erase, find?]
  | cons p t ih =>
    obtain ⟨i, w⟩ := p
    simp only [erase]
    split
    · next h => subst h; simp only [ih, find?]; split <;> simp_all
    · next h => simp only [find?, ih]; split <;> split <;> simp_all

/-- A read after a write: the value written under its own key, what was there under any other. -/
theorem getD_put [DecidableEq α] (m : Keyed α) (k j : Nat) (v d : α) :
    (put m k v d).getD j d = if k = j then v else m.getD j d := by
  unfold put getD
  split
  · next h => subst h; rw [find?_erase]; split <;> simp
  · rw [find?_insert]; split <;> simp

theorem getD_put_self [DecidableEq α] (m : Keyed α) (k : Nat) (v d : α) : (put m k v d).getD k d = v := by
  rw [getD_put, if_pos rfl]

theorem getD_put_ne [DecidableEq α] (m : Keyed α) {k j : Nat} (v d : α) (h : k ≠ j) :
    (put m k v d).getD j d = m.getD j d := by
  rw [getD_put, if_neg h]

theorem risingFrom_mono {m : Keyed α} {a b : Nat} (hab : a ≤ b) (h : risingFrom b m = true) : risingFrom a m = true := by
  cases m with
  | nil => rfl
  | cons p t => obtain ⟨i, w⟩ := p; simp_all [risingFrom]; omega

theorem risingFrom_insert {m : Keyed α} {lo k : Nat} {v : α} (hk : lo ≤ k) (h : risingFrom lo m = true) :
    risingFrom lo (insert m k v) = true := by
  induction m generalizing lo with
  | nil => simp [insert, risingFrom, hk]
  | cons p t ih =>
    obtain ⟨i, w⟩ := p
    simp only [risingFrom, Bool.and_eq_true, decide_eq_true_eq] at h
    simp only [insert]
    split
    · next hki => simp only [risingFrom, Bool.and_eq_true, decide_eq_true_eq]; exact ⟨hk, hki, h.2⟩
    · split
      · next hik => simp only [risingFrom, Bool.and_eq_true, decide_eq_true_eq]; exact ⟨hk, hik ▸ h.2⟩
      · simp only [risingFrom, Bool.and_eq_true, decide_eq_true_eq]; exact ⟨h.1, ih (by omega) h.2⟩

theorem risingFrom_erase {m : Keyed α} {lo k : Nat} (h : risingFrom lo m = true) : risingFrom lo (erase m k) = true := by
  induction m generalizing lo with
  | nil => rfl
  | cons p t ih =>
    obtain ⟨i, w⟩ := p
    simp only [risingFrom, Bool.and_eq_true, decide_eq_true_eq] at h
    simp only [erase]
    split
    · exact ih (risingFrom_mono (by omega) h.2)
    · simp only [risingFrom, Bool.and_eq_true, decide_eq_true_eq]; exact ⟨h.1, ih h.2⟩

theorem all_insert {m : Keyed α} {k : Nat} {v : α} {p : Nat × α → Bool} (hv : p (k, v) = true) (h : m.all p = true) :
    (insert m k v).all p = true := by
  induction m with
  | nil => simp [insert, hv]
  | cons q t ih =>
    obtain ⟨i, w⟩ := q
    simp only [List.all_cons, Bool.and_eq_true] at h
    simp only [insert]
    split
    · simp [hv, h]
    · split
      · simp [hv, h]
      · simp [h, ih h.2]

theorem all_erase {m : Keyed α} {k : Nat} {p : Nat × α → Bool} (h : m.all p = true) : (erase m k).all p = true := by
  induction m with
  | nil => rfl
  | cons q t ih =>
    obtain ⟨i, w⟩ := q
    simp only [List.all_cons, Bool.and_eq_true] at h
    simp only [erase]
    split
    · exact ih h.2
    · simp [h, ih h.2]

/-- A write keeps the canonical form. -/
theorem canonical_put [DecidableEq α] {m : Keyed α} {d : α} (k : Nat) (v : α) (h : m.canonical d = true) :
    (put m k v d).canonical d = true := by
  simp only [canonical, Bool.and_eq_true] at h ⊢
  unfold put
  split
  · exact ⟨risingFrom_erase h.1, all_erase h.2⟩
  · next hv => exact ⟨risingFrom_insert (Nat.zero_le k) h.1, all_insert (by simpa using hv) h.2⟩

theorem canonical_nil [DecidableEq α] (d : α) : canonical ([] : Keyed α) d = true := rfl

/-- Writing over a range in any order keeps the canonical form. -/
theorem canonical_foldl [DecidableEq α] {β : Type} {d : α} (l : List β) (k : β → Nat) (v : β → α) (m : Keyed α)
    (h : m.canonical d = true) : (l.foldl (fun m b => put m (k b) (v b) d) m).canonical d = true := by
  induction l generalizing m with
  | nil => exact h
  | cons b t ih => exact ih _ (canonical_put _ _ h)

end Sys2Proof.Keyed
end

