-- ==== Sys2Proof/Laws/State.lean ====
section
/-! SUPPORT. The small laws of the named updates of State: what each leaves as it was, field by field, and what a read of an object
gives after a write. -/

namespace Sys2Proof.Machine

/-! ### Reads after writes -/

/-- A read of an object after a write of one. -/
theorem State.g_p (s : State) (o o' : Ob) (e e' v : Nat) :
    (s.p o e v).g o' e' = if o.el e = o'.el e' then v % 2 ^ o.bits else s.g o' e' := by
  simp only [State.g, State.p, Keyed.getD_put]

@[simp] theorem State.g_p_self (s : State) (o : Ob) (e v : Nat) : (s.p o e v).g o e = v % 2 ^ o.bits := by
  rw [State.g_p, if_pos rfl]

theorem State.g_p_ne (s : State) {o o' : Ob} {e e' : Nat} (v : Nat) (h : o.el e ≠ o'.el e') :
    (s.p o e v).g o' e' = s.g o' e' := by
  rw [State.g_p, if_neg h]

theorem State.g_add_self (s : State) (o : Ob) (e n : Nat) : (s.add o e n).g o e = (s.g o e + n) % 2 ^ o.bits := by
  simp [State.add]

theorem State.g_inc_self (s : State) (o : Ob) (e : Nat) : (s.inc o e).g o e = (s.g o e + 1) % 2 ^ o.bits := by
  simp [State.inc, State.add]

theorem State.blob_setBlob (s : State) (o o' : Ob) (e e' : Nat) (v : List Byte) :
    (s.setBlob o e v).blob o' e' = if o.el e = o'.el e' then v else s.blob o' e' := by
  simp only [State.blob, State.setBlob, Keyed.getD_put]

@[simp] theorem State.blob_setBlob_self (s : State) (o : Ob) (e : Nat) (v : List Byte) : (s.setBlob o e v).blob o e = v := by
  rw [State.blob_setBlob, if_pos rfl]

@[simp] theorem State.g_setBlob (s : State) (o o' : Ob) (e e' : Nat) (v : List Byte) : (s.setBlob o e v).g o' e' = s.g o' e' := rfl
@[simp] theorem State.g_emit (s : State) (x : Output) (o : Ob) (e : Nat) : (s.emit x).g o e = s.g o e := rfl
@[simp] theorem State.g_useFree (s : State) (o : Ob) (e : Nat) : s.useFree.g o e = s.g o e := rfl
@[simp] theorem State.blob_p (s : State) (o o' : Ob) (e e' v : Nat) : (s.p o e v).blob o' e' = s.blob o' e' := rfl
@[simp] theorem State.blob_emit (s : State) (x : Output) (o : Ob) (e : Nat) : (s.emit x).blob o e = s.blob o e := rfl
@[simp] theorem State.out_emit (s : State) (x : Output) : (s.emit x).out = s.out ++ [x] := rfl

/-! ### Fields an update leaves -/

@[simp] theorem State.pending_p (s : State) (o : Ob) (e v : Nat) : (s.p o e v).pending = s.pending := rfl
@[simp] theorem State.dev_p (s : State) (o : Ob) (e v : Nat) : (s.p o e v).dev = s.dev := rfl
@[simp] theorem State.now_p (s : State) (o : Ob) (e v : Nat) : (s.p o e v).now = s.now := rfl
@[simp] theorem State.freeCtr_p (s : State) (o : Ob) (e v : Nat) : (s.p o e v).freeCtr = s.freeCtr := rfl
@[simp] theorem State.blobs_p (s : State) (o : Ob) (e v : Nat) : (s.p o e v).blobs = s.blobs := rfl
@[simp] theorem State.out_p (s : State) (o : Ob) (e v : Nat) : (s.p o e v).out = s.out := rfl
@[simp] theorem State.chest_p (s : State) (o : Ob) (e v : Nat) : (s.p o e v).chest = s.chest := rfl
@[simp] theorem State.evt_p (s : State) (o : Ob) (e v : Nat) : (s.p o e v).evt = s.evt := rfl
@[simp] theorem State.flash_p (s : State) (o : Ob) (e v : Nat) : (s.p o e v).flash = s.flash := rfl
@[simp] theorem State.boot_p (s : State) (o : Ob) (e v : Nat) : (s.p o e v).boot = s.boot := rfl
@[simp] theorem State.pins_p (s : State) (o : Ob) (e v : Nat) : (s.p o e v).pins = s.pins := rfl
@[simp] theorem State.lock_p (s : State) (o : Ob) (e v : Nat) : (s.p o e v).lock = s.lock := rfl
@[simp] theorem State.parts_p (s : State) (o : Ob) (e v : Nat) : (s.p o e v).parts = s.parts := rfl
@[simp] theorem State.dict_p (s : State) (o : Ob) (e v : Nat) : (s.p o e v).dict = s.dict := rfl
@[simp] theorem State.crib_p (s : State) (o : Ob) (e v : Nat) : (s.p o e v).crib = s.crib := rfl
@[simp] theorem State.keys_p (s : State) (o : Ob) (e v : Nat) : (s.p o e v).keys = s.keys := rfl
@[simp] theorem State.pwr_p (s : State) (o : Ob) (e v : Nat) : (s.p o e v).pwr = s.pwr := rfl
@[simp] theorem State.scan_p (s : State) (o : Ob) (e v : Nat) : (s.p o e v).scan = s.scan := rfl
@[simp] theorem State.fns_p (s : State) (o : Ob) (e v : Nat) : (s.p o e v).fns = s.fns := rfl
@[simp] theorem State.drives_p (s : State) (o : Ob) (e v : Nat) : (s.p o e v).drives = s.drives := rfl
@[simp] theorem State.motion_p (s : State) (o : Ob) (e v : Nat) : (s.p o e v).motion = s.motion := rfl
@[simp] theorem State.sf_p (s : State) (o : Ob) (e v : Nat) : (s.p o e v).sf = s.sf := rfl
@[simp] theorem State.servoImg_p (s : State) (o : Ob) (e v : Nat) : (s.p o e v).servoImg = s.servoImg := rfl
@[simp] theorem State.stageImg_p (s : State) (o : Ob) (e v : Nat) : (s.p o e v).stageImg = s.stageImg := rfl
@[simp] theorem State.host_p (s : State) (o : Ob) (e v : Nat) : (s.p o e v).host = s.host := rfl
@[simp] theorem State.media_p (s : State) (o : Ob) (e v : Nat) : (s.p o e v).media = s.media := rfl
@[simp] theorem State.cache_p (s : State) (o : Ob) (e v : Nat) : (s.p o e v).cache = s.cache := rfl
@[simp] theorem State.admin_p (s : State) (o : Ob) (e v : Nat) : (s.p o e v).admin = s.admin := rfl
@[simp] theorem State.net_p (s : State) (o : Ob) (e v : Nat) : (s.p o e v).net = s.net := rfl
@[simp] theorem State.mem_p (s : State) (o : Ob) (e v : Nat) : (s.p o e v).mem = s.mem := rfl
@[simp] theorem State.thresh_p (s : State) (o : Ob) (e v : Nat) : (s.p o e v).thresh = s.thresh := rfl
@[simp] theorem State.serial_p (s : State) (o : Ob) (e v : Nat) : (s.p o e v).serial = s.serial := rfl
@[simp] theorem State.ledger_p (s : State) (o : Ob) (e v : Nat) : (s.p o e v).ledger = s.ledger := rfl
@[simp] theorem State.granary_p (s : State) (o : Ob) (e v : Nat) : (s.p o e v).granary = s.granary := rfl

@[simp] theorem State.pending_setBlob (s : State) (o : Ob) (e : Nat) (v : List Byte) : (s.setBlob o e v).pending = s.pending := rfl
@[simp] theorem State.dev_setBlob (s : State) (o : Ob) (e : Nat) (v : List Byte) : (s.setBlob o e v).dev = s.dev := rfl
@[simp] theorem State.now_setBlob (s : State) (o : Ob) (e : Nat) (v : List Byte) : (s.setBlob o e v).now = s.now := rfl
@[simp] theorem State.freeCtr_setBlob (s : State) (o : Ob) (e : Nat) (v : List Byte) : (s.setBlob o e v).freeCtr = s.freeCtr := rfl
@[simp] theorem State.od_setBlob (s : State) (o : Ob) (e : Nat) (v : List Byte) : (s.setBlob o e v).od = s.od := rfl
@[simp] theorem State.out_setBlob (s : State) (o : Ob) (e : Nat) (v : List Byte) : (s.setBlob o e v).out = s.out := rfl
@[simp] theorem State.chest_setBlob (s : State) (o : Ob) (e : Nat) (v : List Byte) : (s.setBlob o e v).chest = s.chest := rfl
@[simp] theorem State.evt_setBlob (s : State) (o : Ob) (e : Nat) (v : List Byte) : (s.setBlob o e v).evt = s.evt := rfl
@[simp] theorem State.flash_setBlob (s : State) (o : Ob) (e : Nat) (v : List Byte) : (s.setBlob o e v).flash = s.flash := rfl
@[simp] theorem State.boot_setBlob (s : State) (o : Ob) (e : Nat) (v : List Byte) : (s.setBlob o e v).boot = s.boot := rfl
@[simp] theorem State.pins_setBlob (s : State) (o : Ob) (e : Nat) (v : List Byte) : (s.setBlob o e v).pins = s.pins := rfl
@[simp] theorem State.lock_setBlob (s : State) (o : Ob) (e : Nat) (v : List Byte) : (s.setBlob o e v).lock = s.lock := rfl
@[simp] theorem State.parts_setBlob (s : State) (o : Ob) (e : Nat) (v : List Byte) : (s.setBlob o e v).parts = s.parts := rfl
@[simp] theorem State.dict_setBlob (s : State) (o : Ob) (e : Nat) (v : List Byte) : (s.setBlob o e v).dict = s.dict := rfl
@[simp] theorem State.crib_setBlob (s : State) (o : Ob) (e : Nat) (v : List Byte) : (s.setBlob o e v).crib = s.crib := rfl
@[simp] theorem State.keys_setBlob (s : State) (o : Ob) (e : Nat) (v : List Byte) : (s.setBlob o e v).keys = s.keys := rfl
@[simp] theorem State.pwr_setBlob (s : State) (o : Ob) (e : Nat) (v : List Byte) : (s.setBlob o e v).pwr = s.pwr := rfl
@[simp] theorem State.scan_setBlob (s : State) (o : Ob) (e : Nat) (v : List Byte) : (s.setBlob o e v).scan = s.scan := rfl
@[simp] theorem State.fns_setBlob (s : State) (o : Ob) (e : Nat) (v : List Byte) : (s.setBlob o e v).fns = s.fns := rfl
@[simp] theorem State.drives_setBlob (s : State) (o : Ob) (e : Nat) (v : List Byte) : (s.setBlob o e v).drives = s.drives := rfl
@[simp] theorem State.motion_setBlob (s : State) (o : Ob) (e : Nat) (v : List Byte) : (s.setBlob o e v).motion = s.motion := rfl
@[simp] theorem State.sf_setBlob (s : State) (o : Ob) (e : Nat) (v : List Byte) : (s.setBlob o e v).sf = s.sf := rfl
@[simp] theorem State.servoImg_setBlob (s : State) (o : Ob) (e : Nat) (v : List Byte) : (s.setBlob o e v).servoImg = s.servoImg := rfl
@[simp] theorem State.stageImg_setBlob (s : State) (o : Ob) (e : Nat) (v : List Byte) : (s.setBlob o e v).stageImg = s.stageImg := rfl
@[simp] theorem State.host_setBlob (s : State) (o : Ob) (e : Nat) (v : List Byte) : (s.setBlob o e v).host = s.host := rfl
@[simp] theorem State.media_setBlob (s : State) (o : Ob) (e : Nat) (v : List Byte) : (s.setBlob o e v).media = s.media := rfl
@[simp] theorem State.cache_setBlob (s : State) (o : Ob) (e : Nat) (v : List Byte) : (s.setBlob o e v).cache = s.cache := rfl
@[simp] theorem State.admin_setBlob (s : State) (o : Ob) (e : Nat) (v : List Byte) : (s.setBlob o e v).admin = s.admin := rfl
@[simp] theorem State.net_setBlob (s : State) (o : Ob) (e : Nat) (v : List Byte) : (s.setBlob o e v).net = s.net := rfl
@[simp] theorem State.mem_setBlob (s : State) (o : Ob) (e : Nat) (v : List Byte) : (s.setBlob o e v).mem = s.mem := rfl
@[simp] theorem State.thresh_setBlob (s : State) (o : Ob) (e : Nat) (v : List Byte) : (s.setBlob o e v).thresh = s.thresh := rfl
@[simp] theorem State.serial_setBlob (s : State) (o : Ob) (e : Nat) (v : List Byte) : (s.setBlob o e v).serial = s.serial := rfl
@[simp] theorem State.ledger_setBlob (s : State) (o : Ob) (e : Nat) (v : List Byte) : (s.setBlob o e v).ledger = s.ledger := rfl
@[simp] theorem State.granary_setBlob (s : State) (o : Ob) (e : Nat) (v : List Byte) : (s.setBlob o e v).granary = s.granary := rfl

@[simp] theorem State.pending_emit (s : State) (x : Output) : (s.emit x).pending = s.pending := rfl
@[simp] theorem State.dev_emit (s : State) (x : Output) : (s.emit x).dev = s.dev := rfl
@[simp] theorem State.now_emit (s : State) (x : Output) : (s.emit x).now = s.now := rfl
@[simp] theorem State.freeCtr_emit (s : State) (x : Output) : (s.emit x).freeCtr = s.freeCtr := rfl
@[simp] theorem State.od_emit (s : State) (x : Output) : (s.emit x).od = s.od := rfl
@[simp] theorem State.blobs_emit (s : State) (x : Output) : (s.emit x).blobs = s.blobs := rfl
@[simp] theorem State.chest_emit (s : State) (x : Output) : (s.emit x).chest = s.chest := rfl
@[simp] theorem State.evt_emit (s : State) (x : Output) : (s.emit x).evt = s.evt := rfl
@[simp] theorem State.flash_emit (s : State) (x : Output) : (s.emit x).flash = s.flash := rfl
@[simp] theorem State.boot_emit (s : State) (x : Output) : (s.emit x).boot = s.boot := rfl
@[simp] theorem State.pins_emit (s : State) (x : Output) : (s.emit x).pins = s.pins := rfl
@[simp] theorem State.lock_emit (s : State) (x : Output) : (s.emit x).lock = s.lock := rfl
@[simp] theorem State.parts_emit (s : State) (x : Output) : (s.emit x).parts = s.parts := rfl
@[simp] theorem State.dict_emit (s : State) (x : Output) : (s.emit x).dict = s.dict := rfl
@[simp] theorem State.crib_emit (s : State) (x : Output) : (s.emit x).crib = s.crib := rfl
@[simp] theorem State.keys_emit (s : State) (x : Output) : (s.emit x).keys = s.keys := rfl
@[simp] theorem State.pwr_emit (s : State) (x : Output) : (s.emit x).pwr = s.pwr := rfl
@[simp] theorem State.scan_emit (s : State) (x : Output) : (s.emit x).scan = s.scan := rfl
@[simp] theorem State.fns_emit (s : State) (x : Output) : (s.emit x).fns = s.fns := rfl
@[simp] theorem State.drives_emit (s : State) (x : Output) : (s.emit x).drives = s.drives := rfl
@[simp] theorem State.motion_emit (s : State) (x : Output) : (s.emit x).motion = s.motion := rfl
@[simp] theorem State.sf_emit (s : State) (x : Output) : (s.emit x).sf = s.sf := rfl
@[simp] theorem State.servoImg_emit (s : State) (x : Output) : (s.emit x).servoImg = s.servoImg := rfl
@[simp] theorem State.stageImg_emit (s : State) (x : Output) : (s.emit x).stageImg = s.stageImg := rfl
@[simp] theorem State.host_emit (s : State) (x : Output) : (s.emit x).host = s.host := rfl
@[simp] theorem State.media_emit (s : State) (x : Output) : (s.emit x).media = s.media := rfl
@[simp] theorem State.cache_emit (s : State) (x : Output) : (s.emit x).cache = s.cache := rfl
@[simp] theorem State.admin_emit (s : State) (x : Output) : (s.emit x).admin = s.admin := rfl
@[simp] theorem State.net_emit (s : State) (x : Output) : (s.emit x).net = s.net := rfl
@[simp] theorem State.mem_emit (s : State) (x : Output) : (s.emit x).mem = s.mem := rfl
@[simp] theorem State.thresh_emit (s : State) (x : Output) : (s.emit x).thresh = s.thresh := rfl
@[simp] theorem State.serial_emit (s : State) (x : Output) : (s.emit x).serial = s.serial := rfl
@[simp] theorem State.ledger_emit (s : State) (x : Output) : (s.emit x).ledger = s.ledger := rfl
@[simp] theorem State.granary_emit (s : State) (x : Output) : (s.emit x).granary = s.granary := rfl

@[simp] theorem State.pending_useFree (s : State) : (s.useFree).pending = s.pending := rfl
@[simp] theorem State.dev_useFree (s : State) : (s.useFree).dev = s.dev := rfl
@[simp] theorem State.now_useFree (s : State) : (s.useFree).now = s.now := rfl
@[simp] theorem State.od_useFree (s : State) : (s.useFree).od = s.od := rfl
@[simp] theorem State.blobs_useFree (s : State) : (s.useFree).blobs = s.blobs := rfl
@[simp] theorem State.out_useFree (s : State) : (s.useFree).out = s.out := rfl
@[simp] theorem State.chest_useFree (s : State) : (s.useFree).chest = s.chest := rfl
@[simp] theorem State.evt_useFree (s : State) : (s.useFree).evt = s.evt := rfl
@[simp] theorem State.flash_useFree (s : State) : (s.useFree).flash = s.flash := rfl
@[simp] theorem State.boot_useFree (s : State) : (s.useFree).boot = s.boot := rfl
@[simp] theorem State.pins_useFree (s : State) : (s.useFree).pins = s.pins := rfl
@[simp] theorem State.lock_useFree (s : State) : (s.useFree).lock = s.lock := rfl
@[simp] theorem State.parts_useFree (s : State) : (s.useFree).parts = s.parts := rfl
@[simp] theorem State.dict_useFree (s : State) : (s.useFree).dict = s.dict := rfl
@[simp] theorem State.crib_useFree (s : State) : (s.useFree).crib = s.crib := rfl
@[simp] theorem State.keys_useFree (s : State) : (s.useFree).keys = s.keys := rfl
@[simp] theorem State.pwr_useFree (s : State) : (s.useFree).pwr = s.pwr := rfl
@[simp] theorem State.scan_useFree (s : State) : (s.useFree).scan = s.scan := rfl
@[simp] theorem State.fns_useFree (s : State) : (s.useFree).fns = s.fns := rfl
@[simp] theorem State.drives_useFree (s : State) : (s.useFree).drives = s.drives := rfl
@[simp] theorem State.motion_useFree (s : State) : (s.useFree).motion = s.motion := rfl
@[simp] theorem State.sf_useFree (s : State) : (s.useFree).sf = s.sf := rfl
@[simp] theorem State.servoImg_useFree (s : State) : (s.useFree).servoImg = s.servoImg := rfl
@[simp] theorem State.stageImg_useFree (s : State) : (s.useFree).stageImg = s.stageImg := rfl
@[simp] theorem State.host_useFree (s : State) : (s.useFree).host = s.host := rfl
@[simp] theorem State.media_useFree (s : State) : (s.useFree).media = s.media := rfl
@[simp] theorem State.cache_useFree (s : State) : (s.useFree).cache = s.cache := rfl
@[simp] theorem State.admin_useFree (s : State) : (s.useFree).admin = s.admin := rfl
@[simp] theorem State.net_useFree (s : State) : (s.useFree).net = s.net := rfl
@[simp] theorem State.mem_useFree (s : State) : (s.useFree).mem = s.mem := rfl
@[simp] theorem State.thresh_useFree (s : State) : (s.useFree).thresh = s.thresh := rfl
@[simp] theorem State.serial_useFree (s : State) : (s.useFree).serial = s.serial := rfl
@[simp] theorem State.ledger_useFree (s : State) : (s.useFree).ledger = s.ledger := rfl
@[simp] theorem State.granary_useFree (s : State) : (s.useFree).granary = s.granary := rfl

@[simp] theorem State.g_setDv (s : State) (n : Drive) (f : DriveSt → DriveSt) (o : Ob) (e : Nat) : (s.setDv n f).g o e = s.g o e := rfl
@[simp] theorem State.dev_setDv (s : State) (n : Drive) (f : DriveSt → DriveSt) : (s.setDv n f).dev = s.dev := rfl
@[simp] theorem State.now_setDv (s : State) (n : Drive) (f : DriveSt → DriveSt) : (s.setDv n f).now = s.now := rfl
@[simp] theorem State.out_setDv (s : State) (n : Drive) (f : DriveSt → DriveSt) : (s.setDv n f).out = s.out := rfl
@[simp] theorem State.pins_setDv (s : State) (n : Drive) (f : DriveSt → DriveSt) : (s.setDv n f).pins = s.pins := rfl
@[simp] theorem State.scan_setDv (s : State) (n : Drive) (f : DriveSt → DriveSt) : (s.setDv n f).scan = s.scan := rfl
@[simp] theorem State.granary_setDv (s : State) (n : Drive) (f : DriveSt → DriveSt) : (s.setDv n f).granary = s.granary := rfl
@[simp] theorem State.flash_setDv (s : State) (n : Drive) (f : DriveSt → DriveSt) : (s.setDv n f).flash = s.flash := rfl
@[simp] theorem State.pending_setDv (s : State) (n : Drive) (f : DriveSt → DriveSt) : (s.setDv n f).pending = s.pending := rfl

@[simp] theorem State.g_setMot (s : State) (m : Motor) (f : MotorSt → MotorSt) (o : Ob) (e : Nat) : (s.setMot m f).g o e = s.g o e := rfl
@[simp] theorem State.dev_setMot (s : State) (m : Motor) (f : MotorSt → MotorSt) : (s.setMot m f).dev = s.dev := rfl
@[simp] theorem State.now_setMot (s : State) (m : Motor) (f : MotorSt → MotorSt) : (s.setMot m f).now = s.now := rfl
@[simp] theorem State.out_setMot (s : State) (m : Motor) (f : MotorSt → MotorSt) : (s.setMot m f).out = s.out := rfl
@[simp] theorem State.pins_setMot (s : State) (m : Motor) (f : MotorSt → MotorSt) : (s.setMot m f).pins = s.pins := rfl
@[simp] theorem State.scan_setMot (s : State) (m : Motor) (f : MotorSt → MotorSt) : (s.setMot m f).scan = s.scan := rfl
@[simp] theorem State.granary_setMot (s : State) (m : Motor) (f : MotorSt → MotorSt) : (s.setMot m f).granary = s.granary := rfl
@[simp] theorem State.flash_setMot (s : State) (m : Motor) (f : MotorSt → MotorSt) : (s.setMot m f).flash = s.flash := rfl
@[simp] theorem State.pending_setMot (s : State) (m : Motor) (f : MotorSt → MotorSt) : (s.setMot m f).pending = s.pending := rfl

@[simp] theorem State.g_setAx (s : State) (a : Axis) (f : AxisSt → AxisSt) (o : Ob) (e : Nat) : (s.setAx a f).g o e = s.g o e := rfl
@[simp] theorem State.dev_setAx (s : State) (a : Axis) (f : AxisSt → AxisSt) : (s.setAx a f).dev = s.dev := rfl
@[simp] theorem State.now_setAx (s : State) (a : Axis) (f : AxisSt → AxisSt) : (s.setAx a f).now = s.now := rfl
@[simp] theorem State.out_setAx (s : State) (a : Axis) (f : AxisSt → AxisSt) : (s.setAx a f).out = s.out := rfl
@[simp] theorem State.pins_setAx (s : State) (a : Axis) (f : AxisSt → AxisSt) : (s.setAx a f).pins = s.pins := rfl
@[simp] theorem State.scan_setAx (s : State) (a : Axis) (f : AxisSt → AxisSt) : (s.setAx a f).scan = s.scan := rfl
@[simp] theorem State.granary_setAx (s : State) (a : Axis) (f : AxisSt → AxisSt) : (s.setAx a f).granary = s.granary := rfl
@[simp] theorem State.flash_setAx (s : State) (a : Axis) (f : AxisSt → AxisSt) : (s.setAx a f).flash = s.flash := rfl
@[simp] theorem State.pending_setAx (s : State) (a : Axis) (f : AxisSt → AxisSt) : (s.setAx a f).pending = s.pending := rfl

@[simp] theorem State.g_setStage (s : State) (i : Stage) (f : StageSt → StageSt) (o : Ob) (e : Nat) : (s.setStage i f).g o e = s.g o e := rfl
@[simp] theorem State.dev_setStage (s : State) (i : Stage) (f : StageSt → StageSt) : (s.setStage i f).dev = s.dev := rfl
@[simp] theorem State.now_setStage (s : State) (i : Stage) (f : StageSt → StageSt) : (s.setStage i f).now = s.now := rfl
@[simp] theorem State.out_setStage (s : State) (i : Stage) (f : StageSt → StageSt) : (s.setStage i f).out = s.out := rfl
@[simp] theorem State.pins_setStage (s : State) (i : Stage) (f : StageSt → StageSt) : (s.setStage i f).pins = s.pins := rfl
@[simp] theorem State.scan_setStage (s : State) (i : Stage) (f : StageSt → StageSt) : (s.setStage i f).scan = s.scan := rfl
@[simp] theorem State.granary_setStage (s : State) (i : Stage) (f : StageSt → StageSt) : (s.setStage i f).granary = s.granary := rfl
@[simp] theorem State.flash_setStage (s : State) (i : Stage) (f : StageSt → StageSt) : (s.setStage i f).flash = s.flash := rfl
@[simp] theorem State.pending_setStage (s : State) (i : Stage) (f : StageSt → StageSt) : (s.setStage i f).pending = s.pending := rfl

@[simp] theorem State.g_setPicker (s : State) (f : Picker → Picker) (o : Ob) (e : Nat) : (s.setPicker f).g o e = s.g o e := rfl
@[simp] theorem State.dev_setPicker (s : State) (f : Picker → Picker) : (s.setPicker f).dev = s.dev := rfl
@[simp] theorem State.now_setPicker (s : State) (f : Picker → Picker) : (s.setPicker f).now = s.now := rfl
@[simp] theorem State.out_setPicker (s : State) (f : Picker → Picker) : (s.setPicker f).out = s.out := rfl
@[simp] theorem State.pins_setPicker (s : State) (f : Picker → Picker) : (s.setPicker f).pins = s.pins := rfl
@[simp] theorem State.scan_setPicker (s : State) (f : Picker → Picker) : (s.setPicker f).scan = s.scan := rfl
@[simp] theorem State.granary_setPicker (s : State) (f : Picker → Picker) : (s.setPicker f).granary = s.granary := rfl
@[simp] theorem State.flash_setPicker (s : State) (f : Picker → Picker) : (s.setPicker f).flash = s.flash := rfl
@[simp] theorem State.pending_setPicker (s : State) (f : Picker → Picker) : (s.setPicker f).pending = s.pending := rfl

@[simp] theorem State.g_setFe (s : State) (n : Drive) (f : FrontEnd → FrontEnd) (o : Ob) (e : Nat) : (s.setFe n f).g o e = s.g o e := rfl
@[simp] theorem State.dev_setFe (s : State) (n : Drive) (f : FrontEnd → FrontEnd) : (s.setFe n f).dev = s.dev := rfl
@[simp] theorem State.now_setFe (s : State) (n : Drive) (f : FrontEnd → FrontEnd) : (s.setFe n f).now = s.now := rfl
@[simp] theorem State.out_setFe (s : State) (n : Drive) (f : FrontEnd → FrontEnd) : (s.setFe n f).out = s.out := rfl
@[simp] theorem State.pins_setFe (s : State) (n : Drive) (f : FrontEnd → FrontEnd) : (s.setFe n f).pins = s.pins := rfl
@[simp] theorem State.scan_setFe (s : State) (n : Drive) (f : FrontEnd → FrontEnd) : (s.setFe n f).scan = s.scan := rfl
@[simp] theorem State.granary_setFe (s : State) (n : Drive) (f : FrontEnd → FrontEnd) : (s.setFe n f).granary = s.granary := rfl
@[simp] theorem State.flash_setFe (s : State) (n : Drive) (f : FrontEnd → FrontEnd) : (s.setFe n f).flash = s.flash := rfl
@[simp] theorem State.pending_setFe (s : State) (n : Drive) (f : FrontEnd → FrontEnd) : (s.setFe n f).pending = s.pending := rfl

@[simp] theorem State.g_setDisc (s : State) (n : Drive) (x : Option DiscInfo) (o : Ob) (e : Nat) : (s.setDisc n x).g o e = s.g o e := rfl
@[simp] theorem State.dev_setDisc (s : State) (n : Drive) (x : Option DiscInfo) : (s.setDisc n x).dev = s.dev := rfl
@[simp] theorem State.now_setDisc (s : State) (n : Drive) (x : Option DiscInfo) : (s.setDisc n x).now = s.now := rfl
@[simp] theorem State.out_setDisc (s : State) (n : Drive) (x : Option DiscInfo) : (s.setDisc n x).out = s.out := rfl
@[simp] theorem State.pins_setDisc (s : State) (n : Drive) (x : Option DiscInfo) : (s.setDisc n x).pins = s.pins := rfl
@[simp] theorem State.scan_setDisc (s : State) (n : Drive) (x : Option DiscInfo) : (s.setDisc n x).scan = s.scan := rfl
@[simp] theorem State.granary_setDisc (s : State) (n : Drive) (x : Option DiscInfo) : (s.setDisc n x).granary = s.granary := rfl
@[simp] theorem State.flash_setDisc (s : State) (n : Drive) (x : Option DiscInfo) : (s.setDisc n x).flash = s.flash := rfl
@[simp] theorem State.pending_setDisc (s : State) (n : Drive) (x : Option DiscInfo) : (s.setDisc n x).pending = s.pending := rfl

@[simp] theorem State.g_setMem (s : State) (f : MemSt → MemSt) (o : Ob) (e : Nat) : (s.setMem f).g o e = s.g o e := rfl
@[simp] theorem State.dev_setMem (s : State) (f : MemSt → MemSt) : (s.setMem f).dev = s.dev := rfl
@[simp] theorem State.now_setMem (s : State) (f : MemSt → MemSt) : (s.setMem f).now = s.now := rfl
@[simp] theorem State.out_setMem (s : State) (f : MemSt → MemSt) : (s.setMem f).out = s.out := rfl
@[simp] theorem State.pins_setMem (s : State) (f : MemSt → MemSt) : (s.setMem f).pins = s.pins := rfl
@[simp] theorem State.scan_setMem (s : State) (f : MemSt → MemSt) : (s.setMem f).scan = s.scan := rfl
@[simp] theorem State.granary_setMem (s : State) (f : MemSt → MemSt) : (s.setMem f).granary = s.granary := rfl
@[simp] theorem State.flash_setMem (s : State) (f : MemSt → MemSt) : (s.setMem f).flash = s.flash := rfl
@[simp] theorem State.pending_setMem (s : State) (f : MemSt → MemSt) : (s.setMem f).pending = s.pending := rfl

@[simp] theorem State.g_setLedger (s : State) (f : LedgerSt → LedgerSt) (o : Ob) (e : Nat) : (s.setLedger f).g o e = s.g o e := rfl
@[simp] theorem State.dev_setLedger (s : State) (f : LedgerSt → LedgerSt) : (s.setLedger f).dev = s.dev := rfl
@[simp] theorem State.now_setLedger (s : State) (f : LedgerSt → LedgerSt) : (s.setLedger f).now = s.now := rfl
@[simp] theorem State.out_setLedger (s : State) (f : LedgerSt → LedgerSt) : (s.setLedger f).out = s.out := rfl
@[simp] theorem State.pins_setLedger (s : State) (f : LedgerSt → LedgerSt) : (s.setLedger f).pins = s.pins := rfl
@[simp] theorem State.scan_setLedger (s : State) (f : LedgerSt → LedgerSt) : (s.setLedger f).scan = s.scan := rfl
@[simp] theorem State.granary_setLedger (s : State) (f : LedgerSt → LedgerSt) : (s.setLedger f).granary = s.granary := rfl
@[simp] theorem State.flash_setLedger (s : State) (f : LedgerSt → LedgerSt) : (s.setLedger f).flash = s.flash := rfl
@[simp] theorem State.pending_setLedger (s : State) (f : LedgerSt → LedgerSt) : (s.setLedger f).pending = s.pending := rfl

@[simp] theorem State.g_setAdmin (s : State) (f : AdminSt → AdminSt) (o : Ob) (e : Nat) : (s.setAdmin f).g o e = s.g o e := rfl
@[simp] theorem State.dev_setAdmin (s : State) (f : AdminSt → AdminSt) : (s.setAdmin f).dev = s.dev := rfl
@[simp] theorem State.now_setAdmin (s : State) (f : AdminSt → AdminSt) : (s.setAdmin f).now = s.now := rfl
@[simp] theorem State.out_setAdmin (s : State) (f : AdminSt → AdminSt) : (s.setAdmin f).out = s.out := rfl
@[simp] theorem State.pins_setAdmin (s : State) (f : AdminSt → AdminSt) : (s.setAdmin f).pins = s.pins := rfl
@[simp] theorem State.scan_setAdmin (s : State) (f : AdminSt → AdminSt) : (s.setAdmin f).scan = s.scan := rfl
@[simp] theorem State.granary_setAdmin (s : State) (f : AdminSt → AdminSt) : (s.setAdmin f).granary = s.granary := rfl
@[simp] theorem State.flash_setAdmin (s : State) (f : AdminSt → AdminSt) : (s.setAdmin f).flash = s.flash := rfl
@[simp] theorem State.pending_setAdmin (s : State) (f : AdminSt → AdminSt) : (s.setAdmin f).pending = s.pending := rfl

@[simp] theorem State.g_setPort (s : State) (p : Fin 2) (f : PortSt → PortSt) (o : Ob) (e : Nat) : (s.setPort p f).g o e = s.g o e := rfl
@[simp] theorem State.dev_setPort (s : State) (p : Fin 2) (f : PortSt → PortSt) : (s.setPort p f).dev = s.dev := rfl
@[simp] theorem State.now_setPort (s : State) (p : Fin 2) (f : PortSt → PortSt) : (s.setPort p f).now = s.now := rfl
@[simp] theorem State.out_setPort (s : State) (p : Fin 2) (f : PortSt → PortSt) : (s.setPort p f).out = s.out := rfl
@[simp] theorem State.pins_setPort (s : State) (p : Fin 2) (f : PortSt → PortSt) : (s.setPort p f).pins = s.pins := rfl
@[simp] theorem State.scan_setPort (s : State) (p : Fin 2) (f : PortSt → PortSt) : (s.setPort p f).scan = s.scan := rfl
@[simp] theorem State.granary_setPort (s : State) (p : Fin 2) (f : PortSt → PortSt) : (s.setPort p f).granary = s.granary := rfl
@[simp] theorem State.flash_setPort (s : State) (p : Fin 2) (f : PortSt → PortSt) : (s.setPort p f).flash = s.flash := rfl
@[simp] theorem State.pending_setPort (s : State) (p : Fin 2) (f : PortSt → PortSt) : (s.setPort p f).pending = s.pending := rfl

@[simp] theorem State.g_setSerial (s : State) (p : Fin 4) (f : SerialPort → SerialPort) (o : Ob) (e : Nat) : (s.setSerial p f).g o e = s.g o e := rfl
@[simp] theorem State.dev_setSerial (s : State) (p : Fin 4) (f : SerialPort → SerialPort) : (s.setSerial p f).dev = s.dev := rfl
@[simp] theorem State.now_setSerial (s : State) (p : Fin 4) (f : SerialPort → SerialPort) : (s.setSerial p f).now = s.now := rfl
@[simp] theorem State.out_setSerial (s : State) (p : Fin 4) (f : SerialPort → SerialPort) : (s.setSerial p f).out = s.out := rfl
@[simp] theorem State.pins_setSerial (s : State) (p : Fin 4) (f : SerialPort → SerialPort) : (s.setSerial p f).pins = s.pins := rfl
@[simp] theorem State.scan_setSerial (s : State) (p : Fin 4) (f : SerialPort → SerialPort) : (s.setSerial p f).scan = s.scan := rfl
@[simp] theorem State.granary_setSerial (s : State) (p : Fin 4) (f : SerialPort → SerialPort) : (s.setSerial p f).granary = s.granary := rfl
@[simp] theorem State.flash_setSerial (s : State) (p : Fin 4) (f : SerialPort → SerialPort) : (s.setSerial p f).flash = s.flash := rfl
@[simp] theorem State.pending_setSerial (s : State) (p : Fin 4) (f : SerialPort → SerialPort) : (s.setSerial p f).pending = s.pending := rfl

@[simp] theorem State.g_setLock (s : State) (f : Interlock → Interlock) (o : Ob) (e : Nat) : (s.setLock f).g o e = s.g o e := rfl
@[simp] theorem State.dev_setLock (s : State) (f : Interlock → Interlock) : (s.setLock f).dev = s.dev := rfl
@[simp] theorem State.now_setLock (s : State) (f : Interlock → Interlock) : (s.setLock f).now = s.now := rfl
@[simp] theorem State.out_setLock (s : State) (f : Interlock → Interlock) : (s.setLock f).out = s.out := rfl
@[simp] theorem State.pins_setLock (s : State) (f : Interlock → Interlock) : (s.setLock f).pins = s.pins := rfl
@[simp] theorem State.scan_setLock (s : State) (f : Interlock → Interlock) : (s.setLock f).scan = s.scan := rfl
@[simp] theorem State.granary_setLock (s : State) (f : Interlock → Interlock) : (s.setLock f).granary = s.granary := rfl
@[simp] theorem State.flash_setLock (s : State) (f : Interlock → Interlock) : (s.setLock f).flash = s.flash := rfl
@[simp] theorem State.pending_setLock (s : State) (f : Interlock → Interlock) : (s.setLock f).pending = s.pending := rfl

@[simp] theorem State.g_setPend (s : State) (x : Nat) (b : Bool) (o : Ob) (e : Nat) : (s.setPend x b).g o e = s.g o e := rfl
@[simp] theorem State.dev_setPend (s : State) (x : Nat) (b : Bool) : (s.setPend x b).dev = s.dev := rfl
@[simp] theorem State.now_setPend (s : State) (x : Nat) (b : Bool) : (s.setPend x b).now = s.now := rfl
@[simp] theorem State.out_setPend (s : State) (x : Nat) (b : Bool) : (s.setPend x b).out = s.out := rfl
@[simp] theorem State.pins_setPend (s : State) (x : Nat) (b : Bool) : (s.setPend x b).pins = s.pins := rfl
@[simp] theorem State.scan_setPend (s : State) (x : Nat) (b : Bool) : (s.setPend x b).scan = s.scan := rfl
@[simp] theorem State.granary_setPend (s : State) (x : Nat) (b : Bool) : (s.setPend x b).granary = s.granary := rfl
@[simp] theorem State.flash_setPend (s : State) (x : Nat) (b : Bool) : (s.setPend x b).flash = s.flash := rfl
@[simp] theorem State.pending_setPend (s : State) (x : Nat) (b : Bool) : (s.setPend x b).pending = s.pending := rfl

@[simp] theorem State.g_setCtl (s : State) (c : Crib) (f : NvmeCtl → NvmeCtl) (o : Ob) (e : Nat) : (s.setCtl c f).g o e = s.g o e := rfl
@[simp] theorem State.dev_setCtl (s : State) (c : Crib) (f : NvmeCtl → NvmeCtl) : (s.setCtl c f).dev = s.dev := rfl
@[simp] theorem State.now_setCtl (s : State) (c : Crib) (f : NvmeCtl → NvmeCtl) : (s.setCtl c f).now = s.now := rfl
@[simp] theorem State.out_setCtl (s : State) (c : Crib) (f : NvmeCtl → NvmeCtl) : (s.setCtl c f).out = s.out := rfl
@[simp] theorem State.pins_setCtl (s : State) (c : Crib) (f : NvmeCtl → NvmeCtl) : (s.setCtl c f).pins = s.pins := rfl
@[simp] theorem State.scan_setCtl (s : State) (c : Crib) (f : NvmeCtl → NvmeCtl) : (s.setCtl c f).scan = s.scan := rfl
@[simp] theorem State.granary_setCtl (s : State) (c : Crib) (f : NvmeCtl → NvmeCtl) : (s.setCtl c f).granary = s.granary := rfl
@[simp] theorem State.flash_setCtl (s : State) (c : Crib) (f : NvmeCtl → NvmeCtl) : (s.setCtl c f).flash = s.flash := rfl
@[simp] theorem State.pending_setCtl (s : State) (c : Crib) (f : NvmeCtl → NvmeCtl) : (s.setCtl c f).pending = s.pending := rfl

/-! ### Members of vectors -/

@[simp] theorem vmod_get {α : Type} {n : Nat} (v : Vector α n) (i : Fin n) (f : α → α) : (vmod v i f)[i] = f v[i] := by
  simp [vmod]

@[simp] theorem vmod_get_val {α : Type} {n : Nat} (v : Vector α n) (i : Fin n) (f : α → α) : (vmod v i f)[i.val] = f v[i] := by
  simp [vmod]

theorem vmod_get_ne {α : Type} {n : Nat} (v : Vector α n) {i j : Fin n} (f : α → α) (h : j ≠ i) : (vmod v i f)[j] = v[j] := by
  have : i.val ≠ j.val := fun k => h (Fin.ext k.symm)
  simp [vmod, this]

@[simp] theorem State.drives_setDv_self (s : State) (n : Drive) (f : DriveSt → DriveSt) : (s.setDv n f).drives[n] = f s.drives[n] :=
  vmod_get _ _ _

theorem State.drives_setDv_ne (s : State) {n m : Drive} (f : DriveSt → DriveSt) (h : m ≠ n) : (s.setDv n f).drives[m] = s.drives[m] :=
  vmod_get_ne _ _ h

end Sys2Proof.Machine
end

