-- ==== Sys2Proof/Laws/Frames.lean ====
section
/-! SUPPORT. What each frame of a command keeps, and what it answers in a live block. -/

namespace Sys2Proof.Machine

/-! ### The outputs and the Granary -/

theorem enablesFrom_same (d : Device) (p : Outputs) : enablesFrom d p p = p := by
  unfold enablesFrom; split <;> simp

theorem canonical_tidy (g : List Host.Cell) : Keyed.canonical (tidy g) (0 : Byte) = true := by
  unfold tidy
  split
  · assumption
  · generalize g = l
    induction l with
    | nil => rfl
    | cons c t ih => exact Keyed.canonical_put _ _ ih

theorem getD_rebuilt (g : List Host.Cell) (a : Nat) :
    Keyed.getD (g.foldr (fun c m => Keyed.put m c.1 c.2 (0 : Byte)) []) a 0 = Keyed.getD g a 0 := by
  induction g with
  | nil => rfl
  | cons c t ih =>
    obtain ⟨k, v⟩ := c
    rw [List.foldr_cons, Keyed.getD_put]
    by_cases h : k = a
    · simp [h, Keyed.getD, Keyed.find?]
    · rw [if_neg h, ih]; simp [Keyed.getD, Keyed.find?, h]

/-- Putting a list in canonical form changes no byte that is read from it. -/
theorem getD_tidy (g : List Host.Cell) (a : Nat) : Keyed.getD (tidy g) a (0 : Byte) = Keyed.getD g a 0 := by
  unfold tidy
  split
  · rfl
  · exact getD_rebuilt g a

theorem tidy_of_canonical {g : List Host.Cell} (h : Keyed.canonical g (0 : Byte) = true) : tidy g = g := if_pos h

/-! ### What a frame keeps -/

@[simp] theorem keep_pending (s t : State) : (keep s t).pending = s.pending := rfl
@[simp] theorem keep_dev (s t : State) : (keep s t).dev = s.dev := rfl
@[simp] theorem keep_flash (s t : State) : (keep s t).flash = s.flash := rfl
@[simp] theorem keep_granary (s t : State) : (keep s t).granary = s.granary := rfl
@[simp] theorem keep_od (s t : State) : (keep s t).od = t.od := rfl
@[simp] theorem keep_g (s t : State) (o : Ob) (e : Nat) : (keep s t).g o e = t.g o e := rfl
@[simp] theorem keep_blob (s t : State) (o : Ob) (e : Nat) : (keep s t).blob o e = t.blob o e := rfl
@[simp] theorem keep_blobs (s t : State) : (keep s t).blobs = t.blobs := rfl
@[simp] theorem keep_out (s t : State) : (keep s t).out = t.out := rfl
@[simp] theorem keep_evt (s t : State) : (keep s t).evt = t.evt := rfl
@[simp] theorem keep_lock (s t : State) : (keep s t).lock = t.lock := rfl
@[simp] theorem keep_pwr (s t : State) : (keep s t).pwr = t.pwr := rfl
@[simp] theorem keep_scan (s t : State) : (keep s t).scan = t.scan := rfl
@[simp] theorem keep_drives (s t : State) : (keep s t).drives = t.drives := rfl
@[simp] theorem keep_motion (s t : State) : (keep s t).motion = t.motion := rfl
@[simp] theorem keep_host (s t : State) : (keep s t).host = t.host := rfl
@[simp] theorem keep_media (s t : State) : (keep s t).media = t.media := rfl
@[simp] theorem keep_cache (s t : State) : (keep s t).cache = t.cache := rfl
@[simp] theorem keep_admin (s t : State) : (keep s t).admin = t.admin := rfl
@[simp] theorem keep_net (s t : State) : (keep s t).net = t.net := rfl
@[simp] theorem keep_mem (s t : State) : (keep s t).mem = t.mem := rfl
@[simp] theorem keep_thresh (s t : State) : (keep s t).thresh = t.thresh := rfl
@[simp] theorem keep_serial (s t : State) : (keep s t).serial = t.serial := rfl
@[simp] theorem keep_ledger (s t : State) : (keep s t).ledger = t.ledger := rfl
@[simp] theorem keep_keys (s t : State) : (keep s t).keys = t.keys := rfl
@[simp] theorem keep_dict (s t : State) : (keep s t).dict = t.dict := rfl
@[simp] theorem keep_now (s t : State) : (keep s t).now = t.now := rfl

/-- A command that leaves everything the frame keeps as it was is not changed by it. -/
theorem keep_eq {s t : State} (h1 : t.pending = s.pending) (h2 : t.dev = s.dev) (h3 : t.flash = s.flash)
    (h4 : t.granary = s.granary) (h5 : t.pins = s.pins) : keep s t = t := by
  cases s; cases t; simp_all [keep, enablesFrom_same]

theorem keep_p (s : State) (o : Ob) (e v : Nat) : keep s (s.p o e v) = s.p o e v := keep_eq rfl rfl rfl rfl rfl

/-! ### What a live block answers -/

theorem act_live {s : State} (h : Live s) (f : State → State) : act s f = .next (keep s (f s)) := by
  rw [act, if_neg (by rw [h.1]; exact Bool.false_ne_true), if_neg h.2]

theorem actAll_live {s : State} (h : Live s) (f : State → State) : actAll s f = .next (settleAll s (f s)) := by
  rw [actAll, if_neg (by rw [h.1]; exact Bool.false_ne_true), if_neg h.2]

theorem actPart_live {s : State} (h : Live s) {p : Fin 22} (hp : s.scan.lost.getLsbD p = false) (f : State → State) :
    actPart p s f = .next (keep s (f s)) := by
  rw [actPart, if_neg (by rw [hp]; exact Bool.false_ne_true), act_live h]

/-- An admitted write of one object in a live block: its effect, then the answer. -/
theorem actWrite_live {s : State} (h : Live s) {who e : Nat} {o : Ob} (hw : s.writeCodeOf who o e = 0) (f : State → State × Nat) :
    actWrite who o e f s = .next (keep s ((f s).1.answer who (f s).2)) := by
  rw [actWrite, act_live h, writeObj]
  simp only [hw, ne_eq, not_true_eq_false, if_false]

/-- A refused one: only the answer. -/
theorem actWrite_refused {s : State} (h : Live s) {who e : Nat} {o : Ob} (hw : s.writeCodeOf who o e ≠ 0) (f : State → State × Nat) :
    actWrite who o e f s = .next (s.answer who (s.writeCodeOf who o e)) := by
  rw [actWrite, act_live h, writeObj]
  simp only [hw, ne_eq, not_false_eq_true, if_true]
  exact congrArg _ (keep_eq (t := s.answer who _) rfl rfl rfl rfl rfl)

/-- All that an ordinary command can answer. -/
theorem act_cases {s t : State} {f : State → State} (h : act s f = .next t) : t = s ∨ t = keep s (f s) := by
  unfold act at h
  split at h
  · cases h
  · split at h <;> cases h <;> simp

/-! ### Going through a list -/

@[simp] theorem each_nil {α : Type} (s : State) (f : State → α → State) : s.each [] f = s := rfl

@[simp] theorem each_cons {α : Type} (s : State) (x : α) (l : List α) (f : State → α → State) :
    s.each (x :: l) f = (f s x).each l f := rfl

/-- A relation that every round keeps holds after all of them. -/
theorem each_rel {α : Type} {R : State → State → Prop} (hr : ∀ u, R u u) (ht : ∀ {u v w}, R u v → R v w → R u w)
    (l : List α) (f : State → α → State) (hf : ∀ u x, x ∈ l → R u (f u x)) (s : State) : R s (s.each l f) := by
  induction l generalizing s with
  | nil => exact hr s
  | cons x t ih =>
    exact ht (hf s x (by simp)) (ih (fun u y hy => hf u y (by simp [hy])) _)

/-- A property of the state that every round keeps holds after all of them. -/
theorem each_inv {α : Type} {P : State → Prop} (l : List α) (f : State → α → State) (hf : ∀ u x, x ∈ l → P u → P (f u x))
    {s : State} (h : P s) : P (s.each l f) := by
  induction l generalizing s with
  | nil => exact h
  | cons x t ih => exact ih (fun u y hy => hf u y (by simp [hy])) (hf s x (by simp) h)

end Sys2Proof.Machine
end

