-- ==== Sys2Proof/Laws/Inversion.lean ====
section
/-! SUPPORT. Said once for every command: which frame its meaning stands in, and from that what a step can answer. -/

namespace Sys2Proof.Machine

/-- The frames a meaning can stand in. -/
inductive Framed (c : Instr) (s : State) : Out → Prop where
  | ordinary (f : State → State) : ofTestPort c = false → Framed c s (act s f)
  | ofPart (p : Fin 22) (f : State → State) : ofTestPort c = false → Framed c s (actPart p s f)
  | whole (f : State → State) : movesDevice c = true → ofTestPort c = false → Framed c s (actAll s f)
  | identity (p : Fin 22) (f : State → State) : movesDevice c = true → ofTestPort c = false →
      Framed c s (if s.scan.lost.getLsbD p then .fault (.boundaryScan p) else actAll s f)
  | threshing (f : State → State) : storesGranary c = true → ofTestPort c = false → Framed c s (actGranary s f)
  | testPort (p : Fin 22) (f : State → State) : ofTestPort c = true → Framed c s (actJtag p s f)
  | power (u : State) : movesDevice c = true → ofTestPort c = true → Framed c s (.next (settleAll s u))

/-! ### The shared rows -/

theorem framed_actWrite {c : Instr} {s : State} (who e : Nat) (o : Ob) (f : State → State × Nat) (h : ofTestPort c = false) :
    Framed c s (actWrite who o e f s) := .ordinary _ h

theorem framed_armWrite {c : Instr} {s : State} (who : Crib) (v : Nat) (h : ofTestPort c = false) : Framed c s (armWrite who v s) :=
  .ordinary _ h

theorem framed_slotRun {c : Instr} {s : State} (k : Fin 8) (g : WinSlot → WinSlot) (rsv : Bool) (f : State → State × ReadAnswer × Nat)
    (hd : movesDevice c = true) (h : ofTestPort c = false) : Framed c s (slotRun k g rsv f s) := .whole _ hd h

theorem framed_mopFrame {c : Instr} {s : State} (f : MopFrame) (kind service : Nat) (b : BitVec 4)
    (hd : movesDevice c = true) (h : ofTestPort c = false) : Framed c s (mopFrame f kind service b s) := .whole _ hd h

theorem framed_engineRow {c : Instr} {s : State} (cls op : Nat) (sq q : Fin 4) (hg : storesGranary c = true) (h : ofTestPort c = false) :
    Framed c s (engineRow cls op sq q s) := .threshing _ hg h

theorem framed_sanitizeErase {c : Instr} {s : State} (q : IoQueue) (hdr : IoHdr) (ndas ause : Bool) (cdw10 : Nat)
    (hg : storesGranary c = true) (h : ofTestPort c = false) : Framed c s (sanitizeErase q hdr ndas ause cdw10 s) := .threshing _ hg h

theorem framed_seqSet {c : Instr} {s : State} (sq : Fin 4) (op : Nat) (f : JobRun → Nat → Word32) (hg : storesGranary c = true)
    (h : ofTestPort c = false) : Framed c s (seqSet sq op f s) := .threshing _ hg h

theorem framed_seqAlu {c : Instr} {s : State} (sq : Fin 4) (op : Nat) (f : Word32 → Word32 → Word32) (hg : storesGranary c = true)
    (h : ofTestPort c = false) : Framed c s (seqAlu sq op f s) := .threshing _ hg h

theorem framed_seqBranch {c : Instr} {s : State} (sq : Fin 4) (op : Nat) (f : Word32 → Word32 → Bool) (hg : storesGranary c = true)
    (h : ofTestPort c = false) : Framed c s (seqBranch sq op f s) := .threshing _ hg h

/-! ### Every command -/

/-- Every command's meaning stands in one of the frames. -/
theorem exec_framed (c : Instr) (s : State) : Framed c s (exec c s) := by
  cases c with
  | bootNoimgLine => exact (show Framed _ s (execBootNoimgLine s) from .ordinary _ rfl)
  | pfwNLow => exact (show Framed _ s (execPfwNLow s) from .ordinary _ rfl)
  | pfwNHigh => exact (show Framed _ s (execPfwNHigh s) from .ordinary _ rfl)
  | pfSequenceEnd => exact (show Framed _ s (execPfSequenceEnd s) from .ordinary _ rfl)
  | estopNLow => exact (show Framed _ s (execEstopNLow s) from .ordinary _ rfl)
  | estopNHigh => exact (show Framed _ s (execEstopNHigh s) from .ordinary _ rfl)
  | doorClosedLow => exact (show Framed _ s (execDoorClosedLow s) from .ordinary _ rfl)
  | doorClosedHigh => exact (show Framed _ s (execDoorClosedHigh s) from .ordinary _ rfl)
  | slotWriteWhileBusy x0 x1 => exact (show Framed _ s (execSlotWriteWhileBusy x0 x1 s) from .ordinary _ rfl)
  | mopSegTimeout x0 x1 x2 => exact (show Framed _ s (execMopSegTimeout x0 x1 x2 s) from .ordinary _ rfl)
  | mopClassicFrame x0 x1 x2 x3 => exact (show Framed _ s (execMopClassicFrame x0 x1 x2 x3 s) from .ordinary _ rfl)
  | mopBusOff x0 => exact (show Framed _ s (execMopBusOff x0 s) from .ordinary _ rfl)
  | fwEraseDone => exact (show Framed _ s (execFwEraseDone s) from .ordinary _ rfl)
  | pfFunctionLevelReset => exact (show Framed _ s (execPfFunctionLevelReset s) from .ordinary _ rfl)
  | keyRecordReadBack x0 x1 => exact (show Framed _ s (execKeyRecordReadBack x0 x1 s) from .ordinary _ rfl)
  | superframeSend => exact (show Framed _ s (execSuperframeSend s) from .ordinary _ rfl)
  | upstreamACellMissed x0 => exact (show Framed _ s (execUpstreamACellMissed x0 s) from .ordinary _ rfl)
  | bulkCell x0 x1 x2 x3 => exact (show Framed _ s (execBulkCell x0 x1 x2 x3 s) from .ordinary _ rfl)
  | bulkCellResendExhausted x0 x1 => exact (show Framed _ s (execBulkCellResendExhausted x0 x1 s) from .ordinary _ rfl)
  | focusAcquisition x0 => exact (show Framed _ s (execFocusAcquisition x0 s) from .ordinary _ rfl)
  | layerJump x0 => exact (show Framed _ s (execLayerJump x0 s) from .ordinary _ rfl)
  | layerJumpTimeout x0 => exact (show Framed _ s (execLayerJumpTimeout x0 s) from .ordinary _ rfl)
  | trackingPullIn x0 => exact (show Framed _ s (execTrackingPullIn x0 s) from .ordinary _ rfl)
  | trackPullInTimeout x0 => exact (show Framed _ s (execTrackPullInTimeout x0 s) from .ordinary _ rfl)
  | landGrooveSwitch x0 => exact (show Framed _ s (execLandGrooveSwitch x0 s) from .ordinary _ rfl)
  | fineSeek x0 => exact (show Framed _ s (execFineSeek x0 s) from .ordinary _ rfl)
  | longSeek x0 => exact (show Framed _ s (execLongSeek x0 s) from .ordinary _ rfl)
  | defectHoldMaxExpiry x0 => exact (show Framed _ s (execDefectHoldMaxExpiry x0 s) from .ordinary _ rfl)
  | driveFaultTimeout x0 => exact (show Framed _ s (execDriveFaultTimeout x0 s) from .ordinary _ rfl)
  | giperlinkAligned x0 => exact (show Framed _ s (execGiperlinkAligned x0 s) from .ordinary _ rfl)
  | giperlinkRetrainTimeout x0 => exact (show Framed _ s (execGiperlinkRetrainTimeout x0 s) from .ordinary _ rfl)
  | feResetRelease x0 => exact (show Framed _ s (execFeResetRelease x0 s) from .ordinary _ rfl)
  | motionTickSend => exact (show Framed _ s (execMotionTickSend s) from .ordinary _ rfl)
  | hfiAlignDone x0 => exact (show Framed _ s (execHfiAlignDone x0 s) from .ordinary _ rfl)
  | hfiSignDecision x0 x1 x2 => exact (show Framed _ s (execHfiSignDecision x0 x1 x2 s) from .ordinary _ rfl)
  | voltageLimitSet x0 => exact (show Framed _ s (execVoltageLimitSet x0 s) from .ordinary _ rfl)
  | voltageLimitClear x0 => exact (show Framed _ s (execVoltageLimitClear x0 s) from .ordinary _ rfl)
  | spinSettled x0 => exact (show Framed _ s (execSpinSettled x0 s) from .ordinary _ rfl)
  | spinBrake x0 => exact (show Framed _ s (execSpinBrake x0 s) from .ordinary _ rfl)
  | spinStopped x0 => exact (show Framed _ s (execSpinStopped x0 s) from .ordinary _ rfl)
  | spinStopTimeout x0 => exact (show Framed _ s (execSpinStopTimeout x0 s) from .ordinary _ rfl)
  | spinStartTimeout x0 => exact (show Framed _ s (execSpinStartTimeout x0 s) from .ordinary _ rfl)
  | brakeReverse x0 => exact (show Framed _ s (execBrakeReverse x0 s) from .ordinary _ rfl)
  | resolverFault => exact (show Framed _ s (execResolverFault s) from .ordinary _ rfl)
  | sheafDecode x0 => exact (show Framed _ s (execSheafDecode x0 s) from .ordinary _ rfl)
  | stookSolve x0 x1 x2 x3 => exact (show Framed _ s (execStookSolve x0 x1 x2 x3 s) from .ordinary _ rfl)
  | stookRebuildFail x0 x1 x2 x3 => exact (show Framed _ s (execStookRebuildFail x0 x1 x2 x3 s) from .ordinary _ rfl)
  | stookParityWrite x0 x1 x2 => exact (show Framed _ s (execStookParityWrite x0 x1 x2 s) from .ordinary _ rfl)
  | discRecognition x0 x1 => exact (show Framed _ s (execDiscRecognition x0 x1 s) from .ordinary _ rfl)
  | sheafVerify x0 => exact (show Framed _ s (execSheafVerify x0 s) from .ordinary _ rfl)
  | calSweep x0 => exact (show Framed _ s (execCalSweep x0 s) from .ordinary _ rfl)
  | calSweepDone x0 => exact (show Framed _ s (execCalSweepDone x0 s) from .ordinary _ rfl)
  | trackingBalance x0 => exact (show Framed _ s (execTrackingBalance x0 s) from .ordinary _ rfl)
  | trackingBalanceDone x0 => exact (show Framed _ s (execTrackingBalanceDone x0 s) from .ordinary _ rfl)
  | eqCalibration x0 => exact (show Framed _ s (execEqCalibration x0 s) from .ordinary _ rfl)
  | eqCalibrationDone x0 => exact (show Framed _ s (execEqCalibrationDone x0 s) from .ordinary _ rfl)
  | calRequestStart x0 => exact (show Framed _ s (execCalRequestStart x0 s) from .ordinary _ rfl)
  | moveStart x0 => exact (show Framed _ s (execMoveStart x0 s) from .ordinary _ rfl)
  | homing x0 => exact (show Framed _ s (execHoming x0 s) from .ordinary _ rfl)
  | homingFail x0 => exact (show Framed _ s (execHomingFail x0 s) from .ordinary _ rfl)
  | carouselHoming => exact (show Framed _ s (execCarouselHoming s) from .ordinary _ rfl)
  | bridgePowerDown x0 => exact (show Framed _ s (execBridgePowerDown x0 s) from .ordinary _ rfl)
  | reEnergise x0 x1 => exact (show Framed _ s (execReEnergise x0 x1 s) from .ordinary _ rfl)
  | stageACellMissed x0 => exact (show Framed _ s (execStageACellMissed x0 s) from .ordinary _ rfl)
  | stageRetrainTimeout x0 => exact (show Framed _ s (execStageRetrainTimeout x0 s) from .ordinary _ rfl)
  | stageResetRelease x0 => exact (show Framed _ s (execStageResetRelease x0 s) from .ordinary _ rfl)
  | pickerSequenceStart => exact (show Framed _ s (execPickerSequenceStart s) from .ordinary _ rfl)
  | pickerStepDone => exact (show Framed _ s (execPickerStepDone s) from .ordinary _ rfl)
  | ccShn x0 x1 => exact (show Framed _ s (execCcShn x0 x1 s) from .ordinary _ rfl)
  | deleteIoSq x0 x1 x2 => exact (show Framed _ s (execDeleteIoSq x0 x1 x2 s) from .ordinary _ rfl)
  | deleteIoCq x0 x1 x2 => exact (show Framed _ s (execDeleteIoCq x0 x1 x2 s) from .ordinary _ rfl)
  | createIoSq x0 x1 x2 x3 x4 x5 x6 => exact (show Framed _ s (execCreateIoSq x0 x1 x2 x3 x4 x5 x6 s) from .ordinary _ rfl)
  | createIoCq x0 x1 x2 x3 x4 x5 x6 => exact (show Framed _ s (execCreateIoCq x0 x1 x2 x3 x4 x5 x6 s) from .ordinary _ rfl)
  | getLogPage x0 x1 x2 x3 x4 => exact (show Framed _ s (execGetLogPage x0 x1 x2 x3 x4 s) from .ordinary _ rfl)
  | identify x0 x1 x2 x3 => exact (show Framed _ s (execIdentify x0 x1 x2 x3 s) from .ordinary _ rfl)
  | abort x0 x1 x2 x3 => exact (show Framed _ s (execAbort x0 x1 x2 x3 s) from .ordinary _ rfl)
  | setFeatures x0 x1 x2 x3 x4 => exact (show Framed _ s (execSetFeatures x0 x1 x2 x3 x4 s) from .ordinary _ rfl)
  | getFeatures x0 x1 x2 x3 => exact (show Framed _ s (execGetFeatures x0 x1 x2 x3 s) from .ordinary _ rfl)
  | asynchronousEventRequest x0 x1 => exact (show Framed _ s (execAsynchronousEventRequest x0 x1 s) from .ordinary _ rfl)
  | namespaceCreate x0 x1 x2 x3 x4 x5 x6 x7 => exact (show Framed _ s (execNamespaceCreate x0 x1 x2 x3 x4 x5 x6 x7 s) from .ordinary _ rfl)
  | namespaceDelete x0 x1 => exact (show Framed _ s (execNamespaceDelete x0 x1 s) from .ordinary _ rfl)
  | namespaceAttachment x0 x1 x2 x3 => exact (show Framed _ s (execNamespaceAttachment x0 x1 x2 x3 s) from .ordinary _ rfl)
  | keepAlive x0 x1 => exact (show Framed _ s (execKeepAlive x0 x1 s) from .ordinary _ rfl)
  | keepAliveExpiry x0 => exact (show Framed _ s (execKeepAliveExpiry x0 s) from .ordinary _ rfl)
  | formatNvm x0 x1 x2 x3 x4 x5 x6 => exact (show Framed _ s (execFormatNvm x0 x1 x2 x3 x4 x5 x6 s) from .ordinary _ rfl)
  | exitFailureMode x0 x1 x2 => exact (show Framed _ s (execExitFailureMode x0 x1 x2 s) from .ordinary _ rfl)
  | overwrite x0 x1 x2 => exact (show Framed _ s (execOverwrite x0 x1 x2 s) from .ordinary _ rfl)
  | invalidCommandOpcode x0 x1 x2 => exact (show Framed _ s (execInvalidCommandOpcode x0 x1 x2 s) from .ordinary _ rfl)
  | flush x0 x1 => exact (show Framed _ s (execFlush x0 x1 s) from .ordinary _ rfl)
  | write x0 x1 x2 x3 x4 => exact (show Framed _ s (execWrite x0 x1 x2 x3 x4 s) from .ordinary _ rfl)
  | read x0 x1 x2 x3 x4 => exact (show Framed _ s (execRead x0 x1 x2 x3 x4 s) from .ordinary _ rfl)
  | datasetManagement x0 x1 x2 x3 => exact (show Framed _ s (execDatasetManagement x0 x1 x2 x3 s) from .ordinary _ rfl)
  | zoneClose x0 x1 x2 x3 => exact (show Framed _ s (execZoneClose x0 x1 x2 x3 s) from .ordinary _ rfl)
  | zoneFinish x0 x1 x2 x3 => exact (show Framed _ s (execZoneFinish x0 x1 x2 x3 s) from .ordinary _ rfl)
  | zoneOpen x0 x1 x2 x3 => exact (show Framed _ s (execZoneOpen x0 x1 x2 x3 s) from .ordinary _ rfl)
  | zoneReset x0 x1 x2 x3 => exact (show Framed _ s (execZoneReset x0 x1 x2 x3 s) from .ordinary _ rfl)
  | zoneManagementReceive x0 x1 x2 x3 x4 x5 x6 => exact (show Framed _ s (execZoneManagementReceive x0 x1 x2 x3 x4 x5 x6 s) from .ordinary _ rfl)
  | zoneAppend x0 x1 x2 x3 x4 => exact (show Framed _ s (execZoneAppend x0 x1 x2 x3 x4 s) from .ordinary _ rfl)
  | threshingJob x0 x1 x2 x3 x4 => exact (show Framed _ s (execThreshingJob x0 x1 x2 x3 x4 s) from .ordinary _ rfl)
  | zoneWarm x0 x1 x2 x3 => exact (show Framed _ s (execZoneWarm x0 x1 x2 x3 s) from .ordinary _ rfl)
  | zoneRelease x0 x1 x2 => exact (show Framed _ s (execZoneRelease x0 x1 x2 s) from .ordinary _ rfl)
  | zoneLocate x0 x1 x2 => exact (show Framed _ s (execZoneLocate x0 x1 x2 s) from .ordinary _ rfl)
  | commandAdmission => exact (show Framed _ s (execCommandAdmission s) from .ordinary _ rfl)
  | mediaOpStart x0 x1 => exact (show Framed _ s (execMediaOpStart x0 x1 s) from .ordinary _ rfl)
  | driveIdleTimeout x0 => exact (show Framed _ s (execDriveIdleTimeout x0 s) from .ordinary _ rfl)
  | sqTailDoorbell x0 x1 x2 => exact (show Framed _ s (execSqTailDoorbell x0 x1 x2 s) from .ordinary _ rfl)
  | cqHeadDoorbell x0 x1 x2 => exact (show Framed _ s (execCqHeadDoorbell x0 x1 x2 s) from .ordinary _ rfl)
  | ethFrameReceive x0 x1 x2 x3 x4 x5 x6 x7 x8 => exact (show Framed _ s (execEthFrameReceive x0 x1 x2 x3 x4 x5 x6 x7 x8 s) from .ordinary _ rfl)
  | arpRequest x0 x1 x2 x3 x4 => exact (show Framed _ s (execArpRequest x0 x1 x2 x3 x4 s) from .ordinary _ rfl)
  | neighbourSolicitation x0 x1 x2 x3 x4 x5 => exact (show Framed _ s (execNeighbourSolicitation x0 x1 x2 x3 x4 x5 s) from .ordinary _ rfl)
  | echoRequest x0 x1 x2 x3 x4 x5 x6 x7 => exact (show Framed _ s (execEchoRequest x0 x1 x2 x3 x4 x5 x6 x7 s) from .ordinary _ rfl)
  | pfcRepeat x0 x1 => exact (show Framed _ s (execPfcRepeat x0 x1 s) from .ordinary _ rfl)
  | pfcXon x0 x1 x2 => exact (show Framed _ s (execPfcXon x0 x1 x2 s) from .ordinary _ rfl)
  | pfcFrameReceive x0 x1 => exact (show Framed _ s (execPfcFrameReceive x0 x1 s) from .ordinary _ rfl)
  | pfcPauseExpiry x0 x1 => exact (show Framed _ s (execPfcPauseExpiry x0 x1 s) from .ordinary _ rfl)
  | tcpSyn x0 x1 x2 x3 x4 x5 x6 x7 => exact (show Framed _ s (execTcpSyn x0 x1 x2 x3 x4 x5 x6 x7 s) from .ordinary _ rfl)
  | tcpRetransmitTimeout x0 x1 => exact (show Framed _ s (execTcpRetransmitTimeout x0 x1 s) from .ordinary _ rfl)
  | tcpPeerClose x0 => exact (show Framed _ s (execTcpPeerClose x0 s) from .ordinary _ rfl)
  | icreq x0 x1 x2 x3 x4 => exact (show Framed _ s (execIcreq x0 x1 x2 x3 x4 s) from .ordinary _ rfl)
  | icreqTimeout x0 => exact (show Framed _ s (execIcreqTimeout x0 s) from .ordinary _ rfl)
  | connect x0 x1 x2 x3 x4 x5 x6 x7 x8 => exact (show Framed _ s (execConnect x0 x1 x2 x3 x4 x5 x6 x7 x8 s) from .ordinary _ rfl)
  | propertyGet x0 x1 x2 => exact (show Framed _ s (execPropertyGet x0 x1 x2 s) from .ordinary _ rfl)
  | disconnect x0 x1 => exact (show Framed _ s (execDisconnect x0 x1 s) from .ordinary _ rfl)
  | authenticationSend x0 x1 => exact (show Framed _ s (execAuthenticationSend x0 x1 s) from .ordinary _ rfl)
  | authenticationReceive x0 x1 => exact (show Framed _ s (execAuthenticationReceive x0 x1 s) from .ordinary _ rfl)
  | capsuleCommand x0 x1 x2 x3 => exact (show Framed _ s (execCapsuleCommand x0 x1 x2 x3 s) from .ordinary _ rfl)
  | h2cdata x0 x1 x2 x3 x4 => exact (show Framed _ s (execH2cdata x0 x1 x2 x3 x4 s) from .ordinary _ rfl)
  | h2ctermreq x0 => exact (show Framed _ s (execH2ctermreq x0 s) from .ordinary _ rfl)
  | pduViolation x0 x1 => exact (show Framed _ s (execPduViolation x0 x1 s) from .ordinary _ rfl)
  | associationKeepAliveExpiry x0 => exact (show Framed _ s (execAssociationKeepAliveExpiry x0 s) from .ordinary _ rfl)
  | netLinkDown x0 => exact (show Framed _ s (execNetLinkDown x0 s) from .ordinary _ rfl)
  | netLinkUp x0 => exact (show Framed _ s (execNetLinkUp x0 s) from .ordinary _ rfl)
  | netLinkHoldExpiry x0 => exact (show Framed _ s (execNetLinkHoldExpiry x0 s) from .ordinary _ rfl)
  | adminOpStep x0 x1 => exact (show Framed _ s (execAdminOpStep x0 x1 s) from .ordinary _ rfl)
  | certificationStep x0 x1 x2 x3 => exact (show Framed _ s (execCertificationStep x0 x1 x2 x3 s) from .ordinary _ rfl)
  | hayloftOffer => exact (show Framed _ s (execHayloftOffer s) from .ordinary _ rfl)
  | hayloftStageReserve => exact (show Framed _ s (execHayloftStageReserve s) from .ordinary _ rfl)
  | sideboardMove => exact (show Framed _ s (execSideboardMove s) from .ordinary _ rfl)
  | sideboardDramWrite => exact (show Framed _ s (execSideboardDramWrite s) from .ordinary _ rfl)
  | shelfAgeSweep => exact (show Framed _ s (execShelfAgeSweep s) from .ordinary _ rfl)
  | hayloftAgeSweep => exact (show Framed _ s (execHayloftAgeSweep s) from .ordinary _ rfl)
  | invalidate => exact (show Framed _ s (execInvalidate s) from .ordinary _ rfl)
  | demote => exact (show Framed _ s (execDemote s) from .ordinary _ rfl)
  | prefetch => exact (show Framed _ s (execPrefetch s) from .ordinary _ rfl)
  | invalidateAll => exact (show Framed _ s (execInvalidateAll s) from .ordinary _ rfl)
  | rakeDone => exact (show Framed _ s (execRakeDone s) from .ordinary _ rfl)
  | memRetireDone x0 => exact (show Framed _ s (execMemRetireDone x0 s) from .ordinary _ rfl)
  | memLogRepeatFlush => exact (show Framed _ s (execMemLogRepeatFlush s) from .ordinary _ rfl)
  | jobTimeLimitExpiry x0 => exact (show Framed _ s (execJobTimeLimitExpiry x0 s) from .ordinary _ rfl)
  | mailboxPost x0 x1 x2 x3 => exact (show Framed _ s (execMailboxPost x0 x1 x2 x3 s) from .ordinary _ rfl)
  | mailboxRelease x0 x1 x2 => exact (show Framed _ s (execMailboxRelease x0 x1 x2 s) from .ordinary _ rfl)
  | dbRing x0 x1 x2 => exact (show Framed _ s (execDbRing x0 x1 x2 s) from .ordinary _ rfl)
  | dbPendClear x0 x1 x2 => exact (show Framed _ s (execDbPendClear x0 x1 x2 s) from .ordinary _ rfl)
  | evrHead x0 x1 x2 => exact (show Framed _ s (execEvrHead x0 x1 x2 s) from .ordinary _ rfl)
  | evtPendClear x0 x1 => exact (show Framed _ s (execEvtPendClear x0 x1 s) from .ordinary _ rfl)
  | evtMask x0 x1 => exact (show Framed _ s (execEvtMask x0 x1 s) from .ordinary _ rfl)
  | vioLogRepeatFlush => exact (show Framed _ s (execVioLogRepeatFlush s) from .ordinary _ rfl)
  | serialCharacter x0 x1 => exact (show Framed _ s (execSerialCharacter x0 x1 s) from .ordinary _ rfl)
  | falseStart x0 => exact (show Framed _ s (execFalseStart x0 s) from .ordinary _ rfl)
  | serialBreak x0 x1 => exact (show Framed _ s (execSerialBreak x0 x1 s) from .ordinary _ rfl)
  | spRxTimeout x0 => exact (show Framed _ s (execSpRxTimeout x0 s) from .ordinary _ rfl)
  | spRxData x0 x1 x2 x3 => exact (show Framed _ s (execSpRxData x0 x1 x2 x3 s) from .ordinary _ rfl)
  | serialCharacterSent x0 => exact (show Framed _ s (execSerialCharacterSent x0 s) from .ordinary _ rfl)
  | traySlotStart x0 => exact (show Framed _ s (execTraySlotStart x0 s) from .ordinary _ rfl)
  | trayResponseTimeout x0 => exact (show Framed _ s (execTrayResponseTimeout x0 s) from .ordinary _ rfl)
  | ledgerMinuteBoundary => exact (show Framed _ s (execLedgerMinuteBoundary s) from .ordinary _ rfl)
  | ledgerSecond x0 => exact (show Framed _ s (execLedgerSecond x0 s) from .ordinary _ rfl)
  | domainIdleEntry x0 => exact (show Framed _ s (execDomainIdleEntry x0 s) from .ordinary _ rfl)
  | domainExitDone x0 => exact (show Framed _ s (execDomainExitDone x0 s) from .ordinary _ rfl)
  | giperlinkSleep x0 => exact (show Framed _ s (execGiperlinkSleep x0 s) from .ordinary _ rfl)
  | giperlinkWakeDone x0 => exact (show Framed _ s (execGiperlinkWakeDone x0 s) from .ordinary _ rfl)
  | refClkLoss => exact (show Framed _ s (execRefClkLoss s) from .ordinary _ rfl)
  | railExcursion x0 x1 x2 => exact (show Framed _ s (execRailExcursion x0 x1 x2 s) from .ordinary _ rfl)
  | tempSample x0 x1 => exact (show Framed _ s (execTempSample x0 x1 s) from .ordinary _ rfl)
  | longRunCheckpoint => exact (show Framed _ s (execLongRunCheckpoint s) from .ordinary _ rfl)
  | chestDelayedWrite x0 x1 => exact (show Framed _ s (execChestDelayedWrite x0 x1 s) from .ordinary _ rfl)
  | stageLinkAligned x0 => exact (show Framed _ s (execStageLinkAligned x0 s) from .ordinary _ rfl)
  | serialBreakEnd x0 => exact (show Framed _ s (execSerialBreakEnd x0 s) from .ordinary _ rfl)
  | domainEntryDone x0 => exact (show Framed _ s (execDomainEntryDone x0 s) from .ordinary _ rfl)
  | ccEnSet x0 x1 x2 => exact (show Framed _ s (execCcEnSet x0 x1 x2 s) from .ordinary _ rfl)
  | pcieConfigRequest x0 x1 x2 => exact (show Framed _ s (execPcieConfigRequest x0 x1 x2 s) from .ordinary _ rfl)
  | msixTableWrite x0 x1 x2 x3 x4 => exact (show Framed _ s (execMsixTableWrite x0 x1 x2 x3 x4 s) from .ordinary _ rfl)
  | perstNRelease x0 x1 => exact (show Framed _ s (execPerstNRelease x0 x1 s) from .ordinary _ rfl)
  | peerBarRequest x0 => exact (show Framed _ s (execPeerBarRequest x0 s) from .ordinary _ rfl)
  | hostTransferError x0 x1 x2 => exact (show Framed _ s (execHostTransferError x0 x1 x2 s) from .ordinary _ rfl)
  | upstreamACell x0 x1 x2 x3 x4 => exact (show Framed _ s (execUpstreamACell x0 x1 x2 x3 x4 s) from .ofPart _ _ rfl)
  | wobbleLock x0 => exact (show Framed _ s (execWobbleLock x0 s) from .ofPart _ _ rfl)
  | angleEventExecute x0 x1 => exact (show Framed _ s (execAngleEventExecute x0 x1 s) from .ofPart _ _ rfl)
  | evtLate x0 x1 => exact (show Framed _ s (execEvtLate x0 x1 s) from .ofPart _ _ rfl)
  | seekEnd x0 x1 => exact (show Framed _ s (execSeekEnd x0 x1 s) from .ofPart _ _ rfl)
  | selfSafe x0 => exact (show Framed _ s (execSelfSafe x0 s) from .ofPart _ _ rfl)
  | stageUpstreamTick x0 x1 x2 x3 => exact (show Framed _ s (execStageUpstreamTick x0 x1 x2 x3 s) from .ofPart _ _ rfl)
  | overcurrent x0 => exact (show Framed _ s (execOvercurrent x0 s) from .ofPart _ _ rfl)
  | acqFail x0 => exact (show Framed _ s (execAcqFail x0 s) from .ofPart _ _ rfl)
  | readFifoOverrun x0 => exact (show Framed _ s (execReadFifoOverrun x0 s) from .ofPart _ _ rfl)
  | readDataCell x0 x1 => exact (show Framed _ s (execReadDataCell x0 x1 s) from .ofPart _ _ rfl)
  | readSummary x0 x1 => exact (show Framed _ s (execReadSummary x0 x1 s) from .ofPart _ _ rfl)
  | readGateAbort x0 => exact (show Framed _ s (execReadGateAbort x0 s) from .ofPart _ _ rfl)
  | laserFault x0 => exact (show Framed _ s (execLaserFault x0 s) from .ofPart _ _ rfl)
  | darkOffsetDone x0 x1 x2 x3 => exact (show Framed _ s (execDarkOffsetDone x0 x1 x2 x3 s) from .ofPart _ _ rfl)
  | stall x0 => exact (show Framed _ s (execStall x0 s) from .ofPart _ _ rfl)
  | limitStop x0 => exact (show Framed _ s (execLimitStop x0 s) from .ofPart _ _ rfl)
  | switchLatch x0 x1 x2 x3 x4 x5 => exact (show Framed _ s (execSwitchLatch x0 x1 x2 x3 x4 x5 s) from .ofPart _ _ rfl)
  | vbusLoss x0 => exact (show Framed _ s (execVbusLoss x0 s) from .ofPart _ _ rfl)
  | linkHold x0 => exact (show Framed _ s (execLinkHold x0 s) from .ofPart _ _ rfl)
  | linkLost x0 => exact (show Framed _ s (execLinkLost x0 s) from .ofPart _ _ rfl)
  | powerReport x0 x1 x2 x3 => exact (show Framed _ s (execPowerReport x0 x1 x2 x3 s) from .ofPart _ _ rfl)
  | sleepAck x0 => exact (show Framed _ s (execSleepAck x0 s) from .ofPart _ _ rfl)
  | preambleLock x0 x1 x2 x3 => exact (show Framed _ s (execPreambleLock x0 x1 x2 x3 s) from .ofPart _ _ rfl)
  | frameSync x0 x1 x2 => exact (show Framed _ s (execFrameSync x0 x1 x2 s) from .ofPart _ _ rfl)
  | winnowerCriterion x0 x1 x2 x3 x4 => exact (show Framed _ s (execWinnowerCriterion x0 x1 x2 x3 x4 s) from .ofPart _ _ rfl)
  | switchInputEdge x0 x1 x2 x3 x4 x5 => exact (show Framed _ s (execSwitchInputEdge x0 x1 x2 x3 x4 x5 s) from .ofPart _ _ rfl)
  | feRailLoss x0 x1 => exact (show Framed _ s (execFeRailLoss x0 x1 s) from .ofPart _ _ rfl)
  | feRailReturn x0 x1 => exact (show Framed _ s (execFeRailReturn x0 x1 s) from .ofPart _ _ rfl)
  | vbusReturn x0 => exact (show Framed _ s (execVbusReturn x0 s) from .ofPart _ _ rfl)
  | firmwareStart x0 x1 => exact (show Framed _ s (execFirmwareStart x0 x1 s) from .whole _ rfl rfl)
  | bootTimeout => exact (show Framed _ s (execBootTimeout s) from .whole _ rfl rfl)
  | bootingEnd => exact (show Framed _ s (execBootingEnd s) from .whole _ rfl rfl)
  | startingEnd => exact (show Framed _ s (execStartingEnd s) from .whole _ rfl rfl)
  | partIdentityTimeout x0 => exact (show Framed _ s (execPartIdentityTimeout x0 s) from .whole _ rfl rfl)
  | objectRead x0 x1 x2 x3 x4 x5 => exact (show Framed _ s (execObjectRead x0 x1 x2 x3 x4 x5 s) from .whole _ rfl rfl)
  | objectWrite x0 x1 x2 x3 x4 x5 x6 => exact (show Framed _ s (execObjectWrite x0 x1 x2 x3 x4 x5 x6 s) from .whole _ rfl rfl)
  | plainObjectWrite x0 x1 x2 x3 => exact (show Framed _ s (execPlainObjectWrite x0 x1 x2 x3 s) from .whole _ rfl rfl)
  | commit x0 x1 => exact (show Framed _ s (execCommit x0 x1 s) from .whole _ rfl rfl)
  | commitStoreDone x0 x1 => exact (show Framed _ s (execCommitStoreDone x0 x1 s) from .whole _ rfl rfl)
  | fwLoadErase x0 => exact (show Framed _ s (execFwLoadErase x0 s) from .whole _ rfl rfl)
  | fwLoadData x0 x1 => exact (show Framed _ s (execFwLoadData x0 x1 s) from .whole _ rfl rfl)
  | fwLoadCheck x0 => exact (show Framed _ s (execFwLoadCheck x0 s) from .whole _ rfl rfl)
  | fwCheckDone => exact (show Framed _ s (execFwCheckDone s) from .whole _ rfl rfl)
  | holdRequest x0 x1 => exact (show Framed _ s (execHoldRequest x0 x1 s) from .whole _ rfl rfl)
  | drainStartDeferred => exact (show Framed _ s (execDrainStartDeferred s) from .whole _ rfl rfl)
  | drainComplete => exact (show Framed _ s (execDrainComplete s) from .whole _ rfl rfl)
  | drainTimeout => exact (show Framed _ s (execDrainTimeout s) from .whole _ rfl rfl)
  | holdRelease x0 x1 => exact (show Framed _ s (execHoldRelease x0 x1 s) from .whole _ rfl rfl)
  | warmRestart x0 x1 => exact (show Framed _ s (execWarmRestart x0 x1 s) from .whole _ rfl rfl)
  | gleanerDramRead x0 x1 x2 x3 => exact (show Framed _ s (execGleanerDramRead x0 x1 x2 x3 s) from .whole _ rfl rfl)
  | gleanerSramRead x0 x1 x2 x3 => exact (show Framed _ s (execGleanerSramRead x0 x1 x2 x3 s) from .whole _ rfl rfl)
  | refClkReturn => exact (show Framed _ s (execRefClkReturn s) from .whole _ rfl rfl)
  | cribReset x0 x1 => exact (show Framed _ s (execCribReset x0 x1 s) from .threshing _ rfl rfl)
  | vfFunctionLevelReset x0 => exact (show Framed _ s (execVfFunctionLevelReset x0 s) from .threshing _ rfl rfl)
  | cribResetComplete x0 => exact (show Framed _ s (execCribResetComplete x0 s) from .threshing _ rfl rfl)
  | ccEnClear x0 => exact (show Framed _ s (execCcEnClear x0 s) from .threshing _ rfl rfl)
  | propertySet x0 x1 x2 x3 => exact (show Framed _ s (execPropertySet x0 x1 x2 x3 s) from .threshing _ rfl rfl)
  | sequencerAssign x0 x1 => exact (show Framed _ s (execSequencerAssign x0 x1 s) from .threshing _ rfl rfl)
  | nop x0 => exact (show Framed _ s (execNop x0 s) from .threshing _ rfl rfl)
  | halt x0 => exact (show Framed _ s (execHalt x0 s) from .threshing _ rfl rfl)
  | ld x0 => exact (show Framed _ s (execLd x0 s) from .threshing _ rfl rfl)
  | st x0 => exact (show Framed _ s (execSt x0 s) from .threshing _ rfl rfl)
  | jmp x0 => exact (show Framed _ s (execJmp x0 s) from .threshing _ rfl rfl)
  | loop x0 => exact (show Framed _ s (execLoop x0 s) from .threshing _ rfl rfl)
  | setinc x0 => exact (show Framed _ s (execSetinc x0 s) from .threshing _ rfl rfl)
  | mova x0 => exact (show Framed _ s (execMova x0 s) from .threshing _ rfl rfl)
  | rda x0 => exact (show Framed _ s (execRda x0 s) from .threshing _ rfl rfl)
  | lcnt x0 => exact (show Framed _ s (execLcnt x0 s) from .threshing _ rfl rfl)
  | push x0 => exact (show Framed _ s (execPush x0 s) from .threshing _ rfl rfl)
  | fence x0 => exact (show Framed _ s (execFence x0 s) from .threshing _ rfl rfl)
  | illegalInstruction x0 => exact (show Framed _ s (execIllegalInstruction x0 s) from .threshing _ rfl rfl)
  | engineCommandEnd x0 x1 => exact (show Framed _ s (execEngineCommandEnd x0 x1 s) from .threshing _ rfl rfl)
  | bypass x0 => exact (show Framed _ s (execBypass x0 s) from .testPort _ _ rfl)
  | idcode x0 => exact (show Framed _ s (execIdcode x0 s) from .testPort _ _ rfl)
  | samplePreload x0 x1 x2 => exact (show Framed _ s (execSamplePreload x0 x1 x2 s) from .testPort _ _ rfl)
  | extest x0 => exact (show Framed _ s (execExtest x0 s) from .testPort _ _ rfl)
  | clamp x0 => exact (show Framed _ s (execClamp x0 s) from .testPort _ _ rfl)
  | coldStart x0 x1 x2 => exact (show Framed _ s (execColdStart x0 x1 x2 s) from .power _ rfl rfl)
  | logicPowerLoss => exact (show Framed _ s (execLogicPowerLoss s) from .power _ rfl rfl)
  | partIdentityWord x0 x1 => exact (show Framed _ s (execPartIdentityWord x0 x1 s) from .identity _ _ rfl rfl)
  | interlockAck x0 x1 => exact (show Framed _ s (execInterlockAck x0 x1 s) from framed_actWrite _ _ _ _ rfl)
  | pendingClear x0 x1 => exact (show Framed _ s (execPendingClear x0 x1 s) from framed_actWrite _ _ _ _ rfl)
  | fwFloorRaise x0 x1 => exact (show Framed _ s (execFwFloorRaise x0 x1 s) from framed_actWrite _ _ _ _ rfl)
  | generate x0 x1 => exact (show Framed _ s (execGenerate x0 x1 s) from framed_actWrite _ _ _ _ rfl)
  | load x0 x1 => exact (show Framed _ s (execLoad x0 x1 s) from framed_actWrite _ _ _ _ rfl)
  | destroy x0 x1 => exact (show Framed _ s (execDestroy x0 x1 s) from framed_actWrite _ _ _ _ rfl)
  | driveReset x0 => exact (show Framed _ s (execDriveReset x0 s) from framed_actWrite _ _ _ _ rfl)
  | feReset x0 => exact (show Framed _ s (execFeReset x0 s) from framed_actWrite _ _ _ _ rfl)
  | servo x0 => exact (show Framed _ s (execServo x0 s) from framed_actWrite _ _ _ _ rfl)
  | eq x0 => exact (show Framed _ s (execEq x0 s) from framed_actWrite _ _ _ _ rfl)
  | wpwr x0 => exact (show Framed _ s (execWpwr x0 s) from framed_actWrite _ _ _ _ rfl)
  | motHalt x0 => exact (show Framed _ s (execMotHalt x0 s) from framed_actWrite _ _ _ _ rfl)
  | stageReset x0 => exact (show Framed _ s (execStageReset x0 s) from framed_actWrite _ _ _ _ rfl)
  | pickReset => exact (show Framed _ s (execPickReset s) from framed_actWrite _ _ _ _ rfl)
  | pickPlace x0 => exact (show Framed _ s (execPickPlace x0 s) from framed_actWrite _ _ _ _ rfl)
  | discRestore x0 => exact (show Framed _ s (execDiscRestore x0 s) from framed_actWrite _ _ _ _ rfl)
  | memEraseDevWrite x0 x1 => exact (show Framed _ s (execMemEraseDevWrite x0 x1 s) from framed_actWrite _ _ _ _ rfl)
  | memCeClear => exact (show Framed _ s (execMemCeClear s) from framed_actWrite _ _ _ _ rfl)
  | memTestWrite => exact (show Framed _ s (execMemTestWrite s) from framed_actWrite _ _ _ _ rfl)
  | writeRaw => exact (show Framed _ s (execWriteRaw s) from framed_actWrite _ _ _ _ rfl)
  | memTestRead => exact (show Framed _ s (execMemTestRead s) from framed_actWrite _ _ _ _ rfl)
  | readRaw => exact (show Framed _ s (execReadRaw s) from framed_actWrite _ _ _ _ rfl)
  | memRetireReq x0 => exact (show Framed _ s (execMemRetireReq x0 s) from framed_actWrite _ _ _ _ rfl)
  | memRetireClear x0 => exact (show Framed _ s (execMemRetireClear x0 s) from framed_actWrite _ _ _ _ rfl)
  | evtCribClear x0 x1 => exact (show Framed _ s (execEvtCribClear x0 x1 s) from framed_actWrite _ _ _ _ rfl)
  | evtCribMask x0 x1 => exact (show Framed _ s (execEvtCribMask x0 x1 s) from framed_actWrite _ _ _ _ rfl)
  | evtRoute x0 x1 x2 => exact (show Framed _ s (execEvtRoute x0 x1 x2 s) from framed_actWrite _ _ _ _ rfl)
  | evrEnable x0 x1 x2 => exact (show Framed _ s (execEvrEnable x0 x1 x2 s) from framed_actWrite _ _ _ _ rfl)
  | spTxData x0 x1 x2 => exact (show Framed _ s (execSpTxData x0 x1 x2 s) from framed_actWrite _ _ _ _ rfl)
  | padFunc x0 x1 x2 x3 => exact (show Framed _ s (execPadFunc x0 x1 x2 x3 s) from framed_actWrite _ _ _ _ rfl)
  | utcSet x0 x1 => exact (show Framed _ s (execUtcSet x0 x1 s) from framed_actWrite _ _ _ _ rfl)
  | ledgerAck x0 x1 => exact (show Framed _ s (execLedgerAck x0 x1 s) from framed_actWrite _ _ _ _ rfl)
  | jobKeyData x0 x1 x2 x3 => exact (show Framed _ s (execJobKeyData x0 x1 x2 x3 s) from framed_actWrite _ _ _ _ rfl)
  | arm x0 => exact (show Framed _ s (execArm x0 s) from framed_armWrite _ _ rfl)
  | cancel x0 => exact (show Framed _ s (execCancel x0 s) from framed_armWrite _ _ rfl)
  | windowRead x0 x1 x2 x3 x4 => exact (show Framed _ s (execWindowRead x0 x1 x2 x3 x4 s) from framed_slotRun _ _ _ _ rfl rfl)
  | windowWrite x0 x1 x2 x3 x4 x5 x6 => exact (show Framed _ s (execWindowWrite x0 x1 x2 x3 x4 x5 x6 s) from framed_slotRun _ _ _ _ rfl rfl)
  | windowDescribe x0 x1 x2 => exact (show Framed _ s (execWindowDescribe x0 x1 x2 s) from framed_slotRun _ _ _ _ rfl rfl)
  | windowNext x0 x1 x2 => exact (show Framed _ s (execWindowNext x0 x1 x2 s) from framed_slotRun _ _ _ _ rfl rfl)
  | windowUnknownOp x0 x1 x2 => exact (show Framed _ s (execWindowUnknownOp x0 x1 x2 s) from framed_slotRun _ _ _ _ rfl rfl)
  | mopReadInitiate x0 => exact (show Framed _ s (execMopReadInitiate x0 s) from framed_mopFrame _ _ _ _ rfl rfl)
  | mopWriteInitiate x0 x1 => exact (show Framed _ s (execMopWriteInitiate x0 x1 s) from framed_mopFrame _ _ _ _ rfl rfl)
  | mopDescribe x0 => exact (show Framed _ s (execMopDescribe x0 s) from framed_mopFrame _ _ _ _ rfl rfl)
  | mopNext x0 => exact (show Framed _ s (execMopNext x0 s) from framed_mopFrame _ _ _ _ rfl rfl)
  | mopUnknownService x0 x1 x2 => exact (show Framed _ s (execMopUnknownService x0 x1 x2 s) from framed_mopFrame _ _ _ _ rfl rfl)
  | mopWriteSegment x0 x1 => exact (show Framed _ s (execMopWriteSegment x0 x1 s) from framed_mopFrame _ _ _ _ rfl rfl)
  | mopReadSegmentRequest x0 => exact (show Framed _ s (execMopReadSegmentRequest x0 s) from framed_mopFrame _ _ _ _ rfl rfl)
  | mopClientAbort x0 x1 => exact (show Framed _ s (execMopClientAbort x0 x1 s) from framed_mopFrame _ _ _ _ rfl rfl)
  | copy x0 x1 => exact (show Framed _ s (execCopy x0 x1 s) from framed_engineRow _ _ _ _ rfl rfl)
  | fill x0 x1 => exact (show Framed _ s (execFill x0 x1 s) from framed_engineRow _ _ _ _ rfl rfl)
  | readNs x0 x1 => exact (show Framed _ s (execReadNs x0 x1 s) from framed_engineRow _ _ _ _ rfl rfl)
  | toHost x0 x1 => exact (show Framed _ s (execToHost x0 x1 s) from framed_engineRow _ _ _ _ rfl rfl)
  | lincomb x0 x1 => exact (show Framed _ s (execLincomb x0 x1 s) from framed_engineRow _ _ _ _ rfl rfl)
  | fieldMul x0 x1 => exact (show Framed _ s (execFieldMul x0 x1 s) from framed_engineRow _ _ _ _ rfl rfl)
  | shaInit x0 x1 => exact (show Framed _ s (execShaInit x0 x1 s) from framed_engineRow _ _ _ _ rfl rfl)
  | shaUpdate x0 x1 => exact (show Framed _ s (execShaUpdate x0 x1 s) from framed_engineRow _ _ _ _ rfl rfl)
  | shaFinal x0 x1 => exact (show Framed _ s (execShaFinal x0 x1 s) from framed_engineRow _ _ _ _ rfl rfl)
  | shaDigest x0 x1 => exact (show Framed _ s (execShaDigest x0 x1 s) from framed_engineRow _ _ _ _ rfl rfl)
  | crcUpdate x0 x1 => exact (show Framed _ s (execCrcUpdate x0 x1 s) from framed_engineRow _ _ _ _ rfl rfl)
  | crcDigest x0 x1 => exact (show Framed _ s (execCrcDigest x0 x1 s) from framed_engineRow _ _ _ _ rfl rfl)
  | gcmEnc x0 x1 => exact (show Framed _ s (execGcmEnc x0 x1 s) from framed_engineRow _ _ _ _ rfl rfl)
  | gcmDec x0 x1 => exact (show Framed _ s (execGcmDec x0 x1 s) from framed_engineRow _ _ _ _ rfl rfl)
  | vectorAdd x0 x1 => exact (show Framed _ s (execVectorAdd x0 x1 s) from framed_engineRow _ _ _ _ rfl rfl)
  | vectorSub x0 x1 => exact (show Framed _ s (execVectorSub x0 x1 s) from framed_engineRow _ _ _ _ rfl rfl)
  | vectorAnd x0 x1 => exact (show Framed _ s (execVectorAnd x0 x1 s) from framed_engineRow _ _ _ _ rfl rfl)
  | vectorOr x0 x1 => exact (show Framed _ s (execVectorOr x0 x1 s) from framed_engineRow _ _ _ _ rfl rfl)
  | vectorXor x0 x1 => exact (show Framed _ s (execVectorXor x0 x1 s) from framed_engineRow _ _ _ _ rfl rfl)
  | min x0 x1 => exact (show Framed _ s (execMin x0 x1 s) from framed_engineRow _ _ _ _ rfl rfl)
  | max x0 x1 => exact (show Framed _ s (execMax x0 x1 s) from framed_engineRow _ _ _ _ rfl rfl)
  | cmpeq x0 x1 => exact (show Framed _ s (execCmpeq x0 x1 s) from framed_engineRow _ _ _ _ rfl rfl)
  | cmplt x0 x1 => exact (show Framed _ s (execCmplt x0 x1 s) from framed_engineRow _ _ _ _ rfl rfl)
  | sum x0 x1 => exact (show Framed _ s (execSum x0 x1 s) from framed_engineRow _ _ _ _ rfl rfl)
  | countEq x0 x1 => exact (show Framed _ s (execCountEq x0 x1 s) from framed_engineRow _ _ _ _ rfl rfl)
  | findEq x0 x1 => exact (show Framed _ s (execFindEq x0 x1 s) from framed_engineRow _ _ _ _ rfl rfl)
  | blockErase x0 x1 x2 x3 x4 => exact (show Framed _ s (execBlockErase x0 x1 x2 x3 x4 s) from framed_sanitizeErase _ _ _ _ _ rfl rfl)
  | cryptoErase x0 x1 x2 x3 x4 => exact (show Framed _ s (execCryptoErase x0 x1 x2 x3 x4 s) from framed_sanitizeErase _ _ _ _ _ rfl rfl)
  | lil x0 => exact (show Framed _ s (execLil x0 s) from framed_seqSet _ _ _ rfl rfl)
  | lih x0 => exact (show Framed _ s (execLih x0 s) from framed_seqSet _ _ _ rfl rfl)
  | addi x0 => exact (show Framed _ s (execAddi x0 s) from framed_seqSet _ _ _ rfl rfl)
  | andi x0 => exact (show Framed _ s (execAndi x0 s) from framed_seqSet _ _ _ rfl rfl)
  | ori x0 => exact (show Framed _ s (execOri x0 s) from framed_seqSet _ _ _ rfl rfl)
  | xori x0 => exact (show Framed _ s (execXori x0 s) from framed_seqSet _ _ _ rfl rfl)
  | shli x0 => exact (show Framed _ s (execShli x0 s) from framed_seqSet _ _ _ rfl rfl)
  | shri x0 => exact (show Framed _ s (execShri x0 s) from framed_seqSet _ _ _ rfl rfl)
  | sari x0 => exact (show Framed _ s (execSari x0 s) from framed_seqSet _ _ _ rfl rfl)
  | add x0 => exact (show Framed _ s (execAdd x0 s) from framed_seqAlu _ _ _ rfl rfl)
  | sub x0 => exact (show Framed _ s (execSub x0 s) from framed_seqAlu _ _ _ rfl rfl)
  | and x0 => exact (show Framed _ s (execAnd x0 s) from framed_seqAlu _ _ _ rfl rfl)
  | or x0 => exact (show Framed _ s (execOr x0 s) from framed_seqAlu _ _ _ rfl rfl)
  | xor x0 => exact (show Framed _ s (execXor x0 s) from framed_seqAlu _ _ _ rfl rfl)
  | shl x0 => exact (show Framed _ s (execShl x0 s) from framed_seqAlu _ _ _ rfl rfl)
  | shr x0 => exact (show Framed _ s (execShr x0 s) from framed_seqAlu _ _ _ rfl rfl)
  | sar x0 => exact (show Framed _ s (execSar x0 s) from framed_seqAlu _ _ _ rfl rfl)
  | mul x0 => exact (show Framed _ s (execMul x0 s) from framed_seqAlu _ _ _ rfl rfl)
  | minu x0 => exact (show Framed _ s (execMinu x0 s) from framed_seqAlu _ _ _ rfl rfl)
  | maxu x0 => exact (show Framed _ s (execMaxu x0 s) from framed_seqAlu _ _ _ rfl rfl)
  | beq x0 => exact (show Framed _ s (execBeq x0 s) from framed_seqBranch _ _ _ rfl rfl)
  | bne x0 => exact (show Framed _ s (execBne x0 s) from framed_seqBranch _ _ _ rfl rfl)
  | blt x0 => exact (show Framed _ s (execBlt x0 s) from framed_seqBranch _ _ _ rfl rfl)
  | bge x0 => exact (show Framed _ s (execBge x0 s) from framed_seqBranch _ _ _ rfl rfl)
  | bltu x0 => exact (show Framed _ s (execBltu x0 s) from framed_seqBranch _ _ _ rfl rfl)
  | bgeu x0 => exact (show Framed _ s (execBgeu x0 s) from framed_seqBranch _ _ _ rfl rfl)

/-- The states a command can answer with: the one it found, one in which the frame of an ordinary command put back what such a command
cannot reach, one in which the Granary may differ as well, or one that start-up, the dictionary or the population settled. -/
def Reached (c : Instr) (s t : State) : Prop :=
  t = s ∨ ∃ u, t = keep s u ∨ (storesGranary c = true ∧ t = { keep s u with granary := tidy u.granary }) ∨
    (movesDevice c = true ∧ t = settleAll s u)

theorem reached_act {c : Instr} {s t : State} {f : State → State} (h : act s f = .next t) : Reached c s t := by
  obtain h | h := act_cases h
  · exact .inl h
  · exact .inr ⟨_, .inl h⟩

theorem reached_actAll {c : Instr} {s t : State} {f : State → State} (hd : movesDevice c = true) (h : actAll s f = .next t) :
    Reached c s t := by
  unfold actAll at h
  split at h
  · cases h
  · split at h <;> cases h
    · exact .inl rfl
    · exact .inr ⟨_, .inr (.inr ⟨hd, rfl⟩)⟩

/-- Whatever the command, the next state is of one of the four kinds. -/
theorem exec_reached {c : Instr} {s t : State} (h : exec c s = .next t) : Reached c s t := by
  have hf := exec_framed c s
  generalize exec c s = o at h hf
  cases hf with
  | ordinary f _ => exact reached_act h
  | ofPart p f _ =>
    unfold actPart at h
    split at h
    · cases h
    · exact reached_act h
  | whole f hd _ => exact reached_actAll hd h
  | identity p f hd _ =>
    split at h
    · cases h
    · exact reached_actAll hd h
  | threshing f hg _ =>
    unfold actGranary at h
    split at h
    · cases h
    · split at h <;> cases h
      · exact .inl rfl
      · exact .inr ⟨_, .inr (.inl ⟨hg, rfl⟩)⟩
  | testPort p f _ =>
    unfold actJtag at h
    split at h <;> cases h
    · exact .inl rfl
    · exact .inr ⟨_, .inl rfl⟩
  | power u hd _ => cases h; exact .inr ⟨u, .inr (.inr ⟨hd, rfl⟩)⟩

end Sys2Proof.Machine
end

