-- ==== Sys2Proof/Laws/Raise.lean ====
section
/-! SUPPORT. Everything an occurrence of an event can do (R601 to R616): which fields and objects it reaches, and which parts of the event
unit it leaves. -/

namespace Sys2Proof.Machine

/-! ### Frames compose -/

theorem ObjectsKeptEv.refl (w : List Nat) (s : State) : ObjectsKeptEv w s s := fun _ _ _ _ _ => rfl

theorem ObjectsKeptEv.trans {w : List Nat} {s t u : State} (h : ObjectsKeptEv w s t) (k : ObjectsKeptEv w t u) :
    ObjectsKeptEv w s u := fun a ha h1 h2 h3 => (k a ha h1 h2 h3).trans (h a ha h1 h2 h3)

theorem ObjectsKeptEv.mono {w v : List Nat} {s t : State} (hw : ∀ a ∈ w, a ∈ v) (h : ObjectsKeptEv w s t) : ObjectsKeptEv v s t :=
  fun a ha => h a fun hx => ha (hw a hx)

theorem ObjectsKept.ev {w : List Nat} {s t : State} (h : ObjectsKept w s t) : ObjectsKeptEv w s t := fun a ha _ _ _ => h a ha

theorem ObjectsKept.refl (w : List Nat) (s : State) : ObjectsKept w s s := fun _ _ => rfl

theorem ObjectsKept.trans {w : List Nat} {s t u : State} (h : ObjectsKept w s t) (k : ObjectsKept w t u) : ObjectsKept w s u :=
  fun a ha => (k a ha).trans (h a ha)

theorem ObjectsKept.mono {w v : List Nat} {s t : State} (hw : ∀ a ∈ w, a ∈ v) (h : ObjectsKept w s t) : ObjectsKept v s t :=
  fun a ha => h a fun hx => ha (hw a hx)

/-- A write of one element keeps every other. -/
theorem objectsKept_p (s : State) (o : Ob) (e v : Nat) : ObjectsKept [o.el e] s (s.p o e v) := by
  intro a ha
  have : o.el e ≠ a := fun h => ha (by simp [h])
  simp [State.p, Keyed.getD_put_ne _ _ _ this]

/-- A write within the event unit's group or to the Chest's counts. -/
theorem objectsKeptEv_p (s : State) (w : List Nat) (o : Ob) (e v : Nat)
    (h : o.el e ∈ w ∨ o.el e / 2 ^ 24 = 0x62 ∨ o.el e / 4096 = 0x7E030 ∨ o.el e / 4096 = 0x7E031) :
    ObjectsKeptEv w s (s.p o e v) := by
  intro a ha h1 h2 h3
  have : o.el e ≠ a := by rintro rfl; tauto
  simp [State.p, Keyed.getD_put_ne _ _ _ this]

theorem objectsKeptEv_of_od {w : List Nat} {s t : State} (h : t.od = s.od) : ObjectsKeptEv w s t := fun _ _ _ _ _ => by rw [h]

theorem EventsOnly.refl (s : State) : EventsOnly s s := rfl

theorem EventsOnly.trans {s t u : State} (h : EventsOnly s t) (k : EventsOnly t u) : EventsOnly s u := by
  unfold EventsOnly at *
  rw [k, h]

/-! ### What an occurrence leaves of the event unit -/

/-- Parts of the event unit an occurrence does not reach: mailboxes, doorbells, masks. -/
def SameBoxes (s t : State) : Prop :=
  t.evt.slots = s.evt.slots ∧ t.evt.staging = s.evt.staging ∧ t.evt.lastPost = s.evt.lastPost ∧
  t.evt.doorbells = s.evt.doorbells ∧ t.evt.mask = s.evt.mask

/-- All that an occurrence can do. -/
structure EvtReach (s t : State) : Prop where
  only : EventsOnly s t
  kept : ObjectsKeptEv [] s t
  boxes : SameBoxes s t

theorem EvtReach.refl (s : State) : EvtReach s s := ⟨rfl, .refl _ _, rfl, rfl, rfl, rfl, rfl⟩

theorem EvtReach.trans {s t u : State} (h : EvtReach s t) (k : EvtReach t u) : EvtReach s u := by
  refine ⟨h.only.trans k.only, h.kept.trans k.kept, ?_⟩
  obtain ⟨a1, a2, a3, a4, a5⟩ := h.boxes
  obtain ⟨b1, b2, b3, b4, b5⟩ := k.boxes
  exact ⟨b1.trans a1, b2.trans a2, b3.trans a3, b4.trans a4, b5.trans a5⟩

theorem evtReach_p (s : State) (o : Ob) (e v : Nat)
    (h : o.el e / 2 ^ 24 = 0x62 ∨ o.el e / 4096 = 0x7E030 ∨ o.el e / 4096 = 0x7E031) : EvtReach s (s.p o e v) :=
  ⟨rfl, objectsKeptEv_p _ _ _ _ _ (.inr h), rfl, rfl, rfl, rfl, rfl⟩

theorem evtReach_msix (s : State) (f v : Nat) : EvtReach s (s.msix f v) := by
  unfold State.msix
  split
  · dsimp only
    split
    · exact ⟨rfl, objectsKeptEv_of_od rfl, rfl, rfl, rfl, rfl, rfl⟩
    · exact ⟨rfl, objectsKeptEv_of_od rfl, rfl, rfl, rfl, rfl, rfl⟩
  · exact .refl s

theorem evtReach_setPend (s : State) (e : Nat) (b : Bool) : EvtReach s (s.setPend e b) :=
  ⟨rfl, objectsKeptEv_of_od rfl, rfl, rfl, rfl, rfl, rfl⟩

theorem fieldOf_lt (v hi lo : Nat) : fieldOf v hi lo < 2 ^ (hi + 1 - lo) := Nat.mod_lt _ (by positivity)

theorem evtReach_ringWrite (s : State) {r e : Nat} (d : Bool) (hr : r < 8) (he : e < 4096) : EvtReach s (ringWrite s r e d) := by
  unfold ringWrite
  dsimp only
  have hout : EvtReach s (s.emit (.ringRecord r (s.g Od.EVR_TAIL r) ⟨e, (if h : r < 8 then s.evt.phase[r] else true), srcOwner e,
      evtFlags s e (s.g Od.EVT_COUNT e) d, s.g Od.EVT_COUNT e, Keyed.getD s.evt.time e 0, s.g Od.EVT_DETAIL e,
      Keyed.getD s.evt.detail1 e 0⟩)) := ⟨rfl, objectsKeptEv_of_od rfl, rfl, rfl, rfl, rfl, rfl⟩
  refine hout.trans ?_
  generalize s.emit _ = s1
  have htail : ∀ v, EvtReach s1 (s1.p Od.EVR_TAIL r v) := fun v => evtReach_p _ _ _ _ (.inl (by simp only [Ob.el, Od.EVR_TAIL]; omega))
  have hcnt : ∀ u : State, EvtReach u ((u.p Od.EVT_COUNT e 0).setPend e false) := fun u =>
    (evtReach_p _ _ _ _ (.inl (by simp only [Ob.el, Od.EVT_COUNT]; omega))).trans (evtReach_setPend _ _ _)
  have hph : ∀ (u : State) (c : Prop) [Decidable c] (b : Bool),
      EvtReach u (if c then (if h : r < 8 then { u with evt := { u.evt with phase := u.evt.phase.set r b } } else u) else u) := by
    intro u c _ b
    rw [dif_pos hr]
    split
    · exact ⟨rfl, objectsKeptEv_of_od rfl, rfl, rfl, rfl, rfl, rfl⟩
    · exact .refl u
  split
  · exact (((htail _).trans (hph _ _ _)).trans (hcnt _)).trans (evtReach_msix _ _ _)
  · exact ((htail _).trans (hph _ _ _)).trans (hcnt _)

theorem evtReach_deliver (s : State) {e : Nat} (he : e < 4096) : EvtReach s (evtDeliver s e) := by
  unfold evtDeliver
  dsimp only
  have hr : fieldOf (s.g Od.EVT_ROUTE e) 14 12 < 8 := fieldOf_lt _ 14 12
  split
  · split
    · exact evtReach_setPend _ _ _
    · exact (evtReach_setPend _ _ _).trans (evtReach_msix _ _ _)
  · split
    · split
      · exact evtReach_ringWrite _ _ hr he
      · refine (evtReach_setPend _ _ _).trans (evtReach_p _ _ _ _ (.inl ?_))
        simp only [Ob.el, Od.EVR_DEFER_CNT]; omega
    · exact evtReach_setPend _ _ _

theorem evtReach_incSat (s : State) (o : Ob) (e : Nat) (h : o.el e / 2 ^ 24 = 0x62) : EvtReach s (s.incSat o e) := by
  unfold State.incSat
  split
  · exact evtReach_p _ _ _ _ (.inl h)
  · exact .refl s

theorem evtReach_occur (s : State) {e : Nat} (d0 d1 : Nat) (he : e < 4096) : EvtReach s (evtOccur s e d0 d1) := by
  unfold evtOccur
  dsimp only
  have h1 : EvtReach s (s.inc Od.EVT_TOTAL e) := evtReach_p _ _ _ _ (.inl (by simp only [Ob.el, Od.EVT_TOTAL]; omega))
  have h2 : ∀ u : State, EvtReach u (u.incSat Od.EVT_COUNT e) := fun u =>
    evtReach_incSat _ _ _ (by simp only [Ob.el, Od.EVT_COUNT]; omega)
  have h3 : ∀ u : State, EvtReach u (u.p Od.EVT_DETAIL e d0) := fun u =>
    evtReach_p _ _ _ _ (.inl (by simp only [Ob.el, Od.EVT_DETAIL]; omega))
  refine ((h1.trans (h2 _)).trans (h3 _)).trans ?_
  generalize State.p _ _ _ _ = u
  have h4 : EvtReach u { u with evt := { u.evt with time := Keyed.put u.evt.time e u.utc 0, detail1 := Keyed.put u.evt.detail1 e d1 0 } } :=
    ⟨rfl, objectsKeptEv_of_od rfl, rfl, rfl, rfl, rfl, rfl⟩
  exact h4.trans (evtReach_deliver _ he)

theorem evtReach_chestWrite (s : State) (pos : Nat) : EvtReach s (s.chestWrite Region.evtLog pos) := by
  unfold State.chestWrite State.chestPut
  split
  · exact ⟨rfl, objectsKeptEv_of_od rfl, rfl, rfl, rfl, rfl, rfl⟩
  · split
    · have hk : s.chestKeep Region.evtLog pos = s := by simp [State.chestKeep, Region.evtLog, Region.zone, Region.state]
      simp only [State.chestMade, hk]
      have hw : ∀ (u : State) (x y z : _), EvtReach u ({ u with chest := { u.chest with wear := x, recent := y } }.add Od.CHEST_WRITES
          Region.evtLog z) := fun u x y z =>
        EvtReach.trans (t := { u with chest := { u.chest with wear := x, recent := y } })
          ⟨rfl, objectsKeptEv_of_od rfl, rfl, rfl, rfl, rfl, rfl⟩ (evtReach_p _ _ _ _ (.inr (.inl (by decide))))
      split
      · exact (hw _ _ _ _).trans (evtReach_p _ _ _ _ (.inr (.inr (by decide))))
      · exact hw _ _ _ _
    · exact ⟨rfl, objectsKeptEv_of_od rfl, rfl, rfl, rfl, rfl, rfl⟩

theorem evtReach_log (s : State) (e d0 d1 : Nat) : EvtReach s (evtLog s e d0 d1).1 := by
  unfold evtLog
  dsimp only
  split
  · exact EvtReach.trans (t := { s with evt := { s.evt with logRate := (s.evt.logRate.tick s.second 1000).1 } })
      ⟨rfl, objectsKeptEv_of_od rfl, rfl, rfl, rfl, rfl, rfl⟩ (evtReach_p _ _ _ _ (.inl (by decide)))
  · have hl : ∀ (r : Rate) (l : List EvtLogRec) (v p : Nat), EvtReach s
        (({ s with evt := { s.evt with logRate := r, log := l } }.p Od.EVT_LOG_HEAD 0 v).chestWrite Region.evtLog p) := fun r l v p =>
      (EvtReach.trans (t := { s with evt := { s.evt with logRate := r, log := l } })
        ⟨rfl, objectsKeptEv_of_od rfl, rfl, rfl, rfl, rfl, rfl⟩ (evtReach_p _ _ _ _ (.inl (by decide)))).trans
        (evtReach_chestWrite _ _)
    split
    · exact (hl _ _ _ _).trans (evtReach_p _ _ _ _ (.inl (by decide)))
    · exact hl _ _ _ _

/-- All that raising a source can do. -/
theorem evtReach_raise (s : State) {e : Nat} (d0 : Nat) (d1 : Nat := 0) (he : e < 4096) : EvtReach s (raise s e d0 d1) := by
  unfold raise
  dsimp only
  have h8 : Src.logLoss < 4096 := by decide
  split
  · split
    · split
      · exact (((evtReach_occur s d0 d1 he).trans (evtReach_log _ _ _ _)).trans (evtReach_occur _ _ _ h8)).trans (evtReach_log _ _ _ _)
      · exact ((evtReach_occur s d0 d1 he).trans (evtReach_log _ _ _ _)).trans (evtReach_occur _ _ _ h8)
    · exact (evtReach_occur s d0 d1 he).trans (evtReach_log _ _ _ _)
  · exact evtReach_occur s d0 d1 he

theorem evtReach_raiseCrib (s : State) {c i : Nat} (d0 : Nat) (hc : c ≤ 32) (hi : i < 16) : EvtReach s (raiseCrib s c i d0) := by
  unfold raiseCrib
  split
  · exact .refl s
  · exact evtReach_raise _ _ (he := by simp only [Src.ofCrib]; omega)

/-! ### The count of occurrences -/

/-- No source has had an occurrence. -/
def TotalsKept (s t : State) : Prop := ∀ x, x < 4096 → t.g Od.EVT_TOTAL x = s.g Od.EVT_TOTAL x

theorem TotalsKept.refl (s : State) : TotalsKept s s := fun _ _ => rfl

theorem TotalsKept.trans {s t u : State} (h : TotalsKept s t) (k : TotalsKept t u) : TotalsKept s u :=
  fun x hx => (k x hx).trans (h x hx)

theorem totalsKept_p (s : State) (o : Ob) (e v : Nat) (h : o.el e / 4096 ≠ 0x62003) : TotalsKept s (s.p o e v) := by
  intro x hx
  refine State.g_p_ne _ _ fun hh => h ?_
  rw [hh]; simp only [Ob.el, Od.EVT_TOTAL]; omega

theorem totalsKept_of_od {s t : State} (h : t.od = s.od) : TotalsKept s t := fun x _ => by simp only [State.g, h]

theorem od_msix (s : State) (f v : Nat) : (s.msix f v).od = s.od := by
  unfold State.msix
  split
  · dsimp only; split <;> rfl
  · rfl

theorem totalsKept_msix (s : State) (f v : Nat) : TotalsKept s (s.msix f v) := totalsKept_of_od (od_msix s f v)

theorem totalsKept_ringWrite (s : State) {r e : Nat} (d : Bool) (hr : r < 8) (he : e < 4096) : TotalsKept s (ringWrite s r e d) := by
  unfold ringWrite
  dsimp only
  have hout : TotalsKept s (s.emit (.ringRecord r (s.g Od.EVR_TAIL r) ⟨e, (if h : r < 8 then s.evt.phase[r] else true), srcOwner e,
      evtFlags s e (s.g Od.EVT_COUNT e) d, s.g Od.EVT_COUNT e, Keyed.getD s.evt.time e 0, s.g Od.EVT_DETAIL e,
      Keyed.getD s.evt.detail1 e 0⟩)) := totalsKept_of_od rfl
  refine hout.trans ?_
  generalize s.emit _ = s1
  have h1 : ∀ v, TotalsKept s1 (s1.p Od.EVR_TAIL r v) := fun v =>
    totalsKept_p s1 Od.EVR_TAIL r v (by simp only [Ob.el, Od.EVR_TAIL]; omega)
  have h2 : ∀ u : State, TotalsKept u ((u.p Od.EVT_COUNT e 0).setPend e false) := fun u =>
    totalsKept_p u Od.EVT_COUNT e 0 (by simp only [Ob.el, Od.EVT_COUNT]; omega)
  have h3 : ∀ (u : State) (c : Prop) [Decidable c] (b : Bool),
      TotalsKept u (if c then (if h : r < 8 then { u with evt := { u.evt with phase := u.evt.phase.set r b } } else u) else u) := by
    intro u c _ b
    rw [dif_pos hr]
    split <;> exact totalsKept_of_od rfl
  split
  · exact (((h1 _).trans (h3 _ _ _)).trans (h2 _)).trans (totalsKept_msix _ _ _)
  · exact ((h1 _).trans (h3 _ _ _)).trans (h2 _)

theorem totalsKept_deliver (s : State) {e : Nat} (he : e < 4096) : TotalsKept s (evtDeliver s e) := by
  unfold evtDeliver
  dsimp only
  have hr : fieldOf (s.g Od.EVT_ROUTE e) 14 12 < 8 := fieldOf_lt _ 14 12
  have hs : ∀ u : State, ∀ b, TotalsKept u (u.setPend e b) := fun u b => totalsKept_of_od rfl
  split
  · split
    · exact hs _ _
    · exact (hs _ _).trans (totalsKept_of_od (od_msix _ _ _))
  · split
    · split
      · exact totalsKept_ringWrite _ _ hr he
      · exact (hs _ _).trans (totalsKept_p _ _ _ _ (by simp only [Ob.el, Od.EVR_DEFER_CNT]; omega))
    · exact hs _ _

/-- An occurrence counts in the total of its own source and of no other (R601). -/
theorem totals_occur (s : State) {e : Nat} (d0 d1 : Nat) (he : e < 4096) (x : Nat) (hx : x < 4096) :
    (evtOccur s e d0 d1).g Od.EVT_TOTAL x =
      if x = e then (s.g Od.EVT_TOTAL e + 1) % 2 ^ 32 else s.g Od.EVT_TOTAL x := by
  unfold evtOccur
  simp only []
  rw [totalsKept_deliver _ he x hx]
  have h1 : ∀ (u : State) (y z : _), ({ u with evt := { u.evt with time := y, detail1 := z } } : State).g Od.EVT_TOTAL x = u.g Od.EVT_TOTAL x :=
    fun _ _ _ => rfl
  rw [h1, totalsKept_p _ _ _ _ (by simp only [Ob.el, Od.EVT_DETAIL]; omega) x hx]
  have h2 : ∀ u : State, (u.incSat Od.EVT_COUNT e).g Od.EVT_TOTAL x = u.g Od.EVT_TOTAL x := by
    intro u; unfold State.incSat; split
    · exact totalsKept_p _ _ _ _ (by simp only [Ob.el, Od.EVT_COUNT]; omega) x hx
    · rfl
  rw [h2, State.inc, State.add, State.g_p]
  by_cases h : x = e
  · subst h; rw [if_pos rfl, if_pos rfl]; rfl
  · rw [if_neg h, if_neg (by simp only [Ob.el]; omega)]

theorem totalsKept_chestWrite (s : State) (pos : Nat) : TotalsKept s (s.chestWrite Region.evtLog pos) := by
  unfold State.chestWrite State.chestPut
  split
  · exact totalsKept_of_od rfl
  · split
    · have hk : s.chestKeep Region.evtLog pos = s := by simp [State.chestKeep, Region.evtLog, Region.zone, Region.state]
      simp only [State.chestMade, hk]
      have hw : ∀ (x y z : _), TotalsKept s ({ s with chest := { s.chest with wear := x, recent := y } }.add Od.CHEST_WRITES
          Region.evtLog z) := fun x y z =>
        TotalsKept.trans (t := { s with chest := { s.chest with wear := x, recent := y } }) (totalsKept_of_od rfl)
          (totalsKept_p _ _ _ _ (by decide))
      split
      · exact (hw _ _ _).trans (totalsKept_p _ _ _ _ (by decide))
      · exact hw _ _ _
    · exact totalsKept_of_od rfl

theorem totalsKept_log (s : State) (e d0 d1 : Nat) : TotalsKept s (evtLog s e d0 d1).1 := by
  unfold evtLog
  dsimp only
  split
  · exact TotalsKept.trans (t := { s with evt := { s.evt with logRate := (s.evt.logRate.tick s.second 1000).1 } })
      (totalsKept_of_od rfl) (totalsKept_p _ _ _ _ (by decide))
  · have hl : ∀ (r : Rate) (l : List EvtLogRec) (v p : Nat), TotalsKept s
        (({ s with evt := { s.evt with logRate := r, log := l } }.p Od.EVT_LOG_HEAD 0 v).chestWrite Region.evtLog p) := fun r l v p =>
      (TotalsKept.trans (t := { s with evt := { s.evt with logRate := r, log := l } }) (totalsKept_of_od rfl)
        (totalsKept_p _ _ _ _ (by decide))).trans (totalsKept_chestWrite _ _)
    split
    · exact (hl _ _ _ _).trans (totalsKept_p _ _ _ _ (by decide))
    · exact hl _ _ _ _

/-- Raising a source counts one occurrence of it; LOG_LOSS, which raising a logged source may raise beside it, is the only other. -/
theorem totals_raise (s : State) {e : Nat} (d0 : Nat) (d1 : Nat := 0) (he : e < 4096) (x : Nat) (hx : x < 4096) (h8 : x ≠ Src.logLoss) :
    (raise s e d0 d1).g Od.EVT_TOTAL x = if x = e then (s.g Od.EVT_TOTAL e + 1) % 2 ^ 32 else s.g Od.EVT_TOTAL x := by
  rw [← totals_occur s d0 d1 he x hx]
  have hl : Src.logLoss < 4096 := by decide
  unfold raise
  dsimp only
  split
  · split
    · split
      · rw [totalsKept_log _ _ _ _ x hx, totals_occur _ _ _ hl x hx, if_neg h8, totalsKept_log _ _ _ _ x hx]
      · rw [totals_occur _ _ _ hl x hx, if_neg h8, totalsKept_log _ _ _ _ x hx]
    · rw [totalsKept_log _ _ _ _ x hx]
  · rfl

theorem raised_raise (s : State) {e : Nat} (d0 : Nat) (d1 : Nat := 0) (he : e < 4096) (h8 : e ≠ Src.logLoss) :
    Raised e s (raise s e d0 d1) := by
  rw [Raised, totals_raise s d0 d1 he e he h8, if_pos rfl]

/-! ### Going through a list, draining a ring, logging a violation -/

theorem evtReach_each {α : Type} (l : List α) (f : State → α → State) (hf : ∀ u x, x ∈ l → EvtReach u (f u x)) (s : State) :
    EvtReach s (s.each l f) := each_rel (R := EvtReach) .refl .trans l f hf s

theorem evtReach_ringDrain (s : State) {r : Nat} (hr : r < 8) : EvtReach s (ringDrain s r) := by
  unfold ringDrain
  refine evtReach_each _ _ (fun u e he => ?_) s
  have he' : e < 1024 := by
    simp only [heldOn, List.mem_append, List.mem_filter, List.mem_range] at he
    omega
  split
  · exact evtReach_ringWrite _ _ hr (by omega)
  · exact .refl u

theorem evtReach_chestWriteVio (s : State) (pos : Nat) : EvtReach s (s.chestWrite Region.vioLog pos) := by
  unfold State.chestWrite State.chestPut
  split
  · exact ⟨rfl, objectsKeptEv_of_od rfl, rfl, rfl, rfl, rfl, rfl⟩
  · split
    · have hk : s.chestKeep Region.vioLog pos = s := by simp [State.chestKeep, Region.vioLog, Region.zone, Region.state]
      simp only [State.chestMade, hk]
      have hw : ∀ (x y z : _), EvtReach s ({ s with chest := { s.chest with wear := x, recent := y } }.add Od.CHEST_WRITES
          Region.vioLog z) := fun x y z =>
        EvtReach.trans (t := { s with chest := { s.chest with wear := x, recent := y } })
          ⟨rfl, objectsKeptEv_of_od rfl, rfl, rfl, rfl, rfl, rfl⟩ (evtReach_p _ _ _ _ (.inr (.inl (by decide))))
      split
      · exact (hw _ _ _).trans (evtReach_p _ _ _ _ (.inr (.inr (by decide))))
      · exact hw _ _ _
    · exact ⟨rfl, objectsKeptEv_of_od rfl, rfl, rfl, rfl, rfl, rfl⟩

/-- A violation reaches no more than an event does (R617, R618). -/
theorem evtReach_violation (s : State) (partner crib wher node code : Nat) (detail : List Byte) :
    EvtReach s (violation s partner crib wher node code detail) := by
  have hv : Src.violation < 4096 := by decide
  have hl : Src.logLoss < 4096 := by decide
  unfold violation
  dsimp only
  split
  · exact ⟨rfl, objectsKeptEv_of_od rfl, rfl, rfl, rfl, rfl, rfl⟩
  · split
    · refine (EvtReach.trans (t := { s with evt := { s.evt with vioRate := (s.evt.vioRate.tick s.second 1000).1 } })
        ⟨rfl, objectsKeptEv_of_od rfl, rfl, rfl, rfl, rfl, rfl⟩ (evtReach_p _ Od.VIO_LOG_LOST 0 _ (.inl (by decide)))).trans
        (evtReach_raise _ _ (he := hl))
    · have h0 : ∀ (r : Rate) (l : List VioRec) (v p x : Nat), EvtReach s (raise
          (({ s with evt := { s.evt with vioRate := r, vio := l } }.p Od.VIO_LOG_HEAD 0 v).chestWrite Region.vioLog p) Src.violation x) :=
        fun r l v p x => ((EvtReach.trans (t := { s with evt := { s.evt with vioRate := r, vio := l } })
          ⟨rfl, objectsKeptEv_of_od rfl, rfl, rfl, rfl, rfl, rfl⟩ (evtReach_p _ Od.VIO_LOG_HEAD 0 _ (.inl (by decide)))).trans
          (evtReach_chestWriteVio _ _)).trans (evtReach_raise _ _ (he := hv))
      split
      · exact (h0 _ _ _ _ _).trans (evtReach_raiseCrib _ _ (by omega) (by omega))
      · exact h0 _ _ _ _ _

/-- What only reaches the event unit is not changed by the frame of an ordinary command. -/
theorem keep_only {s u : State} (h : EventsOnly s u) : keep s u = u := by
  rw [h]; exact keep_eq rfl rfl rfl rfl rfl

theorem keep_reach {s u : State} (h : EvtReach s u) : keep s u = u := keep_only h.only

end Sys2Proof.Machine
end

