-- ==== Sys2Proof/Laws/Places.lean ====
section
/-! SUPPORT. The frame of one element: what leaves the value at an address word `x` as it was. -/

namespace Sys2Proof.Machine

/-- The element at address word `x` reads as before. -/
def At (x : Nat) (s t : State) : Prop := Keyed.getD t.od x 0 = Keyed.getD s.od x 0

/-- `x` is not an element that an event or a Chest write reaches. -/
def Quiet (x : Nat) : Prop := x / 2 ^ 24 ≠ 0x62 ∧ x / 4096 ≠ 0x7E030 ∧ x / 4096 ≠ 0x7E031

theorem At.refl (x : Nat) (s : State) : At x s s := rfl
theorem At.trans {x : Nat} {s t u : State} (h : At x s t) (k : At x t u) : At x s u := Eq.trans k h
theorem At.g {o : Ob} {e : Nat} {s t : State} (h : At (o.el e) s t) : t.g o e = s.g o e := h

theorem at_od {x : Nat} {s t : State} (h : t.od = s.od) : At x s t := by unfold At; rw [h]
theorem at_p (x : Nat) (s : State) (o : Ob) (e v : Nat) (h : o.el e ≠ x) : At x s (s.p o e v) := Keyed.getD_put_ne _ _ _ h
theorem at_pi {x : Nat} (s : State) (o : Ob) (e : Nat) (v : Int) (h : o.el e ≠ x) : At x s (s.pi o e v) := at_p _ _ _ _ _ h
theorem at_add (x : Nat) (s : State) (o : Ob) (e n : Nat) (h : o.el e ≠ x) : At x s (s.add o e n) := at_p x s o e _ h
theorem at_inc (x : Nat) (s : State) (o : Ob) (e : Nat) (h : o.el e ≠ x) : At x s (s.inc o e) := at_p x s o e _ h
theorem at_incSat (x : Nat) (s : State) (o : Ob) (e : Nat) (h : o.el e ≠ x) : At x s (s.incSat o e) := by
  unfold State.incSat; split
  · exact at_p x s o e _ h
  · exact .refl _ _

theorem at_ev {x : Nat} {w : List Nat} {s t : State} (h : ObjectsKeptEv w s t) (h0 : x ∉ w) (hx : Quiet x) : At x s t :=
  h x h0 hx.1 hx.2.1 hx.2.2
theorem at_reach {x : Nat} {s t : State} (h : EvtReach s t) (hx : Quiet x) : At x s t := at_ev h.kept (by simp) hx
theorem at_raise {x : Nat} (s : State) {e : Nat} (d0 : Nat) (d1 : Nat := 0) (he : e < 4096) (hx : Quiet x) : At x s (raise s e d0 d1) :=
  at_reach (evtReach_raise s d0 d1 he) hx
theorem at_raiseCrib {x : Nat} (s : State) {c i : Nat} (d0 : Nat) (hc : c ≤ 32) (hi : i < 16) (hx : Quiet x) :
    At x s (raiseCrib s c i d0) := at_reach (evtReach_raiseCrib s d0 hc hi) hx
theorem at_violation {x : Nat} (s : State) (a b c d e : Nat) (l : List Byte) (hx : Quiet x) : At x s (violation s a b c d e l) :=
  at_reach (evtReach_violation s a b c d e l) hx
theorem at_each {α : Type} {x : Nat} (l : List α) (f : State → α → State) (hf : ∀ u y, y ∈ l → At x u (f u y)) (s : State) :
    At x s (s.each l f) := each_rel (R := At x) (.refl x) .trans l f hf s
theorem at_ite {x : Nat} {s t u : State} {c : Prop} [Decidable c] (h : At x s t) (k : At x s u) : At x s (if c then t else u) := by
  split; exact h; exact k
theorem at_when {x : Nat} {s : State} {c : Prop} [Decidable c] {t : State} (h : At x s t) : At x s (if c then t else s) :=
  at_ite h (.refl _ _)

/-- A Chest write changes no object but its counts. -/
theorem at_chestPut {x : Nat} (s : State) (r pos : Nat) (l : List Waiter) (hr : r < 4096) (hx : Quiet x) : At x s (s.chestPut r pos l).1 := by
  have hk : (s.chestKeep r pos).od = s.od := by
    unfold State.chestKeep; split
    · rfl
    · split <;> rfl
  have hm : At x s (s.chestMade r pos) := by
    unfold State.chestMade
    dsimp only
    have e1 : ∀ w2 : State, w2.od = s.od → ∀ z, At x s (w2.add Od.CHEST_WRITES r z) := fun w2 hw2 z =>
      (at_od hw2).trans (at_p x w2 Od.CHEST_WRITES r _ (by rintro rfl; exact hx.2.1 (by simp only [Ob.el, Od.CHEST_WRITES]; omega)))
    split
    · exact (e1 _ hk _).trans (at_p x _ Od.CHEST_WEAR_MAX r _ (by rintro rfl; exact hx.2.2 (by simp only [Ob.el, Od.CHEST_WEAR_MAX]; omega)))
    · exact e1 _ hk _
  unfold State.chestPut
  split
  · exact at_od rfl
  · split
    · exact hm
    · exact at_od rfl
theorem at_chestWrite {x : Nat} (s : State) (r pos : Nat) (hr : r < 4096) (hx : Quiet x) : At x s (s.chestWrite r pos) :=
  at_chestPut s r pos [] hr hx

/-! ### What an event leaves -/

theorem EventsOnly.pending_eq {s t : State} (h : EventsOnly s t) : t.pending = s.pending := by rw [h]
theorem EventsOnly.dev_eq {s t : State} (h : EventsOnly s t) : t.dev = s.dev := by rw [h]
theorem EventsOnly.now_eq {s t : State} (h : EventsOnly s t) : t.now = s.now := by rw [h]
theorem EventsOnly.freeCtr_eq {s t : State} (h : EventsOnly s t) : t.freeCtr = s.freeCtr := by rw [h]
theorem EventsOnly.blobs_eq {s t : State} (h : EventsOnly s t) : t.blobs = s.blobs := by rw [h]
theorem EventsOnly.flash_eq {s t : State} (h : EventsOnly s t) : t.flash = s.flash := by rw [h]
theorem EventsOnly.boot_eq {s t : State} (h : EventsOnly s t) : t.boot = s.boot := by rw [h]
theorem EventsOnly.pins_eq {s t : State} (h : EventsOnly s t) : t.pins = s.pins := by rw [h]
theorem EventsOnly.lock_eq {s t : State} (h : EventsOnly s t) : t.lock = s.lock := by rw [h]
theorem EventsOnly.parts_eq {s t : State} (h : EventsOnly s t) : t.parts = s.parts := by rw [h]
theorem EventsOnly.dict_eq {s t : State} (h : EventsOnly s t) : t.dict = s.dict := by rw [h]
theorem EventsOnly.crib_eq {s t : State} (h : EventsOnly s t) : t.crib = s.crib := by rw [h]
theorem EventsOnly.keys_eq {s t : State} (h : EventsOnly s t) : t.keys = s.keys := by rw [h]
theorem EventsOnly.pwr_eq {s t : State} (h : EventsOnly s t) : t.pwr = s.pwr := by rw [h]
theorem EventsOnly.scan_eq {s t : State} (h : EventsOnly s t) : t.scan = s.scan := by rw [h]
theorem EventsOnly.drives_eq {s t : State} (h : EventsOnly s t) : t.drives = s.drives := by rw [h]
theorem EventsOnly.motion_eq {s t : State} (h : EventsOnly s t) : t.motion = s.motion := by rw [h]
theorem EventsOnly.sf_eq {s t : State} (h : EventsOnly s t) : t.sf = s.sf := by rw [h]
theorem EventsOnly.servoImg_eq {s t : State} (h : EventsOnly s t) : t.servoImg = s.servoImg := by rw [h]
theorem EventsOnly.stageImg_eq {s t : State} (h : EventsOnly s t) : t.stageImg = s.stageImg := by rw [h]
theorem EventsOnly.host_eq {s t : State} (h : EventsOnly s t) : t.host = s.host := by rw [h]
theorem EventsOnly.media_eq {s t : State} (h : EventsOnly s t) : t.media = s.media := by rw [h]
theorem EventsOnly.cache_eq {s t : State} (h : EventsOnly s t) : t.cache = s.cache := by rw [h]
theorem EventsOnly.admin_eq {s t : State} (h : EventsOnly s t) : t.admin = s.admin := by rw [h]
theorem EventsOnly.net_eq {s t : State} (h : EventsOnly s t) : t.net = s.net := by rw [h]
theorem EventsOnly.mem_eq {s t : State} (h : EventsOnly s t) : t.mem = s.mem := by rw [h]
theorem EventsOnly.thresh_eq {s t : State} (h : EventsOnly s t) : t.thresh = s.thresh := by rw [h]
theorem EventsOnly.serial_eq {s t : State} (h : EventsOnly s t) : t.serial = s.serial := by rw [h]
theorem EventsOnly.ledger_eq {s t : State} (h : EventsOnly s t) : t.ledger = s.ledger := by rw [h]
theorem EventsOnly.granary_eq {s t : State} (h : EventsOnly s t) : t.granary = s.granary := by rw [h]

end Sys2Proof.Machine
end

