-- ==== Sys2Proof/WellFormed.lean ====
section
/-! DEFINITION. Well-formed commands: every operand fits the field that carries it. A command that is not well-formed cannot be put to
the hardware; the meanings are total all the same. -/

namespace Sys2Proof

/-- A number fits a field of `n` bits. -/
def fits (n v : Nat) : Bool := decide (v < 2 ^ n)

/-- A number of blocks as the 16-bit zero-based field of a command gives it. -/
def blocksOk (n : Nat) : Bool := decide (1 ≤ n ∧ n ≤ 65536)

/-- The common fields of a submission-queue entry. -/
def IoHdr.wf (h : IoHdr) : Bool := fits 16 h.cid && fits 32 h.nsid && fits 2 h.fuse && fits 2 h.psdt && fits 4 h.prinfo

/-- A range of Dataset Management. -/
def DsmRange.wf (r : DsmRange) : Bool := fits 4 r.freq && fits 64 r.slba && fits 32 r.nlb

/-- An I/O command. -/
def IoOp.wf : IoOp → Bool
  | .flush => true
  | .write slba nlb _ => fits 64 slba && blocksOk nlb
  | .read slba nlb _ => fits 64 slba && blocksOk nlb
  | .dsm _ ranges => decide (1 ≤ ranges.length ∧ ranges.length ≤ 256) && ranges.all DsmRange.wf
  | .zoneClose slba _ => fits 64 slba
  | .zoneFinish slba _ => fits 64 slba
  | .zoneOpen slba _ => fits 64 slba
  | .zoneReset slba _ => fits 64 slba
  | .zoneReceive slba action option_ _ _ => fits 64 slba && fits 8 action && fits 8 option_
  | .append zslba nlb _ => fits 64 zslba && blocksOk nlb
  | .job cdw10 _ _ => fits 32 cdw10
  | .warm lba state => fits 64 lba && fits 8 state
  | .release lba => fits 64 lba
  | .locate lba => fits 64 lba
  | .invalid opcode => fits 8 opcode

/-- A cell copy carries 32 bits of check. -/
def CellCopy.wf (c : CellCopy) : Bool := fits 32 c.crc

/-- A line or word with its check bytes, of `n` bytes together. -/
def MemRead.wf (r : MemRead) (n : Nat) : Bool := decide (r.bytes.length = n) && fits 64 r.addr

/-- A MOP frame: the node fields are bytes, and with its control byte the data has a length that CAN FD has (R90, R93). -/
def MopFrame.wf (f : MopFrame) : Bool :=
  fits 8 f.source && fits 8 f.dest && [1, 2, 3, 4, 5, 6, 7, 8, 12, 16, 20, 24, 32, 48, 64].contains (f.body.length + 1)

/-- Every operand of a command fits the field that carries it. -/
def Instr.wf : Instr → Bool
  | .coldStart _ _ _ => true
  | .logicPowerLoss => true
  | .firmwareStart _ _ => true
  | .bootTimeout => true
  | .bootNoimgLine => true
  | .bootingEnd => true
  | .startingEnd => true
  | .partIdentityWord _ word => fits 32 word
  | .partIdentityTimeout _ => true
  | .pfwNLow => true
  | .pfwNHigh => true
  | .pfSequenceEnd => true
  | .estopNLow => true
  | .estopNHigh => true
  | .doorClosedLow => true
  | .doorClosedHigh => true
  | .interlockAck _ v => fits 32 v
  | .windowRead _ addr offset _ _ => fits 32 addr && fits 32 offset
  | .windowWrite _ addr offset length data _ _ => fits 32 addr && fits 32 offset && fits 16 length && decide (data.length ≤ 480)
  | .windowDescribe _ addr _ => fits 32 addr
  | .windowNext _ addr _ => fits 32 addr
  | .windowUnknownOp _ _ _ => true
  | .slotWriteWhileBusy _ data => decide (data.length ≤ 512)
  | .objectRead _ hdr addr offset length _ => hdr.wf && fits 32 addr && fits 32 offset && fits 16 length
  | .objectWrite _ hdr addr offset length data _ => hdr.wf && fits 32 addr && fits 32 offset && fits 16 length && decide (data.length ≤ 4096)
  | .plainObjectWrite _ addr data _ => fits 32 addr && decide (data.length ≤ 65537)
  | .pendingClear _ v => fits 32 v
  | .commit _ crc => fits 32 crc
  | .commitStoreDone _ _ => true
  | .mopReadInitiate f => f.wf
  | .mopWriteInitiate f _ => f.wf
  | .mopDescribe f => f.wf
  | .mopNext f => f.wf
  | .mopUnknownService f _ service => f.wf && fits 8 service
  | .mopWriteSegment f _ => f.wf
  | .mopReadSegmentRequest f => f.wf
  | .mopClientAbort f _ => f.wf
  | .mopSegTimeout _ source _ => fits 8 source
  | .mopClassicFrame _ source dest data => fits 8 source && fits 8 dest && decide (data.length ≤ 8)
  | .mopBusOff _ => true
  | .fwLoadErase _ => true
  | .fwEraseDone => true
  | .fwLoadData _ data => decide (data.length ≤ 4096)
  | .fwLoadCheck _ => true
  | .fwCheckDone => true
  | .fwFloorRaise _ v => fits 32 v
  | .holdRequest _ v => fits 32 v
  | .drainStartDeferred => true
  | .drainComplete => true
  | .drainTimeout => true
  | .holdRelease _ v => fits 32 v
  | .warmRestart _ v => fits 32 v
  | .cribReset _ _ => true
  | .vfFunctionLevelReset _ => true
  | .pfFunctionLevelReset => true
  | .cribResetComplete _ => true
  | .generate _ _ => true
  | .load _ _ => true
  | .destroy _ _ => true
  | .keyRecordReadBack _ _ => true
  | .superframeSend => true
  | .upstreamACell _ _ _ first second => first.wf && second.wf
  | .upstreamACellMissed _ => true
  | .bulkCell _ _ _ _ => true
  | .bulkCellResendExhausted _ _ => true
  | .wobbleLock _ => true
  | .angleEventExecute _ _ => true
  | .evtLate _ _ => true
  | .focusAcquisition _ => true
  | .layerJump _ => true
  | .layerJumpTimeout _ => true
  | .trackingPullIn _ => true
  | .trackPullInTimeout _ => true
  | .landGrooveSwitch _ => true
  | .fineSeek _ => true
  | .longSeek _ => true
  | .seekEnd _ word => fits 32 word
  | .defectHoldMaxExpiry _ => true
  | .driveReset _ => true
  | .driveFaultTimeout _ => true
  | .selfSafe _ => true
  | .giperlinkAligned _ => true
  | .giperlinkRetrainTimeout _ => true
  | .feReset _ => true
  | .feResetRelease _ => true
  | .motionTickSend => true
  | .stageUpstreamTick _ _ _ cell => cell.wf
  | .hfiAlignDone _ => true
  | .hfiSignDecision _ _ _ => true
  | .voltageLimitSet _ => true
  | .voltageLimitClear _ => true
  | .spinSettled _ => true
  | .spinBrake _ => true
  | .spinStopped _ => true
  | .spinStopTimeout _ => true
  | .spinStartTimeout _ => true
  | .brakeReverse _ => true
  | .overcurrent _ => true
  | .resolverFault => true
  | .acqFail _ => true
  | .readFifoOverrun _ => true
  | .readDataCell _ _ => true
  | .readSummary _ _ => true
  | .readGateAbort _ => true
  | .laserFault _ => true
  | .sheafDecode _ => true
  | .stookSolve _ _ _ _ => true
  | .stookRebuildFail _ _ _ _ => true
  | .stookParityWrite _ _ _ => true
  | .discRecognition _ _ => true
  | .sheafVerify _ => true
  | .darkOffsetDone _ _ _ _ => true
  | .calSweep _ => true
  | .calSweepDone _ => true
  | .trackingBalance _ => true
  | .trackingBalanceDone _ => true
  | .eqCalibration _ => true
  | .eqCalibrationDone _ => true
  | .servo _ => true
  | .eq _ => true
  | .wpwr _ => true
  | .calRequestStart _ => true
  | .moveStart _ => true
  | .motHalt _ => true
  | .stall _ => true
  | .limitStop _ => true
  | .switchLatch _ _ _ _ _ _ => true
  | .homing _ => true
  | .homingFail _ => true
  | .carouselHoming => true
  | .bridgePowerDown _ => true
  | .reEnergise _ _ => true
  | .vbusLoss _ => true
  | .linkHold _ => true
  | .linkLost _ => true
  | .stageACellMissed _ => true
  | .stageRetrainTimeout _ => true
  | .stageReset _ => true
  | .stageResetRelease _ => true
  | .pickerSequenceStart => true
  | .pickerStepDone => true
  | .pickReset => true
  | .pickPlace _ => true
  | .ccEnClear _ => true
  | .ccShn _ shn => fits 2 shn
  | .deleteIoSq _ hdr qid => hdr.wf && fits 16 qid
  | .deleteIoCq _ hdr qid => hdr.wf && fits 16 qid
  | .createIoSq _ hdr qid size cqid prio _ => hdr.wf && fits 16 qid && fits 17 size && fits 16 cqid && fits 2 prio
  | .createIoCq _ hdr qid size vec _ _ => hdr.wf && fits 16 qid && fits 17 size && fits 16 vec
  | .getLogPage _ hdr lid _ offset => hdr.wf && fits 8 lid && fits 64 offset
  | .identify _ hdr cns csi => hdr.wf && fits 8 cns && fits 8 csi
  | .abort _ hdr qid cid => hdr.wf && fits 16 qid && fits 16 cid
  | .setFeatures _ hdr fid value _ => hdr.wf && fits 8 fid && fits 32 value
  | .getFeatures _ hdr fid sel => hdr.wf && fits 8 fid && fits 3 sel
  | .asynchronousEventRequest _ hdr => hdr.wf
  | .namespaceCreate _ hdr csi flbas nsze ncap media stookOnly => hdr.wf && fits 8 csi && fits 8 flbas && fits 64 nsze && fits 64 ncap && fits 8 media && fits 8 stookOnly
  | .namespaceDelete _ hdr => hdr.wf
  | .namespaceAttachment _ hdr _ _ => hdr.wf
  | .keepAlive _ hdr => hdr.wf
  | .keepAliveExpiry _ => true
  | .formatNvm _ hdr lbaf mset pi pil ses => hdr.wf && fits 4 lbaf && fits 1 mset && fits 3 pi && fits 1 pil && fits 3 ses
  | .exitFailureMode _ hdr _ => hdr.wf
  | .blockErase _ hdr _ _ cdw10 => hdr.wf && fits 32 cdw10
  | .overwrite _ hdr _ => hdr.wf
  | .cryptoErase _ hdr _ _ cdw10 => hdr.wf && fits 32 cdw10
  | .invalidCommandOpcode _ hdr opcode => hdr.wf && fits 8 opcode
  | .flush _ hdr => hdr.wf
  | .write _ hdr slba nlb _ => hdr.wf && fits 64 slba && blocksOk nlb
  | .read _ hdr slba nlb _ => hdr.wf && fits 64 slba && blocksOk nlb
  | .datasetManagement _ hdr _ ranges => hdr.wf && ranges.all DsmRange.wf && decide (1 ≤ ranges.length ∧ ranges.length ≤ 256)
  | .zoneClose _ hdr slba _ => hdr.wf && fits 64 slba
  | .zoneFinish _ hdr slba _ => hdr.wf && fits 64 slba
  | .zoneOpen _ hdr slba _ => hdr.wf && fits 64 slba
  | .zoneReset _ hdr slba _ => hdr.wf && fits 64 slba
  | .zoneManagementReceive _ hdr slba action opt _ _ => hdr.wf && fits 64 slba && fits 8 action && fits 8 opt
  | .zoneAppend _ hdr zslba nlb _ => hdr.wf && fits 64 zslba && blocksOk nlb
  | .threshingJob _ hdr cdw10 _ _ => hdr.wf && fits 32 cdw10
  | .zoneWarm _ hdr lba want => hdr.wf && fits 64 lba && fits 8 want
  | .zoneRelease _ hdr lba => hdr.wf && fits 64 lba
  | .zoneLocate _ hdr lba => hdr.wf && fits 64 lba
  | .commandAdmission => true
  | .mediaOpStart _ _ => true
  | .driveIdleTimeout _ => true
  | .sqTailDoorbell _ qid tail => fits 16 qid && fits 16 tail
  | .cqHeadDoorbell _ qid head => fits 16 qid && fits 16 head
  | .discRestore _ => true
  | .ethFrameReceive _ vlan _ _ _ _ _ _ _ => fits 12 vlan
  | .arpRequest _ vlan _ ip _ => fits 12 vlan && fits 32 ip
  | .neighbourSolicitation _ vlan _ hi lo _ => fits 12 vlan && fits 64 hi && fits 64 lo
  | .echoRequest _ vlan _ _ hi lo _ _ => fits 12 vlan && fits 64 hi && fits 64 lo
  | .pfcRepeat _ _ => true
  | .pfcXon _ _ _ => true
  | .pfcFrameReceive _ _ => true
  | .pfcPauseExpiry _ _ => true
  | .tcpSyn _ vlan _ _ hi lo dport _ => fits 12 vlan && fits 64 hi && fits 64 lo && fits 16 dport
  | .tcpRetransmitTimeout _ _ => true
  | .tcpPeerClose _ => true
  | .icreq _ pfv _ _ _ => fits 16 pfv
  | .icreqTimeout _ => true
  | .connect _ cid qid sqSize kato cntlid _ _ hostId => fits 16 cid && fits 16 qid && fits 16 sqSize && fits 32 kato && fits 16 cntlid && fits 128 hostId
  | .propertyGet _ cid offset => fits 16 cid && fits 32 offset
  | .propertySet _ cid offset value => fits 16 cid && fits 32 offset && fits 64 value
  | .disconnect _ cid => fits 16 cid
  | .authenticationSend _ cid => fits 16 cid
  | .authenticationReceive _ cid => fits 16 cid
  | .capsuleCommand _ hdr op _ => hdr.wf && op.wf
  | .h2cdata _ ttag offset _ _ => fits 16 ttag && fits 32 offset
  | .h2ctermreq _ => true
  | .pduViolation _ _ => true
  | .associationKeepAliveExpiry _ => true
  | .netLinkDown _ => true
  | .netLinkUp _ => true
  | .netLinkHoldExpiry _ => true
  | .adminOpStep _ _ => true
  | .certificationStep _ _ _ _ => true
  | .hayloftOffer => true
  | .hayloftStageReserve => true
  | .sideboardMove => true
  | .sideboardDramWrite => true
  | .shelfAgeSweep => true
  | .hayloftAgeSweep => true
  | .invalidate => true
  | .demote => true
  | .prefetch => true
  | .invalidateAll => true
  | .rakeDone => true
  | .gleanerDramRead _ _ even odd => even.wf 80 && odd.wf 80
  | .gleanerSramRead _ _ _ word => word.wf 9
  | .memEraseDevWrite _ v => fits 32 v
  | .memCeClear => true
  | .memTestWrite => true
  | .writeRaw => true
  | .memTestRead => true
  | .readRaw => true
  | .memRetireReq v => fits 32 v
  | .memRetireDone _ => true
  | .memRetireClear v => fits 32 v
  | .memLogRepeatFlush => true
  | .sequencerAssign _ _ => true
  | .nop _ => true
  | .halt _ => true
  | .lil _ => true
  | .lih _ => true
  | .add _ => true
  | .sub _ => true
  | .and _ => true
  | .or _ => true
  | .xor _ => true
  | .shl _ => true
  | .shr _ => true
  | .sar _ => true
  | .mul _ => true
  | .minu _ => true
  | .maxu _ => true
  | .addi _ => true
  | .andi _ => true
  | .ori _ => true
  | .xori _ => true
  | .shli _ => true
  | .shri _ => true
  | .sari _ => true
  | .ld _ => true
  | .st _ => true
  | .beq _ => true
  | .bne _ => true
  | .blt _ => true
  | .bge _ => true
  | .bltu _ => true
  | .bgeu _ => true
  | .jmp _ => true
  | .loop _ => true
  | .setinc _ => true
  | .mova _ => true
  | .rda _ => true
  | .lcnt _ => true
  | .push _ => true
  | .fence _ => true
  | .illegalInstruction _ => true
  | .engineCommandEnd _ _ => true
  | .copy _ _ => true
  | .fill _ _ => true
  | .readNs _ _ => true
  | .toHost _ _ => true
  | .lincomb _ _ => true
  | .fieldMul _ _ => true
  | .shaInit _ _ => true
  | .shaUpdate _ _ => true
  | .shaFinal _ _ => true
  | .shaDigest _ _ => true
  | .crcUpdate _ _ => true
  | .crcDigest _ _ => true
  | .gcmEnc _ _ => true
  | .gcmDec _ _ => true
  | .vectorAdd _ _ => true
  | .vectorSub _ _ => true
  | .vectorAnd _ _ => true
  | .vectorOr _ _ => true
  | .vectorXor _ _ => true
  | .min _ _ => true
  | .max _ _ => true
  | .cmpeq _ _ => true
  | .cmplt _ _ => true
  | .sum _ _ => true
  | .countEq _ _ => true
  | .findEq _ _ => true
  | .jobTimeLimitExpiry _ => true
  | .mailboxPost _ _ w staged => fits 32 w && (staged.all fun b => decide (b.length = 64))
  | .mailboxRelease _ _ w => fits 32 w
  | .dbRing _ _ bits => fits 32 bits
  | .dbPendClear _ _ bits => fits 32 bits
  | .evrHead _ _ v => fits 32 v
  | .evtPendClear _ bits => fits 32 bits
  | .evtMask _ bits => fits 32 bits
  | .evtCribClear _ bits => fits 32 bits
  | .evtCribMask _ bits => fits 32 bits
  | .evtRoute _ _ v => fits 32 v
  | .evrEnable _ _ v => fits 32 v
  | .vioLogRepeatFlush => true
  | .serialCharacter _ _ => true
  | .falseStart _ => true
  | .serialBreak _ _ => true
  | .spRxTimeout _ => true
  | .spTxData _ _ data => decide (data.length ≤ 65535)
  | .spRxData _ _ _ offset => fits 32 offset
  | .serialCharacterSent _ => true
  | .traySlotStart _ => true
  | .trayResponseTimeout _ => true
  | .padFunc _ _ v _ => fits 32 v
  | .ledgerMinuteBoundary => true
  | .ledgerSecond _ => true
  | .powerReport _ uj33 uj50 _ => fits 32 uj33 && fits 32 uj50
  | .utcSet _ t => fits 64 t
  | .arm _ => true
  | .cancel _ => true
  | .ledgerAck _ seq => fits 32 seq
  | .domainIdleEntry _ => true
  | .domainExitDone _ => true
  | .giperlinkSleep _ => true
  | .sleepAck _ => true
  | .giperlinkWakeDone _ => true
  | .refClkLoss => true
  | .refClkReturn => true
  | .railExcursion _ mv _ => fits 32 mv
  | .tempSample _ _ => true
  | .longRunCheckpoint => true
  | .chestDelayedWrite _ _ => true
  | .bypass _ => true
  | .idcode _ => true
  | .samplePreload _ _ _ => true
  | .extest _ => true
  | .clamp _ => true
  | .stageLinkAligned _ => true
  | .preambleLock _ bit _ _ => fits 32 bit
  | .frameSync _ _ _ => true
  | .winnowerCriterion _ _ _ _ bit => fits 32 bit
  | .switchInputEdge _ _ _ _ _ _ => true
  | .serialBreakEnd _ => true
  | .feRailLoss _ _ => true
  | .feRailReturn _ _ => true
  | .vbusReturn _ => true
  | .domainEntryDone _ => true
  | .ccEnSet _ cc aqa => fits 32 cc && fits 32 aqa
  | .pcieConfigRequest _ _ _ => true
  | .msixTableWrite _ _ addr _ _ => fits 64 addr
  | .perstNRelease _ _ => true
  | .peerBarRequest _ => true
  | .jobKeyData _ _ _ data => decide (data.length ≤ 65535)
  | .hostTransferError _ cid _ => fits 16 cid

end Sys2Proof
end

