-- ==== Sys2Proof/Tests/Slice0.lean ====
section
/-! SUPPORT. Tests: a term that each check of WellFormed refuses, results the spec itself works out, and for each statement of
Certificates/Slice0/Obligations.lean concrete states and operands that meet the hypotheses of its clauses. -/

namespace Sys2Proof.Tests
open Sys2Proof Sys2Proof.Machine

set_option Elab.async false


/-! ### Well-formedness: a term that each check refuses -/

def q0 : IoQueue := .sq 0 1
def h0 : IoHdr := ⟨1, 1, 0, 0, 0, false, false⟩
def h1 : IoHdr := { h0 with cid := 65536 }
def f0 : MopFrame := ⟨0, 0, 1, 0x10, 0, false, false, List.replicate 11 0⟩
def f1 : MopFrame := { f0 with body := List.replicate 12 0 }
def c0 : CellCopy := ⟨[], 0⟩
def c1 : CellCopy := ⟨[], 2 ^ 32⟩
def r0 : DsmRange := ⟨false, 0, 0, 1⟩
def r1 : DsmRange := { r0 with freq := 16 }
def mr (n : Nat) : MemRead := ⟨List.replicate n 0, false, false, 0, .unallocated⟩

/-- The checks of the parts that commands are made of. -/
theorem test_wf_parts :
    h0.wf = true ∧ h1.wf = false ∧ ({ h0 with nsid := 2 ^ 32 }).wf = false ∧ ({ h0 with fuse := 4 }).wf = false ∧
    ({ h0 with psdt := 4 }).wf = false ∧ ({ h0 with prinfo := 16 }).wf = false ∧ r0.wf = true ∧ r1.wf = false ∧
    ({ r0 with slba := 2 ^ 64 }).wf = false ∧ ({ r0 with nlb := 2 ^ 32 }).wf = false ∧ c0.wf = true ∧ c1.wf = false ∧
    (mr 9).wf 9 = true ∧ (mr 8).wf 9 = false ∧ ({ mr 9 with addr := 2 ^ 64 }).wf 9 = false ∧ f0.wf = true ∧ f1.wf = false ∧
    ({ f0 with source := 256 }).wf = false ∧ ({ f0 with dest := 256 }).wf = false ∧
    (IoOp.invalid 256).wf = false ∧ (IoOp.read 0 0 false).wf = false ∧ (IoOp.write 0 65537 none).wf = false ∧
    (IoOp.dsm false []).wf = false ∧ (IoOp.job (2 ^ 32) true none).wf = false ∧ (IoOp.warm 0 256).wf = false := by decide +kernel

theorem test_wf_accepts_1 :
    (Instr.partIdentityWord 0 0).wf = true ∧
    (Instr.interlockAck 0 0).wf = true ∧
    (Instr.windowRead 0 0 0 false false).wf = true ∧
    (Instr.windowWrite 0 0 0 0 [] false 0).wf = true ∧
    (Instr.windowDescribe 0 0 false).wf = true ∧
    (Instr.windowNext 0 0 false).wf = true ∧
    (Instr.slotWriteWhileBusy 0 []).wf = true ∧
    (Instr.objectRead q0 h0 0 0 0 false).wf = true ∧
    (Instr.objectWrite q0 h0 0 0 0 [] 0).wf = true ∧
    (Instr.plainObjectWrite 0 0 [] 0).wf = true ∧
    (Instr.pendingClear 0 0).wf = true ∧
    (Instr.commit 0 0).wf = true ∧
    (Instr.mopReadInitiate f0).wf = true ∧
    (Instr.mopWriteInitiate f0 0).wf = true ∧
    (Instr.mopDescribe f0).wf = true ∧
    (Instr.mopNext f0).wf = true := by decide +kernel

theorem test_wf_refuses_1 :
    (Instr.partIdentityWord 0 (2 ^ 32)).wf = false ∧
    (Instr.interlockAck 0 (2 ^ 32)).wf = false ∧
    (Instr.windowRead 0 (2 ^ 32) 0 false false).wf = false ∧ (Instr.windowRead 0 0 (2 ^ 32) false false).wf = false ∧
    (Instr.windowWrite 0 (2 ^ 32) 0 0 [] false 0).wf = false ∧ (Instr.windowWrite 0 0 (2 ^ 32) 0 [] false 0).wf = false ∧ (Instr.windowWrite 0 0 0 (2 ^ 16) [] false 0).wf = false ∧ (Instr.windowWrite 0 0 0 0 (List.replicate 481 0) false 0).wf = false ∧
    (Instr.windowDescribe 0 (2 ^ 32) false).wf = false ∧
    (Instr.windowNext 0 (2 ^ 32) false).wf = false ∧
    (Instr.slotWriteWhileBusy 0 (List.replicate 513 0)).wf = false ∧
    (Instr.objectRead q0 h1 0 0 0 false).wf = false ∧ (Instr.objectRead q0 h0 (2 ^ 32) 0 0 false).wf = false ∧ (Instr.objectRead q0 h0 0 (2 ^ 32) 0 false).wf = false ∧ (Instr.objectRead q0 h0 0 0 (2 ^ 16) false).wf = false ∧
    (Instr.objectWrite q0 h1 0 0 0 [] 0).wf = false ∧ (Instr.objectWrite q0 h0 (2 ^ 32) 0 0 [] 0).wf = false ∧ (Instr.objectWrite q0 h0 0 (2 ^ 32) 0 [] 0).wf = false ∧ (Instr.objectWrite q0 h0 0 0 (2 ^ 16) [] 0).wf = false ∧ (Instr.objectWrite q0 h0 0 0 0 (List.replicate 4097 0) 0).wf = false ∧
    (Instr.plainObjectWrite 0 (2 ^ 32) [] 0).wf = false ∧ (Instr.plainObjectWrite 0 0 (List.replicate 65538 0) 0).wf = false ∧
    (Instr.pendingClear 0 (2 ^ 32)).wf = false ∧
    (Instr.commit 0 (2 ^ 32)).wf = false ∧
    (Instr.mopReadInitiate f1).wf = false ∧
    (Instr.mopWriteInitiate f1 0).wf = false ∧
    (Instr.mopDescribe f1).wf = false ∧
    (Instr.mopNext f1).wf = false := by decide +kernel

theorem test_wf_accepts_2 :
    (Instr.mopUnknownService f0 0 0).wf = true ∧
    (Instr.mopWriteSegment f0 0).wf = true ∧
    (Instr.mopReadSegmentRequest f0).wf = true ∧
    (Instr.mopClientAbort f0 0).wf = true ∧
    (Instr.mopSegTimeout 0 0 0).wf = true ∧
    (Instr.mopClassicFrame 0 0 0 []).wf = true ∧
    (Instr.fwLoadData 0 []).wf = true ∧
    (Instr.fwFloorRaise 0 0).wf = true ∧
    (Instr.holdRequest 0 0).wf = true ∧
    (Instr.holdRelease 0 0).wf = true ∧
    (Instr.warmRestart 0 0).wf = true ∧
    (Instr.upstreamACell 0 0 0 c0 c0).wf = true ∧
    (Instr.seekEnd 0 0).wf = true ∧
    (Instr.stageUpstreamTick 0 0 0 c0).wf = true ∧
    (Instr.ccShn 0 0).wf = true ∧
    (Instr.deleteIoSq q0 h0 0).wf = true := by decide +kernel

theorem test_wf_refuses_2 :
    (Instr.mopUnknownService f1 0 0).wf = false ∧ (Instr.mopUnknownService f0 0 (2 ^ 8)).wf = false ∧
    (Instr.mopWriteSegment f1 0).wf = false ∧
    (Instr.mopReadSegmentRequest f1).wf = false ∧
    (Instr.mopClientAbort f1 0).wf = false ∧
    (Instr.mopSegTimeout 0 (2 ^ 8) 0).wf = false ∧
    (Instr.mopClassicFrame 0 (2 ^ 8) 0 []).wf = false ∧ (Instr.mopClassicFrame 0 0 (2 ^ 8) []).wf = false ∧ (Instr.mopClassicFrame 0 0 0 (List.replicate 9 0)).wf = false ∧
    (Instr.fwLoadData 0 (List.replicate 4097 0)).wf = false ∧
    (Instr.fwFloorRaise 0 (2 ^ 32)).wf = false ∧
    (Instr.holdRequest 0 (2 ^ 32)).wf = false ∧
    (Instr.holdRelease 0 (2 ^ 32)).wf = false ∧
    (Instr.warmRestart 0 (2 ^ 32)).wf = false ∧
    (Instr.upstreamACell 0 0 0 c1 c0).wf = false ∧ (Instr.upstreamACell 0 0 0 c0 c1).wf = false ∧
    (Instr.seekEnd 0 (2 ^ 32)).wf = false ∧
    (Instr.stageUpstreamTick 0 0 0 c1).wf = false ∧
    (Instr.ccShn 0 (2 ^ 2)).wf = false ∧
    (Instr.deleteIoSq q0 h1 0).wf = false ∧ (Instr.deleteIoSq q0 h0 (2 ^ 16)).wf = false := by decide +kernel

theorem test_wf_accepts_3 :
    (Instr.deleteIoCq q0 h0 0).wf = true ∧
    (Instr.createIoSq q0 h0 0 0 0 0 false).wf = true ∧
    (Instr.createIoCq q0 h0 0 0 0 false false).wf = true ∧
    (Instr.getLogPage q0 h0 0 0 0).wf = true ∧
    (Instr.identify q0 h0 0 0).wf = true ∧
    (Instr.abort q0 h0 0 0).wf = true ∧
    (Instr.setFeatures q0 h0 0 0 false).wf = true ∧
    (Instr.getFeatures q0 h0 0 0).wf = true ∧
    (Instr.asynchronousEventRequest q0 h0).wf = true ∧
    (Instr.namespaceCreate q0 h0 0 0 0 0 0 0).wf = true ∧
    (Instr.namespaceDelete q0 h0).wf = true ∧
    (Instr.namespaceAttachment q0 h0 false []).wf = true ∧
    (Instr.keepAlive q0 h0).wf = true ∧
    (Instr.formatNvm q0 h0 0 0 0 0 0).wf = true ∧
    (Instr.exitFailureMode q0 h0 false).wf = true ∧
    (Instr.blockErase q0 h0 false false 0).wf = true := by decide +kernel

theorem test_wf_refuses_3 :
    (Instr.deleteIoCq q0 h1 0).wf = false ∧ (Instr.deleteIoCq q0 h0 (2 ^ 16)).wf = false ∧
    (Instr.createIoSq q0 h1 0 0 0 0 false).wf = false ∧ (Instr.createIoSq q0 h0 (2 ^ 16) 0 0 0 false).wf = false ∧ (Instr.createIoSq q0 h0 0 (2 ^ 17) 0 0 false).wf = false ∧ (Instr.createIoSq q0 h0 0 0 (2 ^ 16) 0 false).wf = false ∧ (Instr.createIoSq q0 h0 0 0 0 (2 ^ 2) false).wf = false ∧
    (Instr.createIoCq q0 h1 0 0 0 false false).wf = false ∧ (Instr.createIoCq q0 h0 (2 ^ 16) 0 0 false false).wf = false ∧ (Instr.createIoCq q0 h0 0 (2 ^ 17) 0 false false).wf = false ∧ (Instr.createIoCq q0 h0 0 0 (2 ^ 16) false false).wf = false ∧
    (Instr.getLogPage q0 h1 0 0 0).wf = false ∧ (Instr.getLogPage q0 h0 (2 ^ 8) 0 0).wf = false ∧ (Instr.getLogPage q0 h0 0 0 (2 ^ 64)).wf = false ∧
    (Instr.identify q0 h1 0 0).wf = false ∧ (Instr.identify q0 h0 (2 ^ 8) 0).wf = false ∧ (Instr.identify q0 h0 0 (2 ^ 8)).wf = false ∧
    (Instr.abort q0 h1 0 0).wf = false ∧ (Instr.abort q0 h0 (2 ^ 16) 0).wf = false ∧ (Instr.abort q0 h0 0 (2 ^ 16)).wf = false ∧
    (Instr.setFeatures q0 h1 0 0 false).wf = false ∧ (Instr.setFeatures q0 h0 (2 ^ 8) 0 false).wf = false ∧ (Instr.setFeatures q0 h0 0 (2 ^ 32) false).wf = false ∧
    (Instr.getFeatures q0 h1 0 0).wf = false ∧ (Instr.getFeatures q0 h0 (2 ^ 8) 0).wf = false ∧ (Instr.getFeatures q0 h0 0 (2 ^ 3)).wf = false ∧
    (Instr.asynchronousEventRequest q0 h1).wf = false ∧
    (Instr.namespaceCreate q0 h1 0 0 0 0 0 0).wf = false ∧ (Instr.namespaceCreate q0 h0 (2 ^ 8) 0 0 0 0 0).wf = false ∧ (Instr.namespaceCreate q0 h0 0 (2 ^ 8) 0 0 0 0).wf = false ∧ (Instr.namespaceCreate q0 h0 0 0 (2 ^ 64) 0 0 0).wf = false ∧ (Instr.namespaceCreate q0 h0 0 0 0 (2 ^ 64) 0 0).wf = false ∧ (Instr.namespaceCreate q0 h0 0 0 0 0 (2 ^ 8) 0).wf = false ∧ (Instr.namespaceCreate q0 h0 0 0 0 0 0 (2 ^ 8)).wf = false ∧
    (Instr.namespaceDelete q0 h1).wf = false ∧
    (Instr.namespaceAttachment q0 h1 false []).wf = false ∧
    (Instr.keepAlive q0 h1).wf = false ∧
    (Instr.formatNvm q0 h1 0 0 0 0 0).wf = false ∧ (Instr.formatNvm q0 h0 (2 ^ 4) 0 0 0 0).wf = false ∧ (Instr.formatNvm q0 h0 0 (2 ^ 1) 0 0 0).wf = false ∧ (Instr.formatNvm q0 h0 0 0 (2 ^ 3) 0 0).wf = false ∧ (Instr.formatNvm q0 h0 0 0 0 (2 ^ 1) 0).wf = false ∧ (Instr.formatNvm q0 h0 0 0 0 0 (2 ^ 3)).wf = false ∧
    (Instr.exitFailureMode q0 h1 false).wf = false ∧
    (Instr.blockErase q0 h1 false false 0).wf = false ∧ (Instr.blockErase q0 h0 false false (2 ^ 32)).wf = false := by decide +kernel

theorem test_wf_accepts_4 :
    (Instr.overwrite q0 h0 false).wf = true ∧
    (Instr.cryptoErase q0 h0 false false 0).wf = true ∧
    (Instr.invalidCommandOpcode q0 h0 0).wf = true ∧
    (Instr.flush q0 h0).wf = true ∧
    (Instr.write q0 h0 0 65536 none).wf = true ∧
    (Instr.read q0 h0 0 65536 false).wf = true ∧
    (Instr.datasetManagement q0 h0 false [r0]).wf = true ∧
    (Instr.zoneClose q0 h0 0 false).wf = true ∧
    (Instr.zoneFinish q0 h0 0 false).wf = true ∧
    (Instr.zoneOpen q0 h0 0 false).wf = true ∧
    (Instr.zoneReset q0 h0 0 false).wf = true ∧
    (Instr.zoneManagementReceive q0 h0 0 0 0 false 0).wf = true ∧
    (Instr.zoneAppend q0 h0 0 65536 none).wf = true ∧
    (Instr.threshingJob q0 h0 0 false none).wf = true ∧
    (Instr.zoneWarm q0 h0 0 0).wf = true ∧
    (Instr.zoneRelease q0 h0 0).wf = true := by decide +kernel

theorem test_wf_refuses_4 :
    (Instr.overwrite q0 h1 false).wf = false ∧
    (Instr.cryptoErase q0 h1 false false 0).wf = false ∧ (Instr.cryptoErase q0 h0 false false (2 ^ 32)).wf = false ∧
    (Instr.invalidCommandOpcode q0 h1 0).wf = false ∧ (Instr.invalidCommandOpcode q0 h0 (2 ^ 8)).wf = false ∧
    (Instr.flush q0 h1).wf = false ∧
    (Instr.write q0 h1 0 65536 none).wf = false ∧ (Instr.write q0 h0 (2 ^ 64) 65536 none).wf = false ∧ (Instr.write q0 h0 0 0 none).wf = false ∧ (Instr.write q0 h0 0 65537 none).wf = false ∧
    (Instr.read q0 h1 0 65536 false).wf = false ∧ (Instr.read q0 h0 (2 ^ 64) 65536 false).wf = false ∧ (Instr.read q0 h0 0 0 false).wf = false ∧ (Instr.read q0 h0 0 65537 false).wf = false ∧
    (Instr.datasetManagement q0 h1 false [r0]).wf = false ∧ (Instr.datasetManagement q0 h0 false [r1]).wf = false ∧ (Instr.datasetManagement q0 h0 false []).wf = false ∧
    (Instr.zoneClose q0 h1 0 false).wf = false ∧ (Instr.zoneClose q0 h0 (2 ^ 64) false).wf = false ∧
    (Instr.zoneFinish q0 h1 0 false).wf = false ∧ (Instr.zoneFinish q0 h0 (2 ^ 64) false).wf = false ∧
    (Instr.zoneOpen q0 h1 0 false).wf = false ∧ (Instr.zoneOpen q0 h0 (2 ^ 64) false).wf = false ∧
    (Instr.zoneReset q0 h1 0 false).wf = false ∧ (Instr.zoneReset q0 h0 (2 ^ 64) false).wf = false ∧
    (Instr.zoneManagementReceive q0 h1 0 0 0 false 0).wf = false ∧ (Instr.zoneManagementReceive q0 h0 (2 ^ 64) 0 0 false 0).wf = false ∧ (Instr.zoneManagementReceive q0 h0 0 (2 ^ 8) 0 false 0).wf = false ∧ (Instr.zoneManagementReceive q0 h0 0 0 (2 ^ 8) false 0).wf = false ∧
    (Instr.zoneAppend q0 h1 0 65536 none).wf = false ∧ (Instr.zoneAppend q0 h0 (2 ^ 64) 65536 none).wf = false ∧ (Instr.zoneAppend q0 h0 0 0 none).wf = false ∧ (Instr.zoneAppend q0 h0 0 65537 none).wf = false ∧
    (Instr.threshingJob q0 h1 0 false none).wf = false ∧ (Instr.threshingJob q0 h0 (2 ^ 32) false none).wf = false ∧
    (Instr.zoneWarm q0 h1 0 0).wf = false ∧ (Instr.zoneWarm q0 h0 (2 ^ 64) 0).wf = false ∧ (Instr.zoneWarm q0 h0 0 (2 ^ 8)).wf = false ∧
    (Instr.zoneRelease q0 h1 0).wf = false ∧ (Instr.zoneRelease q0 h0 (2 ^ 64)).wf = false := by decide +kernel

theorem test_wf_accepts_5 :
    (Instr.zoneLocate q0 h0 0).wf = true ∧
    (Instr.sqTailDoorbell 0 0 0).wf = true ∧
    (Instr.cqHeadDoorbell 0 0 0).wf = true ∧
    (Instr.ethFrameReceive 0 0 0 0 false false 0 none none).wf = true ∧
    (Instr.arpRequest 0 0 0 0 0).wf = true ∧
    (Instr.neighbourSolicitation 0 0 0 0 0 0).wf = true ∧
    (Instr.echoRequest 0 0 0 false 0 0 0 []).wf = true ∧
    (Instr.tcpSyn 0 0 0 false 0 0 0 0).wf = true ∧
    (Instr.icreq 0 0 false false 0).wf = true ∧
    (Instr.connect 0 0 0 0 0 0 [] [] 0).wf = true ∧
    (Instr.propertyGet 0 0 0).wf = true ∧
    (Instr.propertySet 0 0 0 0).wf = true ∧
    (Instr.disconnect 0 0).wf = true ∧
    (Instr.authenticationSend 0 0).wf = true ∧
    (Instr.authenticationReceive 0 0).wf = true ∧
    (Instr.capsuleCommand 0 h0 .flush false).wf = true := by decide +kernel

theorem test_wf_refuses_5 :
    (Instr.zoneLocate q0 h1 0).wf = false ∧ (Instr.zoneLocate q0 h0 (2 ^ 64)).wf = false ∧
    (Instr.sqTailDoorbell 0 (2 ^ 16) 0).wf = false ∧ (Instr.sqTailDoorbell 0 0 (2 ^ 16)).wf = false ∧
    (Instr.cqHeadDoorbell 0 (2 ^ 16) 0).wf = false ∧ (Instr.cqHeadDoorbell 0 0 (2 ^ 16)).wf = false ∧
    (Instr.ethFrameReceive 0 (2 ^ 12) 0 0 false false 0 none none).wf = false ∧
    (Instr.arpRequest 0 (2 ^ 12) 0 0 0).wf = false ∧ (Instr.arpRequest 0 0 0 (2 ^ 32) 0).wf = false ∧
    (Instr.neighbourSolicitation 0 (2 ^ 12) 0 0 0 0).wf = false ∧ (Instr.neighbourSolicitation 0 0 0 (2 ^ 64) 0 0).wf = false ∧ (Instr.neighbourSolicitation 0 0 0 0 (2 ^ 64) 0).wf = false ∧
    (Instr.echoRequest 0 (2 ^ 12) 0 false 0 0 0 []).wf = false ∧ (Instr.echoRequest 0 0 0 false (2 ^ 64) 0 0 []).wf = false ∧ (Instr.echoRequest 0 0 0 false 0 (2 ^ 64) 0 []).wf = false ∧
    (Instr.tcpSyn 0 (2 ^ 12) 0 false 0 0 0 0).wf = false ∧ (Instr.tcpSyn 0 0 0 false (2 ^ 64) 0 0 0).wf = false ∧ (Instr.tcpSyn 0 0 0 false 0 (2 ^ 64) 0 0).wf = false ∧ (Instr.tcpSyn 0 0 0 false 0 0 (2 ^ 16) 0).wf = false ∧
    (Instr.icreq 0 (2 ^ 16) false false 0).wf = false ∧
    (Instr.connect 0 (2 ^ 16) 0 0 0 0 [] [] 0).wf = false ∧ (Instr.connect 0 0 (2 ^ 16) 0 0 0 [] [] 0).wf = false ∧ (Instr.connect 0 0 0 (2 ^ 16) 0 0 [] [] 0).wf = false ∧ (Instr.connect 0 0 0 0 (2 ^ 32) 0 [] [] 0).wf = false ∧ (Instr.connect 0 0 0 0 0 (2 ^ 16) [] [] 0).wf = false ∧ (Instr.connect 0 0 0 0 0 0 [] [] (2 ^ 128)).wf = false ∧
    (Instr.propertyGet 0 (2 ^ 16) 0).wf = false ∧ (Instr.propertyGet 0 0 (2 ^ 32)).wf = false ∧
    (Instr.propertySet 0 (2 ^ 16) 0 0).wf = false ∧ (Instr.propertySet 0 0 (2 ^ 32) 0).wf = false ∧ (Instr.propertySet 0 0 0 (2 ^ 64)).wf = false ∧
    (Instr.disconnect 0 (2 ^ 16)).wf = false ∧
    (Instr.authenticationSend 0 (2 ^ 16)).wf = false ∧
    (Instr.authenticationReceive 0 (2 ^ 16)).wf = false ∧
    (Instr.capsuleCommand 0 h1 .flush false).wf = false ∧ (Instr.capsuleCommand 0 h0 (.invalid 256) false).wf = false := by decide +kernel

theorem test_wf_accepts_6 :
    (Instr.h2cdata 0 0 0 [] false).wf = true ∧
    (Instr.gleanerDramRead 0 none (mr 80) (mr 80)).wf = true ∧
    (Instr.gleanerSramRead 0 none false (mr 9)).wf = true ∧
    (Instr.memEraseDevWrite 0 0).wf = true ∧
    (Instr.memRetireReq 0).wf = true ∧
    (Instr.memRetireClear 0).wf = true ∧
    (Instr.mailboxPost 0 0 0 none).wf = true ∧
    (Instr.mailboxRelease 0 0 0).wf = true ∧
    (Instr.dbRing 0 0 0).wf = true ∧
    (Instr.dbPendClear 0 0 0).wf = true ∧
    (Instr.evrHead 0 0 0).wf = true ∧
    (Instr.evtPendClear 0 0).wf = true ∧
    (Instr.evtMask 0 0).wf = true ∧
    (Instr.evtCribClear 0 0).wf = true ∧
    (Instr.evtCribMask 0 0).wf = true ∧
    (Instr.evtRoute 0 0 0).wf = true := by decide +kernel

theorem test_wf_refuses_6 :
    (Instr.h2cdata 0 (2 ^ 16) 0 [] false).wf = false ∧ (Instr.h2cdata 0 0 (2 ^ 32) [] false).wf = false ∧
    (Instr.gleanerDramRead 0 none (mr 79) (mr 80)).wf = false ∧ (Instr.gleanerDramRead 0 none (mr 80) (mr 79)).wf = false ∧
    (Instr.gleanerSramRead 0 none false (mr 8)).wf = false ∧
    (Instr.memEraseDevWrite 0 (2 ^ 32)).wf = false ∧
    (Instr.memRetireReq (2 ^ 32)).wf = false ∧
    (Instr.memRetireClear (2 ^ 32)).wf = false ∧
    (Instr.mailboxPost 0 0 (2 ^ 32) none).wf = false ∧ (Instr.mailboxPost 0 0 0 (some [])).wf = false ∧
    (Instr.mailboxRelease 0 0 (2 ^ 32)).wf = false ∧
    (Instr.dbRing 0 0 (2 ^ 32)).wf = false ∧
    (Instr.dbPendClear 0 0 (2 ^ 32)).wf = false ∧
    (Instr.evrHead 0 0 (2 ^ 32)).wf = false ∧
    (Instr.evtPendClear 0 (2 ^ 32)).wf = false ∧
    (Instr.evtMask 0 (2 ^ 32)).wf = false ∧
    (Instr.evtCribClear 0 (2 ^ 32)).wf = false ∧
    (Instr.evtCribMask 0 (2 ^ 32)).wf = false ∧
    (Instr.evtRoute 0 0 (2 ^ 32)).wf = false := by decide +kernel

theorem test_wf_accepts_7 :
    (Instr.evrEnable 0 0 0).wf = true ∧
    (Instr.spTxData 0 0 []).wf = true ∧
    (Instr.spRxData 0 0 false 0).wf = true ∧
    (Instr.padFunc 0 0 0 0).wf = true ∧
    (Instr.powerReport 0 0 0 0).wf = true ∧
    (Instr.utcSet 0 0).wf = true ∧
    (Instr.ledgerAck 0 0).wf = true ∧
    (Instr.railExcursion 0 0 false).wf = true ∧
    (Instr.preambleLock 0 0 [] []).wf = true ∧
    (Instr.winnowerCriterion 0 0 0 0 0).wf = true ∧
    (Instr.ccEnSet 0 0 0).wf = true ∧
    (Instr.msixTableWrite 0 0 0 0 false).wf = true ∧
    (Instr.jobKeyData 0 0 0 []).wf = true ∧
    (Instr.hostTransferError q0 0 none).wf = true := by decide +kernel

theorem test_wf_refuses_7 :
    (Instr.evrEnable 0 0 (2 ^ 32)).wf = false ∧
    (Instr.spTxData 0 0 (List.replicate 65536 0)).wf = false ∧
    (Instr.spRxData 0 0 false (2 ^ 32)).wf = false ∧
    (Instr.padFunc 0 0 (2 ^ 32) 0).wf = false ∧
    (Instr.powerReport 0 (2 ^ 32) 0 0).wf = false ∧ (Instr.powerReport 0 0 (2 ^ 32) 0).wf = false ∧
    (Instr.utcSet 0 (2 ^ 64)).wf = false ∧
    (Instr.ledgerAck 0 (2 ^ 32)).wf = false ∧
    (Instr.railExcursion 0 (2 ^ 32) false).wf = false ∧
    (Instr.preambleLock 0 (2 ^ 32) [] []).wf = false ∧
    (Instr.winnowerCriterion 0 0 0 0 (2 ^ 32)).wf = false ∧
    (Instr.ccEnSet 0 (2 ^ 32) 0).wf = false ∧ (Instr.ccEnSet 0 0 (2 ^ 32)).wf = false ∧
    (Instr.msixTableWrite 0 0 (2 ^ 64) 0 false).wf = false ∧
    (Instr.jobKeyData 0 0 0 (List.replicate 65536 0)).wf = false ∧
    (Instr.hostTransferError q0 (2 ^ 16) none).wf = false := by decide +kernel

/-! ### Results that the spec works out -/

/-- A block that is Serving, as the tests build theirs from it. -/
def sv : State := { State.reset with dev := .serving, boot := { State.reset.boot with phase := .ready, haveImage := true, crs := false } }

/-- R317's sheaf and zone layout: block 1,000,003 of zone 37 of a KDF-4W disc (spec/08, worked example). -/
theorem test_home_slot : (mediaOf 1).zoneLayer 37 = 2 ∧ (mediaOf 1).homeSlot 37 62500 = 656420 ∧ slotTrack 656420 = 106235 ∧
    revStart 106235 = 9200269705 ∧ revWobbles 106235 = 116113 ∧ unitAngle 656420 0 = 63787 ∧
    addressWord 656420 2 0 = 0x002A0424 := by decide +kernel

/-- The home slot of block 120 of the zone bound to disc zone 20 (spec/11, worked example). -/
theorem test_home_slot_zone_20 : (mediaOf 1).zoneLayer 20 = 1 ∧ (mediaOf 1).homeSlot 20 7 = 397319 := by decide +kernel

/-- Address words of the tracking loop's biquad elements of drive 5 (spec/05, worked example). -/
theorem test_biquad_address : Od.LOOP_BQ.el 430 = 0x301041AE ∧ Od.LOOP_BQ.el 433 = 0x301041B1 := by decide +kernel

/-- The check byte of a word with bits 0 and 10 set; one bit in error is restored, two are not (spec/15, worked example). -/
theorem test_secded : secCheck 0x401 = 0x24 ∧ (judgeWord 0x401 0x24).result = 0 ∧ (judgeWord 1 0x24).result = 1 ∧
    (judgeWord 1 0x24).count = 10 ∧ (judgeWord 1 0x24).mask = 0x23 ∧ (judgeWord 1 0x24).data = leBytes 8 0x401 ∧
    (judgeWord 0 0x24).result = 2 ∧ (judgeWord 0 0x24).mask = 0x24 := by decide +kernel

/-- The request word of a frame's retirement (spec/15, worked example). -/
theorem test_retire_word : entryIsBank 0x201117B9 = false ∧ entryBank 0x201117B9 = 1 + 4 * 14 ∧ fieldOf 0x201117B9 20 7 = 70011 / 8 ∧
    dramGiB (sv.p Od.DRAM_GEOM 0 0x3012) = 64 := by decide +kernel

/-- The CRC-64 of "123456789" (R573). -/
theorem test_crc64 : crc64From 0 (asciiBytes "123456789") = 0x6C40DF5F0B497347 := by decide +kernel

/-- 0x04 times 0x47 is 1 (R333, R571). -/
theorem test_field : gfMul 4 0x47 = 1 := by decide +kernel

/-- The words of the program of spec/16's worked example: each is legal, and its fields are those the listing names. -/
theorem test_program_words :
    ([0xA44C0000, 0xA4900000, 0xA0100008, 0xC0080002, 0xC0080104, 0xC1080202, 0xC400000F, 0xC0080A00, 0x04000000] : List Nat).all legalWord = true ∧
    0xC1080202 >>> 26 = 0x30 ∧ fieldOf 0xC1080202 25 24 = 1 ∧ fA 0xC1080202 = 2 ∧ fieldOf 0xC1080202 17 8 = 2 ∧ 0xC1080202 % 16 = 2 ∧
    0xA0100008 >>> 26 = 0x28 ∧ fieldOf 0xA0100008 23 20 = 1 ∧ 0xA0100008 % 4096 = 8 ∧ 0xA44C0000 >>> 26 = 0x29 ∧
    fieldOf 0xA44C0000 23 22 = 1 ∧ fA 0xA44C0000 = 3 ∧ 0xC400000F >>> 26 = 0x31 ∧ 0x04000000 >>> 26 = 0x01 := by decide +kernel

/-- The divisor at 19,200 bit/s, the protected identifier and the checksum of spec/18's worked example. -/
theorem test_tray : spDivisor (sv.p Od.SP_RATE 2 19200) 2 = 326 ∧ trayPid 0x12 = 0x92 ∧ entrySum 0x80731412 [0x01, 0x40, 0xFF, 0x10] = 0x1C ∧
    entryLen 0x80731412 = 4 ∧ entryNode 0x80731412 = 3 := by decide +kernel

/-- Drives 4 and 5 without stage 1 fail step 2 of R27; the geometry of 64 GiB passes step 1 (spec/01, worked example). -/
theorem test_population : popStep2 ⟨[(Od.DRIVE_DECL.el 0, 0x3F), (Od.STAGE_DECL.el 0, 0x13)], []⟩ = 0 ∧
    popStep2 ⟨[(Od.DRIVE_DECL.el 0, 0x13F), (Od.STAGE_DECL.el 0, 0x13)], []⟩ = 2 ^ 22 ∧
    geomOk 0x3012 = true := by decide +kernel

/-- The three entries of spec/02's worked example give its stream of 30 bytes. -/
theorem test_pending_stream :
    let put (s : State) (k v : Nat) : State := (pendPut s k (leBytes 4 v) true).1
    pendingStream (put (put (put (put sv 0x01001000 7) 0x01002000 1) 0x01010001 0x0F124132) 0x01001000 3) =
      [0x00, 0x10, 0x00, 0x01, 4, 0, 3, 0, 0, 0, 0x00, 0x20, 0x00, 0x01, 4, 0, 1, 0, 0, 0,
       0x01, 0x00, 0x01, 0x01, 4, 0, 0x32, 0x41, 0x12, 0x0F] := by decide +kernel

/-- Four cribs that need 200 queue pairs, then two whose windows overlap (spec/04, worked example): the element at fault. -/
theorem test_crib_checks :
    let put (s : State) (o : Ob) (v : List Nat) : State := s.each v.zipIdx fun s p => s.p o p.2 p.1
    let a := put (put (put (put (put (sv.p Od.CRIB_ENABLE 0 7) Od.CRIB_QP_MIN [8, 64, 64, 64]) Od.CRIB_QP_MAX [192, 192, 192, 192])
      Od.CRIB_CTX_MIN [512, 2048, 2048, 2048]) Od.CRIB_CTX_MAX [8192, 8192, 8192, 8192]) Od.CRIB_SHELF_WAYS [3, 0xC, 0xF0, 0xF00]
    let b := put (put a Od.CRIB_GRANARY_BASE [0, 16, 48, 64]) Od.CRIB_GRANARY_SIZE [16, 32, 32, 64]
    let c := b.p Od.CRIB_QP_MIN 3 56
    (checkCribs b b).head? = some 0x10010003 ∧ (checkCribs c c).head? = some 0x10022003 ∧
    checkCribs ((c.p Od.CRIB_GRANARY_BASE 3 80).p Od.CRIB_GRANARY_SIZE 3 48) ((c.p Od.CRIB_GRANARY_BASE 3 80).p Od.CRIB_GRANARY_SIZE 3 48) = [] := by
  decide +kernel

/-- The tracking trim, and the write power after a verify read (spec/09, worked example). -/
theorem test_trim_and_power : trimOf 8000 9600 = (0x0D555555, false) ∧
    (let s := ((((((sv.p Od.WRITE_PWR_CUR 12 6000).p Od.AGC_TARGET 0 48).p Od.WCAL_GAIN 0 64).p Od.WCAL_STEP_MAX 0 2).pi Od.RC_ASYM 3 96).fill
        Od.WRITE_PWR_MIN 0 8 4800).fill Od.WRITE_PWR_MAX 0 8 7200
     let s := s.fill Od.MAG_MEDIA 0 24 1
     (powerAdjust s 3 0).g Od.WRITE_PWR_CUR 12 = 5880 ∧ (powerAdjust s 3 0).g Od.WCAL_COUNT 12 = 1) := by decide +kernel

/-- The Shelf set and the Hayloft set of spec/14's worked example. -/
theorem test_cache_sets : shelfSet 3 5243000 = 126 ∧ haySet (sv.p Od.HAYLOFT_SIZE 0 64) 2 3 (5243000 / 16) = 55980 := by decide +kernel

/-- The charge of account 5's record (spec/19, worked example). -/
theorem test_charges :
    let s := ((sv.p Od.TARIFF_RATE 45 250000000).p Od.TARIFF_RATE 46 4000000000).p Od.TARIFF_RATE 47 1000000
    let r := charges s 2 (fun k => if k = 13 then 1800001 else if k = 14 then 10000 else if k = 15 then 59400 else 0) []
    r.1 = 41115000 ∧ Keyed.getD r.2 13 0 = 250000000 := by decide +kernel

/-- The long seek of 40,000 tracks: full speed is reached, and the profile ends in tick 4,277 (spec/10, worked example). -/
theorem test_profile : (profile 16384 100000 2000000 0).map profileTime = some (21384 / 100000) ∧
    ((profile 16384 100000 2000000 0).map fun l => (profileAt l (1 / 20)).1) = some 2500 := by decide +kernel

/-- The post of spec/17's worked example: message, status and the sender's word. -/
theorem test_mailbox_post :
    let s := (sv.p Od.CRIB_ENABLE 0 8).p Od.MBX_WRITERS 20 0x11
    let s : State := { s with evt := { s.evt with slots := vmod s.evt.slots 20 fun m => { m with full := true, seq := 0xFF } } }
    let b := leBytes 4 0 ++ leBytes 4 0xC0DE0001 ++ List.replicate 56 7
    (match exec (.mailboxPost 4 20 0x18 (some b)) s with
     | .next t => ((t.evt.slots[20]).bytes.take 8, mbxStatus t 0 20, mbxSendState t 4 20)
     | _ => ([], 0, 0)) = ([0x00, 0x18, 0x04, 0x03, 0x01, 0x00, 0xDE, 0xC0], 0x00010003, 0x00010003) := by decide +kernel

/-- IDCODEs of the three parts (R737). -/
theorem test_idcode :
    ([0, 1, 16, 17, 21] : List (Fin 22)).map (fun p => match exec (.idcode p) sv with
      | .next t => t.out
      | _ => []) = [[.jtag 0 0x5C04874F], [.jtag 1 0x2F01274F], [.jtag 16 0x2F01274F], [.jtag 17 0x1504074F], [.jtag 21 0x1504074F]] := by
  decide +kernel

/-! ### Each statement's hypotheses are met -/

/-- A block without supply, and one whose controller has been taken over by its test port. -/
def off : State := { sv with dev := .off }
def held : State := { sv with dev := .held }
def taken : State := { sv with scan := { sv.scan with lost := 1 } }
/-- Cribs 1 and 32 are enabled. -/
def tenants : State := sv.p Od.CRIB_ENABLE 0 0x80000001

theorem meets_IdleStepPassesTime : (off.pending = [] ∧ off.dev = .off) ∧ (sv.pending = [] ∧ sv.dev ≠ .off) := by decide +kernel

theorem meets_EveryStepKeepsTheInvariant : Machine.Inv { sv with pending := [.estopNHigh] } ∧ ∃ t, step { sv with pending := [.estopNHigh] } = .next t :=
  ⟨by unfold Machine.Inv GranaryOk EnablesOk OutputsSafe; decide +kernel, _, rfl⟩

theorem meets_OnlyTheirCommandsMoveDeviceFlashAndGranary :
    (∃ t, exec .estopNHigh sv = .next t) ∧ movesDevice .estopNHigh = false ∧ storesGranary .estopNHigh = false ∧
    movesDevice (.copy 0 0) = false ∧ storesGranary (.copy 0 0) = true ∧ movesDevice .logicPowerLoss = true := ⟨⟨_, rfl⟩, by decide +kernel⟩

theorem meets_EveryCommandCompletes : sv.scan.lost = 0 := by decide +kernel

theorem meets_TestPortTakeoverStopsEveryCommand :
    taken.scan.lost.getLsbD 0 = true ∧ ofTestPort (.clamp 21) = true ∧ ofTestPort .estopNLow = false := by decide +kernel

theorem meets_RefusedWritesOnlyAnswer : objectWritten (.fwFloorRaise 1 7) = some (1, Od.FW_FLOOR_RAISE, 0) ∧ Live sv ∧
    sv.writeCodeOf 1 Od.FW_FLOOR_RAISE 0 ≠ 0 ∧ objectWritten (.ledgerAck 0 7) = some (0, Od.LEDGER_ACK, 0) ∧
    State.reset.writeCodeOf 0 Od.LEDGER_ACK 0 ≠ 0 := by unfold Live; decide +kernel

theorem meets_EventBitsFollowTheirWrites : Live tenants ∧
    (∀ c ∈ ([1, 32] : List Crib), tenants.writeCodeOf c Od.EVT_CRIB_CLEAR c = 0 ∧ tenants.writeCodeOf c Od.EVT_CRIB_MASK c = 0 ∧ 1 ≤ c.val) ∧
    65535 < 2 ^ 16 := by unfold Live; decide +kernel

/-- Ring 7 belongs to crib 0, has 16 positions, tail 5 and head 2. -/
def ringed : State := ((sv.p Od.EVR_SIZE 7 16).p Od.EVR_TAIL 7 5).p Od.EVR_HEAD_SEEN 7 2

theorem meets_RoutesAndRingsFollowTheirWrites : Live ringed ∧ ringed.writeCodeOf 0 Od.EVT_ROUTE 1023 = 0 ∧
    ringed.writeCodeOf 0 Od.EVR_ENABLE 7 = 0 ∧ heldOn ringed 7 = [] ∧
    (ringed.g Od.EVR_OWNER 7 = (0 : Crib).val ∧ ringed.cribEnabled 0 = true) ∧ ringed.g Od.EVR_OWNER 7 ≠ (1 : Crib).val ∧
    (5 < ringed.g Od.EVR_SIZE 7 ∧ (5 + 16 - 2) % 16 ≤ (ringed.g Od.EVR_TAIL 7 + 16 - ringed.g Od.EVR_HEAD_SEEN 7) % 16) ∧
    (ringed.g Od.EVR_TAIL 7 + 16 - ringed.g Od.EVR_HEAD_SEEN 7) % 16 < (6 + 16 - 2) % 16 ∧ ringed.g Od.EVR_SIZE 7 ≤ 16 ∧
    (let d : State := { sv with evt := { sv.evt with vioDirty := true } }
     d.evt.vioDirty = true ∧ d.chestClosed = false) ∧ sv.evt.vioDirty = false := by unfold Live; decide +kernel

/-- Channel 31 belongs to crib 0 and admits every crib; its slot holds a message with SEQ 9. -/
def boxed : State :=
  let s := tenants.p Od.MBX_WRITERS 31 (2 ^ 33 - 1)
  { s with evt := { s.evt with slots := vmod s.evt.slots 31 fun m => { m with full := true, seq := 9 } } }

theorem meets_MailboxesAndDoorbellsChangeTheirOwn : Live boxed ∧ boxed.cribEnabled 32 = true ∧ mbxAccepts boxed 32 31 56 = true ∧
    mbxAccepts boxed 32 31 57 = false ∧ mbxAccepts boxed 32 30 56 = false ∧ boxed.g Od.MBX_OWNER 31 = 0 ∧ 1 ≤ (boxed.p Od.MBX_OWNER 31 32).g Od.MBX_OWNER 31 ∧
    ((boxed.cribEnabled (0 : Crib) && boxed.g Od.MBX_OWNER (31 : Fin 32) == (0 : Crib).val && (0x109 : Nat).testBit 8 && fieldOf 0x109 7 0 == boxed.evt.slots[(31 : Fin 32)].seq) = true) ∧
    ((boxed.cribEnabled (0 : Crib) && boxed.g Od.MBX_OWNER (31 : Fin 32) == (0 : Crib).val && (0x108 : Nat).testBit 8 && fieldOf 0x108 7 0 == boxed.evt.slots[(31 : Fin 32)].seq) = false) ∧
    boxed.cribEnabled 2 = false := by unfold Live; decide +kernel

/-- ESTOP_N and DOOR_CLOSED are low, and ESTOP_N high long enough. -/
def stopped : State := { sv with lock := { sv.lock with estopHigh := false, doorClosed := false } }
def later : State := { sv with now := 10000000 }

theorem meets_InterlocksLatchAndRelease : (Live sv ∧ sv.lock.estopHigh = true ∧ sv.lock.doorClosed = true) ∧
    (Live stopped ∧ stopped.lock.estopHigh = false ∧ stopped.lock.doorClosed = false) ∧
    (Live later ∧ later.writeCodeOf 0 Od.INTERLOCK_ACK 0 = 0 ∧
      ((0x100 : Nat).testBit 8 && later.lock.estopHigh && decide (later.lock.estopSince + 10000000 ≤ later.now)) = true) ∧
    ((0x100 : Nat).testBit 8 && sv.lock.estopHigh && decide (sv.lock.estopSince + 10000000 ≤ sv.now)) = false := by
  unfold Live; decide +kernel

/-- A power-fail sequence runs, and one has ended. -/
def failing : State := let s := sv.p Od.PF_STATE 0 1
  { s with lock := { s.lock with pfwHigh := false } }
def failed : State := failing.p Od.PF_STATE 0 2
def resuming : State := { failing with pwr := { failing.pwr with resumeWanted := true } }

theorem meets_PowerFailSequenceRunsAndResumes : (Live sv ∧ sv.lock.pfwHigh = true ∧
      ((sv.setLock fun l => { l with pfwHigh := false }).pb Od.INTERLOCK_STATE 0 0 true).g Od.PF_STATE = 0) ∧
    ((failed.setLock fun l => { l with pfwHigh := true }).pb Od.INTERLOCK_STATE 0 0 true).g Od.PF_STATE ≠ 0 ∧
    (Live failed ∧ failed.lock.pfwHigh = false ∧ ((failed.setLock fun l => { l with pfwHigh := true }).pb Od.INTERLOCK_STATE 0 0 false).g Od.PF_STATE = 2) ∧
    ((failing.setLock fun l => { l with pfwHigh := true }).pb Od.INTERLOCK_STATE 0 0 false).g Od.PF_STATE ≠ 2 ∧
    (Live failing ∧ failing.g Od.PF_STATE = 1 ∧ failing.pwr.resumeWanted = false) ∧
    (Live resuming ∧ resuming.g Od.PF_STATE = 1 ∧ resuming.pwr.resumeWanted = true) ∧ sv.g Od.PF_STATE ≠ 1 := by unfold Live; decide +kernel

/-- Every part is up. -/
def up : State := { sv with parts := { feUp := 0xFFFF, stageUp := 31 } }
/-- A domain in a phase. -/
def phased (d : Fin 21) (p : DomPhase) : State := setDom up d p
/-- Drive 15 is in D4, its port may sleep, and cluster 4 may idle. -/
def sleepy : State := ((up.p Od.GL_SLEEP_MS 0 1).p Od.DRV_STATE 15 4).p Od.DOM_IDLE_US 4 1

theorem meets_DomainsEnterAndExit :
    (Live sleepy ∧ sleepy.pwr.dom[clusterDom 4] = .on ∧ sleepy.g Od.DOM_IDLE_US (4 : Fin 5) ≠ 0 ∧ clusterIdle sleepy 4 = true) ∧
    (phased 4 .entering).pwr.dom[clusterDom 4] = .entering ∧ (phased 4 .committed).pwr.dom[clusterDom 4] = .committed ∧
    (phased 4 .exiting).pwr.dom[clusterDom 4] = .exiting ∧
    (sleepy.glUp 15 = true ∧ sleepy.pwr.dom[portDom 15] = .on ∧ sleepy.g Od.GL_SLEEP_MS ≠ 0 ∧ 3 ≤ sleepy.g Od.DRV_STATE 15 ∧
      sleepy.drives[(15 : Drive)].wake = none ∧ sleepy.drives[(15 : Drive)].bulk = [] ∧ sleepy.drives[(15 : Drive)].toSend = []) ∧
    (LiveFe (phased 20 .entering) 15 ∧ (phased 20 .entering).pwr.dom[portDom 15] = .entering) ∧
    (phased 20 .exiting).pwr.dom[portDom 15] = .exiting := by unfold LiveFe Live; decide +kernel

def noRef : State := { up with pwr := { up.pwr with refLost := true } }
def railed : State := { up with pwr := { up.pwr with railOut := BitVec.twoPow 7 6 } }

theorem meets_SuppliesAndReferenceDriveTheOutputs : (Live up ∧ up.pwr.refLost = false ∧ up.pwr.railOut.getLsbD 6 = false) ∧
    (Live noRef ∧ noRef.pwr.refLost = true) ∧
    (Live railed ∧ railed.pwr.railOut = BitVec.twoPow 7 (6 : Fin 7) ∧ railed.boot.phase = .ready ∧ railed.dev = .serving) ∧ LiveFe up 15 := by
  unfold LiveFe Live; decide +kernel

/-- A Chest write waits for its rate limit, which allows it, or does not. -/
def delayed : State := { sv with chest := { sv.chest with delayed := [⟨3, 7, []⟩] } }
def delayedFull : State := { delayed with chest := { delayed.chest with recent := delayed.chest.recent.insert (chestKey 3 7) (List.replicate 40 0) } }

theorem meets_SamplesReportsAndCheckpoints : Live sv ∧ LiveFe up 15 ∧ sv.g Od.PF_STATE = 0 ∧ failing.g Od.PF_STATE ≠ 0 ∧
    (sv.chest.delayed.find? fun d => d.region == 3 && d.pos == 7) = none ∧
    ((delayed.chest.delayed.find? fun d => d.region == 3 && d.pos == 7) = some ⟨3, 7, []⟩ ∧ delayed.chestFree 3 7 = true) ∧
    ((delayedFull.chest.delayed.find? fun d => d.region == 3 && d.pos == 7) = some ⟨3, 7, []⟩ ∧ delayedFull.chestFree 3 7 = false) := by
  unfold LiveFe Live; decide +kernel

theorem meets_TestPortLoadsItsInstruction : (0 : Fin 22) = 0 ∧ sv.dev ≠ .off ∧ (21 : Fin 22) ≠ 0 := by decide +kernel

/-- Port 0 runs in BYTE mode on pads 0 and 1, port 1 runs the tray schedule on pads 2 and 3, with one entry. -/
def ported : State :=
  let s := (((sv.p Od.SP_MODE 0 1).p Od.SP_MODE 1 2).p Od.SP_QSIZE 0 1).p Od.TRAY_ENTRY 0 0x80731412
  (((s.p Od.PAD_FUNC 0 1).p Od.PAD_FUNC 1 2).p Od.PAD_FUNC 2 0x11).p Od.PAD_FUNC 3 0x12
/-- Sixteen entries wait in port 0's receive queue. -/
def fullPort : State := ported.setSerial 0 fun q => { q with rx := List.replicate 16 0x41 }
/-- A byte is in port 0's shifter, and another waits. -/
def sending : State := ported.setSerial 0 fun q => { q with shift := some 1, tx := [2] }
/-- A DIR = 1 frame of entry 0 waits for its response, its own bytes read back. -/
def awaiting : State := ported.setSerial 1 fun q => { q with frame := some ⟨0, [], [], []⟩ }
def echoing : State := ported.setSerial 1 fun q => { q with frame := some ⟨0, [], [0x55], []⟩ }

theorem meets_SerialReceiversStoreAndHandOver :
    (Live ported ∧ spHears ported 0 = true ∧ spMode ported 0 = 1 ∧ spParity ported 0 = 0 ∧ ported.serial.ports[(0 : Fin 4)].frame = none) ∧
    (List.replicate 9 (7 : Fin 8)).length = 9 ∧ (∃ b ∈ List.replicate 9 (7 : Fin 8), majority b = true) ∧
    ported.serial.ports[(0 : Fin 4)].rx.length < spSize ported 0 ∧
    (spHears fullPort 0 = true ∧ spSize fullPort 0 ≤ fullPort.serial.ports[(0 : Fin 4)].rx.length) ∧
    (fullPort.serial.ports[(0 : Fin 4)].rx ≠ [] ∧ fullPort.serial.ports[(0 : Fin 4)].quiet = false) ∧ spMode ported 3 ≠ 1 ∧
    (Live State.reset ∧ State.reset.dev = .booting) ∧ ported.dev ≠ .booting ∧ (32 : Crib).val ≠ 0 := by unfold Live; decide +kernel

theorem meets_SerialTransmittersSendInOrder :
    (Live ported ∧ ported.writeCodeOf 0 Od.SP_TX_DATA 0 = 0 ∧ spFree ported 0 = 16 ∧ spMode ported 0 = 1 ∧
      ported.serial.ports[(0 : Fin 4)].frame = none ∧ spSends ported 0 = true ∧ ported.serial.ports[(0 : Fin 4)].shift = none) ∧
    (sending.serial.ports[(0 : Fin 4)].shift.isSome = true ∧ (padOf sending 1 0).isSome = true ∧ sending.dev ≠ .held) ∧
    (trayRuns ported 0 = false ∧ trayRuns ported 1 = true ∧ tableLength ported 1 = 1 ∧ ported.serial.ports[(1 : Fin 4)].shift = none ∧
      (padOf ported 1 1).isSome = true ∧ (entryWord ported (64 * ((1 : Fin 4).val - 1) + 0)).testBit 7 = false ∧
      (entryWord (ported.p Od.TRAY_ENTRY 0 0x80731492) 0).testBit 7 = true ∧ tableLength (ported.p Od.TRAY_ENTRY 0 0) 1 = 0) ∧
    (awaiting.serial.ports[(1 : Fin 4)].frame = some ⟨0, [], [], []⟩ ∧ echoing.serial.ports[(1 : Fin 4)].frame = some ⟨0, [], [0x55], []⟩) ∧
    (ported.writeCodeOf 0 Od.PAD_FUNC 7 = 0 ∧ 4 < 5 % 8 ∧ (4 % 8 ≤ 4 ∧ 0x12 % 8 ≤ 4 ∧ 0x12 = 0x12 % 8 + 16 * fieldOf 0x12 5 4) ∧
      (∀ p : Fin 4, ported.serial.ports[p].frame = none) ∧ padOf ported (0x12 % 8) (fieldOf 0x12 5 4) = some 3) := by unfold Live; decide +kernel

/-- The ledger runs with account 0's minute open; the same at the minute's end. -/
def metered : State :=
  let s := sv.p Od.LEDGER_STATE 0 1
  s.setLedger fun l => { l with accts := l.accts.set 0 { l.accts[0] with isOpen := true } }
def minuteOver : State := metered.p Od.UTC_NOW 0 60000000000
def synced : State := (sv.p Od.TIME_SYNC 0 1).p Od.LEDGER_SLEW_MAX 0 5

theorem meets_LedgerTimeTariffAndAcknowledgement :
    (held.ledgerRuns = false ∧ minuteEnd sv = none) ∧ (Live metered ∧ metered.ledgerRuns = true ∧ minuteEnd metered = some 60000000000 ∧ metered.utc < 60000000000) ∧
    (minuteOver.ledgerRuns = true ∧ minuteEnd minuteOver = some 60000000000 ∧ 60000000000 ≤ minuteOver.utc) ∧
    ([(3300, 1, 2)] : List (Nat × Nat × Nat))[0]? = some (3300, 1, 2) ∧
    (Live synced ∧ synced.writeCodeOf 0 Od.UTC_SET 0 = 0 ∧ synced.g Od.TIME_SYNC ≠ 0 ∧
      |(6000000 : Int) - (synced.utc + (tickNs - synced.utc % tickNs) : Nat)| ≤ (synced.g Od.LEDGER_SLEW_MAX * 1000000 : Nat) ∧
      (synced.g Od.LEDGER_SLEW_MAX * 1000000 : Nat) < |(6000001 : Int) - (synced.utc + (tickNs - synced.utc % tickNs) : Nat)|) ∧
    (sv.g Od.TIME_SYNC = 0 ∧ openAccts sv = []) ∧
    (sv.writeCodeOf 0 Od.TARIFF_ARM 0 = 0 ∧ failing.writeCodeOf 0 Od.TARIFF_ARM 0 = 0 ∧ failing.g Od.PF_STATE ≠ 0 ∧ sv.g Od.PF_STATE = 0 ∧
      sv.chestWaiting Region.state Pos.tariff = false ∧ sv.chestFree Region.state Pos.tariff = true) ∧
    (sv.writeCodeOf 0 Od.LEDGER_ACK 0 = 0 ∧ (newerSeq 0 (sv.g Od.LEDGER_HEAD) || newerSeq (sv.g Od.LEDGER_ACK) 0) = false ∧
      (newerSeq 1 (sv.g Od.LEDGER_HEAD) || newerSeq (sv.g Od.LEDGER_ACK) 1) = true ∧ (∀ c : Fin 33, (sv.ledger.accts[c]).spill = none) ∧
      sv.ledger.gap = none) := by unfold Live; decide +kernel

theorem meets_MemoryTestOperations : Live sv ∧ sv.writeCodeOf 0 Od.MEM_TEST_OP 0 = 0 ∧ sv.g Od.MEM_TEST_TARGET < 4 ∧
    ¬(sv.p Od.MEM_TEST_TARGET 0 4).g Od.MEM_TEST_TARGET < 4 := by unfold Live; decide +kernel

/-- A retirement runs; a log's REPEAT has changed. -/
def retiring : State := let s := sv.p Od.MEM_RETIRE_STATE 0 1
  { s with mem := { s.mem with retiring := some 0x201117B9 } }
def dirtied : State := { sv with mem := { sv.mem with dirty := true } }

theorem meets_MemoryErasureCountersAndRetirement : Live sv ∧ sv.writeCodeOf 0 Od.MEM_ERASE_DEV 3 = 0 ∧ sv.writeCodeOf 0 Od.MEM_CE_CLEAR 0 = 0 ∧
    (dirtied.mem.dirty = true ∧ dirtied.chestClosed = false) ∧ sv.mem.dirty = false ∧
    (sv.writeCodeOf 0 Od.MEM_RETIRE_REQ 0 = 0 ∧ sv.g Od.PF_STATE = 0 ∧ sv.g Od.MEM_RETIRE_STATE ≠ 1 ∧ retiring.g Od.MEM_RETIRE_STATE = 1) ∧
    (sv.mem.retiring = none ∧ retiring.mem.retiring = some 0x201117B9 ∧ entryIsBank 0x201117B9 = false ∧
      (∀ k ∈ [4096], retiring.cache.hay.find? k = none) ∧ retiring.g Od.MEM_RETIRE_LIST 0 = 0) ∧
    (Live held ∧ held.writeCodeOf 0 Od.MEM_RETIRE_CLEAR 0 = 0) := by unfold Live; decide +kernel

/-- A request of reserved bits is refused, and one of the first frame of a bank is not: the list is empty. -/
theorem meets_MemoryErasureCountersAndRetirement_requests : retireCheck sv 0 ≠ 0 := by decide +kernel

/-- A word of zeros with its check byte, one bit of it, and two. -/
def wordRead (bits : Nat) (at_ : MemPlace) : MemRead := ⟨leBytes 8 bits ++ [0], false, false, 0, at_⟩

theorem meets_GleanerJudgesWhatItReads : Live sv ∧ sv.g Od.GLEAN_DRAM_RATE = 0 ∧ sv.g Od.GLEAN_SRAM_PASS = 0 ∧
    (sv.p Od.GLEAN_SRAM_PASS 0 1).g Od.GLEAN_SRAM_PASS ≠ 0 ∧
    (∀ p ∈ [(0, 0), (0x400, 1), (0x401, 2)], (judgeWord (ofLe ((wordRead p.1 (.granary 4194303)).bytes.take 8))
      (ofLe (slice 8 1 (wordRead p.1 (.granary 4194303)).bytes))).result = p.2) ∧
    sv.g Od.MEM_CE_CNT (40 + (2 : Fin 3).val) < 65535 := by unfold Live; decide +kernel

set_option maxRecDepth 100000 in
/-- A line of zeros is clean. -/
theorem meets_GleanerJudgesWhatItReads_line : (judgeLine (mr 80).bytes (sv.g Od.MEM_ERASE_DEV 0)).result = 0 := by decide +kernel

def keyed : State := (sv.p Od.NS_KEY_STATE 255 3).setBlob Od.NS_KEY_DATA 254 (List.replicate 32 7)

theorem meets_KeyOperationsWaitForTheirRecord : (Live sv ∧ sv.writeCodeOf 0 Od.NS_KEY_CTRL 255 = 0 ∧ sv.g Od.PF_STATE = 0 ∧ sv.g Od.NS_KEY_STATE 255 ≠ 3 ∧
      (sv.blob Od.NS_KEY_DATA 255).length ≠ 32) ∧ (failing.writeCodeOf 0 Od.NS_KEY_CTRL 0 = 0 ∧ failing.g Od.PF_STATE ≠ 0) ∧
    keyed.g Od.NS_KEY_STATE 255 = 3 ∧ (keyed.g Od.NS_KEY_STATE 254 ≠ 3 ∧ (keyed.blob Od.NS_KEY_DATA 254).length = 32) ∧
    tenants.writeCodeOf 32 Od.JOB_KEY_DATA (8 * (32 : Crib) + (7 : Fin 8)) = 0 := by unfold Live; decide +kernel


/-- Every drive and stage is declared and up; drive 15 holds disc 0 of a KDF-4W magazine and turns at its read speed. -/
def drv : State :=
  (((((up.p Od.DRIVE_DECL 0 0xFFFF).p Od.STAGE_DECL 0 31).p Od.MAG_DECL 0 1).p Od.MAG_MEDIA 0 1).p Od.DRV_DISC 15 0).pi Od.SPIN_SPEED_MEAS 15
    (rpmUnits (up.g Od.SPIN_READ_RPM))
/-- Drive 15 in its fields and its front end. -/
def drv15 (f : DriveSt → DriveSt) : State := drv.setDv 15 f
def cal15 (f : CalSt → CalSt) : State := drv15 fun d => { d with cal := f d.cal }

/-- The drive is ready to focus, once with its calibration sweep still to do. -/
def focusing : State := (drv.p Od.ANGLE_STATE 15 1).p Od.DRV_STATE 15 0
def sweeping (cmd : Int) : State :=
  (((drv15 fun d => { d with proc := .sweep 1 true false 3 false 0 true, fcmd := cmd, cal := { d.cal with sweepFe := [(9, -7)] } }).pi
    Od.FOCUS_SWEEP_END 0 100))
/-- Focused, tracking open, in pull-in or in the tracking balance. -/
def pulling (p : ServoProc) : State := (drv15 fun d => { d with focusClosed := true, proc := p }).p Od.CAL_TE_REVS 0 4
def eqDue : State := ((drv.p Od.MEDIA_STATE 15 1).p Od.ANGLE_STATE 15 3)
def eqOver (l : Option (List Nat)) : State := (cal15 fun c => { c with eqTaps := l }).p Od.CAL_STATE 15 4
def asked (req : Nat) : State := ((cal15 fun c => { c with req := req }).p Od.CAL_STATE 15 5).p Od.MEDIA_STATE 15 2

theorem meets_CalibrationsStoreWhatTheyMeasure :
    (LiveFe (drv.p Od.CAL_STATE 15 1) 15 ∧ (drv.p Od.CAL_STATE 15 1).g Od.CAL_STATE 15 = 1 ∧ drv.g Od.CAL_STATE 15 ≠ 1) ∧
    ((focusing.focusReady 15 && focusing.drives[(15 : Drive)].cal.focusDone != 15 && focusing.g Od.CAL_STATE 15 == 0) = true) ∧
    ((drv.focusReady 15 && drv.drives[(15 : Drive)].cal.focusDone != 15 && drv.g Od.CAL_STATE 15 == 0) = false) ∧
    ((sweeping 99).drives[(15 : Drive)].proc = .sweep 1 true false 3 false 0 true ∧ (sweeping 99).drives[(15 : Drive)].fcmd < (sweeping 99).gsi Od.FOCUS_SWEEP_END ∧
      (sweeping 100).gsi Od.FOCUS_SWEEP_END ≤ (sweeping 100).drives[(15 : Drive)].fcmd ∧
      (mediaOf ((sweeping 100).mediaIn 15)).layers = 4 ∧ (sweeping 100).drives[(15 : Drive)].cal.sweepFe[0]? = some (9, -7)) ∧
    (let s := pulling (.pullIn 0)
     s.drives[(15 : Drive)].focusClosed = true ∧ s.drives[(15 : Drive)].trackClosed = false ∧ s.drives[(15 : Drive)].proc = .pullIn 0 ∧
      s.balanceDone 15 = false ∧ s.drives[(15 : Drive)].hold = none ∧ (s.ax (sledOf 15)).move = none) ∧
    (let s := pulling (.balance 0)
     s.drives[(15 : Drive)].proc = .balance 0 ∧ s.g Od.REV_COUNT 15 < 0 + s.g Od.CAL_TE_REVS ∧
      0 + (s.p Od.REV_COUNT 15 4).g Od.CAL_TE_REVS ≤ (s.p Od.REV_COUNT 15 4).g Od.REV_COUNT 15) ∧
    (eqDue.g Od.MEDIA_STATE 15 = 1 ∧ eqDue.drives[(15 : Drive)].cal.eqDone = false ∧ eqDue.g Od.ANGLE_STATE 15 = 3 ∧
      eqDue.g Od.CUR_LAYER 15 = 0 ∧ eqDue.g Od.CAL_STATE 15 = 0) ∧
    ((eqOver none).g Od.CAL_STATE 15 = 4 ∧ (eqOver none).drives[(15 : Drive)].cal.eqLeft = 0 ∧ (eqOver none).drives[(15 : Drive)].cal.eqTaps = none ∧
      (eqOver (some (List.range 15))).drives[(15 : Drive)].cal.eqTaps = some (List.range 15) ∧ (List.range 15).length = 15) ∧
    (drv.writeCodeOf 0 Od.CAL_REQUEST 15 = 0 ∧ drv.g Od.MEDIA_STATE 15 ≠ 2 ∧ (asked 0).g Od.MEDIA_STATE 15 = 2 ∧
      (asked 0).drives[(15 : Drive)].cal.req = 0) ∧
    ((asked 4).drives[(15 : Drive)].cal.req = 4 ∧ (asked 4).mediaIn 15 ≤ 3 ∧ (asked 4).g Od.CAL_STATE 15 = 5 ∧ (asked 4).media.cur[(15 : Drive)] = none ∧
      (asked 4).g Od.MEDIA_STATE 15 = 2 ∧ (asked 1).drives[(15 : Drive)].cal.req % 8 = 1 ∧
      ((asked 4).p Od.MEDIA_STATE 15 1).g Od.MEDIA_STATE 15 ≠ 2) := by unfold LiveFe Live; decide +kernel

def ev2 : AngleEvent := ⟨2, 9, 0, 0, 0⟩
def fe15 (f : FrontEnd → FrontEnd) : State := drv15 fun d => { d with fe := f d.fe }
/-- A read gate is open in front end 15, before and after lock, and the controller receives its data. -/
def gated (lock : Nat) (crit : BitVec 4) : State := fe15 fun f => { f with gate := some ⟨ev2, false⟩, lockBit := lock, crit := crit }
def receiving : State := drv15 fun d => { d with rx := some ⟨9, [], none, none⟩ }
/-- A cell with its check. -/
def goodCell (room : Nat) : List Byte := let b := [0, 1, 0, 2] ++ List.replicate room 0
  b ++ leBytes 4 (crc32c (slice 1 (room + 3) b))

set_option maxRecDepth 100000 in
theorem meets_ReadChannelWinnowerAndCells : LiveFe drv 15 ∧
    (drv.drives[(15 : Drive)].fe.reading = false ∧ ((gated 0 0).drives[(15 : Drive)].fe.reading && (gated 0 0).drives[(15 : Drive)].fe.lockBit == 0) = true) ∧
    (∀ bit ∈ [640, 1280], ((gated 0 0).drives[(15 : Drive)].fe.reading && (gated 0 0).drives[(15 : Drive)].fe.lockBit == 0 &&
      decide (640 ≤ bit ∧ bit ≤ 1280 ∧ bit % 128 = 0)) = true) ∧
    ((gated 640 0).drives[(15 : Drive)].fe.reading && (gated 640 0).drives[(15 : Drive)].fe.lockBit != 0) = true ∧
    (let s := (gated 640 0)
     s.drives[(15 : Drive)].fe.crit.getLsbD (2 : Fin 4) = false ∧ (criterion s 15 2 2048 0).1 = true ∧ critEvaluated s 15 2 = true ∧
      s.drives[(15 : Drive)].fe.armed = false ∧ (criterion s 15 2 0 0).1 = false) ∧
    (let s := gated 640 4
     s.drives[(15 : Drive)].fe.crit.getLsbD (2 : Fin 4) = true ∧ (criterion s 15 2 0 0).2 = true ∧ (criterion s 15 2 2048 0).2 = false ∧
      s.drives[(15 : Drive)].fe.reading = true ∧ s.drives[(15 : Drive)].fe.crit = BitVec.twoPow 4 (2 : Fin 4)) ∧
    (drv.drives[(15 : Drive)].rx = none ∧ receiving.drives[(15 : Drive)].rx = some ⟨9, [], none, none⟩ ∧
      fieldOf (ofLe (([0x07, 0x94] : List Byte).take 2)) 15 12 = 9 ∧ fieldOf (ofLe (([0x07, 0x94] : List Byte).take 2)) 10 0 = 1031 ∧
      fieldOf (ofLe (([0x08, 0x94] : List Byte).take 2)) 10 0 = 1032) ∧
    (receiving.drives[(15 : Drive)].fe.reading = false ∧ ofLe (slice 2 1 (padTo 92 ([0, 9, 0] : List Byte))) = 0 ∧
      ofLe (slice 1 1 (padTo 92 ([0, 9, 0] : List Byte))) % 16 = 9 ∧ ofLe (slice 2 1 (padTo 92 ([0, 9, 1] : List Byte))) = 1 ∧
      receiving.drives[(15 : Drive)].cal.eqLeft = 0) ∧
    (sv.glUp 15 = false ∧ drv.glUp 15 = true ∧ bulkOk 92 (goodCell 92) = true ∧ bulkOk 92 [] = false ∧ ofLe (slice 1 1 (goodCell 92)) = 1 ∧
      bulkOk 70 (goodCell 70) = true) := by unfold LiveFe Live; decide +kernel

/-- An operation on disc 0, as the scheduler keeps it. -/
def op0 (k : MediaKind) : MediaOp :=
  { id := 1, kind := k, disc := 0, dz := 0, q := 0, cls := 1, time := 0, ctxs := [], ns := 0, tag := 0, lr := false, rereads := 0, age := 0
    streamed := false, todo := [], wrote := [], verifying := false, lba := 0, good := [] }
def sheaf0 : WSheaf := ⟨0, 4096, 4096, [], 0, 0, 0, false⟩
/-- Drive 15 works on an operation and holds a read's outcome. -/
def working (o : MediaOp) (st : Nat) (fails : Nat) : State := { (drv15 fun d => { d with rx := some ⟨9, [], none, some st⟩, acqFails := fails }) with
  media := { drv.media with cur := drv.media.cur.set 15 (some o) } }
/-- Family 1 has one data disc, 0, and one parity disc, 1; zone 2 of disc 0 has been written by namespace 3. -/
def family : State :=
  let s := ((drv.p Od.STOOK_FAM_KM 1 0x11).p Od.DISC_STOOK 0 0x80000001).p Od.DISC_STOOK 1 0x80000401
  { s with host := { s.host with zones := [(zoneKey 3 0, ⟨some (0, 2), 1048576, .full, false⟩)] } }
def reb (toRead : List (Nat × Nat)) (have_ : List (Nat × List Byte)) (k : MediaKind) : Rebuild := ⟨1, 2, 0, 1, have_, toRead, op0 k⟩
def rebuilding (r : Rebuild) : State := { family with media := { family.media with rebuilds := [r] } }
def unprotected : State := { family with media := { family.media with unprot := [(stookKey 1 2 0, ())] } }
def loading : State := (((drv.p Od.MEDIA_STATE 15 1).p Od.ANGLE_STATE 15 3).setDv 15 fun d => { d with cal := { d.cal with eqDone := true } })
def infoMeta : Meta :=
  { phys := 0, home := 0, valid := 0, kind := 1, flags := 0, time := 0, firstLba := 0, nsSlot := 0, family := 0, pos := 0, km := 0, discId := 7
    dataCrc := 0 }
def infoDisc (media : Nat) : List (Nat × SlotRead) := [(physOf 0 0, .sheaf infoMeta.bytes (discInfoBytes media 7 0))]

set_option maxRecDepth 100000 in
theorem meets_SheavesStooksAndDiscsAreJudged :
    (drv.media.cur[(15 : Drive)] = none) ∧
    (∀ f ∈ [2, 3], (working (op0 .read) 0 f).media.cur[(15 : Drive)] = some (op0 .read) ∧
      (working (op0 .read) 0 f).drives[(15 : Drive)].rx = some ⟨9, [], none, some 0⟩ ∧ (working (op0 .read) 0 f).drives[(15 : Drive)].acqFails = f ∧
      (op0 .read).todo = [] ∧ (op0 .read).verifying = false) ∧
    (working (op0 .read) 1 0).drives[(15 : Drive)].rx = some ⟨9, [], none, some 1⟩ ∧
    (working { op0 .write with wrote := [sheaf0], verifying := true } 0 2).media.cur[(15 : Drive)] =
      some { op0 .write with wrote := [sheaf0], verifying := true } ∧
    (drv.media.rebuilds.find? fun r => r.family == 1 && r.dz == 2 && r.q == 0 && r.disc == 1) = none ∧
    (let s := rebuilding (reb [] [] .read)
     (s.media.rebuilds.find? fun r => r.family == 1 && r.dz == 2 && r.q == 0 && r.disc == 1) = some (reb [] [] .read) ∧
      fieldOf (s.g Od.STOOK_FAM_KM 1) 3 0 = 1 ∧ (reb [] [] .read).have_.length < 1 ∧ (reb [] [] .read).toRead = [] ∧ (reb [] [] .read).op.kind ≠ .parity) ∧
    (let s := rebuilding (reb [] [(0, [])] .parity)
     (s.media.rebuilds.find? fun r => r.family == 1 && r.dz == 2 && r.q == 0 && r.disc == 1) = some (reb [] [(0, [])] .parity) ∧
      1 ≤ (reb [] [(0, [])] .parity).have_.length ∧ (reb [] [(0, [])] .parity).op.kind = .parity) ∧
    ((Keyed.find? drv.media.unprot (stookKey 1 2 0)).isSome = false ∧ (Keyed.find? unprotected.media.unprot (stookKey 1 2 0)).isSome = true) ∧
    ((∀ u ∈ unprotected.media.unprot, ¬(stookKey 1 2 0 ≤ u.1 ∧ u.1 < stookKey 1 2 0)) ∧ unprotected.media.rebuilds = [] ∧
      fieldOf (unprotected.g Od.STOOK_FAM_KM 1) 3 0 = 1 ∧ unprotected.stookDisc 1 0 = some 0 ∧ memberReady unprotected 0 2 0 = some true ∧
      fieldOf (unprotected.g Od.STOOK_FAM_KM 1) 6 4 = 1 ∧ unprotected.stookDisc 1 1 = some 1 ∧
      (Keyed.getD unprotected.media.parity (stookKey 1 2 0) 0).testBit 0 = false) ∧
    (drv.g Od.MEDIA_STATE 15 ≠ 1 ∧ loading.g Od.MEDIA_STATE 15 = 1 ∧ loading.drives[(15 : Drive)].cal.eqDone = true ∧ loading.g Od.CAL_STATE 15 = 0 ∧
      loading.g Od.ANGLE_STATE 15 = 3 ∧ loading.g Od.DRV_DISC 15 = 0 ∧ loading.discMedia 0 = 1) := by decide +kernel

set_option maxRecDepth 100000 in
/-- A blank disc, one that cannot be read, one of another format and one of the declared format. -/
theorem meets_SheavesStooksAndDiscsAreJudged_discs :
    (discInfoOf [] = none ∧ ((List.range 16).all fun k => slotAt [] (physOf 0 k) == .blank) = true) ∧
    (discInfoOf [(physOf 0 15, .undecodable)] = none ∧
      ((List.range 16).all fun k => slotAt [(physOf 0 15, .undecodable)] (physOf 0 k) == .blank) = false) ∧
    discInfoOf (infoDisc 1) = some (1, (mediaOf 1).layers, 7, (mediaOf 1).slots) ∧
    discInfoOf (infoDisc 2) = some (2, (mediaOf 2).layers, 7, (mediaOf 2).slots) := by decide +kernel

/-- Focused and tracking on track 0, locked, with the drive at rest or at work on slot 4,096. -/
def tracking (rest : Bool) : State :=
  let s := ((drv15 fun d => { d with focusClosed := true, trackClosed := true, proc := .idle }).p Od.ANGLE_STATE 15 3).p Od.SEEK_SHORT_MAX 0 (2 ^ 16 - 1)
  if rest then s else { s with media := { s.media with cur := s.media.cur.set 15 (some (op0 .read)) } }
def focused : State := ((cal15 fun c => { c with focusDone := 15 }).p Od.ANGLE_STATE 15 1).p Od.DRV_STATE 15 0
def pullReady : State := drv15 fun d => { d with focusClosed := true, proc := .pullIn 0, cal := { d.cal with trackDone := 1 } }
def seeking (tries : Nat) : State := (drv15 fun d => { d with trackClosed := true, proc := .seek 0 tries true }).p Od.SEEK_FINE_ATTEMPTS 0 3
def held15 (n : Nat) : State := (drv15 fun d => { d with hold := some ⟨n, 0, 0, 0⟩ }).p Od.DEFECT_HOLD_MAX 0 125

theorem meets_ServoAcquiresJumpsAndSeeks :
    (focused.focusReady 15 && focused.drives[(15 : Drive)].cal.focusDone == 15) = true ∧ (drv.focusReady 15 && drv.drives[(15 : Drive)].cal.focusDone == 15) = false ∧
    (pullReady.drives[(15 : Drive)].proc = .pullIn 0 ∧ pullReady.drives[(15 : Drive)].focusClosed = true ∧ pullReady.drives[(15 : Drive)].trackClosed = false ∧
      pullReady.balanceDone 15 = true ∧ (pullReady.ax (sledOf 15)).move = none ∧ pullReady.drives[(15 : Drive)].hold = none ∧
      crossingRate pullReady 15 ≤ pullReady.gs Od.TRACK_PULLIN_RATE ∧ pullReady.g Od.REV_COUNT 15 < 0 + 4 ∧
      0 + 4 ≤ (pullReady.p Od.REV_COUNT 15 4).g Od.REV_COUNT 15) ∧
    (((tracking true).p Od.ANGLE_STATE 15 1).drives[(15 : Drive)].focusClosed && ((tracking true).p Od.ANGLE_STATE 15 1).drives[(15 : Drive)].trackClosed &&
      ((tracking true).p Od.ANGLE_STATE 15 1).g Od.ANGLE_STATE 15 == 1) = true ∧
    ((tracking true).drives[(15 : Drive)].focusClosed && (tracking true).drives[(15 : Drive)].trackClosed && decide (2 ≤ (tracking true).g Od.ANGLE_STATE 15)) = true ∧
    (wantLayer (tracking true) 15 = (tracking true).g Od.CUR_LAYER 15 ∧ wantLayer ((tracking false).p Od.CUR_LAYER 15 3) 15 ≠ 3 ∧
      (tracking false).drives[(15 : Drive)].fe.gate = none) ∧
    (let s := drv15 fun d => { d with proc := .jump true 0 1 0 0 }
     s.drives[(15 : Drive)].proc = .jump true 0 1 0 0 ∧ 0 < (s.p Od.LAYER_JUMP_WINDOW 0 1).gs Od.LAYER_JUMP_WINDOW ∧ (s.p Od.LAYER_JUMP_WINDOW 0 0).gs Od.LAYER_JUMP_WINDOW ≤ 0) ∧
    (drv.seekReady 15 = false ∧ (tracking false).seekReady 15 = true) ∧
    ((seeking 2).drives[(15 : Drive)].proc = .seek 0 2 true ∧ (seeking 2).drives[(15 : Drive)].trackClosed = true ∧ nextPlace (seeking 2) 15 = none ∧
      2 < (seeking 2).gs Od.SEEK_FINE_ATTEMPTS ∧ (seeking 3).gs Od.SEEK_FINE_ATTEMPTS ≤ 3) ∧
    (drv.drives[(15 : Drive)].hold = none ∧ (held15 124).drives[(15 : Drive)].hold = some ⟨124, 0, 0, 0⟩ ∧ 124 < (held15 124).gs Od.DEFECT_HOLD_MAX ∧
      (held15 125).gs Od.DEFECT_HOLD_MAX ≤ 125 ∧ (held15 125).drives[(15 : Drive)].sumLow = 0) := by decide +kernel

/-- The places of spec/08's worked example: a short seek and a long one, and an address word on and off the track. -/
theorem meets_ServoAcquiresJumpsAndSeeks_places :
    (∃ g, ((seekWay (tracking false) 15).bind fun w => seekGoal w.1 w.2) = some g ∧ g.2.natAbs ≤ (tracking false).gs Od.SEEK_SHORT_MAX ∧
      ((tracking false).p Od.SEEK_SHORT_MAX 0 1).gs Od.SEEK_SHORT_MAX < g.2.natAbs) ∧
    wordTrack 0 = 0 ∧ wordTrack 0x002A0424 ≠ 0 :=
  ⟨⟨((seekWay (tracking false) 15).bind fun w => seekGoal w.1 w.2).getD (0, 0), by decide +kernel⟩, by decide +kernel⟩

def listed (k : Nat) (g : Option GateOpen) : State :=
  let s := fe15 fun f => { f with events := [⟨k, 9, 0, 0, 0⟩], gate := g }
  { s with pins := { s.pins with laserEn := 0x8000 } }
def writeReady : State := (listed 1 none).setDv 15 fun d => { d with inhibit := false, laserMode := 2 }
def slipping : State := drv15 fun d => { d with outstanding := [⟨2, 9, 0, 0, 0⟩] }
def retraining : State := drv15 fun d => { d with retraining := true }
def resetting : State := drv15 fun d => { d with resetting := true }

theorem meets_AngleEventsFaultsAndResets :
    (drv.drives[(15 : Drive)].fe.events.find? fun e => e.id == 9) = none ∧
    (∀ k ∈ [1, 2, 3], ((listed k none).drives[(15 : Drive)].fe.events.find? fun e => e.id == 9) = some ⟨k, 9, 0, 0, 0⟩ ∧ (listed k none).drives[(15 : Drive)].fe.gate = none) ∧
    ((listed 2 none).drives[(15 : Drive)].fe.selfSafe || (listed 2 none).drives[(15 : Drive)].fe.laserFault || (listed 2 none).drives[(15 : Drive)].rail5Low ||
      !(listed 2 none).pins.laserEn.getLsbD 15) = false ∧ drv.pins.laserEn.getLsbD 15 = false ∧
    (listed 3 (some ⟨ev2, false⟩)).drives[(15 : Drive)].fe.gate = some ⟨ev2, false⟩ ∧
    (writeReady.drives[(15 : Drive)].inhibit = false ∧ 1 < writeReady.drives[(15 : Drive)].laserMode ∧ writeReady.drives[(15 : Drive)].fe.fifo < 82560 ∧
      (listed 1 none).drives[(15 : Drive)].inhibit = true) ∧
    ((slipping.drives[(15 : Drive)].outstanding.any fun e => e.id == 9) = true ∧ (drv.drives[(15 : Drive)].outstanding.any fun e => e.id == 9) = false ∧
      (drv.drives[(15 : Drive)].fe.events.any fun e => e.id == 9) = false) ∧
    (drv.writeCodeOf 0 Od.DRIVE_RESET 15 = 0 ∧ drv.driveDeclared 15 = true ∧ sv.writeCodeOf 0 Od.DRIVE_RESET 15 = 0 ∧ sv.driveDeclared 15 = false ∧
      drv.writeCodeOf 0 Od.FE_RESET 15 = 0 ∧ sv.writeCodeOf 0 Od.FE_RESET 15 = 0) ∧
    (drv.g Od.DRIVE_FAULT 15 = 0 ∧ drv.g Od.PICK_STATE ≠ 2 ∧ (drv.p Od.DRIVE_FAULT 15 3).g Od.DRIVE_FAULT 15 ≠ 0 ∧ drv.media.cur[(15 : Drive)] = none) ∧
    (phased 20 .off).pwr.dom[(⟨5 + (15 : Drive).val, by omega⟩ : Fin 21)] = .off ∧ drv.pwr.dom[(⟨5 + (15 : Drive).val, by omega⟩ : Fin 21)] = .on ∧
    (drv.drives[(15 : Drive)].retraining = false ∧ retraining.drives[(15 : Drive)].retraining = true) ∧
    (drv.drives[(15 : Drive)].resetting = false ∧ resetting.drives[(15 : Drive)].resetting = true ∧ resetting.driveDeclared 15 = true ∧ resetting.pwr.railOut = 0) := by
  decide +kernel

set_option maxRecDepth 100000 in
theorem meets_PeriodicExchangesSendAndMiss :
    (Live sv ∧ (∀ n : Drive, sv.glUp n = false)) ∧ (LiveFe drv 15 ∧ sv.glUp 15 = false ∧ drv.glUp 15 = true) ∧
    (crc32c ([] : List Byte) ≠ 1 ∧ crc32c ([0x31] : List Byte) = crc32c [0x31] ∧ (2 : Nat).testBit 1 = true ∧ (0 : Nat).testBit 1 = false) ∧
    drv.drives[(15 : Drive)].missUp < 7 ∧ (LiveStage drv 4 ∧ sv.stageLink 4 = false ∧ drv.stageLink 4 = true) := by unfold LiveStage LiveFe Live; decide +kernel

/-- Spindle 15 in a state, with its motor's own fields. -/
def spin (st : Nat) (f : MotorSt → MotorSt) : State := (drv.p Od.SPIN_STATE 15 st).setMot (spindleOf 15) f
def limited15 : State := ((spin 3 fun m => { m with vHigh := 200, vLow := 200, speeds := List.replicate 400 1000, vlimTick := 0 }).setVlim 15 true).p Od.MOT_TICK 0 2000
def working15 (s : State) : State := { s with media := { s.media with cur := s.media.cur.set 15 (some (op0 .read)) } }
def carousel (f : MotorSt → MotorSt) : State := (drv.p Od.CAR_STATE 0 1).setMot 16 f

theorem meets_SpindleStartsStopsAndFaults :
    ((spin 1 fun m => { m with ticks := 9999999 }).g Od.SPIN_STATE 15 = 1 ∧
      drv.g Od.HFI_SETTLE ≤ ((spin 1 fun m => { m with ticks := 9999999 }).mot (spindleOf 15)).ticks ∧ drv.g Od.SPIN_STATE 15 ≠ 1) ∧
    ((spin 2 id).g Od.SPIN_STATE 15 = 2 ∧ (0 < max 200 100 ∧ min 200 100 * (100 + drv.g Od.HFI_SIGN_MARGIN) ≤ max 200 100 * 100) ∧ min 200 100 ≠ 0 ∧
      max 200 100 * 1000 / min 200 100 ≤ 65535 ∧ ¬(0 < max 0 0 ∧ min 0 0 * (100 + drv.g Od.HFI_SIGN_MARGIN) ≤ max 0 0 * 100) ∧
      ((spin 2 fun m => { m with attempts := 1 }).mot (spindleOf 15)).attempts < 2 ∧ 2 ≤ ((spin 2 fun m => { m with attempts := 2 }).mot (spindleOf 15)).attempts) ∧
    (∀ m ∈ ([15, 16] : List Motor), drv.vlim m = false ∧ ((drv.p Od.VLIM_TICKS 0 200).setMot m fun x => { x with vHigh := 199 }).vlim m = false ∧
      199 < (drv.p Od.VLIM_TICKS 0 200).g Od.VLIM_TICKS ∧ (drv.p Od.VLIM_TICKS 0 200).g Od.VLIM_TICKS ≤ 200 ∧ (drv.setVlim m true).vlim m = true) := by decide +kernel

theorem meets_SpindleStartsStopsAndFaults_running :
    (let s := limited15
     s.vlim (spindleOf 15) = true ∧ 3 ≤ s.g Od.SPIN_STATE 15 ∧ s.g Od.SPIN_STATE 15 ≤ 5 ∧ (s.mot (spindleOf 15)).vlimTick + 2000 ≤ s.g Od.MOT_TICK ∧
      400 ≤ (s.mot (spindleOf 15)).speeds.length ∧
      ((s.pi Od.SPIN_SPEED_MEAS 15 1001).gi Od.SPIN_SPEED_MEAS 15 - (s.mot (spindleOf 15)).speeds.getLastD 0).natAbs * 1000 <
        ((s.pi Od.SPIN_SPEED_MEAS 15 1001).gi Od.SPIN_SPEED_MEAS 15).natAbs * 2) ∧
    ((spin 5 id).media.cur[(15 : Drive)] = none ∧ 2 ≤ (spin 5 id).g Od.DRV_STATE 15 ∧ (spin 5 id).g Od.SPIN_STATE 15 = 5 ∧ (working15 drv).media.cur[(15 : Drive)] ≠ none) ∧
    (∀ st ∈ [7, 9], (spin st fun m => { m with lowTicks := 4000 }).g Od.SPIN_STATE 15 = st ∧ 4000 ≤ ((spin st fun m => { m with lowTicks := 4000 }).mot (spindleOf 15)).lowTicks ∧
      ((spin st fun m => { m with lowTicks := 4000 }).mot (spindleOf 15)).tripped = false ∧ (spin st fun m => { m with lowTicks := 4000 }).hasWork 15 = false) ∧
    ((spin 3 id).spinMeas 15 < rpmUnits 240 ∧ (spin 6 id).g Od.SPIN_STATE 15 = 6 ∧ (spin 6 id).hasWork 15 = false) ∧
    (let s := working15 (spin 6 id)
     s.g Od.SPIN_STATE 15 = 6 ∧ s.hasWork 15 = true ∧ s.driven = true ∧ s.g Od.DRIVE_FAULT 15 = 0) ∧
    ((spin 7 id).drives[(15 : Drive)].fe.gate = none ∧ (spin 7 id).scan.lost.getLsbD (motorPart (spindleOf 15)) = false ∧ 1 ≤ (spin 7 id).g Od.SPIN_STATE 15 ∧
      (spin 7 id).g Od.SPIN_STATE 15 ≤ 7 ∧ 8 ≤ (spin 8 id).g Od.SPIN_STATE 15) ∧
    (let s := carousel fun m => { m with resBad := 3 }
     s.scan.lost.getLsbD 21 = false ∧ s.g Od.CAR_STATE = 1 ∧ 3 ≤ (s.mot 16).resBad ∧ (s.mot 16).openRate = none ∧ s.g Od.CAR_STATE ≠ 0 ∧ (drv.mot 16).resBad < 3) := by
  decide +kernel

/-- Sled 15 must be homed, is homing, moves, or has a move to make; the carousel is not homed. -/
def axed (a : Axis) (f : AxisSt → AxisSt) : State := drv.setAx a f
def unhomed (a : Axis) : State := (drv.pb Od.MOT_FLAGS a 1 true)
def homing15 : State := (axed 15 fun x => { x with homeFrom := some 0 }).p Od.MOT_STATE 15 4
def move0 : Move := ⟨0, 100, 0, 1, 1, 1, .plain⟩
def moving : State := (axed 15 fun x => { x with move := some move0, stallRun := 4 })
def bridged : State := { drv with pins := { drv.pins with bridgeEn := 31 } }

theorem meets_AxesHomeStopAndLatch :
    (∀ a ∈ ([15, 18] : List Axis), (unhomed a).gb Od.MOT_FLAGS a 1 = true ∧ ((unhomed a).ax a).homeFrom = none ∧ (unhomed a).axisHeld a = false) ∧
    ((stopped.p Od.PF_STATE 0 1).axisHeld 19 = true ∧ ((drv.pb Od.MOT_FLAGS 15 0 true).gb Od.MOT_FLAGS 15 1 = false ∧ (drv.pb Od.MOT_FLAGS 15 0 true).gb Od.MOT_FLAGS 15 0 = true)) ∧
    ((drv.ax 15).homeFrom = none ∧ (homing15.ax 15).homeFrom.isSome = true ∧ (homing15.ax 15).move = none ∧ (homing15.ax 15).stop = .run ∧
      homing15.g Od.MOT_STATE 15 = 4 ∧ (∀ n, axisDrive 15 = some n → homing15.drives[n].fe.gate = none)) ∧
    ((drv.ax 15).resume = none ∧ ((axed 15 fun x => { x with resume := some 9 }).ax 15).resume = some 9 ∧ ((axed 15 fun x => { x with resume := some 9 }).ax 15).stop = .run) ∧
    (drv.gb Od.MOT_FLAGS 16 0 = false ∧ (drv.ax 16).homeFrom = none ∧ drv.axisHeld 16 = false ∧ drv.motion.picker.homing = 0 ∧
      (drv.pb Od.MOT_FLAGS 16 0 true).gb Od.MOT_FLAGS 16 0 = true) ∧
    (drv.writeCodeOf 0 Od.MOT_HALT 19 = 0 ∧ (drv.ax 19).move = none ∧ moving.writeCodeOf 0 Od.MOT_HALT 15 = 0 ∧ (moving.ax 15).move = some move0) ∧
    (axisDrive 15 = some 15 ∧ moving.drives[(15 : Drive)].fe.gate = none ∧ moving.gm (axisStage 15) Od.MOT_STALL_N 15 ≤ (moving.ax 15).stallRun ∧
      ((axed 15 id).p Od.MOT_STALL_N 15 4).gm (axisStage 15) Od.MOT_STALL_N 15 = 4 ∧ ((axed 15 fun x => { x with stallRun := 3 }).ax 15).stallRun < 4 ∧
      (move0.use = .plain ∨ move0.use = .sequence ∨ move0.use = .seek)) ∧
    (homeAxisOf 4 7 = none ∧ ¬((4 : Stage) = 4 ∧ (7 : Fin 8) = 6) ∧ drv.motion.stages[(4 : Stage)].level.getLsbD (7 : Fin 8) = false ∧
      drv.motion.stages[(4 : Stage)].level.getLsbD (7 : Fin 8) ≠ true) ∧
    ((bridged.ax 19).energised = false ∧ bridged.stageDeclared (axisStage 19) = true ∧ bridged.pins.bridgeEn.getLsbD (axisStage 19) = true ∧
      bridged.powerDownWanted (axisStage 19) = false ∧ bridged.motion.stages[axisStage 19].vbusCut = false ∧ bridged.motion.stages[axisStage 19].resetting = false ∧
      bridged.motion.stages[axisStage 19].retraining = false ∧ drv.pins.bridgeEn.getLsbD (axisStage 19) = false ∧ ((5 : Nat) : Int) ≠ bridged.gi Od.MOT_POS 19 % 1024) := by
  decide +kernel

theorem meets_AxesHomeStopAndLatch_live : LiveStage moving (axisStage 15) ∧ LiveStage drv 4 ∧ Live bridged := by unfold LiveStage Live; decide +kernel

def stage4 (f : StageSt → StageSt) : State := drv.setStage 4 f
def req0 : PickReq := ⟨true, 0, 14, 0, .media⟩
/-- Drive 14 is empty and a load waits; the picker's fault; the step's moves have ended. -/
def picking : State := let s := (drv.p Od.DRV_DISC 14 0xFFFF)
  s.setPicker fun p => { p with queue := [req0] }
def stepping : State := (drv.setPicker fun p => { p with seq := some (req0, 1) }).p Od.PICK_STATE 0 1
def orphaned (c : Nat) : State := (drv.p Od.PICK_STATE 0 2).p Od.PICK_FAULT_CAUSE 0 c

theorem meets_StagesAndPickerFollowTheirRules :
    ((drv.powerDownWanted 4 && drv.stageAtRest 4) = false ∧ ((drv.p Od.PF_STATE 0 1).powerDownWanted 4 && (drv.p Od.PF_STATE 0 1).stageAtRest 4) = true ∧
      drv.motion.stages[(4 : Stage)].resetWanted = false) ∧
    (((stage4 fun g => { g with retraining := true }).motion.stages[(4 : Stage)].retraining) = true ∧
      (drv.motion.stages[(4 : Stage)].retraining || drv.motion.stages[(4 : Stage)].resetting || !drv.parts.stageUp.getLsbD (4 : Stage)) = false ∧
      ((stage4 fun g => { g with missUp := 2 }).motion.stages[(4 : Stage)]).missUp < 3) ∧
    (((stage4 fun g => { g with resetting := true }).motion.stages[(4 : Stage)]).resetting = true ∧ drv.stageDeclared 4 = true ∧ drv.pwr.railOut = 0) ∧
    (drv.writeCodeOf 0 Od.STAGE_RESET 4 = 0 ∧ sv.stageDeclared 4 = false ∧ drv.stageAtRest 4 = true ∧ sv.writeCodeOf 0 Od.STAGE_RESET 4 = 0) ∧
    (drv.g Od.PICK_STATE = 0 ∧ drv.motion.picker.seq = none ∧ drv.axisHeld Pick.car = false ∧ drv.g Od.PF_STATE = 0 ∧ (serveLoads drv).pickNext = none ∧
      (serveLoads picking).pickNext = some req0) ∧
    (stepping.motion.picker.seq = some (req0, 1) ∧ stepping.g Od.PICK_STATE = 1 ∧ stepping.pickStill req0 = true ∧
      (stepping.setAx 16 fun x => { x with homeFrom := some 0 }).pickStill req0 = false) ∧
    ((orphaned 1).writeCodeOf 0 Od.PICK_RESET 0 = 0 ∧ (orphaned 1).g Od.PICK_STATE = 2 ∧ (orphaned 1).g Od.PICK_FAULT_CAUSE ≠ Cause.orphan ∧
      (orphaned Cause.orphan).g Od.PICK_FAULT_CAUSE = Cause.orphan) ∧
    ((orphaned 1).writeCodeOf 0 Od.PICK_PLACE 0 = 0 ∧ drv.discDeclared 63 = true ∧ drv.discDeclared 64 = false ∧ drv.driveOf 63 = none ∧ (drv.driveOf 0).isSome = true) := by
  decide +kernel

theorem meets_StagesAndPickerFollowTheirRules_live : LiveStage drv 4 ∧ Live picking ∧ Live stepping ∧ Live (orphaned 5) := by unfold LiveStage Live; decide +kernel

/-- The Hayloft has one set of 64 MiB; an offer waits; a line of its sheaf is there, with or without the block. -/
def offered (streamed : Bool) (line : Option (Keyed (List Byte))) : State :=
  let s := sv.p Od.HAYLOFT_SIZE 0 64
  { s with cache := { s.cache with
    offers := [⟨0, 0, 5, streamed, []⟩]
    hay := match line with
      | some b => [(16 * haySet s 0 0 0, ⟨0, 0, 0, 1, false, b⟩)]
      | none => [] } }
def rake0 (op : Nat) : RakeOp := ⟨0, op, 1, 0, 16, 0⟩
def raking (op : Nat) : State := { sv with
  cache := { sv.cache with rakes := [rake0 op] }, host := { sv.host with ns := [(0, ⟨1, 1, false, none, [], none⟩)] } }
def rakeRuns (r : RakeOp) : State := { sv with cache := { sv.cache with rakeRun := some r } }
/-- A Write of one block whose data has come. -/
def ctx0 (stage left : Nat) : Ctx :=
  { id := 1, queue := .sq 0 1, crib := 0, cid := 1, cls := 1, op := .write 0 1 none, ns := 0, zone := 0, lba := 0, nlb := 1, blocks := [(0, [])], left := left
    started := false, stage := stage, result := none, landing := 0, streaming := false }
def writing (stage left : Nat) : State := { sv with host := { sv.host with ctxs := [ctx0 stage left] } }

theorem meets_OffersAgeingAndWriteStaging :
    (sv.cache.offers = [] ∧ (offered true none).cache.offers = [⟨0, 0, 5, true, []⟩] ∧ (offered false none).cache.offers = [⟨0, 0, 5, false, []⟩]) ∧
    (((offered true none).p Od.HAYLOFT_SIZE 0 0).haySets = 0 ∧ (offered true none).haySets ≠ 0) ∧
    (∀ b ∈ ([[], [(5, [])]] : List (Keyed (List Byte))), ((hayFind (offered false (some b)) 0 0 0).bind fun k => (offered false (some b)).cache.hay.find? k) =
      some ⟨0, 0, 0, 1, false, b⟩) ∧
    (Keyed.find? ([(5, [])] : Keyed (List Byte)) 5).isSome = true ∧ Keyed.find? ([] : Keyed (List Byte)) 5 = none ∧
    ((hayFind (offered false none) 0 0 0).bind fun k => (offered false none).cache.hay.find? k) = none ∧ (offered false none).raked 0 0 5 = false ∧
    ({ offered false none with cache := { (offered false none).cache with rakes := [rake0 1] } } : State).raked 0 0 5 = true ∧
    (sv.staged = [] ∧ (writing 0 1).staged = [ctx0 0 1] ∧ (ctx0 0 1).blocks.length = (ctx0 0 1).nlb ∧
      16384 * (writing 0 1).g Od.HAYLOFT_STAGE_SIZE < (writing 0 1).g Od.HAY_STAGE_USED + (ctx0 0 1).sheaves ∧
      ((writing 0 1).p Od.HAYLOFT_STAGE_SIZE 0 1).g Od.HAY_STAGE_USED + (ctx0 0 1).sheaves ≤ 16384 * ((writing 0 1).p Od.HAYLOFT_STAGE_SIZE 0 1).g Od.HAYLOFT_STAGE_SIZE) ∧
    ((sv.host.ctxs.find? fun x => x.isWrite && x.stage == 1 && x.left != 0) = none ∧
      (∀ l ∈ [1, 2], ((writing 1 l).host.ctxs.find? fun x => x.isWrite && x.stage == 1 && x.left != 0) = some (ctx0 1 l) ∧ (writing 1 l).cache.side.length < 64)) ∧
    (sv.cache.side = [] ∧ ({ sv.cache with side := [⟨1, 0, []⟩] } : CacheSt).side = [⟨1, 0, []⟩]) := by decide +kernel

theorem meets_RakeOperations :
    (sv.cache.rakeRun = none ∧ sv.cache.rakes = []) ∧
    (∀ k ∈ [1, 2, 3, 4], (raking k).cache.rakeRun = none ∧ (raking k).cache.rakes = [rake0 k] ∧ (rake0 k).op = k ∧ rakeCheck (raking k) (rake0 k) = 0) ∧
    rakeCheck sv (rake0 1) ≠ 0 ∧
    (let r : RakeOp := { rake0 3 with crib := 32 }
     (rakeRuns r).cache.rakeRun = some r ∧ r.crib ≤ 32 ∧ rakeReading (rakeRuns r) 32 = false) ∧
    (let s : State := { rakeRuns (rake0 3) with media := { sv.media with ops := [{ op0 .prefetch with ctxs := [rakeMark 0] }] } }
     (rake0 3).status = 0 ∧ rakeReading s 0 = true) := by decide +kernel

/-- An I/O entry, a namespace of two zones, and a crib whose queue holds one entry; zone 0 as given. -/
def hdr0 : IoHdr := ⟨1, 1, 0, 0, 0, false, false⟩
def ns0 : Ns := ⟨2, 1, false, some 0, [], none⟩
def q1 : IoQueue := .sq 0 1
def hosted (z : ZoneEnt) : State :=
  let s := { sv with host := { sv.host with ns := [(0, ns0)], zones := [(0, z)] } }
  let s := ((((s.p Od.CRIB_STATE 0 1).p Od.CRIB_CTX_MAX 0 8).p Od.NS_KEY_STATE 0 1).p Od.HAYLOFT_LAND 0 1).p Od.SHELF_STAGE_WAYS 0 1
  s.setCtl 0 fun g => { g with en := true, rdy := true, sqs := [(1, ⟨4, 3, 0, 1, 0⟩)], cqs := [(1, ⟨4, 0, 0, 0, true, []⟩)] }
def fresh : State := hosted ZoneEnt.fresh
def took (s : State) : State := (s.takeEntry q1).getD s


/-- The fourteen I/O commands are offered on queue 1, fetched and taken; each that names the namespace passes its checks. -/
def ops0 : List IoOp :=
  [.flush, .write 0 1 none, .read 0 256 false, .dsm false [⟨false, 2, 0, 1⟩], .zoneClose 0 false, .zoneFinish 0 false, .zoneOpen 0 false,
    .zoneReset 0 false, .zoneReceive 0 0 0 false 64, .append 0 1 none, .warm 0 1, .release 0, .locate 0]

theorem ops0_taken : Live fresh ∧ (∀ op ∈ .job 0 true none :: ops0, Taken fresh q1 op (took fresh)) := by
  unfold Live Taken; decide +kernel

theorem ops0_pass : ∀ op ∈ ops0, Passes (took fresh) q1 hdr0 op 0 ns0 := by unfold Passes; decide +kernel

theorem meets_IoEntriesAreTakenInTurnAndChecked :
    (∀ c ∈ ([.flush q1 hdr0, .threshingJob q1 hdr0 0 true none] : List Instr), (ioCommand c).isSome = true) ∧
    sv.offered q1 = false ∧ (fresh.p Od.PF_STATE 0 1).offered q1 = true ∧ (fresh.p Od.PF_STATE 0 1).fetching q1 = false ∧
    ioRoom (fresh.p Od.CRIB_CTX_MAX 0 0) q1 .flush = false ∧ (fresh.p Od.CRIB_CTX_MAX 0 0).offered q1 = true ∧
    (∀ st ∈ [2, 3], ({ fresh with admin := { fresh.admin with sanitize := { fresh.admin.sanitize with state := st } } } : State).fetching q1 = true) ∧
    (took fresh).admin.sanitize.state ≠ 2 ∧ (took fresh).admin.sanitize.state ≠ 3 ∧
    (opMoves (.read 0 1 false) = true ∧ opMoves .flush = false ∧ opJob .flush = false ∧ opJob (.job 0 true none) = true) ∧
    (took fresh).nsOf 0 1 = some (0, ns0) ∧ (took fresh).nsOf 0 2 = none ∧ (took fresh).queueCrib q1 = 0 ∧
    (took fresh).g Od.CRIB_SEQ_MAX 0 = 0 ∧ ((took fresh).p Od.CRIB_SEQ_MAX 0 1).g Od.CRIB_SEQ_MAX 0 ≠ 0 := by decide +kernel

/-- Zone 0 is bound and written to block 5, its last active LBA; full; and offline. -/
def half : State := hosted ⟨some (0, 0), 5, .implicitOpen, false⟩
def full : State := hosted ⟨some (0, 0), zoneBlocks, .full, false⟩
def gone : State := hosted ⟨some (0, 0), 5, .closed, true⟩

theorem meets_ReadsWritesAndAppends_taken :
    (∀ s ∈ [half, full, gone, fresh.p Od.NS_KEY_STATE 0 0], Live s ∧ Taken s q1 (.read 4 2 false) (took s)) ∧
    (∀ o ∈ [IoOp.write 0 0 none, .write 2097151 2 none, .append 1048576 256 none], Taken fresh q1 o (took fresh)) := by
  unfold Live Taken; decide +kernel

theorem meets_ReadsWritesAndAppends :
    (∀ s ∈ [half, full, gone], Passes (took s) q1 hdr0 (.read 4 2 false) 0 ns0) ∧
    (2097150 + 2 ≤ ns0.blocks ∧ ns0.blocks < 2097151 + 2) ∧ 1048575 / zoneBlocks ≠ (1048575 + 2 - 1) / zoneBlocks ∧
    ((took fresh).g Od.NS_KEY_STATE 0 = 1 ∧ (took (fresh.p Od.NS_KEY_STATE 0 0)).g Od.NS_KEY_STATE 0 ≠ 1) ∧
    ((took gone).zoneOffline 0 0 = true ∧ (took half).zoneOffline 0 0 = false ∧ ((took half).zone 0 0).wp ≤ 5) ∧
    (writeCheck (begun (took half)) 0 0 1 (some 5) = none ∧ writeCheck (begun (took half)) 0 0 1 none = none ∧
      (writeCheck (begun (took full)) 0 0 1 (some 5)).isSome = true ∧ writeCheck (begun (took gone)) 0 0 1 none = some .zoneIsOffline) ∧
    (((begun (took half)).zone 0 0).state ≠ .offline ∧ ((begun (took half)).zone 0 0).state ≠ .full ∧ zoneBlocks < (begun (took half)).admission 0 0 + 1048572 ∧
      (begun (took half)).admission 0 0 + 256 ≤ zoneBlocks ∧ 4 % zoneBlocks ≠ (begun (took half)).admission 0 0) := by unfold Passes; decide +kernel

def openZones (n : Nat) : State :=
  { half with host := { half.host with zones := (List.range n).map fun z => (z, ⟨some (0, z), 1, .explicitOpen, false⟩), ns := [(0, { ns0 with zones := 16 })] } }

theorem meets_ZoneManagementAndDiscOperations :
    (∀ r ∈ [(⟨false, 2, 0, 1⟩ : DsmRange), ⟨false, 3, 0, 1⟩, ⟨false, 1, 0, 1⟩], r.sr = false) ∧ ns0.blocks ≤ 2097152 ∧ 2097151 < ns0.blocks ∧ 1 % zoneBlocks ≠ 0 ∧
    (let z (s : State) := ((begun (took s)).zone 0 0).state
     z fresh = .empty ∧ (z half).isOpen = true ∧ z full = .full ∧ z gone = .offline ∧ (z full).isOpen = false ∧ z full ≠ .closed ∧
      z (hosted ⟨some (0, 0), 5, .closed, false⟩) = .closed) ∧
    (8 ≤ ((begun (took (openZones 8))).zonesWith 0 ZoneSt.isOpen).length ∧ ((begun (took (openZones 7))).zonesWith 0 ZoneSt.isOpen).length < 8 ∧
      ((begun (took (openZones 8))).zone 0 8).state = .empty) ∧
    (((begun (took fresh)).zone 0 0).st = .empty ∧ ((begun (took fresh)).zone 0 0).offline = false ∧ activeRoom (begun (took fresh)) 0 = true) ∧
    (((begun (took half)).zone 0 0).st ≠ .empty ∧ ((begun (took half)).zone 0 0).st ≠ .full ∧ ((begun (took half)).zone 0 0).offline = false) ∧
    (((begun (took fresh)).zone 0 0).bound = none ∧ ((begun (took half)).zone 0 0).bound = some (0, 0) ∧
      (begun (took half)).driveOf 0 = none ∧ (begun (took (half.p Od.DRV_DISC 1 0))).driveOf 0 = some 1 ∧ (begun (took half)).zoneOffline 0 0 = false) := by decide +kernel

theorem meets_ZoneManagementAndDiscOperations_limits :
    (let s := { openZones 16 with host := { (openZones 16).host with zones := (List.range 16).map fun z => (z, ⟨some (0, z), 1, .closed, false⟩) } }
     8 < ((begun (took s)).zonesWith 0 ZoneSt.isOpen).length + ((begun (took s)).zonesWith 0 fun st => st == .closed).length) ∧
    ((begun (took half)).zonesWith 0 ZoneSt.isOpen).length + ((begun (took half)).zonesWith 0 fun st => st == .closed).length ≤ 8 := by decide +kernel

/-- Queue 1's completion queue holds two entries the host has not taken; a drive is ready for its next operation or idle. -/
def posted : State := fresh.setCtl 0 fun g => { g with cqs := [(1, ⟨4, 2, 0, 0, true, []⟩)] }
def readyDrive : State := (drv.p Od.MEDIA_STATE 15 2).p Od.DRV_STATE 15 0
def queued : State := { readyDrive with media := { readyDrive.media with ops := [op0 .read] } }
def idleIn (st : Nat) : State := drv.p Od.DRV_STATE 15 st

theorem meets_DoorbellsAdmissionAndDriveQueues :
    ((∀ s ∈ [fresh, posted], s.host.ctl[(0 : Crib)].sqs.find? 1 = some ⟨4, 3, 0, 1, 0⟩ ∧ s.host.ctl[(0 : Crib)].sqs.find? 2 = none) ∧
      posted.host.ctl[(0 : Crib)].cqs.find? 1 = some ⟨4, 2, 0, 0, true, []⟩ ∧ posted.host.ctl[(0 : Crib)].cqs.find? 0 = none) ∧
    ((0 + 4 - 2) % 4 < (1 + 4 - 2) % 4 ∧ (0 + 4 - 2) % 4 ≤ (0 + 4 - 2) % 4) ∧
    (∀ w ∈ (settle fresh).host.waiting, (settle fresh).fetching w.queue = false) ∧
    (let u := serveLoads queued
     u.media.cur[(15 : Drive)] = none ∧ u.g Od.DRV_STATE 15 = 0 ∧ u.g Od.MEDIA_STATE 15 = 2 ∧ u.g Od.DRIVE_FAULT 15 = 0 ∧
      u.g Od.CAL_STATE 15 = 0 ∧ u.drives[(15 : Drive)].cal.req = 0) ∧
    ((nextOp (serveLoads queued) 15 []).map (fun o => o.todo) = some [] ∧ nextOp (serveLoads readyDrive) 15 [] = none ∧ (serveLoads drv).g Od.MEDIA_STATE 15 ≠ 2) ∧
    (∀ st ∈ [0, 1, 2, 3], (idleIn st).media.cur[(15 : Drive)] = none ∧ (idleIn st).hasWork 15 = false ∧ (idleIn st).g Od.DRIVE_FAULT 15 = 0 ∧
      (idleIn st).g Od.DRV_DISC 15 ≠ 0xFFFF ∧ (idleIn st).drives[(15 : Drive)].wake = none ∧ (idleIn st).g Od.DRV_STATE 15 = st ∧ (idleIn st).pickBusy 15 = false) ∧
    (drv.writeCodeOf 0 Od.DISC_RESTORE 1535 = 0 ∧ drv.media.restores.contains 1535 = false ∧
      ({ drv with media := { drv.media with restores := [1535] } } : State).media.restores.contains 1535 = true ∧
      ({ drv with media := { drv.media with restores := [1535] } } : State).writeCodeOf 0 Od.DISC_RESTORE 1535 = 0) := by decide +kernel

/-- The PF's admin queue holds an entry; its I/O queues as given; and crib 1's controller as given beside it. -/
def aq : IoQueue := .sq 0 0
def admined (sqs : Keyed Sq) (cqs : Keyed Cq) : State :=
  let s := ((sv.p Od.CRIB_STATE 0 1).p Od.CRIB_CTX_MAX 0 8).p Od.CRIB_QP_MAX 0 2
  s.setCtl 0 fun g => { g with en := true, rdy := true, sqs := (0, ⟨4, 3, 0, 0, 0⟩) :: sqs, cqs := (0, ⟨4, 0, 0, 0, true, []⟩) :: cqs }
def cq0 : Cq := ⟨4, 0, 0, 0, true, []⟩
def adm : State := admined [(1, ⟨4, 0, 0, 1, 0⟩)] [(1, cq0), (2, cq0)]
def adTook (s : State) : State := (s.takeEntry aq).getD s
def sanitizing (st : Nat) (ause : Bool) : State := { adm with admin := { adm.admin with sanitize := { adm.admin.sanitize with state := st, ause := ause } } }

theorem meets_AdminTaken : (∀ s ∈ [adm, sanitizing 2 false, sanitizing 3 true], Live s ∧ AdminTaken s aq (adTook s) ∧ AdminClear s aq hdr0 (adTook s)) ∧
    (Live fresh ∧ adminServed sv aq = false) := by unfold Live AdminClear AdminTaken; decide +kernel

theorem meets_AdminEntriesAreTakenAndChecked :
    (∀ c ∈ ([.keepAlive aq hdr0, .formatNvm aq hdr0 0 0 0 0 0, .overwrite aq hdr0 false] : List Instr), (adminCommand c).isSome = true) ∧
    (adminCommand (.formatNvm aq hdr0 0 0 0 0 0)).map (fun x => x.2.2) = some false ∧
    (adminServed sv aq = false ∧ (adm.p Od.CRIB_CTX_MAX 0 0).ctxFree 0 = false ∧ (admined [] []).takeEntry (.sq 1 0) = none) ∧
    ((adTook (sanitizing 2 false)).admin.sanitize.state = 2 ∧ (adTook adm).admin.sanitize.state ≠ 2) := by decide +kernel

/-- Connection 0, its admin capsule queue and association 1 of crib 1, open and initialised. -/
def conn0 : Conn :=
  { port := 0, iface := 0, pcp := 0, peer := 7, icDone := true, hdgst := false, ddgst := false, cntlid := some 1, qid := 0, sqSize := 4, sqHead := 0
    crib := some 1, termSent := false, closed := false, r2ts := [], maxR2t := 1, nextTag := 0, bufs := [], retrans := 0, held := [], pins := [] }
def wired (c : Conn) : State :=
  let s := (((sv.p Od.CRIB_STATE 1 1).p Od.CRIB_CTX_MAX 1 8).p Od.CRIB_CTX_MIN 1 1).p Od.NET_LINK 0 2
  { s with net := { s.net with conns := [(0, c)], assocs := [(1, ⟨1, [], 0, 0, { NvmeCtl.fresh with en := true, rdy := true, kato := 5 }⟩)] } }
def wireTook (s : State) : State := (s.takeEntry (.conn 0)).getD s

theorem meets_QueuesAndControllers_queues :
    (Live (wired conn0) ∧ AdminClear (wired conn0) (.conn 0) hdr0 (wireTook (wired conn0))) ∧
    (let g := (adTook adm).host.ctl[(0 : Crib)]
     qidOk g 0 false = false ∧ (g.sqs.find? 1).isSome = true ∧ qidOk g 511 false = true ∧ qidOk g 512 false = false ∧ g.sqs.find? 511 = none ∧
      g.cqs.find? 3 = none ∧ (g.cqs.find? 2).isSome = true ∧ unitFree (adTook adm) 0 (sqUnits (adTook adm)) = true ∧
      unitFree (adTook (adm.p Od.CRIB_QP_MAX 0 1)) 0 (sqUnits (adTook (adm.p Od.CRIB_QP_MAX 0 1))) = false ∧
      qidOk g 511 true = true ∧ (g.cqs.find? 1).isSome = true ∧ g.cqs.find? 511 = none ∧
      unitFree (adTook adm) 0 (cqUnits (adTook adm)) = false ∧ unitFree (adTook (adm.p Od.CRIB_QP_MAX 0 3)) 0 (cqUnits (adTook (adm.p Od.CRIB_QP_MAX 0 3))) = true ∧
      (∃ p ∈ g.sqs, p.2.cq = 1) ∧ (∀ p ∈ g.sqs, p.2.cq ≠ 2)) ∧
    ((adTook adm).host.dels.any fun d => d.1 == (0 : Crib) && d.2.2 == 1) = false ∧
    (({ adm with host := { adm.host with dels := [(0, 9, 1)] } } : State).host.dels.any fun d => d.1 == (0 : Crib) && d.2.2 == 1) = true := by
  unfold Live AdminClear AdminTaken; decide +kernel

theorem meets_QueuesAndControllers :
    (adm.host.ctl[(0 : Crib)].en = true ∧ sv.fnThere 32 = false ∧ State.reset.boot.crs = true ∧ Live State.reset) ∧
    (sv.host.ctl[(0 : Crib)].en = false ∧ sv.fnThere 0 = true ∧ sv.boot.crs = false ∧ adm.host.ctl[(0 : Crib)].rdy = true ∧ sv.host.ctl[(0 : Crib)].rdy = false) ∧
    (adminServed sv (.sq 0 0) = false ∧ adminServed (adm.setCtl 0 fun g => { g with kato := 5 }) (.sq 0 0) = true ∧
      (adm.setCtl 0 fun g => { g with kato := 5 }).host.ctl[(0 : Crib)].kato ≠ 0 ∧ adm.host.ctl[(0 : Crib)].kato = 0) := by
  unfold Live; decide +kernel

/-- Crib 0 has an aborting, a started and an unstarted command; an event is kept, or four requests are. -/
def aborting (started : Bool) : State :=
  { adm with host := { adm.host with ctxs := [{ ctx0 0 1 with started := started }] } }
def kept (n : Nat) (e : List AsyncEvent) : State := adm.setCtl 0 fun g => { g with aers := List.replicate n 1, kept := e }

theorem meets_IdentifyLogsFeaturesAndAbort :
    (isAdmin adm aq = true ∧ isAdmin fresh q1 = false ∧ Taken fresh q1 (.invalid 0x7F) (took fresh)) ∧
    ((adTook adm).nsOf 0 1 = none ∧ ({ adTook adm with host := { adm.host with ns := [(0, ns0)] } } : State).nsOf 0 1 = some (0, ns0)) ∧
    (onPf aq = true ∧ onPf (.sq 32 0) = false ∧ 4 ∉ [0, 1, 2, 3, 5, 6, 7, 0x10, 0x11, 0x12, 0x1C] ∧ 3 ∉ [1, 2, 4, 5, 0x81, 0xBF] ∧ 3 ∉ [1, 2, 4, 7, 8, 9, 0xB, 0xF]) ∧
    (((adTook adm).ctlOf aq).bind fun g => g.nq) = none ∧
    (((adTook (adm.setCtl 0 fun g => { g with nq := some 0 })).ctlOf aq).bind fun g => g.nq).isSome = true ∧
    (sameCtl (adTook adm) aq 1 = some (.sq 0 1) ∧ sameCtl (wireTook (wired conn0)) (.conn 0) 5 = none) ∧
    (∀ b ∈ [false, true], ((adTook (aborting b)).host.ctxs.find? fun x => x.queue == .sq 0 1 && x.cid == 1) = some { ctx0 0 1 with started := b } ∧
      ctxStarted (adTook (aborting b)) { ctx0 0 1 with started := b } = b) ∧
    (∀ n ∈ [3, 4], (((adTook (kept n [])).ctlOf aq).getD NvmeCtl.fresh).aers.length = n ∧ (((adTook (kept n [])).ctlOf aq).getD NvmeCtl.fresh).kept = []) ∧
    (((adTook (kept 0 [.invalidDoorbellValue])).ctlOf aq).getD NvmeCtl.fresh).kept = [.invalidDoorbellValue] := by
  unfold Taken; decide +kernel

/-- Namespace 1 as given; enough magazines to hold one zone; an admin operation of a kind. -/
def spaced (n : Ns) : State := { adm with host := { adm.host with ns := [(0, n)] } }
def oper (k : Nat) : AdminOp :=
  { stream := 0, opId := 1, kind := k, ses := 0, cdw10 := 0, func := 0, units := [0], unit := 0, step := 1, pos := 0, done := 0, total := 1, tried := false
    keyTries := 0, bad := [], cmd := none, scan := [], discId := 0, formatTime := 0, good := 0 }
def operating (k : Nat) : State := { adm with admin := { adm.admin with ops := [oper k] } }
def nineNs : State := { adm with host := { adm.host with ns := (0, { ns0 with attached := none }) :: (List.range 8).map fun i => (i + 1, ns0) } }

theorem meets_NamespacesFormatAndSanitize :
    (let u := adTook (adm.p Od.MAG_DECL 0 1)
     u.admin.sanitize.state ≠ 2 ∧ (u.freeDiscZones 1 false).length < 5000 * zoneBlocks / zoneBlocks ∧
      ((List.range 256).find? fun i => (u.host.ns.find? i).isNone && u.g Od.NS_KEY_STATE i != 3) = some 0) ∧
    ((adTook adm).host.ns.find? (1 - 1) = none ∧ ((adTook (spaced ns0)).host.ns.find? (1 - 1)).isSome = true ∧
      (adTook ((spaced ns0).p Od.NS_FORMAT_STATE 0 1)).g Od.NS_FORMAT_STATE 0 = 1 ∧ (adTook (spaced ns0)).g Od.NS_FORMAT_STATE 0 ≠ 1) ∧
    (ns0.attached = some (0 : Crib).val ∧ ({ ns0 with attached := none } : Ns).attached ≠ some (0 : Crib).val ∧
      (adTook nineNs).host.ns.find? 0 = some { ns0 with attached := none } ∧ 8 ≤ ((adTook nineNs).host.ns.filter fun p => p.2.attached == some (0 : Crib).val).length ∧
      ((adTook (spaced ns0)).host.ns.filter fun p => p.2.attached == some (0 : Crib).val).length < 8) ∧
    ((adTook (spaced ns0)).nsOf 0 1 = some (0, ns0) ∧ (adTook adm).nsOf 0 1 = none) ∧
    ((adTook (sanitizing 3 true)).admin.sanitize.state = 3 ∧ (adTook (sanitizing 3 true)).admin.sanitize.ause = true ∧ (adTook adm).admin.sanitize.state ≠ 3 ∧
      (adTook (sanitizing 2 false)).admin.sanitize.state = 2 ∧ (adTook adm).admin.ops = [] ∧ (adTook adm).admin.formats = [] ∧ (adTook (operating 1)).admin.ops ≠ []) ∧
    (held.adminRuns = false ∧ adm.adminRuns = true ∧ adm.adminOp? 7 = none ∧ (operating 3).adminOp? 0 = some (oper 3) ∧ (operating 1).adminOp? 0 = some (oper 1)) ∧
    (keyed.keys.ops.find? 0 = none ∧ sv.chestWaiting Region.state (keyPos sv 255) = false ∧
      ({ sv with keys := { sv.keys with ops := [(255, ⟨1, 0, []⟩)] } } : State).keys.ops.find? 255 = some ⟨1, 0, []⟩) := by decide +kernel

set_option maxRecDepth 100000 in
theorem meets_NamespacesFormatAndSanitize_room :
    (let u := adTook ((adm.p Od.MAG_DECL 0 1).p Od.MAG_MEDIA 0 1)
     2 * zoneBlocks / zoneBlocks ≤ (u.freeDiscZones 1 false).length) := by decide +kernel

/-- Port 1's link is up, interface 0 lies on it with VLAN 0, an IPv4 and an IPv6 address; its priority 7 as given. -/
def net1 (f : PortSt → PortSt) : State :=
  let s := (((((((sv.p Od.NET_LINK 1 2).p Od.NET_IF_PORT 0 1).p Od.NET_IF_IPV4 0 9).p Od.NET_IF_IPV6 1 9).p Od.NET_MTU 1 1500).p Od.NET_PFC_XON 0 1).p
    Od.NVT_TCP_PORT 0 4420)
  s.setPort 1 f
def port1 : State := net1 id
def pausedPort : State := net1 fun x => { x with paused := 0x80 }
def xoffPort (n : Nat) : State := net1 fun x => { x with xoff := 0x80, rx := x.rx.set 7 n }
def connOn (c : Conn) : State := { port1 with net := { port1.net with conns := [(0, c)] } }
def connUp (r : Nat) (closed : Bool) : State := connOn { conn0 with port := 1, retrans := r, closed := closed }

theorem meets_EthernetPorts :
    (Live port1 ∧ sv.g Od.NET_LINK 0 ≠ 2 ∧ port1.g Od.NET_LINK 1 = 2 ∧ port1.dev ≠ .booting ∧ ({ port1 with dev := .held } : State).dev = .held) ∧
    (∀ l ∈ [(1518, false), (1519, true)], decide (port1.g Od.NET_MTU 1 + 18 < l.1) = l.2) ∧
    (262144 < (net1 fun x => { x with rx := x.rx.set 7 262144 }).net.ports[(1 : Fin 2)].rx[(7 : Fin 8)] - 63 + 64 ∧
      port1.net.ports[(1 : Fin 2)].rx[(7 : Fin 8)] - 0 + 64 ≤ 262144) ∧
    (ifaceOf port1 0 0 = some 1 ∧ ifaceOf port1 1 0 = some 0 ∧ ifaceOf port1 1 4095 = none) ∧
    (ifaceHas port1 0 false 0 9 = true ∧ ifaceHas port1 0 false 0 8 = false ∧ ifaceHas port1 0 true 0 9 = true ∧ ifaceHas port1 0 true 9 0 = false) ∧
    ((xoffPort 1024).net.ports[(1 : Fin 2)].xoff.getLsbD (7 : Fin 8) = true ∧ (xoffPort 1024).net.ports[(1 : Fin 2)].rx[(7 : Fin 8)] ≤ 1024 * (xoffPort 0).g Od.NET_PFC_XON ∧
      1024 * (xoffPort 0).g Od.NET_PFC_XON < (xoffPort 1025).net.ports[(1 : Fin 2)].rx[(7 : Fin 8)] ∧ port1.net.ports[(1 : Fin 2)].xoff.getLsbD (7 : Fin 8) = false) ∧
    (pausedPort.net.ports[(1 : Fin 2)].paused.getLsbD (7 : Fin 8) = true ∧ port1.net.ports[(1 : Fin 2)].paused.getLsbD (7 : Fin 8) = false ∧
      port1.gb Od.NET_PFC_EN 1 7 = false ∧ (port1.p Od.NET_PFC_EN 1 0x80).gb Od.NET_PFC_EN 1 7 = true) ∧
    (port1.dev = .serving ∧ decide (256 ≤ (port1.net.conns.filter fun c => !c.2.closed).length) = false ∧ port1.net.conns.find? 65535 = none ∧
      decide (256 ≤ (({ port1.net with conns := List.replicate 256 (0, conn0) } : NetSt).conns.filter fun c => !c.2.closed).length) = true) ∧
    (∀ r ∈ [11, 12], (connUp r false).net.conns.find? 0 = some { conn0 with port := 1, retrans := r, closed := false }) ∧ 12 < 12 + 1 ∧ 11 + 1 ≤ 12 ∧
    ((connUp 0 true).g Od.NET_LINK 1 = 2 ∧ (port1.p Od.NET_LINK 1 1).g Od.NET_LINK 1 = 1) := by unfold Live; decide +kernel

/-- A connection before its ICReq, unbound, or bound to queue 1; and one that waits for data. -/
def opened (c : Conn) : State := connOn c
def unbound : Conn := { conn0 with port := 1, crib := none, cntlid := none }
def ioConn : Conn := { conn0 with port := 1, qid := 1 }
def r2t0 : R2t := ⟨1, 5, 0, 16, 0⟩
def awaited : Conn := { ioConn with r2ts := [r2t0], bufs := [(1, (16, 0, List.replicate 16 0))] }
def fetchingData : State :=
  let s := connOn awaited
  { s with host := { s.host with ctxs := [{ ctx0 0 1 with queue := .conn 0 }] } }

theorem capsule_on {s u : State} {k : Nat} {c d : Conn} (h : s.conn? k = some d ∧ d.icDone = true ∧ s.takeEntry (.conn k) = some u ∧ u.conn? k = some c) :
    CapsuleOn s k u c := by
  obtain ⟨h1, h2, h3⟩ := h
  unfold CapsuleOn; rw [h1]; exact ⟨h2, h3⟩

theorem meets_CapsuleOn : CapsuleOn (opened unbound) 0 (wireTook (opened unbound)) { unbound with sqHead := 1 } ∧
    CapsuleOn (opened ioConn) 0 (wireTook (opened ioConn)) { ioConn with sqHead := 1 } ∧
    CapsuleOn (wired conn0) 0 (wireTook (wired conn0)) { conn0 with sqHead := 1 } :=
  ⟨capsule_on (d := unbound) (by decide +kernel), capsule_on (d := ioConn) (by decide +kernel), capsule_on (d := conn0) (by decide +kernel)⟩

theorem meets_NvmeTcpConnections :
    ((connUp 0 true).conn? 0 = none ∧ ((opened { conn0 with icDone := false }).conn? 0).isSome = true ∧ ({ conn0 with icDone := false } : Conn).icDone = false ∧
      ((wired conn0).conn? 0) = some conn0) ∧
    (unbound.crib = none ∧ ioConn.crib.isSome = true ∧ ioConn.qid ≠ 0 ∧ conn0.qid = 0 ∧ conn0.cntlid = some 1) ∧
    ((wired conn0).net.assocs.find? 1 = some ⟨1, [], 0, 0, { NvmeCtl.fresh with en := true, rdy := true, kato := 5 }⟩ ∧ (wired conn0).net.assocs.find? 2 = none) ∧
    (fetchingData.conn? 0 = some awaited ∧ awaited.icDone = true ∧ awaited.r2ts.find? (fun r => r.ttag == 5) = some r2t0 ∧
      awaited.r2ts.find? (fun r => r.ttag == 6) = none ∧ (fetchingData.host.ctxs.find? fun x => x.queue == .conn 0 && x.cid == r2t0.cid).isSome = true) ∧
    ((Keyed.getD awaited.bufs 1 (0, 0, [])).2.1 = 0 ∧ (Keyed.getD awaited.bufs 1 (0, 0, [])).2.2.length = 16 ∧ 0 + 16 ≤ r2t0.offset + r2t0.len ∧
      r2t0.offset + r2t0.len < 1 + 16) := by decide +kernel

/-- An admin Connect and an I/O Connect that every check lets through: binding 63 names crib 1. -/
def bindable : State :=
  let s := connOn unbound
  (((s.p Od.NVT_BIND_CRIB 63 1).p Od.CRIB_STATE 1 1).p Od.CRIB_QP_MAX 1 1).p Od.CRIB_CTX_MIN 1 1
def bindableIo (hid : Nat) : State := { bindable with net := { bindable.net with assocs := [(1, ⟨1, [], hid, 0, NvmeCtl.fresh⟩)] } }

theorem meets_NvmeTcpConnections_id : (((List.range 0xFFEF).map (· + 1)).find? fun i => ((wireTook bindable).net.assocs.find? i).isNone).isSome = true := by
  have h : ((wireTook bindable).net.assocs.find? 65519).isNone = true := by decide +kernel
  rw [List.find?_isSome]
  exact ⟨65519, by simp, h⟩

theorem meets_NvmeTcpConnections_connect : bindingOf (wireTook bindable) unbound [] = some 63 ∧ bindingOf (wireTook (connOn unbound)) unbound [] = none := by
  decide +kernel

theorem meets_NvmeTcpConnections_bound :
    (∀ u ∈ [wireTook bindable, wireTook (bindableIo 0), wireTook (bindableIo 4)],
      u.blob Od.NVT_SUBNQN = [] ∧ u.g Od.NVT_BIND_CRIB 63 = (1 : Crib).val ∧ u.g Od.CRIB_STATE 1 = 1 ∧ u.dev = .serving ∧
      (u.net.conns.filter fun p => !p.2.closed && p.2.crib.isSome && p.2.qid == 0).length < 64) ∧
    ((wireTook (bindableIo 0)).net.assocs.find? 1 = some ⟨1, [], 0, 0, NvmeCtl.fresh⟩ ∧ (wireTook bindable).net.assocs.find? 1 = none ∧
      (wireTook (bindableIo 4)).net.assocs.find? 1 = some ⟨1, [], 4, 0, NvmeCtl.fresh⟩) ∧
    (wireTook (bindable.p Od.CRIB_STATE 1 0)).g Od.CRIB_STATE 1 ≠ 1 := by decide +kernel

theorem meets_NvmeTcpConnections_units :
    unitFree (wireTook (bindableIo 0)) 1 (sqUnits (wireTook (bindableIo 0))) = true ∧ unitFree (wireTook (bindableIo 0)) 1 (cqUnits (wireTook (bindableIo 0))) = true ∧
      unitFree (wireTook (bindable.p Od.CRIB_QP_MAX 1 0)) 1 (sqUnits (wireTook (bindable.p Od.CRIB_QP_MAX 1 0))) = false := by decide +kernel

def resettingCrib : State := tenants.p Od.CRIB_STATE 32 2

theorem meets_CribResets :
    (Live tenants ∧ sv.writeCodeOf 0 Od.CRIB_RESET 32 = 0) ∧
    (resettingCrib.g Od.CRIB_STATE 32 = 2 ∧ cribQuiet resettingCrib 32 = true ∧ tenants.g Od.CRIB_STATE 32 ≠ 2) ∧
    (let s : State := { sv with host := { sv.host with numVfs := 32 } }
     (32 : Crib) ≠ 0 ∧ s.fnThere 32 = true ∧ s.boot.crs = false ∧ (s.setCtl 32 fun g => { g with en := true }).host.ctl[(32 : Crib)].en = true) ∧
    (sv.host.ctxs = [] ∧ sv.thresh.seq = Vector.replicate 4 none ∧ sv.cache.rakes = [] ∧ sv.cache.rakeRun = none ∧ tenants.g Od.DB_OWNER 0 = (0 : Crib)) ∧
    (let a : Assoc := ⟨1, [], 0, 0, { NvmeCtl.fresh with en := true, rdy := true, kato := 5 }⟩
     (wireTook (wired conn0)).net.assocs.find? 1 = some a ∧ a.ctl.en = true ∧ a.crib = (1 : Crib).val) ∧
    (∀ v ∈ [0, 1, 0x4001, 0x8001], (v.testBit 0 = true ↔ v ≠ 0)) ∧ fieldOf 0x4001 15 14 = 1 ∧ fieldOf 0x8001 15 14 = 2 := by
  unfold Live; decide +kernel

/-- The ROM runs, with both slots VALID or neither; firmware runs and Booting is over; every axis is positioned. -/
def rom (a b : Nat) : State := (State.reset.p Od.FW_SLOT_CHECK 0 a).p Od.FW_SLOT_CHECK 1 b
def booting (p : BootPhase) : State := { State.reset with boot := { State.reset.boot with phase := p } }
def undeclared (d : Device) : State := { sv with dev := d }
def released : State :=
  let s := drv.setDv 15 fun d => { d with resetting := true }
  { s with pins := { s.pins with feRst := BitVec.allOnes 16, stgRst := 1 } }

theorem meets_PowerBootAndStart :
    (Live State.reset ∧ sv.dev ≠ .booting ∧ bootSlot (rom 1 1) = none ∧ bootSlot (rom 0 1) = some 0 ∧ bootSlot (rom 1 0) = some 1 ∧
      (rom 0 0).dev = .booting ∧ (rom 0 0).boot.phase = .rom ∧ (bootSlot (rom 0 0)).isSome = true) ∧
    ((booting .parts).dev = .booting ∧ (booting .parts).boot.phase ≠ .rom ∧ (booting .ready).boot.phase = .ready ∧ Live (booting .ready)) ∧
    ((undeclared .starting).dev = .starting ∧ (∀ a : Axis, positioned (undeclared .starting) a = true) ∧ positioned drv 0 = false) ∧
    (∀ p ∈ ([0, 15, 16] : List (Fin 21)), partReleased released p = true ∧ released.scan.lost.getLsbD (scanPart p) = false) ∧
    (partReleased released 20 = false ∧ partAwaited released 0 = false ∧ partAwaited released 15 = true ∧ released.scan.lost.getLsbD (scanPart 20) = false) ∧
    (noRef.pwr.refLost = true ∧ sv.pwr.refLost = false) := by unfold Live; decide +kernel

/-- The load state and address; a device in a state with its reasons; a drain under way with or without work. -/
def fwLoad (st a : Nat) : State := (sv.p Od.FW_LOAD_STATE 0 st).p Od.FW_LOAD_ADDR 0 a
def inState (d : Device) (r : Nat) : State := { sv with dev := d }.p Od.HOLD_REASON 0 r
def drainFor (w : DrainFor) (busy : Bool) : State :=
  { sv with dev := .draining, boot := { sv.boot with drain := some w }
            host := { sv.host with ctxs := if busy then [ctx0 0 1] else [] } }
def drainLater : State := { sv with boot := { sv.boot with drainDeferred := true } }
def committing (st : Nat) : State :=
  let s := sv.p Od.CONFIG_STATE 0 st
  { s with dict := { s.dict with commit := some ⟨⟨[], []⟩, st == 3⟩ } }

theorem meets_FirmwareLoadingAndDeviceStates :
    (Live sv ∧ ∀ o ∈ [Od.FW_LOAD_CTRL, Od.FW_LOAD_DATA, Od.FW_FLOOR_RAISE, Od.HOLD_REQUEST, Od.HOLD_RELEASE, Od.WARM_RESTART],
      sv.writeCodeOf 0 o 0 = 0 ∧ (inState .held 32).writeCodeOf 0 o 0 = 0 ∧ failing.writeCodeOf 0 o 0 = 0 ∧ (inState .starting 0).writeCodeOf 0 o 0 = 0) ∧
    (failing.g Od.PF_STATE ≠ 0 ∧ sv.g Od.PF_STATE = 0 ∧ ∀ st ∈ [0, 1, 2, 3, 4, 5], (fwLoad st 0).g Od.FW_LOAD_STATE = st) ∧
    ((fwLoad 3 0).flash[loadSlot (fwLoad 3 0)].check 0 false ≠ 0) ∧
    (let a := (fwLoad 2 (2 ^ 24 - 256)).g Od.FW_LOAD_ADDR
     a % 256 = 0 ∧ a + 256 ≤ 2 ^ 24 ∧ 2 ^ 24 < a + 257 ∧ (fwLoad 2 255).g Od.FW_LOAD_ADDR % 256 ≠ 0) ∧
    (sv.dev = .serving ∧ sv.dict.commit = none ∧ (committing 2).dict.commit.isSome = true) ∧
    (drainLater.dev = .serving ∧ drainLater.boot.drainDeferred = true ∧ drainLater.dict.commit = none ∧ sv.boot.drainDeferred = false) ∧
    (∀ w ∈ [DrainFor.restart, .hold], (drainFor w false).dev = .draining ∧ drainBusy (drainFor w false) = false ∧ (drainFor w false).boot.drain = some w ∧
      drainBusy (drainFor w true) = true) ∧
    (interruptAll (drainFor .hold true)).host.ctxs = [] ∧
    ((inState .held 0x24).pb Od.HOLD_REASON 0 5 false).gb Od.HOLD_REASON 0 2 = true ∧ ((inState .held 0x20).pb Od.HOLD_REASON 0 5 false).g Od.HOLD_REASON = 0 ∧
    ((inState .held 0x21).pb Od.HOLD_REASON 0 5 false).g Od.HOLD_REASON ≠ 0 := by unfold Live; decide +kernel

/-- The pending set holds an entry of a chapter, whole or not. -/
def pended (k : Nat) (whole : Bool) : State :=
  let s := sv.p Od.CONFIG_STATE 0 1
  { s with dict := { s.dict with pendingSet := [(k, ⟨[1, 0], whole⟩)] } }
def storing : State := { committing 3 with chest := { sv.chest with delayed := [⟨cfgRegion (storeSlot (committing 3)), 1, []⟩] } }

set_option maxRecDepth 100000 in
theorem meets_CommitsAndThePendingSet :
    (Live sv ∧ ∀ s ∈ [sv, failing, committing 4, inState .starting 0, inState .draining 0, pended 0 true], s.writeCodeOf 0 Od.COMMIT 0 = 0 ∧ s.writeCodeOf 0 Od.PENDING_CLEAR 0 = 0) ∧
    ((∀ st ∈ [2, 3, 4], 2 ≤ (committing st).g Od.CONFIG_STATE) ∧ sv.g Od.CONFIG_STATE < 2 ∧ (pended 0 true).g Od.CONFIG_STATE < 2) ∧
    (sv.dict.pendingSet = [] ∧ (pended 0 true).dict.pendingSet ≠ [] ∧ crc32c (pendingStream (pended 0 true)) ≠ 0) ∧
    ((pended 7 false).dict.pendingSet.filter (fun (p : Nat × PendEntry) => !p.2.complete) = [(7, ⟨[1, 0], false⟩)]) ∧
    ((∀ p ∈ (pended 0x01005000 true).dict.pendingSet, p.2.complete = true) ∧ (∃ p ∈ (pended 0x01005000 true).dict.pendingSet, p.1 / 2 ^ 24 = 1) ∧
      (pended 0x01005000 true).dev ≠ .held ∧ (∀ p ∈ (pended 0x02005000 true).dict.pendingSet, p.1 / 2 ^ 24 ≠ 1)) ∧
    (sv.dict.commit = none ∧ (∀ st ∈ [2, 3, 4], (committing st).dict.commit = some ⟨⟨[], []⟩, st == 3⟩ ∧ (committing st).g Od.CONFIG_STATE = st)) ∧
    ((∃ d ∈ storing.chest.delayed, d.region = cfgRegion (storeSlot storing)) ∧ storing.g Od.CONFIG_STATE = 3 ∧ ∀ d ∈ (committing 3).chest.delayed, d.region ≠ cfgRegion (storeSlot (committing 3))) ∧
    ((committing 4).jobsGone (movedWindows (committing 4) ⟨[], []⟩).contains = true) := by unfold Live; decide +kernel

/-- Objects of each access class and their rows; requests of a crib and of the host. -/
theorem meets_WhatAWriteIsRefusedFor :
    (Live sv ∧ State.reset.dev = .booting ∧ sv.dev ≠ .booting ∧ objRow 0x00FFF000 = none) ∧
    ((objRow Od.FW_RUNNING.addr).map (fun x => (x.1.acc, writeCode sv 0 x.1 x.2)) = some (.ro, 0x03)) ∧
    ((objRow Od.COMMIT.addr).map (fun x => (x.1.acc, writeCode sv 0 x.1 x.2, seeCode sv 1 x.1 x.2, x.1.ty)) = some (.wo, 0, 0x01, .u32)) ∧
    ((objRow Od.MAG_MEDIA.addr).map (fun x => (x.1.acc, writeCode sv 0 x.1 x.2)) = some (.wc, 0)) ∧
    ((objRow Od.NS_KEY_DATA.addr).map (fun x => (x.1.ty == .blob, seeCode sv 0 x.1 x.2)) = some (true, 0)) ∧
    (4096 < 4097 ∧ (sv.dict.pendingSet.find? 0) = none ∧ (((pended 0 true).dict.pendingSet.find? 0)).isSome = true) ∧
    (sv.g Od.CONFIG_STATE = 0 ∧ 2 ≤ (committing 2).g Od.CONFIG_STATE) := by unfold Live; decide +kernel

theorem meets_WindowAndAdminObjectRequests :
    (Live sv ∧ State.reset.dev = .booting ∧ (objRead (adTook adm) 0 Od.FW_RUNNING.addr 0 4 false false).2.bytes.length = 4 ∧
      (objRead (adTook adm) 0 0x00FFF000 0 4 false false).2.bytes = [] ∧ 3 < (objRead (adTook adm) 0 Od.FW_RUNNING.addr 0 3 false false).2.bytes.length) ∧
    ((objWrite (adTook adm) 0 (some 1) Od.TARIFF_ARM.addr 0 [1, 0, 0, 0] 0).1.dev ≠ .booting ∧ (List.replicate 480 (0 : Byte)).length ≤ 480) ∧
    (adminServed sv aq = false ∧ (4096 : Nat) ≤ 4096 ∧ 4096 < 4097) := by unfold Live; decide +kernel

/-- Bus 1 serves the protocol for node 5; a frame to it; an open session. -/
def buses : State :=
  let s := (sv.p Od.MOP_ENABLE 0 2).p Od.MOP_NODE 0 5
  { s with dict := { s.dict with canActive := true } }
def frame (body : List Byte) (last toggle : Bool) : MopFrame := ⟨1, 31, 7, 5, 15, toggle, last, body⟩
def initiate0 (total : Nat) (last : Bool) (rest : List Byte) : MopFrame := frame ([0, 0, 0] ++ leBytes 4 Od.NS_KEY_DATA.addr ++ leBytes 4 total ++ rest) last false
def session0 (write : Bool) (toggle : Option Bool) : MopSession :=
  { bus := 1, source := 7, session := 15, write := write, prio := 31, service := 2, addr := Od.NS_KEY_DATA.addr, total := 60
    bytes := List.replicate 58 0, sent := 0, toggle := toggle, fromActive := false, answer := [], lastFrame := 0 }
def sessions (n : Nat) (m : MopSession) : State := { buses with dict := { buses.dict with sessions := List.replicate n m } }
def req (f : MopFrame) (service : Nat) : MopReq := ⟨f, service⟩
def segment0 (count : Byte) (last toggle : Bool) (crc : Nat) : MopFrame :=
  frame (count :: List.replicate 58 0 ++ (if last then leBytes 4 crc else [0, 0, 0, 0])) last toggle

theorem meets_ProtocolFramesAreTaken :
    (Live buses ∧ mopOn buses 1 = true ∧ mopOn buses 0 = false ∧ (frame [] true false).dest = buses.g Od.MOP_NODE ∧ 4 ≠ buses.g Od.MOP_NODE) ∧
    (∀ c ∈ ([.mopReadInitiate (frame [] true false), .mopNext (frame [] true false), .mopWriteSegment (frame [] true false) 0, .mopUnknownService (frame [] true false) 2 1,
      .mopClientAbort (frame [] true false) 2] : List Instr), (mopCommand c).isSome = true) ∧
    (mopCommand (.mopUnknownService (frame [] true false) 2 1)).map (fun x => x.2.1) = some 2 ∧
    (mopCommand (.mopClientAbort (frame [] true false) 2)).map (fun x => x.2.1) = some 3 ∧
    ((frame [] true false).source ≠ 0 ∧ (frame [] true false).source ≠ 0xFF ∧ (frame [] true false).source ≠ buses.g Od.MOP_NODE) ∧
    ((buses.dict.sessions.find? fun m => m.bus == 1 && m.source == 7 && m.session == 15) = none ∧
      ((sessions 1 (session0 true none)).dict.sessions.find? fun m => m.bus == 1 && m.source == 7 && m.session == 15) = some (session0 true none) ∧
      mopOn (sessions 1 (session0 true none)) 1 = true) := by unfold Live; decide +kernel

theorem meets_ProtocolTransfers_initiate :
    ((frame [0, 0, 0] true false).body.length < 11 ∧ ((frame [2, 0, 0] true false).body.headD 0).toNat = 2 ∧ allZero (slice 1 2 (frame [0, 0, 1] true false).body) = false) ∧
    (let f := initiate0 0 true []
     ¬(f.body.length < 11 ∨ 1 < (f.body.headD 0).toNat ∨ allZero (slice 1 2 f.body) = false) ∧ initiateBad f 1 = false ∧ initiateBad f 4 = false) ∧
    (initiateBad (initiate0 1 true []) 1 = true ∧ initiateBad (initiate0 52 true (List.replicate 52 1)) 2 = false ∧ initiateBad (initiate0 53 true (List.replicate 53 1)) 2 = true ∧
      initiateBad (initiate0 53 false []) 2 = false ∧ initiateBad (initiate0 65537 false []) 2 = false ∧ initiateBad (initiate0 65538 false []) 2 = true) ∧
    (addrCode buses (mfAddr (initiate0 53 false [])) = 0 ∧ addrCode buses 0x00FFF000 ≠ 0 ∧ (sessions 8 (session0 true none)).dict.sessions.length = 8 ∧
      buses.dict.sessions.length < 8 ∧ (sessions 1 (session0 true none)).session? (req (initiate0 0 true []) 1) = some (session0 true none) ∧
      buses.session? (req (initiate0 0 true []) 1) = none) := by decide +kernel

set_option maxRecDepth 100000 in
theorem meets_ProtocolTransfers :
    ((List.replicate 52 (0 : Byte)).length ≤ 52 ∧ 52 < (List.replicate 53 (0 : Byte)).length) ∧
    ((segment0 2 true false 0).body.length = 63 ∧ (frame [] true false).body.length ≠ 63 ∧ segmentBad (segment0 58 false false 0) true = false ∧
      segmentBad (segment0 59 false false 0) true = true ∧ segmentBad (segment0 0 true false 0) false = false ∧ segmentBad (segment0 1 true false 0) false = true) ∧
    (∀ t ∈ [none, some false, some true], (sessions 1 (session0 true t)).session? (req (segment0 2 true false 0) 2) = some (session0 true t)) ∧
    (∀ n ∈ [(1, 59), (2, 60), (3, 61)], ((session0 true none).bytes ++ slice 1 (((segment0 (BitVec.ofNat 8 n.1) true false 0).body.headD 0).toNat)
      (segment0 (BitVec.ofNat 8 n.1) true false 0).body).length = n.2) ∧
    (crc32c (List.replicate 60 0) ≠ ofLe (slice 59 4 (segment0 2 true false 0).body) ∧
      crc32c (List.replicate 60 0) = ofLe (slice 59 4 (segment0 2 true false (crc32c (List.replicate 60 0))).body)) ∧
    (session0 false none).bytes.length ≤ (session0 false none).sent + 58 ∧
    (let b := (initiate0 0 true []).body
     ¬(b.length < 11 ∨ allZero (slice 1 2 b) = false ∨ allZero (b.drop 7) = false) ∧ (1 ≤ 1 ∧ 4 < 5)) := by decide +kernel

/-- Crib 0's window is the first 64 KiB; sequencer 3 fetches the word at its program counter 8. -/
def job0 : JobRun :=
  { id := 1, crib := 0, pc := 8, g := Vector.ofFn fun i => BitVec.ofNat 32 (4 * i.val), a := Vector.replicate 4 8, inc := Vector.replicate 16 0, loops := []
    queues := Vector.replicate 4 [], stop := none, halted := false, outLen := 64, streaming := false, since := 0, limit := 1000 }
def floor (w : Nat) (j : JobRun) : State :=
  let s := sv.p Od.CRIB_GRANARY_SIZE 0 1
  { s with granary := gStore [] 8 (leBytes 4 w), thresh := { s.thresh with seq := s.thresh.seq.set 3 (some j) } }

theorem meets_Fetches : ∀ op ∈ [0x00, 0x01, 0x02, 0x03, 0x04, 0x05, 0x06, 0x07, 0x08, 0x09, 0x0A, 0x0B, 0x0C, 0x0D, 0x0E, 0x10, 0x11, 0x12, 0x13, 0x14, 0x15,
      0x16, 0x18, 0x19, 0x20, 0x21, 0x22, 0x23, 0x24, 0x25, 0x26, 0x28, 0x29, 0x2A, 0x2B, 0x2C, 0x30, 0x31],
    Live (floor (op * 2 ^ 26) job0) ∧ GranaryOk (floor (op * 2 ^ 26) job0) ∧ Fetches (floor (op * 2 ^ 26) job0) 3 op job0 (op * 2 ^ 26) := by
  unfold Live GranaryOk Fetches; decide +kernel

/-- A LOOP's word; the loop of it open, about to turn, about to end. -/
def loopWord (lvl n len : Nat) : Nat := 0x28 * 2 ^ 26 + lvl * 2 ^ 24 + n * 2 ^ 20 + len
def looping (count : Nat) : JobRun := { job0 with loops := [⟨4, 8, count⟩] }

theorem meets_SequencerRegistersAndSequencing :
    (∀ c ∈ ([.add 3, .beq 0, .loop 1, .lcnt 2] : List Instr), (seqOpcode c).isSome = true) ∧ sv.issuing 3 = none ∧
    (fetchAt (floor 0xFFFFFFFF job0) job0 = .word 0xFFFFFFFF ∧ legalWord 0xFFFFFFFF = false ∧ legalWord 0 = true) ∧
    (∀ v ∈ [0, 15], 4 * fieldOf (0x29 * 2 ^ 26 + v % 4 * 2 ^ 22 + v / 4 * 2 ^ 24) 25 24 + fieldOf (0x29 * 2 ^ 26 + v % 4 * 2 ^ 22 + v / 4 * 2 ^ 24) 23 22 = v) ∧
    (let w := loopWord 0 1 4095
     w % 4096 ≠ 0 ∧ (job0.reg (fieldOf w 23 20)).toNat ≠ 0 ∧ fieldOf w 25 24 = job0.loops.length ∧ fieldOf (loopWord 3 1 1) 25 24 ≠ job0.loops.length ∧
      (job0.reg (fieldOf (loopWord 0 0 1) 23 20)).toNat = 0 ∧ loopWord 0 1 0 % 4096 = 0) ∧
    ((looping 2).loops = [⟨4, 8, 2⟩] ∧ (8 : Nat) = (looping 2).pc ∧ 1 < 2 ∧ job0.loops = [] ∧ (looping 2).loops.head?.elim false (fun l => decide (l.stop < 8 + 4)) = true) := by
  decide +kernel

/-- A PUSH of a COPY in queue 0 at address 64, and the command it builds; the queues full; a job waiting for a sequencer. -/
def copyWords : List Nat := [0x0101, 16, 256, 512, 0, 0, 0, 0]
def copyCmd : EngCmd := { num := 0, words := copyWords, push := 8, held := false, engine := none, begun := 0, landing := 0 }
def pushing (j : JobRun) : State := let s := floor (0x30 * 2 ^ 26) j
  { s with granary := gStore s.granary 64 (copyWords.flatMap fun w => leBytes 4 w) }
def jobData : List Byte := asciiBytes "KJOB" ++ leBytes 2 1
def jobCtx (len : Nat) : Ctx := { ctx0 0 0 with op := .job len true (some jobData) }
def assigning (len : Nat) : State :=
  let s := ((sv.p Od.CRIB_GRANARY_SIZE 0 1).p Od.CRIB_STATE 0 1).p Od.CRIB_SEQ_MAX 0 1
  { s with host := { s.host with ctxs := [jobCtx len] } }

theorem meets_SequencerMemoryAndJobs :
    (let s := floor (0x18 * 2 ^ 26) job0
     inWindow s 0 65532 4 = true ∧ inWindow s 0 65533 4 = false ∧ s.poisoned 0 4 = false ∧
      ({ s with mem := { s.mem with poison := [(8191, ())] } } : State).poisoned 65532 4 = true ∧ memAddr job0 (0x18 * 2 ^ 26) % 4 = 0 ∧
      inWindow s 0 65504 32 = true ∧ inWindow s 0 65505 32 = false) ∧
    (pushCheck (pushing job0) job0 (pushBuild (pushing job0) job0 64 0) = none ∧ (pushCheck (pushing job0) job0 (pushBuild (pushing job0) job0 128 0)).isSome = true ∧
      (0 : Fin 4).val = fieldOf (0x30 * 2 ^ 26) 25 24 ∧ (List.replicate 16 copyCmd).length = 16 ∧ (job0.queues[(0 : Fin 4)]).length < 16) ∧
    ({ job0 with queues := job0.queues.set 0 [copyCmd] } : JobRun).drained = false ∧ job0.drained = true ∧
    (fetchAt (floor 0 job0) { job0 with pc := 65536 } = .outside ∧
      (let s := floor 0 job0
       fetchAt { s with mem := { s.mem with poison := [(1, ())] } } job0 = .poison)) ∧
    (sv.thresh.seq[(3 : Fin 4)] = none ∧ job0.stop = none) := by decide +kernel

theorem meets_SequencerMemoryAndJobs_assign :
    (sv.host.ctxs = [] ∧ (assigning 128).admin.sanitize.state ≠ 2 ∧ (assigning 128).thresh.seq[(0 : Fin 4)] = none ∧ (assigning 128).dev = .serving) ∧
    (∀ n ∈ [128, 129],
      (let s := assigning n
       let ready := s.host.ctxs.filter fun x => x.jobWaits && x.wants == 0 && s.g Od.CRIB_STATE x.crib == 1
       ready = [jobCtx n] ∧ (drrPick s s.thresh.turn (ready.map fun x => (2, x.crib))).1 = some (2, 0) ∧ ready.find? (fun x => x.crib == 0) = some (jobCtx n) ∧
        (jobCheck s (jobCtx n) n true (padTo (max 128 (min n 1048576)) jobData) false = none ↔ n = 128))) := by decide +kernel

/-- A command at the head of sequencer 3's queue 3; and a command of the host whose transfer fails. -/
def heading (c : EngCmd) : State := floor 0 { job0 with queues := job0.queues.set 3 [c] }
def cmdOf (w0 : Nat) (engine : Option Nat) : EngCmd := { copyCmd with words := [w0, 16, 256, 512, 0, 0, 0, 0], engine := engine }
def onDom (s : State) : State := (List.finRange 21).foldl (fun s d => setDom s d .on) s

theorem meets_EngineCommands :
    (∀ c ∈ ([.copy 3 3, .toHost 3 3, .fieldMul 0 0, .shaInit 1 1, .gcmEnc 2 2, .vectorAdd 3 0] : List Instr), (engineOp c).isSome = true) ∧
    (Live (heading copyCmd) ∧ GranaryOk (heading copyCmd) ∧ (heading copyCmd).headCmd 3 0 = none ∧ ((heading copyCmd).headCmd 3 3).map (·.2) = some copyCmd) ∧
    (copyCmd.engine = none ∧ copyCmd.cls = 1 ∧ copyCmd.op = 1 ∧ (cmdOf 0x0301 none).op = 3 ∧ (cmdOf 0x0401 none).op = 4 ∧ (cmdOf 0x0101 (some 0)).engine.isSome = true) ∧
    ((onDom (heading copyCmd)).pwr.dom[clusterOf 1] = .on ∧ landingRoom (heading copyCmd) (cmdOf 0x0301 none) = false ∧
      landingRoom ((heading copyCmd).p Od.HAYLOFT_LAND 0 16) (cmdOf 0x0301 none) = true) ∧
    (poisonedWords (heading copyCmd) copyCmd = [] ∧ cmdWrites (heading copyCmd).granary [] [] copyCmd = [(256, List.replicate 16 0)]) ∧
    (let s : State := { heading copyCmd with host := { sv.host with ctxs := [{ jobCtx 128 with started := true }] } }
     (s.host.ctxs.find? fun x => x.queue == .sq 0 1 && x.cid == 1) = some { jobCtx 128 with started := true } ∧
      (s.host.ctxs.find? fun x => x.queue == .sq 0 1 && x.cid == 2) = none ∧ opJob (jobCtx 128).op = true ∧ (ctx0 0 0).started = false ∧
      ((List.finRange 4).find? fun sq => (s.thresh.seq[sq]).elim false fun j => j.id == 1) = some 3) := by unfold Live GranaryOk; decide +kernel

theorem meets_WhatTheEnginesCompute :
    (∀ n ∈ [(0x0101, 1, 1), (0x0201, 1, 2), (0x0202, 2, 2), (0x0102, 2, 1), (0x0103, 3, 1), (0x0603, 3, 6), (0x0204, 4, 2), (0x0105, 5, 1), (0x0905, 5, 9), (0x1005, 5, 16), (0x1205, 5, 18)],
      (cmdOf n.1 none).cls = n.2.1 ∧ (cmdOf n.1 none).op = n.2.2) ∧
    (let c := cmdOf 0x0101 none
     c.w 3 + c.w 1 ≤ c.w 2 ∨ c.w 2 + c.w 1 ≤ c.w 3 ∨ c.w 3 = c.w 2) ∧ (List.replicate 32 (0 : Byte)).length = 32 ∧ [[], [(1 : Byte)]].flatten.length < 2 ^ 61 ∧
    ((cmdOf 0x0105 none).lane ≤ (cmdOf 0x0105 none).stride ∧ (cmdOf 0x30105 none).lane = 8 ∧ (cmdOf 0x80105 none).scalar = true ∧ (cmdOf 0x40105 none).signed = true) ∧
    (laneAt [] (cmdOf 0x1205 none) 512 0 = laneB [] (cmdOf 0x1205 none) 0 ∧ laneAt [(512, 1)] (cmdOf 0x81205 none) 512 0 ≠ laneB [(512, 1)] (cmdOf 0x81205 none) 0) := by
  decide +kernel

/-- The states of the witnesses above are of a device that has power and whose parts the test port has left alone, save those that are about
the test port and the supplies. -/
theorem witnesses_live : ∀ s ∈ [sv, held, tenants, ringed, boxed, stopped, later, failing, failed, resuming, up, sleepy, noRef, railed, delayed, delayedFull,
    ported, fullPort, sending, awaiting, echoing, metered, minuteOver, synced, retiring, dirtied, keyed, drv, focusing, eqDue, receiving, family, unprotected,
    loading, focused, pullReady, writeReady, slipping, retraining, resetting], s.scan.lost = 0 ∧ s.dev ≠ .off := by decide +kernel

theorem witnesses_live_motion : ∀ s ∈ [limited15, homing15, moving, bridged, picking, stepping, orphaned 1, offered true none, raking 1, rakeRuns (rake0 3), writing 0 1, fresh, half,
    full, gone, openZones 8, posted, readyDrive, queued, idleIn 3, adm, sanitizing 2 true, wired conn0, aborting true, kept 4 [], spaced ns0, operating 3, nineNs,
    port1, pausedPort, xoffPort 1025, connUp 12 false, opened unbound, fetchingData, bindable, bindableIo 0, resettingCrib], s.scan.lost = 0 ∧ s.dev ≠ .off := by
  decide +kernel

theorem witnesses_live_rest : ∀ s ∈ [rom 0 1, booting .parts, booting .ready, undeclared .starting, released, fwLoad 3 0, inState .held 32, drainFor .hold true, drainLater,
    committing 3, pended 7 false, storing, buses, sessions 8 (session0 true none), floor 0 job0, pushing job0, assigning 128, heading copyCmd],
    s.scan.lost = 0 ∧ s.dev ≠ .off := by decide +kernel

theorem live_of {s : State} (h : s.scan.lost = 0 ∧ s.dev ≠ .off) : Live s ∧ (∀ n, LiveFe s n) ∧ ∀ i, LiveStage s i := by
  have hz : ∀ i, s.scan.lost.getLsbD i = false := by intro i; rw [h.1]; simp
  exact ⟨⟨hz 0, h.2⟩, fun n => ⟨⟨hz 0, h.2⟩, hz _⟩, fun i => ⟨⟨hz 0, h.2⟩, hz _⟩⟩

/-- The first 252 bytes of the header of a firmware image of release 2.4.0 whose body is one zero byte (R112). -/
def imgHead : List Byte := asciiBytes "KFWI" ++ leBytes 4 0x02040000 ++ leBytes 4 1 ++ leBytes 2 0 ++ leBytes 2 0x0204 ++ leBytes 4 1 ++
  sha384 [0] ++ List.replicate 184 0

/-- A flash slot that holds it. -/
def img : FlashSlot := ⟨imgHead ++ (leBytes 4 (crc32c imgHead) ++ (List.replicate 256 0 ++ [0])), false⟩

theorem imgHead_length : imgHead.length = 252 := by decide +kernel

theorem ofLe_leBytes4 (v : Nat) (h : v < 2 ^ 32) : ofLe (leBytes 4 v) = v := by
  simp only [leBytes, ofLe, BitVec.toNat_ofNat]; omega

theorem field_at (a b c : List Byte) (t : Bool) (m n : Nat) (ha : a.length = m) (hb : b.length = n) :
    FlashSlot.field ⟨a ++ (b ++ c), t⟩ m n = b := by
  simp [FlashSlot.field, slice, List.drop_left' ha, List.take_left' hb, hb]

theorem header_at (h c r : List Byte) (t : Bool) (hh : h.length = 252) (hc : c.length = 4) :
    FlashSlot.field ⟨h ++ (c ++ r), t⟩ 0 252 = h ∧ FlashSlot.field ⟨h ++ (c ++ r), t⟩ 252 4 = c :=
  ⟨by simpa using field_at [] h (c ++ r) t 0 252 rfl hh, field_at h c r t 252 4 hh hc⟩

theorem leBytes_four (v : Nat) : (leBytes 4 v).length = 4 := rfl

theorem img_header : img.field 0 252 = imgHead ∧ img.field 252 4 = leBytes 4 (crc32c imgHead) :=
  header_at imgHead _ _ false imgHead_length (leBytes_four _)

theorem img_fields : img.field 0 4 = asciiBytes "KFWI" ∧ img.bodyLen = 1 ∧ img.secVer = 0 := by decide +kernel

theorem img_body : sha384 (img.field 512 1) = img.bodySha := by decide +kernel

/-- A slot that passes every check of R113, given that the unit's key verifies its signature: the hypothesis of the last clause on
FW_CHECK_DONE is met where Config.signatureVerifies, which has no body, says so. -/
theorem meets_FirmwareCheckPasses
    (h : Config.signatureVerifies (sha384 imgHead) (img.field 256 96) = true) : img.check 0 false = 0 := by
  obtain ⟨h1, h3, h4⟩ := img_fields
  have h2 : crc32c imgHead = ofLe (leBytes 4 (crc32c imgHead)) :=
    (ofLe_leBytes4 _ (BitVec.isLt _)).symm
  have h5 : img.torn = false := rfl
  simp [FlashSlot.check, h1, img_header.1, img_header.2, ← h2, h3, h4, h, img_body, h5]

end Sys2Proof.Tests
end

section
/-! SUPPORT. The laws of steps that all commands share: the invariant of every step, the interlock inputs, the power-fail sequence and
start-up. -/

namespace Sys2Proof.Machine

/-! ### What a live block answers in the two frames -/

theorem keep_self (s : State) : keep s s = s := keep_eq rfl rfl rfl rfl rfl

/-- An ordinary command whose effect is `t`. -/
theorem act_eq {s t : State} {f : State → State} (h : Live s) (hf : f s = t) : act s f = .next (keep s t) := by
  rw [act_live h, hf]

/-- An ordinary command whose effect reaches nothing that the frame keeps. -/
theorem act_eq_of_keep {s t : State} {f : State → State} (h : Live s) (hf : f s = t) (ht : keep s t = t) : act s f = .next t := by
  rw [act_eq h hf, ht]

/-- An ordinary command that has nothing to do. -/
theorem act_eq_self {s : State} {f : State → State} (h : Live s) (hf : f s = s) : act s f = .next s :=
  act_eq_of_keep h hf (keep_self s)

/-- A command in the frame of start-up whose effect is `t`. -/
theorem actAll_eq {s t : State} {f : State → State} (h : Live s) (hf : f s = t) : actAll s f = .next (settleAll s t) := by
  rw [actAll_live h, hf]

/-- A command in that frame that has nothing to do. -/
theorem actAll_eq_self {s : State} {f : State → State} (h : Live s) (hf : f s = s) : actAll s f = .next (settleAll s s) :=
  actAll_eq h hf

@[simp] theorem g_settleAll (s t : State) (o : Ob) (e : Nat) : (settleAll s t).g o e = t.g o e := rfl

/-- Outputs that are all low stay so in the frame of start-up. -/
theorem pins_settleAll {s t : State} (h : t.pins = ⟨0, 0, 0, 0⟩) : (settleAll s t).pins = ⟨0, 0, 0, 0⟩ := by
  simp only [settleAll, enablesIn, h]
  split <;> rfl

theorem outputsSafe_of_pins {s : State} (h : s.pins = ⟨0, 0, 0, 0⟩) : OutputsSafe s := by
  simp [OutputsSafe, h]

/-! ### The Granary's canonical form and the enables (R20, R107, R108, R126) -/

/-- While the device drives no output, the frame of an ordinary command lets an enable that is low stay low. -/
theorem outputsSafe_keep {s t : State} (hd : s.dev.driven = false) (h : OutputsSafe s) : OutputsSafe (keep s t) := by
  obtain ⟨hl, hb⟩ := h
  simp [OutputsSafe, keep, enablesFrom, hd, hl, hb]

theorem enablesOk_keep {s : State} (t : State) (h : EnablesOk s) : EnablesOk (keep s t) :=
  fun hd => outputsSafe_keep hd (h hd)

theorem inv_keep {s : State} (t : State) (h : Inv s) : Inv (keep s t) := ⟨h.1, enablesOk_keep t h.2⟩

theorem inv_keepG {s : State} (t : State) (h : Inv s) : Inv (keepG s t) := ⟨canonical_tidy _, enablesOk_keep t h.2⟩

/-- A device state that drives no output has its enables low in the frame of start-up, the dictionary and the population. -/
theorem outputsSafe_settleAll (s : State) {t : State} (hd : t.dev.driven = false) : OutputsSafe (settleAll s t) := by
  simp [OutputsSafe, settleAll, enablesIn, hd]

/-- That frame puts back both parts of the invariant, whatever state it is given. -/
theorem inv_settleAll (s t : State) : Inv (settleAll s t) := ⟨canonical_tidy _, fun hd => outputsSafe_settleAll s hd⟩

theorem inv_reached {c : Instr} {s t : State} (h : Inv s) (hr : Reached c s t) : Inv t := by
  obtain rfl | ⟨u, rfl | ⟨-, rfl⟩ | ⟨-, rfl⟩⟩ := hr
  · exact h
  · exact inv_keep u h
  · exact inv_keepG u h
  · exact inv_settleAll s u

theorem inv_idle {s : State} (h : Inv s) : Inv (idle s) := by
  unfold idle
  split
  · exact h
  · exact inv_keep _ h

/-- Settles O4: an idle step stands in the frame of an ordinary command, and a command answers with one of the four kinds of state of
`exec_reached`, each of which keeps the invariant. The canonical form of the Granary and the gate on the enables are the model's choice
(assumption logs 10 and 11). -/
theorem everyStepKeepsTheInvariant : Obligations.EveryStepKeepsTheInvariant := by
  intro s t h hstep
  unfold step at hstep
  split at hstep
  · cases hstep
    exact inv_idle h
  · next c rest _ =>
      have hrest : Inv { s with pending := rest } := h
      exact inv_reached hrest (exec_reached hstep)

/-! ### The interlocks (R40 to R46) -/

/-- An acknowledgement that meets ESTOP's condition clears both latches it may, and media work goes on. -/
theorem interlockAck_estop {s : State} {v : Nat}
    (ha : (v.testBit 8 && s.lock.estopHigh && decide (s.lock.estopSince + 10000000 ≤ s.now)) = true) :
    interlockAck s v = resumeWork
      (let l := s.pb Od.INTERLOCK_STATE 0 8 false
       if v.testBit 9 && s.lock.doorClosed then l.pb Od.INTERLOCK_STATE 0 9 false else l) := by
  simp only [interlockAck, ha, if_true]

/-- One that does not can clear DOOR's latch alone. -/
theorem interlockAck_no_estop {s : State} {v : Nat}
    (ha : (v.testBit 8 && s.lock.estopHigh && decide (s.lock.estopSince + 10000000 ≤ s.now)) = false) :
    interlockAck s v = if v.testBit 9 && s.lock.doorClosed then s.pb Od.INTERLOCK_STATE 0 9 false else s := by
  simp only [interlockAck, ha, Bool.false_eq_true, if_false]

/-- Settles O12: the two accepted levels of each input, then the acknowledgement with and without ESTOP's condition. Which stopped moves
go on after it is the model's choice (assumption logs 17 and 18). -/
theorem interlocksLatchAndRelease : Obligations.InterlocksLatchAndRelease := by
  refine ⟨fun s h hs => ?estopLow, fun s h hs => ⟨?estopLowAgain, ?estopHigh⟩, fun s h hs => ?estopHighAgain,
    fun s h hs => ?doorLow, fun s h hs => ?doorLowAgain, fun s h => ?doorHigh, fun s who v h hw => ⟨fun ha => ?ack, fun ha => ?ackDoor⟩⟩
  case estopLow =>
    rw [exec_estopNLow, execEstopNLow]
    exact act_eq h (if_neg (by simp [hs]))
  case estopLowAgain =>
    rw [exec_estopNLow, execEstopNLow]
    exact act_eq_self h (if_pos hs)
  case estopHigh =>
    rw [exec_estopNHigh, execEstopNHigh]
    exact act_eq_of_keep h (if_neg (by simp [hs])) (keep_eq rfl rfl rfl rfl rfl)
  case estopHighAgain =>
    rw [exec_estopNHigh, execEstopNHigh]
    exact act_eq_self h (if_pos hs)
  case doorLow =>
    rw [exec_doorClosedLow, execDoorClosedLow]
    exact act_eq h (if_neg (by simp [hs]))
  case doorLowAgain =>
    rw [exec_doorClosedLow, execDoorClosedLow]
    exact act_eq_self h (if_pos hs)
  case doorHigh =>
    rw [exec_doorClosedHigh, execDoorClosedHigh]
    exact act_eq_of_keep h rfl (keep_eq rfl rfl rfl rfl rfl)
  case ack =>
    rw [exec_interlockAck, execInterlockAck, actWrite_live h hw, interlockAck_estop ha]
  case ackDoor =>
    rw [exec_interlockAck, execInterlockAck, actWrite_live h hw, interlockAck_no_estop ha]
    split <;> exact congrArg _ (keep_eq rfl rfl rfl rfl rfl)

/-! ### The power-fail sequence (R685 to R688) -/

/-- Settles O13: PFW_N accepted low with and without a sequence that has not ended, high with step 9 ended or not, and the end of
step 9. The end of a storing commit, the journalling and a resume withdrawn by a new low level are the model's choice (assumption logs
18 and 42). -/
theorem powerFailSequenceRunsAndResumes : Obligations.PowerFailSequenceRunsAndResumes := by
  refine ⟨fun s h hs => ⟨fun hp => ?lowAgain, fun hp => ?low⟩, fun s h hs => ⟨?lowStays, fun hp => ?highResumes, fun hp => ?highWaits⟩,
    fun s h hs => ?highStays, fun s h hp => ⟨?ended, fun hr => ?endWaits, fun hr => ?endResumes⟩, fun s h hp => ?noEnd⟩
  case lowAgain =>
    rw [exec_pfwNLow, execPfwNLow]
    exact act_eq_of_keep h ((if_neg (by simp [hs])).trans (if_pos hp)) (keep_eq rfl rfl rfl rfl rfl)
  case low =>
    rw [exec_pfwNLow, execPfwNLow]
    exact act_eq h ((if_neg (by simp [hs])).trans (if_neg (not_not_intro hp)))
  case lowStays =>
    rw [exec_pfwNLow, execPfwNLow]
    exact act_eq_self h (if_pos hs)
  case highResumes =>
    rw [exec_pfwNHigh, execPfwNHigh]
    exact act_eq h ((if_neg (by simp [hs])).trans (if_pos hp))
  case highWaits =>
    rw [exec_pfwNHigh, execPfwNHigh]
    exact act_eq_of_keep h ((if_neg (by simp [hs])).trans (if_neg hp)) (keep_eq rfl rfl rfl rfl rfl)
  case highStays =>
    rw [exec_pfwNHigh, execPfwNHigh]
    exact act_eq_self h (if_pos hs)
  case ended => rw [State.g_p_ne _ _ (by decide)]; exact State.g_p_self ..
  case endWaits =>
    rw [exec_pfSequenceEnd, execPfSequenceEnd]
    exact act_eq_of_keep h ((if_neg (not_not_intro hp)).trans (if_neg (by simp [hr]))) (keep_eq rfl rfl rfl rfl rfl)
  case endResumes =>
    rw [exec_pfSequenceEnd, execPfSequenceEnd]
    exact act_eq h ((if_neg (not_not_intro hp)).trans (if_pos hr))
  case noEnd =>
    rw [exec_pfSequenceEnd, execPfSequenceEnd]
    exact act_eq_self h (if_pos hp)

/-! ### What a start stands on: what records, counts, events and the serial ports leave of a state

A start is decided by few fields: the device state, the phase of Booting, the outputs and parts, the flash, the Granary and the commands
of the hosts. `State.footing` gathers them, so that what leaves them all is one equation of each operation. -/

/-- The fields by which the stages of a start are told. -/
structure Footing where
  dev : Device
  flash : Vector FlashSlot 2
  granary : List Host.Cell
  pins : Outputs
  parts : Parts
  ctxs : List Ctx
  waiting : List Waiting
  phase : BootPhase
  crs : Bool

/-- Those fields of a state. -/
def State.footing (s : State) : Footing :=
  ⟨s.dev, s.flash, s.granary, s.pins, s.parts, s.host.ctxs, s.host.waiting, s.boot.phase, s.boot.crs⟩

/-- Proved field by field: as a `rfl` of whole states it would have the kernel compare the objects that were written. -/
@[simp] theorem footing_p (s : State) (o : Ob) (e v : Nat) : (s.p o e v).footing = s.footing := by simp [State.footing]
@[simp] theorem footing_pb (s : State) (o : Ob) (e i : Nat) (b : Bool) : (s.pb o e i b).footing = s.footing := footing_p s o e _
@[simp] theorem footing_inc (s : State) (o : Ob) (e : Nat) : (s.inc o e).footing = s.footing := footing_p s o e _
@[simp] theorem footing_setBlob (s : State) (o : Ob) (e : Nat) (v : List Byte) : (s.setBlob o e v).footing = s.footing := by
  simp [State.footing]
@[simp] theorem footing_emit (s : State) (x : Output) : (s.emit x).footing = s.footing := by simp [State.footing]
@[simp] theorem footing_setDisc (s : State) (n : Drive) (x : Option DiscInfo) : (s.setDisc n x).footing = s.footing := by
  simp [State.footing, State.setDisc]
@[simp] theorem footing_setLedger (s : State) (f : LedgerSt → LedgerSt) : (s.setLedger f).footing = s.footing := by
  simp [State.footing, State.setLedger]
@[simp] theorem footing_setSerial (s : State) (p : Fin 4) (f : SerialPort → SerialPort) : (s.setSerial p f).footing = s.footing := by
  simp [State.footing, State.setSerial]
@[simp] theorem footing_setCtl (s : State) (c : Crib) (f : NvmeCtl → NvmeCtl) : (s.setCtl c f).footing = s.footing := by
  simp [State.footing, State.setCtl]

theorem footing_each {α : Type} (l : List α) {f : State → α → State} (hf : ∀ u x, (f u x).footing = u.footing) (s : State) :
    (s.each l f).footing = s.footing :=
  each_rel (R := fun u v => v.footing = u.footing) (fun _ => rfl) (fun h k => k.trans h) l f (fun u x _ => hf u x) s

theorem dev_of_footing {s t : State} (h : t.footing = s.footing) : t.dev = s.dev := congrArg Footing.dev h

theorem EventsOnly.footing_eq {s t : State} (h : EventsOnly s t) : t.footing = s.footing := by rw [h]; rfl

theorem footing_raise (s : State) {e : Nat} (d0 : Nat) (he : e < 4096) : (raise s e d0).footing = s.footing :=
  (evtReach_raise s d0 (he := he)).only.footing_eq

@[simp] theorem footing_violation (s : State) (partner crib wher node code : Nat) (detail : List Byte) :
    (violation s partner crib wher node code detail).footing = s.footing :=
  (evtReach_violation s partner crib wher node code detail).only.footing_eq

/-! #### The Chest and the ledger -/

theorem footing_chestKeep (s : State) (region pos : Nat) : (s.chestKeep region pos).footing = s.footing := by
  unfold State.chestKeep
  split
  · rfl
  · split <;> rfl

theorem footing_chestMade (s : State) (region pos : Nat) : (s.chestMade region pos).footing = s.footing := by
  refine Eq.trans ?_ (footing_chestKeep s region pos)
  unfold State.chestMade
  dsimp only
  split <;> rfl

@[simp] theorem footing_chestWrite (s : State) (region pos : Nat) : (s.chestWrite region pos).footing = s.footing := by
  unfold State.chestWrite State.chestPut
  split
  · rfl
  · split
    · exact footing_chestMade s region pos
    · rfl

@[simp] theorem footing_setAcct (s : State) (c : Nat) (f : Account → Account) : (setAcct s c f).footing = s.footing := by
  unfold setAcct
  split <;> rfl

@[simp] theorem footing_ledgerState (s : State) (v : Nat) : (ledgerState s v).footing = s.footing := by
  unfold ledgerState
  split
  · rfl
  · simp [footing_raise, Src.ledgerOverflow]

@[simp] theorem footing_ledgerRoom (s : State) : (ledgerRoom s).footing = s.footing := by
  unfold ledgerRoom
  dsimp only
  split
  · split
    · simp
    · simp [footing_raise, Src.ledgerLow]
  · split <;> simp

@[simp] theorem footing_ledgerWrite (s : State) (kind acct flags : Nat) (a b : List Byte) :
    (ledgerWrite s kind acct flags a b).footing = s.footing := by
  simp [ledgerWrite]

@[simp] theorem footing_gapRecord (s : State) (from_ upto reason : Nat) : (gapRecord s from_ upto reason).footing = s.footing := by
  unfold gapRecord
  split <;> simp

theorem footing_tariffApply (s : State) (start : Nat) : (tariffApply s start).footing = s.footing := by
  unfold tariffApply
  split
  · rfl
  · split
    · rfl
    · simp [footing_raise, Src.tariffApplied, footing_each]

@[simp] theorem footing_openAll (s : State) (t : Nat) : (openAll s t).footing = s.footing := by
  unfold openAll openMinutes
  exact (footing_each _ (by simp) _).trans (footing_tariffApply _ _)

@[simp] theorem footing_ledgerStart (s : State) (reason : Nat) : (ledgerStart s reason).footing = s.footing := by
  simp [ledgerStart, ledgerOn]

theorem footing_ledgerTorn (s : State) (torn : List Nat) : (ledgerTorn s torn).footing = s.footing :=
  footing_each _ (fun u pos => by simp [footing_raise, Src.ledgerLost]) s

/-! #### The serial ports, the network ports and the controllers -/

theorem footing_nodeState (s : State) (p n v : Nat) : (nodeState s p n v).footing = s.footing := by
  unfold nodeState
  dsimp only
  split <;> simp [footing_raise, Src.trayNode]

theorem footing_nodeOutcome (s : State) (p n st : Nat) : (nodeOutcome s p n st).footing = s.footing := by
  unfold nodeOutcome
  dsimp only
  split
  · exact footing_nodeState _ _ _ _
  · split
    · split
      · exact footing_nodeState _ _ _ _
      · rfl
    · rfl

@[simp] theorem footing_frameEnd (s : State) (p : Fin 4) (st : Nat) : (frameEnd s p st).footing = s.footing := by
  unfold frameEnd
  split
  · rfl
  · dsimp only
    rw [apply_ite State.footing, footing_nodeOutcome, ite_self]
    split
    · simp
    · split <;> simp [footing_raise, Src.spError]

@[simp] theorem footing_spNext (s : State) (p : Fin 4) : (spNext s p).footing = s.footing := by
  unfold spNext
  split
  · rfl
  · dsimp only
    split
    · split <;> rfl
    · split
      · rfl
      · split
        · rfl
        · split <;> simp [footing_raise, Src.spTx]

@[simp] theorem footing_txAbort (s : State) (p : Fin 4) : (txAbort s p).footing = s.footing := by
  unfold txAbort
  dsimp only
  split <;> simp [footing_raise, Src.spError]

@[simp] theorem footing_rxAbort (s : State) (p : Fin 4) (busy : Bool) : (rxAbort s p busy).footing = s.footing := by
  unfold rxAbort
  dsimp only
  split <;> simp [footing_raise, Src.spError]

theorem footing_serialApply (s : State) (p : Fin 4) (rxBusy sizeChanged : Bool) :
    (serialApply s p rxBusy sizeChanged).footing = s.footing := by
  unfold serialApply
  dsimp only
  split <;> simp

theorem footing_applySerial (old s : State) (rxBusy : BitVec 4) : (applySerial old s rxBusy).footing = s.footing := by
  refine footing_each _ (fun u p => ?_) s
  dsimp only
  split <;> simp [footing_serialApply]

@[simp] theorem footing_serialStart (s : State) : (serialStart s).footing = s.footing :=
  footing_each _ (by simp) s

theorem footing_ctlReady (s : State) (f : Crib) : (ctlReady s f).footing = s.footing := by
  unfold ctlReady
  dsimp only
  split <;> simp

theorem footing_setMedia (s : State) (n : Drive) (st cause : Nat) : (setMedia s n st cause).footing = s.footing := by
  have hsrc : Src.media n < 4096 := by simp only [Src.media]; omega
  unfold setMedia
  dsimp only
  split <;> simp [footing_raise, hsrc]

theorem footing_placeDrive (s : State) (n : Drive) (anew : Bool) : (placeDrive s n anew).footing = s.footing := by
  unfold placeDrive
  dsimp only
  split <;> simp [footing_setMedia]

/-! ### The device states (R107) -/

theorem Device.code_injective {d e : Device} (h : d.code = e.code) : d = e := by
  cases d <;> cases e <;> simp_all [Device.code]

/-- The device is in the state it enters, whichever it comes from. -/
theorem dev_setDev (s : State) (d : Device) : (setDev s d).dev = d := by
  unfold setDev
  dsimp only
  split
  · next h => exact Device.code_injective h
  · rw [dev_of_footing (footing_raise _ _ (by decide)), State.dev_p]

theorem dev_outputsFor (s : State) : (outputsFor s).dev = s.dev := rfl

/-- What is started is Starting (R110). -/
theorem dev_enterStarting (s : State) (reason : Nat) : (enterStarting s reason).dev = .starting := by
  have hplace (u : State) : (u.each (List.finRange 16) fun s (n : Drive) => placeDrive s n (reason != 3)).footing = u.footing :=
    footing_each _ (fun _ _ => footing_placeDrive _ _ _) u
  have h : (enterStarting s reason).footing = (outputsFor (setDev s .starting)).footing := by simp [enterStarting, hplace]
  rw [dev_of_footing h, dev_outputsFor, dev_setDev]

/-- What a state without a reason to hold and one with a reason enter (R107). -/
theorem dev_startOrHold (s : State) (reason : Nat) (c : Prop) [Decidable c] :
    (if c then enterStarting s reason else outputsFor (setDev s .held)).dev = .starting ∨
      (if c then enterStarting s reason else outputsFor (setDev s .held)).dev = .held := by
  split
  · exact .inl (dev_enterStarting _ _)
  · exact .inr ((dev_outputsFor _).trans (dev_setDev _ _))

/-- Booting ends in Starting or in Held, and in no other state (R109). -/
theorem dev_bootingEnd (s : State) : (bootingEnd s).dev = .starting ∨ (bootingEnd s).dev = .held := by
  have hend (old u : State) : ((applySerial old u 0).each (List.finRange 33) ctlReady).footing = u.footing :=
    (footing_each _ footing_ctlReady _).trans (footing_applySerial old u 0)
  unfold bootingEnd
  extract_lets
  rw [dev_of_footing (hend _ _)]
  exact dev_startOrHold _ _ _

/-! ### The boot ROM and a Cold start (R107, R108, R114, R115) -/

theorem footing_romCheck (s : State) : (romCheck s).footing = s.footing := by
  refine footing_each _ (fun u k => ?_) s
  dsimp only
  rw [footing_p]
  split
  · exact footing_chestWrite _ _ _
  · rfl

/-- A start that goes on from step 2: the ROM's phase, every output low, no part up (R108, R115). -/
theorem footing_romStart (s : State) : (romStart s true).footing =
    { s.footing with pins := ⟨0, 0, 0, 0⟩, parts := ⟨0, 0⟩, phase := .rom, crs := true } := by
  unfold romStart
  -- s2: no identity seen; s3: parts back in reset; s4: slots checked (the rest: records that s3 copies from)
  extract_lets s1 s2 _ _ _ _ _ s3 s4
  have h2 : s2.footing = s.footing := (footing_each _ (by simp) s1).trans (footing_each _ (by simp) s)
  clear_value s2
  have h3 : s3.footing = { s2.footing with pins := ⟨0, 0, 0, 0⟩, parts := ⟨0, 0⟩, phase := .rom, crs := true } := rfl
  have h4 : s4.footing = s3.footing := footing_romCheck s3
  split
  · have h5 : ({ s4 with boot := { s4.boot with crs := true } } : State).footing = { s4.footing with crs := true } := rfl
    rw [h5, h4, h3, h2]
  · rw [h4, h3, h2]

theorem footing_keysAnew (s : State) : (keysAnew s).footing = s.footing := footing_each _ (by simp) s

/-- A Cold start: Booting in the ROM's phase with nothing queued, and the flash as what was reprogrammed leaves it (R107, R139). -/
theorem footing_coldStart (s : State) (flash : List (Fin 2 × List Byte)) (torn : List Nat) (lifeTorn : Bool) :
    (coldStart s flash torn lifeTorn).footing =
      ⟨.booting, flash.foldl (fun v p => v.set p.1 ⟨p.2, false⟩) s.flash, [], ⟨0, 0, 0, 0⟩, ⟨0, 0⟩, [], [], .rom, true⟩ := by
  unfold coldStart
  -- s1: the reset state with what is kept laid over it; s2 to s5: objects that follow from that
  extract_lets old z _ _ _ _ _ _ _ _ _ _ s1 s2 s3 s4 s5
  have hold : old.flash = s.flash := congrArg Footing.flash (footing_keysAnew s)
  have h1 : s1.footing =
      ⟨.booting, flash.foldl (fun v p => v.set p.1 ⟨p.2, false⟩) old.flash, [], z.pins, z.parts, [], [], .rom, true⟩ := rfl
  have h3 : s3.footing = s1.footing := (footing_each _ (by simp) s2).trans (by simp [s2])
  have h5 : s5.footing = s1.footing := by
    rw [← h3]
    exact (by simp [s5] : s5.footing = s4.footing).trans (footing_each _ (by simp) s3)
  rw [footing_romStart, footing_ledgerTorn, h5, h1, hold]

/-- Flash slots that are not reprogrammed are as before. -/
theorem reprogrammed_get_ne (flash : List (Fin 2 × List Byte)) (v : Vector FlashSlot 2) {k : Fin 2} (h : ∀ p ∈ flash, p.1 ≠ k) :
    (flash.foldl (fun v p => v.set p.1 ⟨p.2, false⟩) v)[k] = v[k] := by
  induction flash generalizing v with
  | nil => rfl
  | cons p t ih =>
    have hp : p.1.val ≠ k.val := fun hk => h p (by simp) (Fin.ext hk)
    rw [List.foldl_cons, ih _ fun q hq => h q (by simp [hq])]
    exact Vector.getElem_set_ne _ _ hp

/-- The slot the boot ROM starts is VALID, and no VALID slot is newer (R114). -/
theorem bootSlot_newest {s : State} {k : Fin 2} (h : bootSlot s = some k) :
    s.g Od.FW_SLOT_CHECK k = 0 ∧ ∀ j : Fin 2, s.g Od.FW_SLOT_CHECK j = 0 → (s.flash[j]).imageSeq ≤ (s.flash[k]).imageSeq := by
  simp only [bootSlot, beq_iff_eq, Bool.and_eq_true, decide_eq_true_eq] at h
  rw [Fin.forall_fin_two]
  split at h
  · next h0 =>
    split at h <;> cases h
    · next h1 => exact ⟨h1.1, fun _ => h1.2.le, fun _ => le_rfl⟩
    · next h1 => exact ⟨h0, fun _ => le_rfl, fun hj => not_lt.1 fun hlt => h1 ⟨hj, hlt⟩⟩
  · next h0 =>
    split at h <;> cases h
    next h1 => exact ⟨h1, fun hj => absurd hj h0, fun _ => le_rfl⟩

/-! ### Power, Booting, Starting, identities and the reference clock -/

/-- A loss of logic power leads to Off, with every part in reset and every output low (R107, R108). -/
theorem exec_logicPowerLoss_off (s : State) : ∃ t, exec .logicPowerLoss s = .next t ∧ t.dev = .off ∧ OutputsSafe t ∧ t.pins.feRst = 0 ∧
    t.pins.stgRst = 0 ∧ t.parts.feUp = 0 ∧ t.parts.stageUp = 0 ∧ t.g Od.DEVICE_STATE = 0 ∧ t.pending = s.pending := by
  rw [exec_logicPowerLoss, execLogicPowerLoss]
  generalize State.each s _ _ = v
  refine ⟨_, rfl, rfl, outputsSafe_settleAll s rfl, rfl, rfl, rfl, rfl, ?_, rfl⟩
  rw [g_settleAll, State.g_p_self]; rfl

/-- Logic power leads to Booting in the ROM's phase, with the outputs low and nothing queued by it (R107, R108, R139). -/
theorem exec_coldStart_rom (s : State) (flash : List (Fin 2 × List Byte)) (torn : List Nat) (lt : Bool) :
    ∃ t, exec (.coldStart flash torn lt) s = .next t ∧ t = settleAll s (coldStart s flash torn lt) ∧ t.dev = .booting ∧
      t.boot.phase = .rom ∧ t.boot.crs = true ∧ OutputsSafe t ∧ t.pins.feRst = 0 ∧ t.pins.stgRst = 0 ∧ t.parts.feUp = 0 ∧
      t.granary = [] ∧ t.host.ctxs = [] ∧ t.host.waiting = [] ∧ (∀ k : Fin 2, (∀ p ∈ flash, p.1 ≠ k) → t.flash[k] = s.flash[k]) := by
  have hu := footing_coldStart s flash torn lt
  rw [exec_coldStart, execColdStart]
  generalize coldStart s flash torn lt = u at hu
  simp only [State.footing, Footing.mk.injEq] at hu
  obtain ⟨hdev, hflash, hgran, hpins, hparts, hctxs, hwait, hphase, hcrs⟩ := hu
  have hp : (settleAll s u).pins = ⟨0, 0, 0, 0⟩ := pins_settleAll hpins
  refine ⟨_, rfl, rfl, hdev, hphase, hcrs, outputsSafe_of_pins hp, congrArg Outputs.feRst hp, congrArg Outputs.stgRst hp,
    congrArg Parts.feUp hparts, ?_, hctxs, hwait, fun k hk => ?_⟩
  · exact (congrArg tidy hgran).trans rfl
  · exact (congrArg (·[k]) hflash).trans (reprogrammed_get_ne flash s.flash hk)

/-- The ROM starts firmware only while Booting is in its phase and a slot is VALID (R114, R116). -/
theorem exec_firmwareStart_idle {s : State} (tr cb : Bool) (h : Live s)
    (hn : s.dev ≠ .booting ∨ s.boot.phase ≠ .rom ∨ bootSlot s = none) :
    exec (.firmwareStart tr cb) s = .next (settleAll s s) := by
  rw [exec_firmwareStart, execFirmwareStart]
  refine actAll_eq_self h ?_
  split
  · rfl
  · next hrom =>
    have hslot : bootSlot s = none := by tauto
    rw [hslot]

/-- It starts the slot that R114 names: that slot's objects, then the configuration. -/
theorem exec_firmwareStart_slot {s : State} (tr cb : Bool) (h : Live s) (hd : s.dev = .booting) (hp : s.boot.phase = .rom) {k : Fin 2}
    (hk : bootSlot s = some k) :
    let f := s.flash[k]
    let u := ((((s.p Od.FW_SLOT_RUNNING 0 k).p Od.FW_RUNNING 0 f.release).p Od.FW_STAGED 0 f.release).p Od.OD_LAYOUT 0 f.layout)
    exec (.firmwareStart tr cb) s = .next (settleAll s (chooseConfig
      ({ u with boot := { u.boot with phase := .parts, crs := false } }.p Od.HOLD_REASON 0
        (s.g Od.HOLD_REASON / 32 * 32 + 16 * b2n cb)) tr)) := by
  intro f u
  have hold : ({ u with boot := { u.boot with phase := .parts, crs := false } } : State).g Od.HOLD_REASON = s.g Od.HOLD_REASON := by
    have hu : u.g Od.HOLD_REASON = s.g Od.HOLD_REASON := by
      simp only [u]
      rw [State.g_p_ne _ _ (by decide), State.g_p_ne _ _ (by decide), State.g_p_ne _ _ (by decide), State.g_p_ne _ _ (by decide)]
    exact hu
  rw [exec_firmwareStart, execFirmwareStart, ← hold]
  refine actAll_eq h ?_
  rw [if_neg (by simp [hd, hp]), hk]

/-- The state in which a start goes on from step 2 (R108, R115). -/
theorem settleAll_romStart (s : State) {u : State} (hd : u.dev = .booting) :
    (settleAll s (romStart u true)).dev = .booting ∧ (settleAll s (romStart u true)).boot.phase = .rom ∧
      (settleAll s (romStart u true)).boot.crs = true ∧ OutputsSafe (settleAll s (romStart u true)) := by
  have hu := footing_romStart u
  generalize romStart u true = v at hu
  simp only [State.footing, Footing.mk.injEq] at hu
  obtain ⟨hdev, -, -, -, -, -, -, hphase, hcrs⟩ := hu
  have hv : v.dev = .booting := hdev.trans hd
  exact ⟨hv, hphase, hcrs, outputsSafe_settleAll s (by rw [hv]; rfl)⟩

/-- The slot that runs is marked, in the Chest as well (R115). -/
def markRunning (s : State) : State :=
  let k : Fin 2 := if s.g Od.FW_SLOT_RUNNING = 0 then 0 else 1
  { s with boot := { s.boot with
    marks := s.boot.marks.set k (some ((s.flash[k]).imageSeq, (s.flash[k]).bodySha)) } }.chestWrite Region.state (Pos.bootMark k)

theorem dev_markRunning (s : State) : (markRunning s).dev = s.dev := by
  unfold markRunning
  extract_lets
  exact dev_of_footing (footing_chestWrite _ _ _)

/-- Firmware that does not end Booting in time has its slot marked, and the start goes on from step 2 (R115). -/
theorem exec_bootTimeout_marks {s : State} (h : Live s) (hd : s.dev = .booting) (hp : s.boot.phase ≠ .rom) :
    exec .bootTimeout s = .next (settleAll s (romStart (markRunning s) true)) := by
  rw [exec_bootTimeout, execBootTimeout]
  exact actAll_eq h (if_neg (by simp [hd, hp]))

theorem allPositioned_iff (s : State) :
    ((List.finRange 20).all fun (a : Axis) => positioned s a) = true ↔ ∀ a : Axis, positioned s a = true := by
  simp

/-- Settles O47, clause by clause: power, the boot ROM, the ends of Booting and of Starting, the parts' identities and the reference. The
form of the Granary, the steps of a start and CLK_STATUS at the return are the model's choice (assumption logs 10, 20, 21, 23, 28
and 96). -/
theorem powerBootAndStart : Obligations.PowerBootAndStart := by
  refine ⟨exec_logicPowerLoss_off, exec_coldStart_rom, fun s tr cb h => ⟨exec_firmwareStart_idle tr cb h, fun hd hp k hk => ?start,
      fun k => bootSlot_newest, fun hn => ?noTimeout, fun hd hp => ?timeout, fun hn => ?noLine, fun hd hp hk => ?line⟩,
    fun s h => ⟨fun hn => ?booting, fun hd hp => ⟨?bootingEnds, dev_bootingEnd s⟩, fun hn => ?starting, fun hd ha => ?startingEnds⟩,
    fun s part w h hl => ⟨fun hr => ?held, fun hr => ⟨fun ha => ?kept, fun ha => ?settled⟩⟩,
    fun s part h => ⟨fun ha => ?noAbsence, fun ha => ?absent⟩, fun s h => ⟨fun hr => ?refThere, fun hr => ?refReturns⟩⟩
  case start => exact exec_firmwareStart_slot tr cb h hd hp hk
  case noTimeout =>
    rw [exec_bootTimeout, execBootTimeout]
    exact actAll_eq_self h (if_pos hn)
  case timeout =>
    obtain ⟨hdev, hphase, hcrs, hout⟩ := settleAll_romStart s ((dev_markRunning s).trans hd)
    exact ⟨_, exec_bootTimeout_marks h hd hp, hdev, hphase, hcrs, hout, rfl⟩
  case noLine =>
    rw [exec_bootNoimgLine, execBootNoimgLine]
    exact act_eq_self h (if_neg hn)
  case line =>
    rw [exec_bootNoimgLine, execBootNoimgLine]
    exact act_eq_of_keep h (if_pos ⟨hd, hp, hk⟩) (keep_eq rfl rfl rfl rfl rfl)
  case booting =>
    rw [exec_bootingEnd, execBootingEnd]
    exact actAll_eq_self h (if_neg hn)
  case bootingEnds =>
    rw [exec_bootingEnd, execBootingEnd]
    exact actAll_eq h (if_pos ⟨hd, hp⟩)
  case starting =>
    rw [exec_startingEnd, execStartingEnd]
    exact actAll_eq_self h (if_neg (by rwa [allPositioned_iff]))
  case startingEnds =>
    rw [exec_startingEnd, execStartingEnd]
    exact ⟨_, actAll_eq h (if_pos ⟨hd, (allPositioned_iff s).2 ha⟩), dev_setDev _ _⟩
  case held =>
    rw [exec_partIdentityWord, execPartIdentityWord, if_neg (by rw [hl]; exact Bool.false_ne_true)]
    exact actAll_eq_self h (if_neg (by simp [hr]))
  case kept =>
    rw [exec_partIdentityWord, execPartIdentityWord, if_neg (by rw [hl]; exact Bool.false_ne_true)]
    exact actAll_eq h ((if_pos hr).trans (if_neg (by simp [ha])))
  case settled =>
    rw [exec_partIdentityWord, execPartIdentityWord, if_neg (by rw [hl]; exact Bool.false_ne_true)]
    exact actAll_eq h ((if_pos hr).trans (if_pos ha))
  case noAbsence =>
    rw [exec_partIdentityTimeout, execPartIdentityTimeout]
    exact actAll_eq_self h (if_neg (by simp [ha]))
  case absent =>
    rw [exec_partIdentityTimeout, execPartIdentityTimeout]
    exact actAll_eq h (if_pos ha)
  case refThere =>
    rw [exec_refClkReturn, execRefClkReturn]
    exact actAll_eq_self h (if_neg (by simp [hr]))
  case refReturns =>
    rw [exec_refClkReturn, execRefClkReturn]
    refine ⟨_, actAll_eq h (if_pos hr), ?_, rfl⟩
    rw [g_settleAll, State.g_p_self]; rfl

end Sys2Proof.Machine
end

section
/-! SUPPORT. The object dictionary: writes that are refused, WRITE and its pending set, commits, the request slots of the window, the object
protocol on the CAN buses, and Crib resets. -/

namespace Sys2Proof.Machine

/-- A write of TARIFF_ARM that is refused: only the answer. -/
theorem armWrite_refused {s : State} (h : Live s) {who : Crib} (hw : s.writeCodeOf who Od.TARIFF_ARM 0 ≠ 0) (v : Nat) :
    armWrite who v s = .next (s.answer who (s.writeCodeOf who Od.TARIFF_ARM 0)) :=
  act_eq_of_keep h (if_pos hw) (keep_eq rfl rfl rfl rfl rfl)

/-- Settles O8: each of the 35 commands is either a write in the frame `actWrite`, whose effect begins with the access check, or a write
of TARIFF_ARM, whose effect begins with it as well. -/
theorem refusedWritesOnlyAnswer : Obligations.RefusedWritesOnlyAnswer := by
  intro c s who o e hc h hw
  cases c <;> cases hc
  case arm => exact armWrite_refused h hw 1
  case cancel => exact armWrite_refused h hw 2
  all_goals exact actWrite_refused h hw _

/-- An admitted write of one object, in whichever frame it stands: its effect, then the answer. -/
theorem writeObj_admitted {s : State} {who e : Nat} {o : Ob} (hw : s.writeCodeOf who o e = 0) (f : State → State × Nat) :
    writeObj s who o e f = (f s).1.answer who (f s).2 := by
  simp only [writeObj, hw, ne_eq, not_true_eq_false, if_false]

/-- An answer is not reached by the frame of an ordinary command. -/
theorem keep_answer {s t : State} (ht : keep s t = t) (who c : Nat) : keep s (t.answer who c) = t.answer who c :=
  congrArg (·.answer who c) ht

/-- An occurrence after changes that count none. -/
theorem Raised.of_totalsKept {e : Nat} {s t u : State} (h : Raised e t u) (hk : TotalsKept s t) (he : e < 4096) : Raised e s u := by
  rw [Raised, ← hk e he]; exact h

/-! ### The end of a commit (R71) -/

theorem commitEnd_dict (s : State) (code : Nat) : (commitEnd s code).dict = { s.dict with commit := none } :=
  (evtReach_raise _ _ (he := by decide)).only.dict_eq

theorem commitEnd_status (s : State) (code : Nat) : (commitEnd s code).g Od.COMMIT_STATUS = code % 2 ^ Od.COMMIT_STATUS.bits :=
  (at_raise _ _ (he := by decide) (hx := ⟨by decide, by decide, by decide⟩)).g.trans (State.g_p_self ..)

theorem commitEnd_state (s : State) (code : Nat) :
    (commitEnd s code).g Od.CONFIG_STATE = b2n (s.dict.pendingSet != []) % 2 ^ Od.CONFIG_STATE.bits :=
  (at_raise _ _ (he := by decide) (hx := ⟨by decide, by decide, by decide⟩)).g.trans
    ((State.g_p_ne _ _ (by decide)).trans (State.g_p_self ..))

theorem commitEnd_raised (s : State) (code : Nat) : Raised Src.commitDone s (commitEnd s code) :=
  (raised_raise _ _ (he := by decide) (h8 := by decide)).of_totalsKept
    ((totalsKept_of_od rfl).trans ((totalsKept_p _ _ _ _ (by decide)).trans (totalsKept_p _ _ _ _ (by decide)))) (by decide)

/-! ### The steps of a commit before the population is looked at (R71) -/

/-- What a commit does first: CONFIG_STATE reads VALIDATING, and the objects of its failures are 0. -/
def commitOpen (s : State) : State := ((s.p Od.CONFIG_STATE 0 2).p Od.COMMIT_FAIL_OBJ 0 0).p Od.POP_FAULT 0 0

theorem dict_commitOpen (s : State) : (commitOpen s).dict = s.dict := rfl

theorem totalsKept_commitOpen (s : State) : TotalsKept s (commitOpen s) :=
  (totalsKept_p _ _ _ _ (by decide)).trans ((totalsKept_p _ _ _ _ (by decide)).trans (totalsKept_p _ _ _ _ (by decide)))

theorem commitStart_empty {s : State} (hset : s.dict.pendingSet = []) (crc : Nat) : commitStart s crc = commitEnd (commitOpen s) 0x11 :=
  if_pos hset

theorem commitStart_crc {s : State} {crc : Nat} (hset : s.dict.pendingSet ≠ []) (hcrc : crc32c (pendingStream s) ≠ crc) :
    commitStart s crc = commitEnd (commitOpen s) 0x10 :=
  (if_neg hset).trans (if_pos hcrc)

/-- With a pending set and its CRC right, the first BLOB that is not whole ends the commit. -/
theorem commitStart_incomplete {s : State} {crc : Nat} (hset : s.dict.pendingSet ≠ []) (hcrc : crc32c (pendingStream s) = crc)
    {p : Nat × PendEntry} {rest : List (Nat × PendEntry)}
    (hp : s.dict.pendingSet.filter (fun (p : Nat × PendEntry) => !p.2.complete) = p :: rest) :
    commitStart s crc = commitEnd ((commitOpen s).p Od.COMMIT_FAIL_OBJ 0 p.1) 0x06 := by
  refine (if_neg hset).trans ((if_neg (not_not_intro hcrc)).trans ?_)
  simp only [State.dict_p, hp, List.head?_cons]
  rfl

/-- With every entry whole, a population change that is not made while Held ends it; any other set goes on to its validation. -/
theorem commitStart_whole {s : State} {crc : Nat} (hset : s.dict.pendingSet ≠ []) (hcrc : crc32c (pendingStream s) = crc)
    (hw : ∀ p ∈ s.dict.pendingSet, p.2.complete = true) :
    commitStart s crc =
      if (s.dict.pendingSet.any fun (p : Nat × PendEntry) => p.1 / 2 ^ 24 == 1) && !s.isDev .held
      then commitEnd ((commitOpen s).p Od.POP_FAULT 0 (2 ^ 23)) 0x04
      else popGo { commitOpen s with dict := { (commitOpen s).dict with commit := some ⟨mergedImage (commitOpen s), false⟩ } } := by
  have hnone : s.dict.pendingSet.filter (fun (p : Nat × PendEntry) => !p.2.complete) = [] := by
    rw [List.filter_eq_nil_iff]
    intro p hp
    simp [hw p hp]
  refine (if_neg hset).trans ((if_neg (not_not_intro hcrc)).trans ?_)
  simp only [State.dict_p, hnone, List.head?_nil]
  rfl

theorem commitWrite_busy {s : State} (hb : 2 ≤ s.g Od.CONFIG_STATE ∨ s.g Od.PF_STATE ≠ 0) (crc : Nat) :
    commitWrite s crc = (s, 0x0A) :=
  if_pos hb

theorem commitWrite_free {s : State} (hc : s.g Od.CONFIG_STATE < 2) (hp : s.g Od.PF_STATE = 0) (crc : Nat) :
    commitWrite s crc = if s.isDev .starting || s.isDev .draining then (s, 0x0C) else (commitStart s crc, 0) :=
  if_neg (by simp [hp]; omega)

theorem exec_commit_admitted {s : State} (h : Live s) {who : Crib} (hw : s.writeCodeOf who Od.COMMIT 0 = 0) (crc : Nat) :
    exec (.commit who crc) s = .next (settleAll s ((commitWrite s crc).1.answer who (commitWrite s crc).2)) := by
  rw [exec_commit, execCommit]
  exact actAll_eq h (writeObj_admitted hw _)

/-! ### The store, the commit point and the apply instant (R71, R133) -/

theorem exec_commitStoreDone_none {s : State} (h : Live s) (hc : s.dict.commit = none) (same : Bool) (busy : BitVec 4) :
    exec (.commitStoreDone same busy) s = .next (settleAll s s) := by
  rw [exec_commitStoreDone, execCommitStoreDone]
  exact actAll_eq_self h (by simp only [hc])

/-- What COMMIT_STORE_DONE does of a commit in progress. -/
theorem exec_commitStoreDone_some {s : State} (h : Live s) {c : CommitRun} (hc : s.dict.commit = some c) (same : Bool) (busy : BitVec 4) :
    exec (.commitStoreDone same busy) s = .next (settleAll s (
      if s.g Od.CONFIG_STATE = 3 then
        if s.chest.delayed.any fun d => d.region == cfgRegion (storeSlot s) then s
        else if same then popGo (commitPoint s c.image busy)
        else popGo (commitEnd (dropUndeclared s) 0x13)
      else if s.g Od.CONFIG_STATE = 4 ∧ s.jobsGone (movedWindows s c.image).contains = true then popGo (commitApply s c.image busy)
      else s)) := by
  rw [exec_commitStoreDone, execCommitStoreDone]
  exact actAll_eq h (by simp only [hc])

/-! ### PENDING_CLEAR (R65, R70) -/

theorem pendingClear_range {s : State} {v : Nat} (hv : 1 < v) : pendingClear s v = (s, 0x07) := if_pos hv

theorem pendingClear_of_le {s : State} {v : Nat} (hv : v ≤ 1) :
    pendingClear s v = if 2 ≤ s.g Od.CONFIG_STATE then (s, 0x0A) else if v = 0 then (s, 0)
      else ({ s with dict := { s.dict with pendingSet := [] } }.p Od.CONFIG_STATE 0 0, 0) :=
  if_neg (by omega)

/-- An admitted PENDING_CLEAR changes nothing that the frame of an ordinary command keeps. -/
theorem exec_pendingClear_admitted {s t : State} (h : Live s) {who : Crib} (hw : s.writeCodeOf who Od.PENDING_CLEAR 0 = 0) {v c : Nat}
    (he : pendingClear s v = (t, c)) (ht : keep s t = t) : exec (.pendingClear who v) s = .next (t.answer who c) := by
  rw [exec_pendingClear, execPendingClear, actWrite_live h hw, he]
  exact congrArg _ (keep_answer ht who c)

/-- Settles O49: the refusals of COMMIT, the steps of a commit up to its validation, what the end of its store leads to, and
PENDING_CLEAR. The order of the checks, the hold-back of the apply instant and the order of the refusals are the model's choice
(assumption logs 19, 26 and 29). -/
theorem commitsAndThePendingSet : Obligations.CommitsAndThePendingSet := by
  refine ⟨fun s who crc h hw => ?write, fun s crc => ⟨fun hset => ⟨commitStart_empty hset crc, ?emptyEnds⟩,
      fun hset hcrc => ⟨commitStart_crc hset hcrc, ?crcEnds⟩, fun hset hcrc => ⟨fun p rest => commitStart_incomplete hset hcrc,
        fun hwhole hpop hheld => ?population, fun hwhole hpop => ?validated⟩⟩,
    fun s same busy h => ⟨fun hc => exec_commitStoreDone_none h hc same busy, fun c hc => ?store⟩, fun s who v h hw => ?clear⟩
  case write =>
    have hexec := exec_commit_admitted h hw crc
    refine ⟨fun hb => ?_, fun hc hp => ⟨fun hd => ?_, fun hns hnd => ?_⟩⟩
    · rw [hexec, commitWrite_busy hb]
    · rw [hexec, commitWrite_free hc hp, if_pos (by simpa [State.isDev] using hd)]
    · rw [hexec, commitWrite_free hc hp, if_neg (by simp [State.isDev, hns, hnd])]
  case emptyEnds =>
    rw [commitStart_empty hset, commitEnd_status, commitEnd_state, dict_commitOpen, hset]
    exact ⟨rfl, rfl, (commitEnd_raised _ _).of_totalsKept (totalsKept_commitOpen s) (by decide)⟩
  case crcEnds =>
    rw [commitStart_crc hset hcrc, commitEnd_status, commitEnd_state, commitEnd_dict, dict_commitOpen]
    exact ⟨rfl, by simp [hset, b2n, Od.CONFIG_STATE], rfl⟩
  case population =>
    refine (commitStart_whole hset hcrc hwhole).trans (if_pos ?_)
    simpa [State.isDev, hheld] using hpop
  case validated =>
    refine (commitStart_whole hset hcrc hwhole).trans (if_neg ?_)
    simpa [State.isDev, or_iff_not_imp_left] using hpop
  case store =>
    rw [exec_commitStoreDone_some h hc]
    refine ⟨fun h3 h4 => ?_, fun h3 hd => ?_, fun h3 hd => ⟨fun hs => ?_, fun hs => ?_⟩, fun h4 => ⟨fun hj => ?_, fun hj => ?_⟩⟩
    · rw [if_neg h3, if_neg (by simp [h4])]
    · rw [if_pos h3, if_pos (by simpa using hd)]
    · rw [if_pos h3, if_neg (by simpa using hd), if_pos hs]
    · rw [if_pos h3, if_neg (by simpa using hd), if_neg (by simp [hs])]
    · rw [if_neg (by simp [h4]), if_neg (by simp [hj])]
    · rw [if_neg (by simp [h4]), if_pos ⟨h4, hj⟩]
  case clear =>
    refine ⟨fun hv => ?_, fun hv hc => ?_, fun hv hc => ?_, fun hv hc => ?_⟩
    · exact exec_pendingClear_admitted h hw (pendingClear_range hv) (keep_self s)
    · exact exec_pendingClear_admitted h hw ((pendingClear_of_le hv).trans (if_pos hc)) (keep_self s)
    · exact exec_pendingClear_admitted h hw ((pendingClear_of_le (by omega)).trans ((if_neg (by omega)).trans (if_pos hv))) (keep_self s)
    · exact exec_pendingClear_admitted h hw ((pendingClear_of_le (by omega)).trans ((if_neg (by omega)).trans (if_neg (by omega))))
        (keep_eq rfl rfl rfl rfl rfl)


/-! ### Which WRITE is refused (R50, R51, R55, R58, R59, R62) -/

/-- Once Booting has ended, an element that its requester sees refuses by the access class of its object alone. -/
theorem writeCode_of_seen {s : State} {who : Nat} {r : ObjRow} {e : Nat} (hd : s.dev ≠ .booting) (hsee : seeCode s who r e = 0) :
    writeCode s who r e = match r.acc with
      | .ro => 0x03
      | .wc => if who ≠ 0 then 0x05 else 0
      | .rwh => if s.dev ≠ .held then 0x04 else 0
      | _ => 0 :=
  (if_neg hd).trans (if_neg (not_not_intro hsee))

/-- One that it does not see refuses before that. -/
theorem writeCode_of_unseen {s : State} {who : Nat} {r : ObjRow} {e : Nat} (hd : s.dev ≠ .booting) (hsee : seeCode s who r e ≠ 0) :
    writeCode s who r e = seeCode s who r e :=
  (if_neg hd).trans (if_pos hsee)

section
variable {s : State} {who : Nat} {path : Option Nat} {addr off : Nat} {d : List Byte} {b : BitVec 4}

theorem objWrite_booting (hd : s.dev = .booting) : objWrite s who path addr off d b = (s, 0x0D) := if_pos hd

theorem objWrite_no_object (hd : s.dev ≠ .booting) (hr : objRow addr = none) : objWrite s who path addr off d b = (s, 0x01) := by
  rw [objWrite, if_neg hd, hr]

theorem objWrite_refused {r : ObjRow} {e : Nat} (hd : s.dev ≠ .booting) (hr : objRow addr = some (r, e)) (hc : writeCode s who r e ≠ 0) :
    objWrite s who path addr off d b = (s, writeCode s who r e) := by
  rw [objWrite, if_neg hd, hr]
  exact if_pos hc

section
variable {r : ObjRow} {e : Nat} (hd : s.dev ≠ .booting) (hr : objRow addr = some (r, e)) (hc : writeCode s who r e = 0)
include hd hr hc

theorem objWrite_offset (hty : r.ty ≠ .blob) (hoff : off ≠ 0) : objWrite s who path addr off d b = (s, 0x09) := by
  rw [objWrite, if_neg hd, hr]
  exact (if_neg (not_not_intro hc)).trans (if_pos ⟨hty, hoff⟩)

theorem objWrite_busy (hoff : r.ty = .blob ∨ off = 0) (hacc : r.acc = .wc) (hcfg : 2 ≤ s.g Od.CONFIG_STATE) :
    objWrite s who path addr off d b = (s, 0x0A) := by
  rw [objWrite, if_neg hd, hr]
  exact (if_neg (not_not_intro hc)).trans ((if_neg (by tauto)).trans (if_pos ⟨hacc, hcfg⟩))

/-- Of a value that is not a BLOB, with no commit in its way, the value's own code decides. -/
theorem objWrite_value (hty : r.ty ≠ .blob) (hacc : r.acc = .wc → s.g Od.CONFIG_STATE < 2) :
    objWrite s who path addr 0 d b = if valueCode r d ≠ 0 then (s, valueCode r d) else takeValue s r addr d b := by
  rw [objWrite, if_neg hd, hr]
  exact (if_neg (not_not_intro hc)).trans ((if_neg (by simp)).trans ((if_neg (by simpa using hacc)).trans (if_pos hty)))

end
end

/-! ### The pending set (R63, R64, R70) -/

/-- How many entries the pending set has with one put into it. -/
def pendCount (s : State) (k : Nat) : Nat :=
  if (s.dict.pendingSet.find? k).isSome then s.dict.pendingSet.length else s.dict.pendingSet.length + 1

/-- How many bytes it holds then. -/
def pendTotal (s : State) (k : Nat) (bytes : List Byte) : Nat :=
  (s.dict.pendingSet.map fun p => p.2.bytes.length).sum + bytes.length - (s.dict.pendingSet.find? k).elim 0 fun p => p.bytes.length

theorem pendPut_full {s : State} {k : Nat} {bytes : List Byte} (hf : 4096 < pendCount s k ∨ 262144 < pendTotal s k bytes) (whole : Bool) :
    pendPut s k bytes whole = (s, 0x0B) := if_pos hf

/-- An entry that the pending set has room for: CONFIG_STATE reads PENDING where it read CLEAN. -/
theorem pendPut_room {s : State} {k : Nat} {bytes : List Byte} (hc : pendCount s k ≤ 4096) (ht : pendTotal s k bytes ≤ 262144) (whole : Bool) :
    pendPut s k bytes whole =
      let u : State := { s with dict := { s.dict with pendingSet := s.dict.pendingSet.insert k ⟨bytes, whole⟩ } }
      (if s.g Od.CONFIG_STATE = 0 then u.p Od.CONFIG_STATE 0 1 else u, 0) :=
  if_neg (not_or.2 ⟨not_lt.2 hc, not_lt.2 ht⟩)

theorem pendPut_pendingSet {s : State} {k : Nat} {bytes : List Byte} (hc : pendCount s k ≤ 4096) (ht : pendTotal s k bytes ≤ 262144)
    (whole : Bool) : (pendPut s k bytes whole).1.dict.pendingSet = s.dict.pendingSet.insert k ⟨bytes, whole⟩ := by
  rw [pendPut_room hc ht]
  dsimp only
  split <;> rfl

theorem pendPut_kept {s : State} {k : Nat} {bytes : List Byte} (hc : pendCount s k ≤ 4096) (ht : pendTotal s k bytes ≤ 262144)
    (whole : Bool) : ObjectsKept [Od.CONFIG_STATE.el 0] s (pendPut s k bytes whole).1 := by
  rw [pendPut_room hc ht]
  dsimp only
  split
  · exact objectsKept_p _ _ _ _
  · exact .refl _ s

theorem pendPut_clean {s : State} {k : Nat} {bytes : List Byte} (hc : pendCount s k ≤ 4096) (ht : pendTotal s k bytes ≤ 262144)
    (whole : Bool) (h0 : s.g Od.CONFIG_STATE = 0) : (pendPut s k bytes whole).1.g Od.CONFIG_STATE = 1 := by
  rw [pendPut_room hc ht]
  dsimp only
  rw [if_pos h0, State.g_p_self]
  rfl

/-- Settles O50: the plain write, the order of a WRITE's refusals, the access codes, and the pending set with and without room. The order
of the refusals is the model's choice (assumption log 29). -/
theorem whatAWriteIsRefusedFor : Obligations.WhatAWriteIsRefusedFor := by
  refine ⟨fun s who addr d b h => ?plain, fun s who path addr off d b => ⟨objWrite_booting, objWrite_no_object,
      fun hd r e hr => ⟨objWrite_refused hd hr, fun hc => ?admitted⟩⟩,
    fun s who r e hd => ⟨writeCode_of_unseen hd, fun hsee => ?seen⟩, fun s k bytes whole => ⟨fun hf => pendPut_full hf whole, fun hc ht => ?room⟩⟩
  case plain =>
    rw [exec_plainObjectWrite, execPlainObjectWrite]
    exact actAll_eq h rfl
  case admitted =>
    refine ⟨fun hty hoff => ?_, fun hoff hacc hcfg => ?_, fun hty hoff hacc => ?_⟩
    · exact objWrite_offset hd hr hc hty hoff
    · exact objWrite_busy hd hr hc hoff hacc hcfg
    · subst hoff
      rw [objWrite_value hd hr hc hty hacc]
      refine ⟨fun hv => if_pos hv, fun hv hwc => ?_, fun hv hwc => ?_⟩
      · exact (if_neg (not_not_intro hv)).trans (if_pos hwc)
      · exact (if_neg (not_not_intro hv)).trans (if_neg hwc)
  case seen =>
    rw [writeCode_of_seen hd hsee]
    refine ⟨fun hacc => ?_, fun hacc hwho => ?_, fun hacc hh => ?_, fun hacc hh => ?_, fun hacc => ?_⟩
    · rw [hacc]
    · rw [hacc]; exact if_pos hwho
    · rw [hacc]; exact if_pos hh
    · rw [hacc]; exact if_neg (not_not_intro hh)
    · obtain hacc | hacc := hacc <;> rw [hacc]
  case room =>
    rw [pendPut_pendingSet hc ht]
    refine ⟨by rw [pendPut_room hc ht], ?_, fun j hj => ?_, pendPut_clean hc ht whole, pendPut_kept hc ht whole⟩
    · rw [Keyed.find?_insert, if_pos rfl]
    · rw [Keyed.find?_insert, if_neg hj.symm]

/-! ### Sessions of the object protocol (R99 to R103) -/

theorem names_iff (r : MopReq) (m : MopSession) :
    r.names m = true ↔ m.bus = r.f.bus.val ∧ m.source = r.f.source ∧ m.session = r.f.session.val := by
  simp [MopReq.names, and_assoc]

/-- A closed session is gone. -/
theorem names_of_mem_mopClose {s : State} {r : MopReq} {x : MopSession} (hx : x ∈ (mopClose s r).dict.sessions) : r.names x = false := by
  simpa using (List.mem_filter.1 hx).2

/-- Where a request names no session, a change of the one it names is none. -/
theorem names_of_mem_mopSet {s : State} {r : MopReq} {f : MopSession → MopSession}
    (hs : ∀ x ∈ s.dict.sessions, r.names x = false) : ∀ x ∈ (mopSet s r f).dict.sessions, r.names x = false := by
  intro x hx
  obtain ⟨m, hm, rfl⟩ := List.mem_map.1 hx
  rw [if_neg (by simp [hs m hm])]
  exact hs m hm

/-- The session a request names after such a change of it. -/
theorem session?_mopSet {s : State} {r : MopReq} {f : MopSession → MopSession} (hf : ∀ m, r.names (f m) = r.names m) :
    (mopSet s r f).session? r = (s.session? r).map f := by
  have hnames : r.names ∘ (fun m => if r.names m then f m else m) = r.names := by
    funext m
    dsimp only [Function.comp]
    split
    · exact hf m
    · rfl
  unfold State.session? mopSet
  dsimp only
  rw [List.find?_map, hnames]
  cases hm : s.dict.sessions.find? r.names with
  | none => rfl
  | some m => simp [List.find?_some hm]

/-! ### Frames that are sent (R92, R93, R105) -/

/-- A frame is the last thing sent, and its identifier names the node and the client (R90). -/
theorem out_mopSend (s : State) (r : MopReq) (toggle last : Bool) (kind : Nat) (body : List Byte) :
    ∃ d, (mopSend s r toggle last kind body).out = s.out ++ [.canFrame r.f.bus (mopIdent s r.f.prio r.service r.f.source) d] := ⟨_, rfl⟩

theorem names_of_mem_mopSend {s : State} {r : MopReq} (hs : ∀ x ∈ s.dict.sessions, r.names x = false) (toggle last : Bool) (kind : Nat)
    (body : List Byte) : ∀ x ∈ (mopSend s r toggle last kind body).dict.sessions, r.names x = false :=
  names_of_mem_mopSet (s := s.emit _) hs

theorem session?_mopSend (s : State) (r : MopReq) (toggle last : Bool) (kind : Nat) (body : List Byte) :
    ∃ data, (mopSend s r toggle last kind body).session? r =
      (s.session? r).map fun m => { m with answer := data, lastFrame := s.now, prio := r.f.prio.val } :=
  ⟨_, session?_mopSet (s := s.emit _) fun _ => rfl⟩

theorem sessions_mopSend_length (s : State) (r : MopReq) (toggle last : Bool) (kind : Nat) (body : List Byte) :
    (mopSend s r toggle last kind body).dict.sessions.length = s.dict.sessions.length := List.length_map _

/-! ### Violations of clients (R106) -/

theorem dict_mopViol (s : State) (bus source code : Nat) (detail : List Byte) : (mopViol s bus source code detail).dict = s.dict :=
  (evtReach_violation _ _ _ _ _ _ _).only.dict_eq

/-- The objects of the protocol lie apart from what a violation's events and records reach. -/
theorem quiet_of_group {x : Nat} (h : x / 2 ^ 24 = 0x02) : Quiet x := ⟨by omega, by omega, by omega⟩

theorem at_mopViol {x : Nat} (s : State) (bus source : Nat) {code : Nat} (detail : List Byte) (hx : Quiet x)
    (hc : Od.MOP_VIOL_CNT.el code ≠ x) : At x s (mopViol s bus source code detail) :=
  (at_inc x s _ _ hc).trans (at_violation _ _ _ _ _ _ _ hx)

theorem mopViol_counts (s : State) (bus source : Nat) {code : Nat} (detail : List Byte) (hc : code < 4096) :
    (mopViol s bus source code detail).g Od.MOP_VIOL_CNT code = (s.g Od.MOP_VIOL_CNT code + 1) % 2 ^ 32 :=
  (at_violation _ _ _ _ _ _ _ (quiet_of_group (by simp only [Ob.el, Od.MOP_VIOL_CNT]; omega))).g.trans (State.g_inc_self ..)

/-! ### Frames that are received (R86 to R91) -/

theorem exec_of_mopCommand {c : Instr} {f : MopFrame} {kind service : Nat} {b : BitVec 4} (hc : mopCommand c = some (f, kind, service, b))
    (s : State) : exec c s = mopFrame f kind service b s := by
  cases c <;> cases hc <;> rfl

/-- What a frame that is taken does first: it is counted when it comes too soon after the last, and its session expires when it is late
(R103, R167). -/
def mopTake (s : State) (r : MopReq) : State :=
  let v := if s.dict.lastMop.elim false fun t => decide (s.now < t + 2000) then s.inc Od.CLASSA_OVER_CNT else s
  let u : State := { v with dict := { v.dict with lastMop := some s.now } }
  match u.session? r with
  | some m => if mopLate u m then mopExpire u m else u
  | none => u

/-- What a frame of each KIND leads to (R93). -/
def mopLead (kind : Nat) (s : State) (r : MopReq) (b : BitVec 4) : State :=
  match kind with
  | 0 => mopInitiate s r b
  | 1 => mopSegment s r b
  | 3 => mopClientAbort s r
  | _ => mopRefuse s r kind false (mfAddr r.f) 0x20 0

section
variable {s : State} {f : MopFrame} (kind service : Nat) (b : BitVec 4)

theorem mopFrame_ignored (h : Live s) (hoff : mopOn s f.bus = false ∨ f.dest ≠ s.g Od.MOP_NODE) :
    mopFrame f kind service b s = .next (settleAll s s) :=
  actAll_eq_self h (if_pos hoff)

theorem mopFrame_unanswered (h : Live s) (hon : mopOn s f.bus = true) (hd : f.dest = s.g Od.MOP_NODE)
    (hs : f.source = 0 ∨ f.source = 0xFF ∨ f.source = s.g Od.MOP_NODE) :
    mopFrame f kind service b s = .next (settleAll s (mopViol s f.bus f.source 0 (MopReq.raw ⟨f, service⟩ kind))) :=
  actAll_eq h ((if_neg (by simp [hon, hd])).trans (if_pos hs))

theorem mopFrame_taken (h : Live s) (hon : mopOn s f.bus = true) (hd : f.dest = s.g Od.MOP_NODE)
    (hs : ¬(f.source = 0 ∨ f.source = 0xFF ∨ f.source = s.g Od.MOP_NODE)) :
    mopFrame f kind service b s = .next (settleAll s (mopLead kind (mopTake s ⟨f, service⟩) ⟨f, service⟩ b)) := by
  refine actAll_eq h ((if_neg (by simp [hon, hd])).trans ((if_neg hs).trans ?_))
  have hnow : (if s.dict.lastMop.elim false fun t => decide (s.now < t + 2000) then s.inc Od.CLASSA_OVER_CNT else s).now = s.now := by
    split <;> rfl
  dsimp only [mopTake]
  rw [hnow]
  rfl

end

/-! ### A session's time-out (R103) -/

/-- The request a session's time-out answers: to its client, with what the session was opened with. -/
def expiryReq (m : MopSession) : MopReq :=
  ⟨⟨Fin.ofNat 2 m.bus, Fin.ofNat 32 m.prio, m.source, 0, Fin.ofNat 16 m.session, false, true, []⟩, m.service⟩

theorem mopExpire_eq (s : State) (m : MopSession) : mopExpire s m =
    mopAbort (mopViol (mopClose s (expiryReq m)) m.bus m.source 7 []) (expiryReq m) false m.addr 0x27 := rfl

/-- It ends with the abort to the client. -/
theorem out_mopExpire (s : State) (m : MopSession) :
    ∃ d, (mopExpire s m).out.getLast? = some (.canFrame (Fin.ofNat 2 m.bus) (mopIdent s (m.prio % 32) m.service m.source) d) := by
  have hident : ∀ p v c, mopIdent (mopViol (mopClose s (expiryReq m)) m.bus m.source 7 []) p v c = mopIdent s p v c := by
    intro p v c
    have hnode : (mopViol (mopClose s (expiryReq m)) m.bus m.source 7 []).g Od.MOP_NODE = s.g Od.MOP_NODE :=
      (at_mopViol _ _ _ _ (quiet_of_group (by decide)) (by decide)).g
    simp only [mopIdent, hnode]
  obtain ⟨d, hd⟩ := out_mopSend (mopViol (mopClose s (expiryReq m)) m.bus m.source 7 []) (expiryReq m) false true 3
    ([BitVec.ofNat 8 0x27, 0, 0] ++ leBytes 4 m.addr ++ leBytes 4 0)
  refine ⟨d, ?_⟩
  rw [mopExpire_eq, mopAbort, hd, hident, List.getLast?_concat]
  rfl

/-- It closes the session. -/
theorem names_of_mem_mopExpire (s : State) (m : MopSession) : ∀ x ∈ (mopExpire s m).dict.sessions, (expiryReq m).names x = false := by
  refine names_of_mem_mopSend (s := mopViol (mopClose s (expiryReq m)) m.bus m.source 7 []) (fun x hx => ?_) _ _ _ _
  rw [dict_mopViol] at hx
  exact names_of_mem_mopClose hx

/-- It is counted. -/
theorem mopExpire_counts (s : State) (m : MopSession) : (mopExpire s m).g Od.MOP_VIOL_CNT 7 = (s.g Od.MOP_VIOL_CNT 7 + 1) % 2 ^ 32 :=
  mopViol_counts (mopClose s (expiryReq m)) m.bus m.source [] (by decide)

theorem exec_mopSegTimeout_none {s : State} (h : Live s) {bus : Fin 2} {source : Nat} {session : Fin 16}
    (hm : (s.dict.sessions.find? fun m => m.bus == bus.val && m.source == source && m.session == session.val) = none ∨
      mopOn s bus = false) : exec (.mopSegTimeout bus source session) s = .next s := by
  rw [exec_mopSegTimeout, execMopSegTimeout]
  refine act_eq_self h ?_
  split
  · next m hsome => rw [if_neg (by simpa using hm.resolve_left (by simp [hsome]))]
  · rfl

theorem exec_mopSegTimeout_some {s : State} (h : Live s) {bus : Fin 2} {source : Nat} {session : Fin 16} {m : MopSession}
    (hm : (s.dict.sessions.find? fun m => m.bus == bus.val && m.source == source && m.session == session.val) = some m)
    (hon : mopOn s bus = true) : exec (.mopSegTimeout bus source session) s = .next (keep s (mopExpire s m)) := by
  rw [exec_mopSegTimeout, execMopSegTimeout]
  refine act_eq h ?_
  rw [hm]
  exact if_pos hon

/-! ### Classic frames and buses that are off (R86, R89) -/

theorem exec_mopClassicFrame_ignored {s : State} (h : Live s) {bus : Fin 2} {dest : Nat}
    (hoff : mopOn s bus = false ∨ dest ≠ s.g Od.MOP_NODE) (source : Nat) (d : List Byte) :
    exec (.mopClassicFrame bus source dest d) s = .next s := by
  rw [exec_mopClassicFrame, execMopClassicFrame]
  exact act_eq_self h (if_neg (by rintro ⟨hon, hd⟩; simp [hon, hd] at hoff))

theorem exec_mopClassicFrame_counted {s : State} (h : Live s) {bus : Fin 2} {dest : Nat} (hon : mopOn s bus = true)
    (hd : dest = s.g Od.MOP_NODE) (source : Nat) (d : List Byte) :
    exec (.mopClassicFrame bus source dest d) s = .next (keep s (mopViol s bus source 9 d)) := by
  rw [exec_mopClassicFrame, execMopClassicFrame]
  exact act_eq h (if_pos ⟨hon, hd⟩)

theorem exec_mopBusOff_ignored {s : State} (h : Live s) {bus : Fin 2} (hoff : mopOn s bus = false) :
    exec (.mopBusOff bus) s = .next s := by
  rw [exec_mopBusOff, execMopBusOff]
  exact act_eq_self h (if_neg (by simp [hoff]))

theorem exec_mopBusOff_counted {s : State} (h : Live s) {bus : Fin 2} (hon : mopOn s bus = true) :
    ∃ t, exec (.mopBusOff bus) s = .next t ∧ t.g Od.MOP_BUSOFF_CNT bus = (s.g Od.MOP_BUSOFF_CNT bus + 1) % 2 ^ 32 ∧ t.dict = s.dict ∧
      Raised Src.mopBusoff s t := by
  have hr := evtReach_raise (s.inc Od.MOP_BUSOFF_CNT bus) bus 0 (e := Src.mopBusoff) (by decide)
  refine ⟨_, ?_, (at_reach hr (quiet_of_group ?_)).g.trans (State.g_inc_self ..), hr.only.dict_eq, ?_⟩
  · rw [exec_mopBusOff, execMopBusOff]
    refine act_eq_of_keep h (if_pos hon) ?_
    rw [hr.only]
    exact keep_eq rfl rfl rfl rfl rfl
  · simp only [Ob.el, Od.MOP_BUSOFF_CNT]; omega
  · exact (raised_raise _ _ (he := by decide) (h8 := by decide)).of_totalsKept
      (totalsKept_p _ _ _ _ (by simp only [Ob.el, Od.MOP_BUSOFF_CNT]; omega)) (by decide)

/-- Settles O52: the frames that are ignored, logged and taken, a session's time-out, classic frames and a bus that is off. When a frame
or a time-out is taken is the model's choice (assumption log 34). -/
theorem protocolFramesAreTaken : Obligations.ProtocolFramesAreTaken := by
  refine ⟨fun s c f kind service b h hc => ?frame, fun s bus source dest session d h => ⟨exec_mopSegTimeout_none h, fun m hm hon =>
      ⟨exec_mopSegTimeout_some h hm hon, ?expiryAborts, ?expiryCloses, mopExpire_counts s m⟩,
    fun hoff => exec_mopClassicFrame_ignored h hoff source d, fun hon hd => ?classic, exec_mopBusOff_ignored h, exec_mopBusOff_counted h⟩⟩
  case frame =>
    rw [exec_of_mopCommand hc]
    refine ⟨mopFrame_ignored kind service b h, fun hon hd => ⟨mopFrame_unanswered kind service b h hon hd, fun h0 hFF hn => ?_⟩⟩
    have htaken := mopFrame_taken kind service b h hon hd (by simp [h0, hFF, hn])
    refine ⟨?_, ?_, ?_, ?_⟩ <;> rintro rfl <;> exact htaken
  case expiryAborts =>
    have hbus : Fin.ofNat 2 m.bus = bus := by
      have hp := List.find?_some hm
      simp only [Bool.and_eq_true, beq_iff_eq] at hp
      simp [hp.1.1]
    exact hbus ▸ out_mopExpire s m
  case expiryCloses =>
    have hp := List.find?_some hm
    simp only [Bool.and_eq_true, beq_iff_eq] at hp
    obtain ⟨⟨hb, hs⟩, hi⟩ := hp
    intro x hx hnamed
    refine Bool.false_ne_true ((names_of_mem_mopExpire s m x hx).symm.trans ((names_iff _ _).2 ?_))
    simpa [expiryReq, hb, hs, hi] using hnamed
  case classic =>
    exact ⟨_, exec_mopClassicFrame_counted h hon hd source d, mopViol_counts s bus source d (by decide), dict_mopViol s bus source 9 d⟩

/-! ### Sessions that are opened (R97 to R99) -/

/-- A session is opened for a request, and the request answered. -/
def mopOpen (s : State) (r : MopReq) (m : MopSession) (total : Nat) : State :=
  mopRespond { s with dict := { s.dict with sessions := s.dict.sessions ++ [m] } } r false false (mfAddr r.f) total m.fromActive []

/-- The session of a segmented read. -/
def readSession (s : State) (r : MopReq) (a : ReadAnswer) : MopSession :=
  { bus := r.f.bus, source := r.f.source, session := r.f.session, write := false, prio := r.f.prio, service := r.service
    addr := mfAddr r.f, total := a.bytes.length, bytes := a.bytes, sent := 0, toggle := none, fromActive := a.fromActive
    answer := [], lastFrame := s.now }

/-- The session of a segmented write. -/
def writeSession (s : State) (r : MopReq) : MopSession :=
  { bus := r.f.bus, source := r.f.source, session := r.f.session, write := true, prio := r.f.prio, service := 2
    addr := mfAddr r.f, total := mfTotal r.f, bytes := [], sent := 0, toggle := none, fromActive := false
    answer := [], lastFrame := s.now }

theorem sessions_mopOpen_length (s : State) (r : MopReq) (m : MopSession) (total : Nat) :
    (mopOpen s r m total).dict.sessions.length = s.dict.sessions.length + 1 :=
  (sessions_mopSend_length _ _ _ _ _ _).trans List.length_append

/-- The request names the session that was opened for it, which is as it was opened but for the answer it keeps. -/
theorem session?_mopOpen {s : State} {r : MopReq} {m : MopSession} (hn : s.session? r = none) (hm : r.names m = true) (total : Nat) :
    ∃ data now, (mopOpen s r m total).session? r = some { m with answer := data, lastFrame := now, prio := r.f.prio.val } := by
  obtain ⟨data, hdata⟩ := session?_mopSend { s with dict := { s.dict with sessions := s.dict.sessions ++ [m] } } r false false 2
    ([0, BitVec.ofNat 8 (b2n m.fromActive), 0] ++ leBytes 4 (mfAddr r.f) ++ leBytes 4 total ++ [])
  have hfind : State.session? { s with dict := { s.dict with sessions := s.dict.sessions ++ [m] } } r = some m := by
    have hn' : s.dict.sessions.find? r.names = none := hn
    simp only [State.session?, List.find?_append, hn', Option.none_or, List.find?_cons_of_pos hm]
  exact ⟨data, s.now, by rw [mopOpen, mopRespond, hdata, hfind]; rfl⟩

section
variable {s : State} {r : MopReq} {a : ReadAnswer}

theorem mopAnswer_refused (hc : a.code ≠ 0) : mopAnswer s r a = mopAbort s r false (mfAddr r.f) a.code := if_pos hc

theorem mopAnswer_expedited (hc : a.code = 0) (hl : a.bytes.length ≤ 52) :
    mopAnswer s r a = mopRespond s r false true (mfAddr r.f) a.bytes.length a.fromActive a.bytes :=
  (if_neg (not_not_intro hc)).trans (if_pos hl)

theorem mopAnswer_full (hc : a.code = 0) (hl : 52 < a.bytes.length) (hn : 8 ≤ s.dict.sessions.length) :
    mopAnswer s r a = mopRefuse s r 0 false (mfAddr r.f) 0x24 4 :=
  (if_neg (not_not_intro hc)).trans ((if_neg (not_le.2 hl)).trans (if_pos hn))

theorem mopAnswer_segmented (hc : a.code = 0) (hl : 52 < a.bytes.length) (hn : s.dict.sessions.length < 8) :
    mopAnswer s r a = mopOpen s r (readSession s r a) a.bytes.length :=
  (if_neg (not_not_intro hc)).trans ((if_neg (not_le.2 hl)).trans (if_neg (not_le.2 hn)))

end

/-! ### Initiates (R95 to R100) -/

/-- What an initiate whose layout is right finds: a session of its own number is closed and counted (R100). -/
def mopAnew (s : State) (r : MopReq) : State :=
  if (s.session? r).isSome then mopViol (mopClose s r) r.f.bus r.f.source 8 (r.raw 0) else s

/-- What each SERVICE asks for (R96). -/
def mopServe (s : State) (r : MopReq) (b : BitVec 4) : State :=
  match r.service with
  | 1 => mopAnswer (objRead s 0 (mfAddr r.f) 0 65537 ((r.f.body.headD 0).getLsbD 0) false).1 r
      (objRead s 0 (mfAddr r.f) 0 65537 ((r.f.body.headD 0).getLsbD 0) false).2
  | 2 =>
    if r.f.last then mopWrite s r false (mfAddr r.f) ((mfRest r.f).take (mfTotal r.f)) b
    else if addrCode s (mfAddr r.f) ≠ 0 then mopAbort s r false (mfAddr r.f) (addrCode s (mfAddr r.f))
    else if 8 ≤ s.dict.sessions.length then mopRefuse s r 0 false (mfAddr r.f) 0x24 4
    else mopOpen s r (writeSession s r) 0
  | 3 => mopAnswer s r (objDescribe s 0 (mfAddr r.f))
  | _ => mopAnswer s r ⟨0, false, leBytes 4 (nextAddr s 0 (mfAddr r.f))⟩

section
variable {s : State} {f : MopFrame} {b : BitVec 4} (hl : f.last = false)
include hl

theorem mopServe_refused (hc : addrCode s (mfAddr f) ≠ 0) :
    mopServe s ⟨f, 2⟩ b = mopAbort s ⟨f, 2⟩ false (mfAddr f) (addrCode s (mfAddr f)) :=
  (if_neg (ne_true_of_eq_false hl)).trans (if_pos hc)

theorem mopServe_full (hc : addrCode s (mfAddr f) = 0) (hn : 8 ≤ s.dict.sessions.length) :
    mopServe s ⟨f, 2⟩ b = mopRefuse s ⟨f, 2⟩ 0 false (mfAddr f) 0x24 4 :=
  (if_neg (ne_true_of_eq_false hl)).trans ((if_neg (not_not_intro hc)).trans (if_pos hn))

theorem mopServe_opens (hc : addrCode s (mfAddr f) = 0) (hn : s.dict.sessions.length < 8) :
    mopServe s ⟨f, 2⟩ b = mopOpen s ⟨f, 2⟩ (writeSession s ⟨f, 2⟩) 0 :=
  (if_neg (ne_true_of_eq_false hl)).trans ((if_neg (not_not_intro hc)).trans (if_neg (not_le.2 hn)))

end

section
variable {s : State} {r : MopReq} {b : BitVec 4}

/-- The bytes of an initiate that are fixed are right. -/
def InitiateSound (f : MopFrame) : Prop :=
  ¬(f.body.length < 11 ∨ 1 < (f.body.headD 0).toNat ∨ allZero (slice 1 2 f.body) = false)

theorem mopInitiate_malformed (hf : ¬InitiateSound r.f) : mopInitiate s r b = mopRefuse s r 0 false (mfAddr r.f) 0x20 0 :=
  if_pos (not_not.1 hf)

theorem mopInitiate_unknown (hf : InitiateSound r.f) (hv : r.service = 0 ∨ 4 < r.service) :
    mopInitiate s r b = mopRefuse s r 0 false (mfAddr r.f) 0x21 1 :=
  (if_neg hf).trans (if_pos hv)

theorem mopInitiate_bad (hf : InitiateSound r.f) (hv : ¬(r.service = 0 ∨ 4 < r.service)) (hb : initiateBad r.f r.service = true) :
    mopInitiate s r b = mopRefuse s r 0 false (mfAddr r.f) 0x20 0 :=
  (if_neg hf).trans ((if_neg hv).trans (if_pos hb))

theorem mopInitiate_served (hf : InitiateSound r.f) (hv : ¬(r.service = 0 ∨ 4 < r.service)) (hb : initiateBad r.f r.service = false) :
    mopInitiate s r b = mopServe (mopAnew s r) r b :=
  (if_neg hf).trans ((if_neg hv).trans (if_neg (by simp [hb])))

end

/-! ### Segments (R94, R97, R98, R101, R102) -/

section
variable {s : State} {r : MopReq} {b : BitVec 4}

theorem mopSegment_short (hl : r.f.body.length ≠ 63) : mopSegment s r b = mopRefuse s r 1 r.f.toggle 0 0x20 0 := if_pos hl

theorem mopSegment_unknown (hl : r.f.body.length = 63) (hv : r.service = 0 ∨ 4 < r.service) :
    mopSegment s r b = mopRefuse s r 1 r.f.toggle 0 0x21 1 :=
  (if_neg (not_not_intro hl)).trans (if_pos hv)

section
variable (hl : r.f.body.length = 63) (hv : ¬(r.service = 0 ∨ 4 < r.service))
include hl hv

theorem mopSegment_no_session (hm : s.session? r = none) : mopSegment s r b = mopRefuse s r 1 r.f.toggle 0 0x23 3 := by
  rw [mopSegment, if_neg (not_not_intro hl), if_neg hv, hm]

variable {m : MopSession} (hm : s.session? r = some m)
include hm

theorem mopSegment_broken (hb : r.service ≠ m.service ∨ segmentBad r.f m.write = true) :
    mopSegment s r b = mopRefuse s r 1 r.f.toggle m.addr 0x20 0 := by
  rw [mopSegment, if_neg (not_not_intro hl), if_neg hv, hm]
  exact if_pos hb

/-- A segment of a session that is whole: its TOGGLE against that of the one before decides. -/
theorem mopSegment_sound (hs : r.service = m.service) (hb : segmentBad r.f m.write = false) : mopSegment s r b =
    if m.toggle = none ∧ r.f.toggle = true then mopRefuse (mopClose s r) r 1 true m.addr 0x22 2
    else if m.toggle = some r.f.toggle then
      mopSet ((s.inc Od.MOP_RETX_CNT).emit (.canFrame r.f.bus (mopIdent s m.prio m.service m.source) m.answer)) r
        fun m => { m with lastFrame := s.now }
    else if m.write then mopWriteSegment s r m b
    else mopReadSegment s r m := by
  rw [mopSegment, if_neg (not_not_intro hl), if_neg hv, hm]
  exact if_neg (by simp [hs, hb])

end

/-- What a segmented write has gathered with this segment. -/
def gathered (r : MopReq) (m : MopSession) : List Byte := m.bytes ++ slice 1 (r.f.body.headD 0).toNat r.f.body

variable {m : MopSession}

theorem mopWriteSegment_length (hl : m.total < (gathered r m).length ∨ (r.f.last = true ∧ (gathered r m).length < m.total)) :
    mopWriteSegment s r m b = mopRefuse (mopClose s r) r 1 r.f.toggle m.addr 0x25 5 := if_pos hl

theorem mopWriteSegment_last (hl : r.f.last = true) (hn : (gathered r m).length = m.total) : mopWriteSegment s r m b =
    if crc32c (gathered r m) ≠ ofLe (slice 59 4 r.f.body) then mopRefuse (mopClose s r) r 1 r.f.toggle m.addr 0x26 6
    else mopWrite (mopClose s r) r r.f.toggle m.addr (gathered r m) b :=
  (if_neg (by change ¬(m.total < (gathered r m).length ∨ _ ∧ (gathered r m).length < m.total); omega)).trans (if_pos hl)

theorem mopWriteSegment_more (hl : r.f.last = false) (hn : (gathered r m).length ≤ m.total) : mopWriteSegment s r m b =
    mopRespond (mopSet s r fun x => { x with bytes := gathered r m, toggle := some r.f.toggle }) r r.f.toggle false m.addr m.total false [] :=
  (if_neg (by change ¬(m.total < (gathered r m).length ∨ _ ∧ (gathered r m).length < m.total); simp [hl]; omega)).trans
    (if_neg (by simp [hl]))

/-- The last segment of a read closes its session. -/
theorem names_of_mem_mopReadSegment (hl : m.bytes.length ≤ m.sent + 58) :
    ∀ x ∈ (mopReadSegment s r m).dict.sessions, r.names x = false := by
  have hclose : ∃ u, mopReadSegment s r m = mopClose u r := ⟨_, if_pos (decide_eq_true hl)⟩
  obtain ⟨u, hu⟩ := hclose
  intro x hx
  rw [hu] at hx
  exact names_of_mem_mopClose hx

/-! ### Aborts from clients (R95, R104) -/

theorem mopClientAbort_malformed
    (hf : r.f.body.length < 11 ∨ allZero (slice 1 2 r.f.body) = false ∨ allZero (r.f.body.drop 7) = false) :
    mopClientAbort s r = mopRefuse s r 3 false (mfAddr r.f) 0x20 0 := if_pos hf

theorem mopClientAbort_unknown
    (hf : ¬(r.f.body.length < 11 ∨ allZero (slice 1 2 r.f.body) = false ∨ allZero (r.f.body.drop 7) = false))
    (hv : r.service = 0 ∨ 4 < r.service) : mopClientAbort s r = mopRefuse s r 3 false (mfAddr r.f) 0x21 1 :=
  (if_neg hf).trans (if_pos hv)

theorem mopClientAbort_closes
    (hf : ¬(r.f.body.length < 11 ∨ allZero (slice 1 2 r.f.body) = false ∨ allZero (r.f.body.drop 7) = false))
    (hv : ¬(r.service = 0 ∨ 4 < r.service)) :
    mopClientAbort s r = violation (mopClose s r) 3 0 r.f.bus r.f.source 0x28 (r.raw 3) :=
  (if_neg hf).trans (if_neg hv)

end

/-- Settles O53: initiates, the answers to them, segments, segmented writes and reads, and aborts from clients. The order of the checks,
R100's replaced session among them, is the model's choice (assumption log 34). -/
theorem protocolTransfers : Obligations.ProtocolTransfers := by
  refine ⟨fun s r b => ⟨fun hf => mopInitiate_malformed (not_not_intro hf), mopInitiate_unknown, fun hf h1 h4 => mopInitiate_bad hf (by omega),
      fun hf h1 h4 hb => ?served⟩,
    fun s r a => ⟨mopAnswer_refused, mopAnswer_expedited, mopAnswer_full, fun hc hl hn hnone => ?opened⟩,
    fun s r b => ⟨mopSegment_short, mopSegment_unknown, fun hl h1 h4 => ⟨mopSegment_no_session hl (by omega), fun m hm =>
      ⟨mopSegment_broken hl (by omega) hm, fun hs hb => ?toggled⟩⟩⟩,
    fun s r m b => ⟨mopWriteSegment_length, fun hl hn hcrc => ?wrongCrc, fun hl hn hcrc => ?rightCrc, mopWriteSegment_more,
      names_of_mem_mopReadSegment⟩,
    fun s r => ⟨mopClientAbort_malformed, mopClientAbort_unknown, fun hf h1 h4 => ?aborted⟩⟩
  case served =>
    have hserved : mopInitiate s r b = mopServe (mopAnew s r) r b := mopInitiate_served hf (by omega) hb
    obtain ⟨f, service⟩ := r
    rw [hserved]
    refine ⟨?_, ?_, ?_, ?_, ?_⟩
    · rintro rfl; rfl
    · rintro rfl; rfl
    · rintro rfl; rfl
    · rintro rfl hl; exact if_pos hl
    · rintro rfl hl
      exact ⟨mopServe_refused hl, mopServe_full hl, fun hc hn =>
        (congrArg (·.dict.sessions.length) (mopServe_opens hl hc hn)).trans (sessions_mopOpen_length _ _ _ _)⟩
  case opened =>
    rw [mopAnswer_segmented hc hl hn]
    obtain ⟨data, now, hsession⟩ := session?_mopOpen (m := readSession s r a) hnone ((names_iff _ _).2 ⟨rfl, rfl, rfl⟩) a.bytes.length
    exact ⟨sessions_mopOpen_length _ _ _ _, _, hsession, rfl, rfl, rfl, rfl⟩
  case toggled =>
    rw [mopSegment_sound hl (by omega) hm hs hb]
    refine ⟨fun hn ht => if_pos ⟨hn, ht⟩, fun ht => ?_, fun ht => ?_⟩
    · rw [if_neg (by simp [ht]), if_pos ht]
      exact ⟨_, rfl, State.g_inc_self .., rfl, objectsKept_p s Od.MOP_RETX_CNT 0 _⟩
    · rw [if_neg (by rintro ⟨hn, h1⟩; simp [hn, h1] at ht), if_neg (by intro h1; simp [h1] at ht)]
      exact ⟨fun hw => if_neg (by simp [hw]), fun hw => if_pos hw⟩
  case wrongCrc => exact (mopWriteSegment_last hl hn).trans (if_pos hcrc)
  case rightCrc => exact (mopWriteSegment_last hl hn).trans (if_neg (not_not_intro hcrc))
  case aborted =>
    have hclosed := mopClientAbort_closes (s := s) hf (by omega)
    refine ⟨hclosed, fun x hx => ?_⟩
    rw [hclosed, (evtReach_violation _ _ _ _ _ _ _).only.dict_eq] at hx
    exact names_of_mem_mopClose hx

/-! ### The request slots of the window (R78 to R83) -/

/-- A request in a slot runs to its end: what is refused before it is looked at, and what its operation answers. -/
theorem exec_of_slotRun {c : Instr} {s : State} {k : Fin 8} {fill : WinSlot → WinSlot} {rsv : Bool}
    {f : State → State × ReadAnswer × Nat} (h : Live s) (hc : exec c s = slotRun k fill rsv f s) :
    let u := s.setSlot k fun w => { fill w with go := true, done := false, fromActive := false, code := 0, rlen := 0 }
    (s.dev = .booting → exec c s = .next (settleAll s (slotEnd u k 0x0D false 0 []))) ∧
    (s.dev ≠ .booting → rsv = true → exec c s = .next (settleAll s (slotEnd u k 0x20 false 0 []))) ∧
    (s.dev ≠ .booting → rsv = false → ∀ t a n, f u = (t, a, n) → t.dev ≠ .booting →
      exec c s = .next (settleAll s (slotEnd t k a.code a.fromActive n a.bytes))) := by
  rw [hc]
  refine ⟨fun hd => ?_, fun hd hr => ?_, fun hd hr t a n hf ht => ?_⟩
  · exact actAll_eq h (if_pos hd)
  · exact actAll_eq h ((if_neg hd).trans (if_pos hr))
  · refine actAll_eq h ((if_neg hd).trans ((if_neg (by simp [hr])).trans ?_))
    simp only [hf]
    exact if_neg ht

/-- The slot of a request that has ended. -/
def WinSlot.ended (w : WinSlot) (code : Nat) (fa : Bool) (n : Nat) (bytes : List Byte) : WinSlot :=
  { w with go := false, done := true, fromActive := fa, code := code, rlen := n, data := overlay (padTo 480 w.data) 0 bytes }

/-- It carries the answer's bytes. -/
theorem take_ended_data (w : WinSlot) (code : Nat) (fa : Bool) (n : Nat) (bytes : List Byte) :
    (w.ended code fa n bytes).data.take bytes.length = bytes := by
  simp [WinSlot.ended, overlay]

section
variable (s : State) (k : Fin 8) (code : Nat) (fa : Bool) (n : Nat) (bytes : List Byte)

theorem slotEnd_eq : slotEnd s k code fa n bytes = raise (s.setSlot k fun w => w.ended code fa n bytes) Src.windowDone k := rfl

theorem dict_slotEnd : (slotEnd s k code fa n bytes).dict = (s.setSlot k fun w => w.ended code fa n bytes).dict := by
  rw [slotEnd_eq, (evtReach_raise _ _ (he := by decide)).only.dict_eq]

theorem slot_slotEnd : (slotEnd s k code fa n bytes).dict.slots[k] = s.dict.slots[k].ended code fa n bytes := by
  rw [dict_slotEnd]
  exact vmod_get _ _ _

theorem slot_slotEnd_ne {j : Fin 8} (hj : j ≠ k) : (slotEnd s k code fa n bytes).dict.slots[j] = s.dict.slots[j] := by
  rw [dict_slotEnd]
  exact vmod_get_ne _ _ hj

theorem slotEnd_kept : ObjectsKeptEv [] s (slotEnd s k code fa n bytes) := by
  have hset : ObjectsKeptEv [] s (s.setSlot k fun w => w.ended code fa n bytes) := objectsKeptEv_of_od rfl
  exact hset.trans (evtReach_raise _ _ (he := by decide)).kept

theorem slotEnd_raised : Raised Src.windowDone s (slotEnd s k code fa n bytes) := by
  have hset : TotalsKept s (s.setSlot k fun w => w.ended code fa n bytes) := totalsKept_of_od rfl
  exact (raised_raise _ _ (he := by decide) (h8 := by decide)).of_totalsKept hset (by decide)

end

/-- A write that arrives while the slot's request runs counts and is logged, and reaches no slot (R81, R106). -/
theorem exec_slotWriteWhileBusy_counts {s : State} (h : Live s) (k : Fin 8) (d : List Byte) :
    ∃ t, exec (.slotWriteWhileBusy k d) s = .next t ∧ t.g Od.ODW_VIOL_CNT = (s.g Od.ODW_VIOL_CNT + 1) % 2 ^ 32 ∧ t.dict = s.dict := by
  rw [exec_slotWriteWhileBusy, execSlotWriteWhileBusy]
  exact ⟨_, act_live h _, (at_violation _ _ _ _ _ _ _ (quiet_of_group (by decide))).g.trans (State.g_inc_self ..),
    (evtReach_violation _ _ _ _ _ _ _).only.dict_eq⟩

/-! ### Entries of an admin queue (R408, R440) -/

/-- An entry that cannot be taken has no effect. -/
theorem adminTake_idle {s : State} {q : IoQueue} {hdr : IoHdr}
    (hn : adminServed s q = false ∨ s.ctxFree (s.queueCrib q) = false ∨ s.takeEntry q = none) (duringSanitize : Bool) (f : State → State) :
    adminTake s q hdr duringSanitize f = s := by
  unfold adminTake
  split
  · rfl
  · next hs =>
    simp only [Bool.or_eq_true, Bool.not_eq_true', not_or, Bool.not_eq_false] at hs
    rw [(hn.resolve_left (by simp [hs.1])).resolve_left (by simp [hs.2])]

/-- One that is taken and passes the checks has its command's own effect. -/
theorem adminTake_clear {s u : State} {q : IoQueue} {hdr : IoHdr} (ht : AdminClear s q hdr u) (f : State → State) :
    adminTake s q hdr true f = f u := by
  obtain ⟨⟨hserved, hfree, htake⟩, hfuse, hrsv, hprp⟩ := ht
  simp [adminTake, hserved, hfree, htake, hfuse, hrsv, hprp]

/-! ### Object Read and Object Write (R60, R61, R67) -/

section
variable {s u v : State} {q : IoQueue} {hdr : IoHdr} {addr off len : Nat} {d : List Byte} {view : Bool} {b : BitVec 4}

theorem exec_objectRead_idle (h : Live s)
    (hn : adminServed s q = false ∨ s.ctxFree (s.queueCrib q) = false ∨ s.takeEntry q = none) :
    exec (.objectRead q hdr addr off len view) s = .next (settleAll s s) := by
  rw [exec_objectRead, execObjectRead]
  exact actAll_eq_self h (adminTake_idle hn _ _)

theorem exec_objectWrite_idle (h : Live s)
    (hn : adminServed s q = false ∨ s.ctxFree (s.queueCrib q) = false ∨ s.takeEntry q = none) :
    exec (.objectWrite q hdr addr off len d b) s = .next (settleAll s s) := by
  rw [exec_objectWrite, execObjectWrite]
  exact actAll_eq_self h (adminTake_idle hn _ _)

variable (h : Live s) (ht : AdminClear s q hdr u)
include h ht

theorem exec_objectRead_length (hl : len = 0 ∨ 4096 < len) :
    exec (.objectRead q hdr addr off len view) s = .next (settleAll s (u.complete q hdr.cid .invalidField)) := by
  rw [exec_objectRead, execObjectRead]
  exact actAll_eq h ((adminTake_clear ht _).trans (if_pos hl))

theorem exec_objectWrite_length (hl : len = 0 ∨ 4096 < len) :
    exec (.objectWrite q hdr addr off len d b) s = .next (settleAll s (u.complete q hdr.cid .invalidField)) := by
  rw [exec_objectWrite, execObjectWrite]
  exact actAll_eq h ((adminTake_clear ht _).trans (if_pos hl))

variable (hl : ¬(len = 0 ∨ 4096 < len))
include hl

/-- An Object Read whose answer carries no value. -/
theorem exec_objectRead_empty {a : ReadAnswer} (hr : objRead u (u.queueCrib q) addr off len view false = (v, a)) (ha : a.bytes = []) :
    exec (.objectRead q hdr addr off len view) s =
      .next (settleAll s (v.complete q hdr.cid .success none (objDw0 a.code a.fromActive 0))) := by
  rw [exec_objectRead, execObjectRead]
  refine actAll_eq h ((adminTake_clear ht _).trans ((if_neg hl).trans ?_))
  simp [hr, ha, adminDone]

/-- One whose buffer is too short for the value. -/
theorem exec_objectRead_short {a : ReadAnswer} (hr : objRead u (u.queueCrib q) addr off len view false = (v, a)) (ha : len < a.bytes.length) :
    exec (.objectRead q hdr addr off len view) s =
      .next (settleAll s (v.complete q hdr.cid .success none (objDw0 0x06 false 0))) := by
  rw [exec_objectRead, execObjectRead]
  refine actAll_eq h ((adminTake_clear ht _).trans ((if_neg hl).trans ?_))
  simp [hr, ha, adminDone]

/-- One that a PCIe queue brought sends the value to the host's buffer. -/
theorem exec_objectRead_sends {a : ReadAnswer} (hr : objRead u (u.queueCrib q) addr off len view false = (v, a)) (ha : a.bytes ≠ [])
    (hlen : a.bytes.length ≤ len) {f : Crib} {qid : Nat} (hq : q = .sq f qid) :
    exec (.objectRead q hdr addr off len view) s =
      .next (settleAll s ((v.emit (.hostData q hdr.cid a.bytes)).complete q hdr.cid .success none
        (objDw0 a.code a.fromActive a.bytes.length))) := by
  rw [exec_objectRead, execObjectRead]
  refine actAll_eq h ((adminTake_clear ht _).trans ((if_neg hl).trans ?_))
  subst hq
  simp [hr, ha, not_lt.2 hlen, adminDone]

theorem exec_objectWrite_answers {c : Nat} (hw : objWrite u (u.queueCrib q) (some (1 + u.queueCrib q)) addr off (padTo len d) b = (v, c))
    (hv : v.dev ≠ .booting) :
    exec (.objectWrite q hdr addr off len d b) s =
      .next (settleAll s (v.complete q hdr.cid .success none (objDw0 c false (if c = 0 then len else 0)))) := by
  rw [exec_objectWrite, execObjectWrite]
  refine actAll_eq h ((adminTake_clear ht _).trans ((if_neg hl).trans ?_))
  simp only [hw]
  exact if_neg hv

end

/-- Settles O51: each operation of a slot, how a slot's request ends, a write to a slot that is busy, and the two admin commands. That a
slot's request runs to its end within its command is the model's choice (assumption log 32). -/
theorem windowAndAdminObjectRequests : Obligations.WindowAndAdminObjectRequests := by
  refine ⟨fun s k addr off len d view rsv op b h => ⟨?read, ?write, ?describe, ?next, ?unknown⟩, fun s k code n fa bytes => ?ends,
    fun s k d h => exec_slotWriteWhileBusy_counts h k d, fun s q hdr addr off len d view b h => ⟨fun hn => ⟨exec_objectRead_idle h hn,
      exec_objectWrite_idle h hn⟩, fun u ht => ⟨fun hl => ⟨exec_objectRead_length h ht hl, exec_objectWrite_length h ht hl⟩,
        fun h0 h4096 => ?admitted⟩⟩⟩
  case read => exact exec_of_slotRun h (exec_windowRead k addr off view rsv s)
  case write => exact exec_of_slotRun h (exec_windowWrite k addr off len d rsv b s)
  case describe => exact exec_of_slotRun h (exec_windowDescribe k addr rsv s)
  case next => exact exec_of_slotRun h (exec_windowNext k addr rsv s)
  case unknown => exact exec_of_slotRun h (exec_windowUnknownOp k op rsv s)
  case ends =>
    intro t
    have hslot : t.dict.slots[k] = s.dict.slots[k].ended code fa n bytes := slot_slotEnd s k code fa n bytes
    rw [hslot]
    exact ⟨rfl, rfl, rfl, rfl, rfl, fun _ => take_ended_data _ code fa n bytes, fun j hj => slot_slotEnd_ne s k code fa n bytes hj,
      slotEnd_raised s k code fa n bytes, slotEnd_kept s k code fa n bytes⟩
  case admitted =>
    have hl : ¬(len = 0 ∨ 4096 < len) := by omega
    exact ⟨fun v a => exec_objectRead_empty h ht hl, fun v a => exec_objectRead_short h ht hl,
      fun v a f qid hr ha hlen hq => exec_objectRead_sends h ht hl hr ha hlen hq, fun v c => exec_objectWrite_answers h ht hl⟩

/-! ### Crib resets that are ordered (R84, R173, R404, R406) -/

theorem actGranary_live {s : State} (h : Live s) (f : State → State) : actGranary s f = .next (keepG s (f s)) := by
  rw [actGranary, if_neg (by rw [h.1]; exact Bool.false_ne_true), if_neg h.2]
  rfl

/-- A command in the frame of the Threshing Floor whose effect is `t`. -/
theorem actGranary_eq {s t : State} {f : State → State} (h : Live s) (hf : f s = t) : actGranary s f = .next (keepG s t) := by
  rw [actGranary_live h, hf]

theorem cribResetStart_none {s : State} {c : Crib} (hc : c = 0 ∨ s.g Od.CRIB_STATE c = 2) : cribResetStart s c = s :=
  if_pos (by rwa [Fin.val_eq_zero_iff])

theorem cribReset_one (s : State) (c : Crib) : cribReset s c 1 = (cribResetStart s c, 0) := by
  simp [cribReset]

theorem exec_cribReset_admitted {s : State} (h : Live s) {who c : Crib} (hw : s.writeCodeOf who Od.CRIB_RESET c = 0) :
    exec (.cribReset who c) s = .next (keepG s ((cribResetStart s c).answer who 0)) := by
  rw [exec_cribReset, execCribReset]
  exact actGranary_eq h (by rw [writeObj_admitted hw, cribReset_one])

theorem exec_vfFunctionLevelReset_none {s : State} (h : Live s) {f : Crib} (hn : f = 0 ∨ s.fnThere f = false ∨ s.boot.crs = true) :
    exec (.vfFunctionLevelReset f) s = .next (keepG s s) := by
  rw [exec_vfFunctionLevelReset, execVfFunctionLevelReset]
  exact actGranary_eq h (if_pos (by rwa [Fin.val_eq_zero_iff]))

theorem exec_vfFunctionLevelReset_starts {s : State} (h : Live s) {f : Crib} (hf : f ≠ 0) (ht : s.fnThere f = true) (hb : s.boot.crs = false) :
    exec (.vfFunctionLevelReset f) s = .next (keepG s (cribResetStart { s with fns := s.fns.set f Fn.fresh } f)) := by
  rw [exec_vfFunctionLevelReset, execVfFunctionLevelReset]
  exact actGranary_eq h (if_neg (by simp [hf, ht, hb]))

theorem exec_ccEnClear_none {s : State} (h : Live s) {f : Crib}
    (hn : s.host.ctl[f].en = false ∨ s.fnThere f = false ∨ s.boot.crs = true) : exec (.ccEnClear f) s = .next (keepG s s) := by
  rw [exec_ccEnClear, execCcEnClear]
  exact actGranary_eq h (if_pos hn)

theorem exec_ccEnClear_enabled {s : State} (h : Live s) {f : Crib} (he : s.host.ctl[f].en = true) (ht : s.fnThere f = true)
    (hb : s.boot.crs = false) :
    exec (.ccEnClear f) s = .next (keepG s (if f = 0 then ctlReset s 0 else cribResetStart s f)) := by
  rw [exec_ccEnClear, execCcEnClear]
  refine actGranary_eq h ((if_neg (by rw [he, ht, hb]; decide)).trans ?_)
  simp only [Fin.val_eq_zero_iff]

theorem exec_cribResetComplete_waits {s : State} (h : Live s) {c : Crib} (hn : s.g Od.CRIB_STATE c ≠ 2 ∨ cribQuiet s c = false) :
    exec (.cribResetComplete c) s = .next (keepG s s) := by
  rw [exec_cribResetComplete, execCribResetComplete]
  exact actGranary_eq h (if_neg (by rintro ⟨hs, hq⟩; simp [hs, hq] at hn))

theorem exec_cribResetComplete_ends {s : State} (h : Live s) {c : Crib} (hs : s.g Od.CRIB_STATE c = 2) (hq : cribQuiet s c = true) :
    exec (.cribResetComplete c) s = .next (keepG s (cribResetEnd s c)) := by
  rw [exec_cribResetComplete, execCribResetComplete]
  exact actGranary_eq h (if_pos ⟨hs, hq⟩)

/-! ### What a Crib reset does at its start (R174, R406) -/

/-- A doorbell of crib `c` goes. -/
def dropDoorbell (c : Crib) (s : State) (d : Nat) : State :=
  if s.g Od.DB_OWNER d = c.val then
    { s with evt := { s.evt with doorbells := s.evt.doorbells &&& ~~~ BitVec.twoPow 256 d } } else s

/-- All it leaves. -/
theorem dropDoorbell_only (c : Crib) (s : State) (d : Nat) :
    dropDoorbell c s d = { s with evt := { s.evt with doorbells := (dropDoorbell c s d).evt.doorbells } } := by
  unfold dropDoorbell
  split <;> rfl

theorem dropDoorbell_clear (c : Crib) {s : State} {d : Fin 256} (ho : s.g Od.DB_OWNER d = c) :
    (dropDoorbell c s d).evt.doorbells.getLsbD d = false := by
  rw [dropDoorbell, if_pos ho]
  simp

theorem dropDoorbell_stays_clear (c : Crib) {s : State} {d : Nat} (hd : s.evt.doorbells.getLsbD d = false) (x : Nat) :
    (dropDoorbell c s x).evt.doorbells.getLsbD d = false := by
  unfold dropDoorbell
  split
  · simp [hd]
  · exact hd

/-- The doorbells of a crib after every one of a list that it owns has gone. -/
theorem dropDoorbells_clear (c : Crib) {d : Fin 256} (l : List Nat) {s : State} (hd : d.val ∈ l) (ho : s.g Od.DB_OWNER d = c) :
    (s.each l (dropDoorbell c)).evt.doorbells.getLsbD d = false := by
  induction l generalizing s with
  | nil => cases hd
  | cons x t ih =>
    rw [each_cons]
    by_cases hx : d.val = x
    · subst hx
      exact each_inv (P := fun u => u.evt.doorbells.getLsbD d = false) t _ (fun u y _ hu => dropDoorbell_stays_clear c hu y)
        (dropDoorbell_clear c ho)
    · refine ih ((List.mem_cons.1 hd).resolve_left hx) ?_
      rw [dropDoorbell_only]
      exact ho

/-- What the doorbells of a crib leave of a state when they go. -/
theorem dropDoorbells_only (c : Crib) (l : List Nat) (s : State) :
    s.each l (dropDoorbell c) = { s with evt := (s.each l (dropDoorbell c)).evt } :=
  each_rel (R := fun u v => v = { u with evt := v.evt }) (fun _ => rfl) (fun h k => by rw [k, h]) l _
    (fun u x _ => by rw [dropDoorbell_only]) s

/-- With no job on a sequencer there is none to stop. -/
theorem stopJobs_idle {s : State} (hq : s.thresh.seq = Vector.replicate 4 none) (why : JobEnd) (p : Nat → Bool) : stopJobs s why p = s := by
  refine each_inv (P := fun u => u = s) _ _ (fun u sq _ hu => ?_) rfl
  subst hu
  simp [hq]

/-- With no Rake operation there is none to abort. -/
theorem rakeAbort_idle {s : State} (hr : s.cache.rakes = []) (hn : s.cache.rakeRun = none) (p : RakeOp → Bool) : rakeAbort s p = s := by
  have hcache : { s.cache with rakes := [], rakeRun := none } = s.cache := by rw [← hr, ← hn]
  have hops : (s.media.ops.filter fun o => !(o.kind == MediaKind.prefetch && o.ctxs.any [].contains)) = s.media.ops :=
    List.filter_eq_self.2 fun o _ => by
      have hany : o.ctxs.any [].contains = false := List.any_eq_false.2 fun _ _ => Bool.false_ne_true
      rw [hany, Bool.and_false]
      rfl
  simp only [rakeAbort, hr, hn, Option.toList_none, List.append_nil, List.filter_nil, Option.filter_none, List.map_nil, each_nil, hcache, hops]

/-- The first of a Crib reset: CRIB_STATE reads RESETTING, and the crib's controller is neither enabled nor ready. -/
def cribResetting (s : State) (c : Crib) : State :=
  State.setCtl { s.p Od.CRIB_STATE c 2 with crib := s.crib.set c { s.crib[c] with resetting := true } } c fun g => { g with
    en := false, rdy := false, shst := 0, cfs := false, aers := [], kept := []
    cqs := g.cqs.map fun p => (p.1, { p.2 with waiting := [] }) }

/-- A Crib reset of a crib with nothing admitted, no job and no Rake operation in the device: its doorbells go after that. -/
theorem cribResetStart_idle {s : State} {c : Crib} (hc : c ≠ 0) (hn : s.g Od.CRIB_STATE c ≠ 2) (hx : s.host.ctxs = [])
    (hq : s.thresh.seq = Vector.replicate 4 none) (hr : s.cache.rakes = []) (hrun : s.cache.rakeRun = none) :
    cribResetStart s c = (cribResetting s c).each (List.range 256) (dropDoorbell c) := by
  unfold cribResetStart
  rw [if_neg (by simp [hc, hn])]
  -- s3: the controller; s4: the jobs; s5: the doorbells; s6: the Rake operations
  extract_lets s1 _ s2 s3 s4 s5 s6
  have h3 : s3 = cribResetting s c := rfl
  have h4 : s4 = s3 := stopJobs_idle (s := s3) hq _ _
  have h5 : s5 = s3.each (List.range 256) (dropDoorbell c) := congrArg (fun u : State => u.each (List.range 256) (dropDoorbell c)) h4
  have honly : s5 = { s3 with evt := s5.evt } := by rw [h5]; exact dropDoorbells_only c _ s3
  have h6 : s6 = s5 := rakeAbort_idle (by rw [honly]; exact hr) (by rw [honly]; exact hrun) _
  have hctxs : s6.host.ctxs = [] := by rw [h6, honly]; exact hx
  rw [hctxs, each_nil, h6, h5, h3]

theorem cribResetting_ctl (s : State) (c : Crib) : (cribResetting s c).host.ctl[c].en = false ∧ (cribResetting s c).host.ctl[c].rdy = false ∧
    (cribResetting s c).host.ctl[c].kept = [] := by
  have hctl : (cribResetting s c).host.ctl[c] = _ := vmod_get _ c _
  rw [hctl]
  exact ⟨rfl, rfl, rfl⟩

theorem cribResetting_kept (s : State) (c : Crib) : ObjectsKept [Od.CRIB_STATE.el c] s (cribResetting s c) := objectsKept_p s Od.CRIB_STATE c 2

/-- What such a reset leaves: RESETTING, a controller neither enabled nor ready, and no doorbell of the crib. -/
theorem cribResetStart_idle_effect {s : State} {c : Crib} (hc : c ≠ 0) (hn : s.g Od.CRIB_STATE c ≠ 2) (hx : s.host.ctxs = [])
    (hq : s.thresh.seq = Vector.replicate 4 none) (hr : s.cache.rakes = []) (hrun : s.cache.rakeRun = none) :
    ∃ t, t = cribResetStart s c ∧ t.g Od.CRIB_STATE c = 2 ∧ t.host.ctl[c].en = false ∧ t.host.ctl[c].rdy = false ∧
      t.host.ctl[c].kept = [] ∧ (∀ d : Fin 256, s.g Od.DB_OWNER d = c → t.evt.doorbells.getLsbD d = false) ∧
      ObjectsKept [Od.CRIB_STATE.el c] s t := by
  have hod : (cribResetStart s c).od = (cribResetting s c).od ∧ (cribResetStart s c).host = (cribResetting s c).host := by
    rw [cribResetStart_idle hc hn hx hq hr hrun, dropDoorbells_only]
    exact ⟨rfl, rfl⟩
  obtain ⟨hod, hhost⟩ := hod
  obtain ⟨hen, hrdy, hkept⟩ := cribResetting_ctl s c
  refine ⟨_, rfl, ?_, by rw [hhost]; exact hen, by rw [hhost]; exact hrdy, by rw [hhost]; exact hkept, fun d hd => ?_, ?_⟩
  · rw [State.g, hod]
    exact State.g_p_self s Od.CRIB_STATE c 2
  · rw [cribResetStart_idle hc hn hx hq hr hrun]
    have howner : (cribResetting s c).g Od.DB_OWNER d = s.g Od.DB_OWNER d :=
      cribResetting_kept s c _ (by simp only [List.mem_singleton, Ob.el, Od.CRIB_STATE, Od.DB_OWNER]; omega)
    exact dropDoorbells_clear c _ (List.mem_range.2 d.isLt) (howner.trans hd)
  · intro a ha
    rw [hod]
    exact cribResetting_kept s c a ha

/-! ### The physical function's reset (R67, R84, R404) -/

theorem exec_pfFunctionLevelReset_none {s : State} (h : Live s) (hb : s.boot.crs = true) : exec .pfFunctionLevelReset s = .next s := by
  rw [exec_pfFunctionLevelReset, execPfFunctionLevelReset]
  exact act_eq_self h (if_pos hb)

/-- The PF's controller and function are as after reset, the window is clear, and nothing of another function or of an object differs. -/
theorem exec_pfFunctionLevelReset_resets {s : State} (h : Live s) (hb : s.boot.crs = false) :
    ∃ t, exec .pfFunctionLevelReset s = .next t ∧ t.host.ctl[(0 : Crib)] = NvmeCtl.fresh ∧ t.fns[(0 : Crib)] = Fn.fresh ∧
      t.dict.slots = Vector.replicate 8 WinSlot.empty ∧ (∀ a ∈ t.dict.assemblies, a.path ≠ 0) ∧ t.od = s.od ∧
      (∀ f : Crib, f ≠ 0 → t.host.ctl[f] = s.host.ctl[f] ∧ t.fns[f] = s.fns[f]) := by
  rw [exec_pfFunctionLevelReset, execPfFunctionLevelReset]
  refine ⟨_, act_eq h (if_neg (by simp [hb])), vmod_get _ (0 : Crib) _, vmod_get s.fns (0 : Crib) fun _ => Fn.fresh, rfl, fun a ha => ?_, rfl,
    fun f hf => ⟨vmod_get_ne _ _ hf, vmod_get_ne s.fns (fun _ => Fn.fresh) hf⟩⟩
  simpa using (List.mem_filter.1 ha).2

/-! ### Property Set (R407, R459) -/

/-- A capsule on a connection that takes it has its command's own effect. -/
theorem capsule_on {s u : State} {k : Nat} {c : Conn} (hc : CapsuleOn s k u c) (f : State → Conn → State) : capsule s k f = f u c := by
  obtain ⟨hdone, htake, hconn⟩ := hc
  unfold capsule pdu
  cases hd : s.conn? k with
  | none => simp [hd] at hdone
  | some d =>
    have hic : d.icDone = true := by simpa [hd] using hdone
    simp only [hic, if_true, htake, Option.getD_some, hconn]

section
variable {s u : State} {k cid off v : Nat} {c : Conn} (h : Live s) (hc : CapsuleOn s k u c)
include h hc

/-- On a connection that is not an admin connection of a controller. -/
theorem exec_propertySet_refused (hn : c.qid ≠ 0 ∨ c.cntlid = none) :
    exec (.propertySet k cid off v) s = .next (keepG s (u.complete (.conn k) cid .commandSequence)) := by
  rw [exec_propertySet, execPropertySet]
  refine actGranary_eq h ((capsule_on hc _).trans ?_)
  dsimp only
  split
  · next hi _ hq => exact absurd hn (by simp [hi, hq])
  · rfl

variable {i : Nat} {a : Assoc} (hq : c.qid = 0) (hi : c.cntlid = some i) (ha : u.net.assocs.find? i = some a)
include hq hi ha

/-- On one that is, CC alone may be written. -/
theorem exec_propertySet_admin {t : State}
    (ht : (if off ≠ 0x14 then u.complete (.conn k) cid .invalidField
      else
        let w := (setAssocCtl u i fun g => { g with cc := v }).complete (.conn k) cid .success
        if v.testBit 0 && !a.ctl.en then setAssocCtl w i fun g => { g with en := true, rdy := true }
        else if !v.testBit 0 && a.ctl.en then
          let w := setAssocCtl w i fun g => { g with en := false, rdy := false, shst := 0, cfs := false }
          if h : a.crib < 33 then cribResetStart w ⟨a.crib, h⟩ else w
        else if v.testBit 0 && (fieldOf v 15 14 == 1 || fieldOf v 15 14 == 2) then settleQueues (setAssocCtl w i fun g => { g with shst := 1 })
        else w) = t) :
    exec (.propertySet k cid off v) s = .next (keepG s t) := by
  rw [exec_propertySet, execPropertySet]
  refine actGranary_eq h ((capsule_on hc _).trans (Eq.trans ?_ ht))
  simp only [hq, hi, Option.bind_some, ha]

end

/-- Settles O46: what starts a Crib reset and what does not, how it ends, what it leaves at its start, the physical function's reset, and
Property Set. What a Crib reset leaves and its end are the model's choice (assumption logs 36 and 37). -/
theorem cribResets : Obligations.CribResets := by
  refine ⟨fun s who c h => exec_cribReset_admitted h, fun s c => cribResetStart_none, fun s f h => ⟨exec_vfFunctionLevelReset_none h,
      exec_vfFunctionLevelReset_starts h, exec_ccEnClear_none h, fun he ht hb => ⟨fun hf => ?ccPf, fun hf => ?ccVf⟩,
      exec_cribResetComplete_waits h, exec_cribResetComplete_ends h⟩,
    fun s c _ => cribResetStart_idle_effect, fun s h => ⟨exec_pfFunctionLevelReset_none h, exec_pfFunctionLevelReset_resets h⟩,
    fun s u k cid off v c h hc => ⟨exec_propertySet_refused h hc, fun i a hq hi ha => ⟨fun hoff => ?notCc,
      fun hoff => ⟨fun hv he => ?enabled, fun hv he b hb => ?disabled, fun hv he hsh => ?shutdown, fun hv hsh => ?nothing⟩⟩⟩⟩
  case ccPf => rw [exec_ccEnClear_enabled h he ht hb, if_pos hf]
  case ccVf => rw [exec_ccEnClear_enabled h he ht hb, if_neg hf]
  case notCc => exact exec_propertySet_admin h hc hq hi ha (if_pos hoff)
  case enabled =>
    exact exec_propertySet_admin h hc hq hi ha ((if_neg (not_not_intro hoff)).trans (if_pos (by simp [hv, he])))
  case disabled =>
    refine exec_propertySet_admin h hc hq hi ha ((if_neg (not_not_intro hoff)).trans ((if_neg (by simp [hv])).trans
      ((if_pos (by simp [hv, he])).trans ?_)))
    obtain ⟨b, hlt⟩ := b
    subst hb
    exact dif_pos hlt
  case shutdown =>
    exact exec_propertySet_admin h hc hq hi ha ((if_neg (not_not_intro hoff)).trans ((if_neg (by simp [he])).trans
      ((if_neg (by simp [hv])).trans (if_pos (by simpa [hv] using hsh)))))
  case nothing =>
    refine exec_propertySet_admin h hc hq hi ha ((if_neg (not_not_intro hoff)).trans ((if_neg (by simp [hv])).trans
      ((if_neg (by simp [hv])).trans (if_neg ?_))))
    obtain hsh | hsh | hsh := hsh <;> simp [hsh]
end Sys2Proof.Machine
end

section
/-! SUPPORT. Reset, what moves the device state and the flash, the loading of firmware, and hold, drain and restart. -/

namespace Sys2Proof.Machine

/-! ### Reset (R107, R108) -/

/-- Settles O3: each field of the reset state is read off; its Granary is empty and its enables are low, so the invariant holds. -/
theorem resetIsBootingWithOutputsLow : Obligations.ResetIsBootingWithOutputsLow :=
  ⟨rfl, rfl, rfl, rfl, rfl, rfl, Keyed.canonical_nil _, fun _ => outputsSafe_of_pins rfl⟩

/-! ### What moves the device state, the flash and the Granary (R107, R141) -/

/-- Settles O5: of the four kinds of state of `exec_reached`, only the one of the Threshing Floor's frame may hold another Granary, and
only the one of start-up's frame another device state or flash as well; neither frame touches the queue. -/
theorem onlyTheirCommandsMoveDeviceFlashAndGranary : Obligations.OnlyTheirCommandsMoveDeviceFlashAndGranary := by
  intro c s t h
  obtain rfl | ⟨u, rfl | ⟨hstores, rfl⟩ | ⟨hmoves, rfl⟩⟩ := exec_reached h
  · exact ⟨rfl, fun _ => ⟨rfl, rfl⟩, fun _ _ _ => rfl⟩
  · exact ⟨rfl, fun _ => ⟨rfl, rfl⟩, fun _ _ _ => rfl⟩
  · exact ⟨rfl, fun _ => ⟨rfl, rfl⟩, fun _ hn => absurd hstores (by simp [hn])⟩
  · exact ⟨rfl, fun hn => absurd hmoves (by simp [hn]), fun hn => absurd hmoves (by simp [hn])⟩

/-! ### Writes in the frame of start-up -/

/-- An admitted write of one object in the frame of start-up: its effect, then the answer. -/
theorem actAll_writeObj {s t : State} {who e c : Nat} {o : Ob} {f : State → State × Nat} (h : Live s) (hw : s.writeCodeOf who o e = 0)
    (hf : f s = (t, c)) : actAll s (fun s => writeObj s who o e f) = .next (settleAll s (t.answer who c)) := by
  refine actAll_eq h ((writeObj_admitted hw f).trans ?_)
  rw [hf]

/-! ### Loading firmware (R117 to R120) -/

theorem loadSlot_p {s : State} {o : Ob} {e v : Nat} (h : o.el e ≠ Od.FW_SLOT_RUNNING.el 0) : loadSlot (s.p o e v) = loadSlot s := by
  rw [loadSlot, loadSlot, State.g_p_ne _ _ h]

section
variable {s : State}

theorem fwLoadCtrl_busy {v : Nat} (hv : v = 1 ∨ v = 2)
    (hb : s.g Od.PF_STATE ≠ 0 ∨ s.g Od.FW_LOAD_STATE = 1 ∨ s.g Od.FW_LOAD_STATE = 3) : fwLoadCtrl s v = (s, 0x0A) :=
  (if_neg (by omega)).trans (if_pos hb)

/-- What a command of the loader that is not refused as busy does. -/
theorem fwLoadCtrl_free {v : Nat} (hv : v = 1 ∨ v = 2) (hp : s.g Od.PF_STATE = 0) (h1 : s.g Od.FW_LOAD_STATE ≠ 1)
    (h3 : s.g Od.FW_LOAD_STATE ≠ 3) : fwLoadCtrl s v =
      if v = 1 then ((((s.p Od.FW_LOAD_STATE 0 1).p Od.FW_LOAD_ADDR 0 0).p Od.FW_STAGED 0 (s.g Od.FW_RUNNING)).setFlash (loadSlot s)
        ⟨[], true⟩, 0)
      else if s.g Od.FW_LOAD_STATE = 2 then (s.p Od.FW_LOAD_STATE 0 3, 0) else (s, 0x0C) := by
  refine (if_neg (by omega)).trans ((if_neg (by simp [hp, h1, h3])).trans ?_)
  dsimp only
  rw [loadSlot_p (by decide), loadSlot_p (by decide), State.g_p_ne _ _ (by decide), State.g_p_ne _ _ (by decide)]

end

/-- The end of a check that leaves `f` in the load slot: PASSED with the release of `f` staged, or FAILED (R113, R117). -/
def fwJudged (s : State) (f : FlashSlot) : State :=
  let u := s.setFlash (loadSlot s) f
  if f.check (s.g Od.FW_FLOOR) false = 0 then (u.p Od.FW_LOAD_STATE 0 4).p Od.FW_STAGED 0 f.release else u.p Od.FW_LOAD_STATE 0 5

theorem flash_fwJudged (s : State) (f : FlashSlot) : (fwJudged s f).flash = s.flash.set (loadSlot s) f := by
  unfold fwJudged
  dsimp only
  split <;> rfl

theorem totalsKept_fwJudged (s : State) (f : FlashSlot) : TotalsKept s (fwJudged s f) := by
  have hset : TotalsKept s (s.setFlash (loadSlot s) f) := totalsKept_of_od rfl
  unfold fwJudged
  dsimp only
  split
  · exact hset.trans ((totalsKept_p _ _ _ _ (by decide)).trans (totalsKept_p _ _ _ _ (by decide)))
  · exact hset.trans (totalsKept_p _ _ _ _ (by decide))

theorem fwJudged_passed {s : State} {f : FlashSlot} (hf : f.check (s.g Od.FW_FLOOR) false = 0) :
    (fwJudged s f).g Od.FW_LOAD_STATE = 4 ∧ (fwJudged s f).g Od.FW_STAGED = f.release % 2 ^ 32 := by
  rw [fwJudged, if_pos hf]
  refine ⟨?_, State.g_p_self ..⟩
  rw [State.g_p_ne _ _ (by decide), State.g_p_self]; rfl

theorem fwJudged_failed {s : State} {f : FlashSlot} (hf : f.check (s.g Od.FW_FLOOR) false ≠ 0) :
    (fwJudged s f).g Od.FW_LOAD_STATE = 5 ∧ (fwJudged s f).g Od.FW_STAGED = s.g Od.FW_STAGED := by
  rw [fwJudged, if_neg hf]
  exact ⟨State.g_p_self .., State.g_p_ne _ _ (by decide)⟩

/-- The end of a check judges the load slot and reports the outcome. -/
theorem exec_fwCheckDone_judges {s : State} (h : Live s) (h3 : s.g Od.FW_LOAD_STATE = 3) :
    let u := fwJudged s { s.flash[loadSlot s] with torn := false }
    exec .fwCheckDone s = .next (settleAll s (raise u Src.fwLoad (u.g Od.FW_LOAD_STATE))) := by
  rw [exec_fwCheckDone, execFwCheckDone]
  exact actAll_eq h (if_neg (not_not_intro h3))

/-- The event of a check's end touches nothing of what the check left. -/
theorem fwLoad_raised (s : State) (f : FlashSlot) {u : State} (hu : u = raise (fwJudged s f) Src.fwLoad ((fwJudged s f).g Od.FW_LOAD_STATE)) :
    u.flash = (fwJudged s f).flash ∧ Raised Src.fwLoad s u ∧ u.g Od.FW_LOAD_STATE = (fwJudged s f).g Od.FW_LOAD_STATE ∧
      u.g Od.FW_STAGED = (fwJudged s f).g Od.FW_STAGED := by
  subst hu
  have he : Src.fwLoad < 4096 := by decide
  exact ⟨(evtReach_raise _ _ (he := he)).only.flash_eq,
    (raised_raise _ _ (he := he) (h8 := by decide)).of_totalsKept (totalsKept_fwJudged s f) he,
    (at_raise _ _ (he := he) (hx := ⟨by decide, by decide, by decide⟩)).g,
    (at_raise _ _ (he := he) (hx := ⟨by decide, by decide, by decide⟩)).g⟩

/-! ### Hold, drain, release and restart (R129 to R136) -/

theorem boot_setDev (s : State) (d : Device) : (setDev s d).boot = s.boot := by
  unfold setDev
  dsimp only
  split
  · rfl
  · exact (evtReach_raise _ _ (he := by decide)).only.boot_eq

/-- A change of the device state is an occurrence of STATE. -/
theorem raised_setDev {s : State} {d : Device} (h : s.dev ≠ d) : Raised Src.state s (setDev s d) := by
  have hstate : Src.state < 4096 := by decide
  unfold setDev
  dsimp only
  rw [if_neg fun hc => h (Device.code_injective hc)]
  exact (raised_raise _ _ (he := hstate) (h8 := by decide)).of_totalsKept
    ((totalsKept_of_od rfl).trans (totalsKept_p { s with dev := d } _ _ _ (by decide))) hstate

/-- Draining begins with its reason kept, and is no longer put off. -/
theorem startDrain_draining (s : State) (why : DrainFor) :
    (startDrain s why).dev = .draining ∧ (startDrain s why).boot.drain = some why ∧ (startDrain s why).boot.drainDeferred = false := by
  rw [startDrain, boot_setDev]
  exact ⟨dev_setDev _ _, rfl, rfl⟩

theorem raised_startDrain {s : State} (h : s.dev ≠ .draining) (why : DrainFor) : Raised Src.state s (startDrain s why) :=
  raised_setDev (s := { s with boot := { s.boot with drain := some why, drainDeferred := false } }) h

theorem orderDrain_at_once {s : State} (hc : s.dict.commit = none) (why : DrainFor) : orderDrain s why = startDrain s why :=
  if_neg (by simp [hc])

theorem orderDrain_deferred {s : State} (hc : s.dict.commit.isSome = true) (why : DrainFor) :
    orderDrain s why = { s with boot := { s.boot with drain := some why, drainDeferred := true } } :=
  if_pos hc

theorem drainEnd_restart {s : State} (h : s.boot.drain = some .restart) : drainEnd s = warmRestart s := by
  rw [drainEnd, h]

theorem drainEnd_held {s : State} (h : s.boot.drain ≠ some .restart) : drainEnd s = enterHeld s := by
  unfold drainEnd
  split
  · next hr => exact absurd hr h
  · rfl

theorem holdRequest_one (s : State) : holdRequest s 1 = match s.dev with
    | .serving => (orderDrain (s.pb Od.HOLD_REASON 0 5 true) .hold, 0)
    | .held => (s.pb Od.HOLD_REASON 0 5 true, 0)
    | _ => (s, 0x0C) := rfl

theorem holdRequest_elsewhere {s : State} (hs : s.dev ≠ .serving) (hh : s.dev ≠ .held) : holdRequest s 1 = (s, 0x0C) := by
  rw [holdRequest_one]
  split
  · next hd => exact absurd hd hs
  · next hd => exact absurd hd hh
  · rfl

theorem holdRelease_elsewhere {s : State} (hd : s.dev ≠ .held) : holdRelease s 1 = (s.pb Od.HOLD_REASON 0 5 false, 0) :=
  (if_neg (by decide)).trans ((if_neg (by decide)).trans (if_pos (by simpa [State.isDev, State.pb] using hd)))

/-- A release while Held clears its own reason, and what the rest of HOLD_REASON says follows. -/
theorem holdRelease_held {s : State} (hd : s.dev = .held) :
    let u := s.pb Od.HOLD_REASON 0 5 false
    holdRelease s 1 = if (u.gb Od.HOLD_REASON 0 2 || u.gb Od.HOLD_REASON 0 3) = true
      then (popGo { u with boot := { u.boot with revalidate := true } }, 0)
      else (if u.g Od.HOLD_REASON = 0 then enterStarting u 3 else u, 0) :=
  (if_neg (by decide)).trans ((if_neg (by decide)).trans (if_neg (by simp [State.isDev, State.pb, hd])))

theorem warmRestartWrite_keyed (s : State) : warmRestartWrite s 0x5741524D = match s.dev with
    | .serving => (orderDrain s .restart, 0)
    | .draining => ({ s with boot := { s.boot with drain := some .restart } }, 0)
    | .held => (warmRestart s, 0)
    | _ => (s, 0x0C) := if_neg (not_not_intro rfl)

theorem warmRestartWrite_elsewhere {s : State} (hs : s.dev ≠ .serving) (hd : s.dev ≠ .draining) (hh : s.dev ≠ .held) :
    warmRestartWrite s 0x5741524D = (s, 0x0C) := by
  rw [warmRestartWrite_keyed]
  split
  · next h => exact absurd h hs
  · next h => exact absurd h hd
  · next h => exact absurd h hh
  · rfl

/-! ### The rows of these writes and of the drain

An admitted write of one of these objects does what the object's own function says, and answers its code. -/

section
variable {s t : State} {who : Crib} {c v : Nat} (h : Live s)
include h

theorem exec_fwLoadErase_admitted (hw : s.writeCodeOf who Od.FW_LOAD_CTRL 0 = 0) (hf : fwLoadCtrl s 1 = (t, c)) :
    exec (.fwLoadErase who) s = .next (settleAll s (t.answer who c)) := by
  rw [exec_fwLoadErase, execFwLoadErase, actAll_writeObj h hw hf]

theorem exec_fwLoadCheck_admitted (hw : s.writeCodeOf who Od.FW_LOAD_CTRL 0 = 0) (hf : fwLoadCtrl s 2 = (t, c)) :
    exec (.fwLoadCheck who) s = .next (settleAll s (t.answer who c)) := by
  rw [exec_fwLoadCheck, execFwLoadCheck, actAll_writeObj h hw hf]

theorem exec_fwLoadData_admitted {d : List Byte} (hw : s.writeCodeOf who Od.FW_LOAD_DATA 0 = 0) (hf : fwLoadData s d = (t, c)) :
    exec (.fwLoadData who d) s = .next (settleAll s (t.answer who c)) := by
  rw [exec_fwLoadData, execFwLoadData, actAll_writeObj h hw hf]

/-- FW_FLOOR_RAISE stands in the frame of an ordinary command. -/
theorem exec_fwFloorRaise_admitted (hw : s.writeCodeOf who Od.FW_FLOOR_RAISE 0 = 0) (hf : fwFloorRaise s v = t) (ht : keep s t = t) :
    exec (.fwFloorRaise who v) s = .next (t.answer who 0) := by
  rw [exec_fwFloorRaise, execFwFloorRaise, actWrite_live h hw, hf, keep_answer ht]

theorem exec_holdRequest_admitted (hw : s.writeCodeOf who Od.HOLD_REQUEST 0 = 0) (hf : holdRequest s v = (t, c)) :
    exec (.holdRequest who v) s = .next (settleAll s (t.answer who c)) := by
  rw [exec_holdRequest, execHoldRequest, actAll_writeObj h hw hf]

theorem exec_holdRelease_admitted (hw : s.writeCodeOf who Od.HOLD_RELEASE 0 = 0) (hf : holdRelease s v = (t, c)) :
    exec (.holdRelease who v) s = .next (settleAll s (t.answer who c)) := by
  rw [exec_holdRelease, execHoldRelease, actAll_writeObj h hw hf]

theorem exec_warmRestart_admitted (hw : s.writeCodeOf who Od.WARM_RESTART 0 = 0) (hf : warmRestartWrite s v = (t, c)) :
    exec (.warmRestart who v) s = .next (settleAll s (t.answer who c)) := by
  rw [exec_warmRestart, execWarmRestart, actAll_writeObj h hw hf]

/-- A drain that was put off begins with the reason it was ordered for. -/
theorem exec_drainStartDeferred_starts (hd : s.dev = .serving) (hdef : s.boot.drainDeferred = true) (hc : s.dict.commit = none) :
    exec .drainStartDeferred s = .next (settleAll s (startDrain s (s.boot.drain.getD .hold))) := by
  rw [exec_drainStartDeferred, execDrainStartDeferred]
  exact actAll_eq h (if_pos ⟨hd, hdef, hc⟩)

theorem exec_drainComplete_ends (hd : s.dev = .draining) (hb : drainBusy s = false) :
    exec .drainComplete s = .next (settleAll s (drainEnd s)) := by
  rw [exec_drainComplete, execDrainComplete]
  exact actAll_eq h (if_pos ⟨hd, hb⟩)

/-- A drain's time-out interrupts what is left; the drain ends at once when no command is left after that. -/
theorem exec_drainTimeout_interrupts (hd : s.dev = .draining) (hb : drainBusy s = true) :
    exec .drainTimeout s =
      .next (settleAll s (if (interruptAll s).host.ctxs = [] then drainEnd (interruptAll s) else interruptAll s)) := by
  rw [exec_drainTimeout, execDrainTimeout]
  exact actAll_eq h (if_pos ⟨hd, hb⟩)

end

/-- Settles O48, in the order of its clauses: the loader's commands, the ends of an erasure and of a check, the data, the floor,
HOLD_REQUEST, the drain, HOLD_RELEASE and WARM_RESTART. What FW_STAGED reads, a slot whose load was cut, and the end of a drain are the
model's choice (assumption logs 21, 22 and 25). -/
theorem firmwareLoadingAndDeviceStates : Obligations.FirmwareLoadingAndDeviceStates := by
  refine ⟨fun s who h hw => ?loader, fun s h => ⟨fun h1 => ?eraseDone, fun h1 => ?noErase, fun h3 => ?noCheck, fun h3 => ?judged⟩,
    fun s who d h hw => ?data, fun s who v h hw => ?floor, fun s who v h hw => ?hold,
    fun s why hd => ⟨fun hc => ?drainNow, fun hc => ?drainLater⟩,
    fun s h => ⟨fun hn => ?noDrain, fun hd hdef hc => ?drainStarts, fun hn => ?noComplete, fun hd hb => ?complete, fun hn => ?noTimeout,
      fun hd hb => ?timeout⟩,
    fun s who v h hw => ?release, fun s who v h hw => ?restart⟩
  case loader =>
    refine ⟨fun hb => ⟨?_, ?_⟩, fun hp h1 h3 => ⟨?_, fun h2 => ?_, fun h2 => ?_⟩⟩
    · exact exec_fwLoadErase_admitted h hw (fwLoadCtrl_busy (.inl rfl) hb)
    · exact exec_fwLoadCheck_admitted h hw (fwLoadCtrl_busy (.inr rfl) hb)
    · exact exec_fwLoadErase_admitted h hw ((fwLoadCtrl_free (.inl rfl) hp h1 h3).trans (if_pos rfl))
    · exact exec_fwLoadCheck_admitted h hw ((fwLoadCtrl_free (.inr rfl) hp h1 h3).trans (if_pos h2))
    · exact exec_fwLoadCheck_admitted h hw ((fwLoadCtrl_free (.inr rfl) hp h1 h3).trans (if_neg h2))
  case eraseDone =>
    rw [exec_fwEraseDone, execFwEraseDone]
    exact act_eq_of_keep h (if_pos h1) (keep_p ..)
  case noErase =>
    rw [exec_fwEraseDone, execFwEraseDone]
    exact act_eq_self h (if_neg h1)
  case noCheck =>
    rw [exec_fwCheckDone, execFwCheckDone]
    exact actAll_eq_self h (if_pos h3)
  case judged =>
    obtain ⟨hflash, hraised, hstate, hstaged⟩ := fwLoad_raised s { s.flash[loadSlot s] with torn := false } rfl
    refine ⟨_, exec_fwCheckDone_judges h h3, hflash.trans (flash_fwJudged _ _), hraised, fun hf => ?_, fun hf => ?_⟩
    · rw [g_settleAll, g_settleAll, hstate, hstaged]
      exact fwJudged_passed hf
    · rw [g_settleAll, g_settleAll, hstate, hstaged]
      exact fwJudged_failed hf
  case data =>
    refine ⟨fun hp => ?_, fun hp hbad => ?_, fun hp hbad => ?_⟩
    · exact exec_fwLoadData_admitted h hw (if_pos hp)
    · exact exec_fwLoadData_admitted h hw ((if_neg (not_not_intro hp)).trans (if_pos hbad))
    · exact exec_fwLoadData_admitted h hw ((if_neg (not_not_intro hp)).trans (if_neg hbad))
  case floor =>
    refine ⟨fun hv => ?_, fun hv => ?_⟩
    · exact exec_fwFloorRaise_admitted h hw (if_neg hv) (keep_self s)
    · exact exec_fwFloorRaise_admitted h hw (if_pos hv) (keep_p ..)
  case hold =>
    refine ⟨fun hv => ?_, fun hv => ?_, fun hv hd => ?_, fun hv hd => ?_, fun hv hs hh => ?_⟩
    · exact exec_holdRequest_admitted h hw (if_pos hv)
    · exact exec_holdRequest_admitted h hw ((if_neg (by omega)).trans (if_pos hv))
    · exact exec_holdRequest_admitted h hw (by rw [hv, holdRequest_one, hd])
    · exact exec_holdRequest_admitted h hw (by rw [hv, holdRequest_one, hd])
    · exact exec_holdRequest_admitted h hw (by rw [hv, holdRequest_elsewhere hs hh])
  case drainNow =>
    obtain ⟨hdev, hwhy, -⟩ := startDrain_draining s why
    rw [orderDrain_at_once hc]
    exact ⟨hdev, hwhy, raised_startDrain (by simp [hd]) why⟩
  case drainLater =>
    rw [orderDrain_deferred hc]
    exact ⟨hd, rfl⟩
  case noDrain =>
    rw [exec_drainStartDeferred, execDrainStartDeferred]
    exact actAll_eq_self h (if_neg hn)
  case drainStarts =>
    obtain ⟨hdev, -, hnow⟩ := startDrain_draining s (s.boot.drain.getD .hold)
    exact ⟨_, exec_drainStartDeferred_starts h hd hdef hc, hdev, hnow⟩
  case noComplete =>
    rw [exec_drainComplete, execDrainComplete]
    exact actAll_eq_self h (if_neg hn)
  case complete =>
    rw [exec_drainComplete_ends h hd hb]
    exact ⟨fun hr => by rw [drainEnd_restart hr], fun hr => by rw [drainEnd_held hr]⟩
  case noTimeout =>
    rw [exec_drainTimeout, execDrainTimeout]
    exact actAll_eq_self h (if_neg hn)
  case timeout =>
    rw [exec_drainTimeout_interrupts h hd hb]
    exact ⟨fun hx => by rw [if_neg hx], fun hx => by rw [if_pos hx]⟩
  case release =>
    refine ⟨fun hv => ?_, fun hv => ?_, fun hv hd => ?_, fun hv hd => ⟨fun hp => ?_, fun h2 h3 => ⟨fun hr => ?_, fun hr => ?_⟩⟩⟩
    · exact exec_holdRelease_admitted h hw (if_pos hv)
    · exact exec_holdRelease_admitted h hw ((if_neg (by omega)).trans (if_pos hv))
    · exact exec_holdRelease_admitted h hw (by rw [hv, holdRelease_elsewhere hd])
    · exact exec_holdRelease_admitted h hw (by rw [hv, holdRelease_held hd, if_pos (by simpa using hp)])
    · exact exec_holdRelease_admitted h hw (by rw [hv, holdRelease_held hd, if_neg (by simp [h2, h3]), if_pos hr])
    · exact exec_holdRelease_admitted h hw (by rw [hv, holdRelease_held hd, if_neg (by simp [h2, h3]), if_neg hr])
  case restart =>
    refine ⟨fun hv => ?_, fun hv => ⟨fun hd => ?_, fun hd => ?_, fun hd => ?_, fun hs hd hh => ?_⟩⟩
    · exact exec_warmRestart_admitted h hw (if_pos hv)
    · exact exec_warmRestart_admitted h hw (by rw [hv, warmRestartWrite_keyed, hd])
    · exact exec_warmRestart_admitted h hw (by rw [hv, warmRestartWrite_keyed, hd])
    · exact exec_warmRestart_admitted h hw (by rw [hv, warmRestartWrite_keyed, hd])
    · exact exec_warmRestart_admitted h hw (by rw [hv, warmRestartWrite_elsewhere hs hd hh])

end Sys2Proof.Machine
end

section
/-! SUPPORT. The supplies and the reference: what their loss and return do to the outputs. -/

namespace Sys2Proof.Machine

/-! ### The enables in the frame of an ordinary command (R20, R108) -/

theorem laserEn_keep_low (s : State) {t : State} (h : t.pins.laserEn = 0) : (keep s t).pins.laserEn = 0 := by
  unfold keep enablesFrom
  split <;> simp [h]

theorem bridgeEn_keep_low (s : State) {t : State} (h : t.pins.bridgeEn = 0) : (keep s t).pins.bridgeEn = 0 := by
  unfold keep enablesFrom
  split <;> simp [h]

/-- Bridge enables that a command leaves alone come out as they were, whatever the device state. -/
theorem bridgeEn_keep_same {s t : State} (h : t.pins.bridgeEn = s.pins.bridgeEn) : (keep s t).pins.bridgeEn = s.pins.bridgeEn := by
  unfold keep enablesFrom
  split <;> simp [h]

/-- In a device state that drives its outputs the frame leaves them as the command asks. -/
theorem pins_keep_driven {s t : State} (h : s.dev.driven = true) : (keep s t).pins = t.pins := if_pos h

/-! ### The reference, the rails and the front ends' supplies (R108, R679, R680, R695) -/

/-- The reference is lost: counted, no PLL in lock, every laser off (R695). -/
def refLoss (s : State) : State :=
  let u := (s.inc Od.CLK_REF_LOSS_CNT).p Od.CLK_STATUS 0 (s.g Od.CLK_STATUS / 32 * 32)
  { u with pwr := { u.pwr with refLost := true }, pins := { u.pins with laserEn := 0 } }

theorem exec_refClkLoss_first {s : State} (h : Live s) (hr : s.pwr.refLost = false) :
    exec .refClkLoss s = .next (keep s (refLoss s)) := by
  rw [exec_refClkLoss, execRefClkLoss]
  exact act_eq h (if_neg (by simp [hr]))

theorem g_refLoss_count (s : State) : (refLoss s).g Od.CLK_REF_LOSS_CNT = (s.g Od.CLK_REF_LOSS_CNT + 1) % 2 ^ 32 :=
  (State.g_p_ne _ _ (by decide)).trans (State.g_inc_self s Od.CLK_REF_LOSS_CNT 0)

theorem g_refLoss_status (s : State) : (refLoss s).g Od.CLK_STATUS = s.g Od.CLK_STATUS / 32 * 32 % 2 ^ 32 := State.g_p_self ..

theorem objectsKept_refLoss (s : State) : ObjectsKept [Od.CLK_REF_LOSS_CNT.el 0, Od.CLK_STATUS.el 0] s (refLoss s) :=
  ((objectsKept_p s Od.CLK_REF_LOSS_CNT 0 _).mono (by simp)).trans ((objectsKept_p _ Od.CLK_STATUS 0 _).mono (by simp))

/-- A rail newly out of range: recorded and reported, with the outputs of R108. -/
def railLost (s : State) (rail : Fin 7) (mv : Nat) : State :=
  let l := s.p Od.PWR_RAIL_MV rail mv
  outputsDown (raise { l with pwr := { s.pwr with railOut := s.pwr.railOut ||| BitVec.twoPow 7 rail } } Src.rail (rail + 65536 * (mv % 65536)))

theorem exec_railExcursion_out {s : State} {rail : Fin 7} (h : Live s) (hr : s.pwr.railOut.getLsbD rail = false) (mv : Nat) :
    exec (.railExcursion rail mv false) s = .next (keep s (railLost s rail mv)) := by
  rw [exec_railExcursion, execRailExcursion]
  exact act_eq h ((if_neg Bool.false_ne_true).trans (if_neg (ne_true_of_eq_false hr)))

/-- While Serving with no rail out, the bridges of the declared stages are enabled, and the lasers of the declared drives unless the
reference is lost (R20, R679, R695). -/
theorem pins_outputsFor_serving {s : State} (hd : s.dev = .serving) (hr : s.pwr.railOut = 0) :
    (outputsFor s).pins.bridgeEn = BitVec.ofNat 5 (s.g Od.STAGE_DECL) ∧
      (outputsFor s).pins.laserEn = if s.pwr.refLost then 0 else BitVec.ofNat 16 (s.g Od.DRIVE_DECL) := by
  cases hl : s.pwr.refLost <;> simp [outputsFor, State.isDev, hd, hr, hl]

/-- The last rail that was out is back: the enables follow the device state again (R679). -/
def railsBack (s : State) (rail : Fin 7) (mv : Nat) : State :=
  let l := s.p Od.PWR_RAIL_MV rail mv
  outputsFor { l with
    pwr := { s.pwr with railOut := s.pwr.railOut &&& ~~~ BitVec.twoPow 7 rail }, boot := { s.boot with crs := s.boot.phase == .rom } }

section
variable {s : State} {rail : Fin 7} (hr : s.pwr.railOut = BitVec.twoPow 7 rail) (mv : Nat)
include hr

theorem railOut_railsBack : (railsBack s rail mv).pwr.railOut = 0 := by
  have hout : (railsBack s rail mv).pwr.railOut = s.pwr.railOut &&& ~~~ BitVec.twoPow 7 rail := rfl
  rw [hout, hr]
  exact BitVec.and_not_self _

theorem exec_railExcursion_back (h : Live s) : exec (.railExcursion rail mv true) s = .next (keep s (railsBack s rail mv)) := by
  rw [exec_railExcursion, execRailExcursion]
  exact act_eq h ((if_pos rfl).trans (if_pos (railOut_railsBack hr mv)))

/-- While Serving the enables come back for what is declared. -/
theorem pins_railsBack_serving (hd : s.dev = .serving) :
    (railsBack s rail mv).pins.bridgeEn = BitVec.ofNat 5 (s.g Od.STAGE_DECL) ∧
      (railsBack s rail mv).pins.laserEn = if s.pwr.refLost then 0 else BitVec.ofNat 16 (s.g Od.DRIVE_DECL) := by
  have hstages : (s.p Od.PWR_RAIL_MV rail mv).g Od.STAGE_DECL = s.g Od.STAGE_DECL :=
    State.g_p_ne _ _ (by simp only [Ob.el, Od.PWR_RAIL_MV, Od.STAGE_DECL]; omega)
  have hdrives : (s.p Od.PWR_RAIL_MV rail mv).g Od.DRIVE_DECL = s.g Od.DRIVE_DECL :=
    State.g_p_ne _ _ (by simp only [Ob.el, Od.PWR_RAIL_MV, Od.DRIVE_DECL]; omega)
  rw [← hstages, ← hdrives]
  exact pins_outputsFor_serving hd (railOut_railsBack hr mv)

end

/-- Settles O15, in the order of its clauses: the reference lost and lost again, a rail out and back, and the front ends' own supplies.
The outputs after a rail returns, the lock bits and the gate on the enables are the model's choice (assumption logs 94, 96 and 11). -/
theorem suppliesAndReferenceDriveTheOutputs : Obligations.SuppliesAndReferenceDriveTheOutputs := by
  refine ⟨fun s h hr => ⟨_, exec_refClkLoss_first h hr, rfl, laserEn_keep_low s rfl, bridgeEn_keep_same rfl, g_refLoss_count s,
      g_refLoss_status s, objectsKept_refLoss s⟩,
    fun s h hr => ?lostAgain,
    fun s rail mv h hr => ⟨_, exec_railExcursion_out h hr mv, laserEn_keep_low s rfl, bridgeEn_keep_low s rfl, rfl, rfl⟩,
    fun s rail mv h hr hp hd => ?back, fun s n h => ?frontEnd⟩
  case lostAgain =>
    rw [exec_refClkLoss, execRefClkLoss]
    exact act_eq_self h (if_pos hr)
  case back =>
    obtain ⟨hbridges, hlasers⟩ := pins_railsBack_serving hr mv hd
    have hpins : (keep s (railsBack s rail mv)).pins = (railsBack s rail mv).pins := pins_keep_driven (by rw [hd]; rfl)
    refine ⟨_, exec_railExcursion_back hr mv h, railOut_railsBack hr mv, ?_, State.g_p_self .., ?_, ?_, objectsKept_p s Od.PWR_RAIL_MV rail mv⟩
    · exact (by rw [hp]; rfl : (s.boot.phase == .rom) = false)
    · rw [hpins, hbridges]
    · rw [hpins, hlasers]
  case frontEnd =>
    obtain ⟨hlive, hpart⟩ := h
    rw [exec_feRailLoss, exec_feRailLoss, exec_feRailReturn, exec_feRailReturn]
    refine ⟨actPart_live hlive hpart _, actPart_live hlive hpart _, ?_, ?_⟩
    · exact (actPart_live hlive hpart _).trans (congrArg _ (keep_eq rfl rfl rfl rfl rfl))
    · exact (actPart_live hlive hpart _).trans (congrArg _ (keep_eq rfl rfl rfl rfl rfl))

end Sys2Proof.Machine
end

section
/-! SUPPORT. Key operations and job keys, and the checks that every entry of an admin queue goes through. -/

namespace Sys2Proof.Machine

/-! ### What a record write leaves (R710 to R714) -/

/-- Nothing but the objects, the Chest and what it has stored of the zones and the spent discs differs. -/
def ChestOnly (s t : State) : Prop := t = { s with od := t.od, host := t.host, chest := t.chest }

theorem ChestOnly.keys_eq {s t : State} (h : ChestOnly s t) : t.keys = s.keys := by rw [h]
theorem ChestOnly.blobs_eq {s t : State} (h : ChestOnly s t) : t.blobs = s.blobs := by rw [h]
theorem ChestOnly.out_eq {s t : State} (h : ChestOnly s t) : t.out = s.out := by rw [h]

theorem chestOnly_chestKeep (s : State) (region pos : Nat) : ChestOnly s (s.chestKeep region pos) := by
  unfold State.chestKeep
  split
  · rfl
  · split <;> rfl

theorem chestOnly_chestMade (s : State) (region pos : Nat) : ChestOnly s (s.chestMade region pos) := by
  have hk := chestOnly_chestKeep s region pos
  unfold State.chestMade
  generalize s.chestKeep region pos = u at hk ⊢
  rw [hk]
  dsimp only
  split <;> rfl

theorem chestOnly_chestWrite (s : State) (region pos : Nat) : ChestOnly s (s.chestWrite region pos) := by
  unfold State.chestWrite State.chestPut
  split
  · rfl
  · split
    · exact chestOnly_chestMade s region pos
    · rfl

theorem objectsKeptEv_chestWrite (s : State) {region : Nat} (pos : Nat) (hr : region < 4096) :
    ObjectsKeptEv [] s (s.chestWrite region pos) :=
  fun _ _ h1 h2 h3 => at_chestWrite s region pos hr ⟨h1, h2, h3⟩

/-! ### A key operation starts (R154, R155) -/

/-- The secret an operation brings: drawn, loaded, or none (R154). -/
def newSecret (s : State) (n kind : Nat) : List Byte :=
  if kind = 1 then Config.drawnSecret s.keys.draws else if kind = 2 then s.blob Od.NS_KEY_DATA n else []

theorem newSecret_generate (s : State) (n : Nat) : newSecret s n 1 = Config.drawnSecret s.keys.draws := rfl

theorem newSecret_load (s : State) (n : Nat) : newSecret s n 2 = s.blob Od.NS_KEY_DATA n := rfl

/-- The key unit with an operation of slot `n` waiting for its record. -/
def keysAsked (s : State) (n kind : Nat) : Keys :=
  { s.keys with
    draws := if kind = 1 then s.keys.draws + 1 else s.keys.draws
    ops := Keyed.insert s.keys.ops n ⟨kind, s.g Od.NS_KEY_STATE n, newSecret s n kind⟩ }

theorem keyStart_eq (s : State) (n kind : Nat) :
    keyStart s n kind =
      (({ s with keys := keysAsked s n kind }).p Od.NS_KEY_STATE n 3).chestWrite Region.state (keyPos s n) := rfl

theorem keys_keyStart (s : State) (n kind : Nat) : (keyStart s n kind).keys = keysAsked s n kind := by
  rw [keyStart_eq]
  exact (chestOnly_chestWrite _ _ _).keys_eq

theorem blobs_keyStart (s : State) (n kind : Nat) : (keyStart s n kind).blobs = s.blobs := by
  rw [keyStart_eq]
  exact (chestOnly_chestWrite _ _ _).blobs_eq

theorem out_keyStart (s : State) (n kind : Nat) : (keyStart s n kind).out = s.out := by
  rw [keyStart_eq]
  exact (chestOnly_chestWrite _ _ _).out_eq

theorem objectsKeptEv_keyStart (s : State) (n kind : Nat) : ObjectsKeptEv [Od.NS_KEY_STATE.el n] s (keyStart s n kind) := by
  rw [keyStart_eq]
  exact (objectsKept_p { s with keys := keysAsked s n kind } Od.NS_KEY_STATE n 3).ev.trans
    ((objectsKeptEv_chestWrite _ _ (by decide)).mono (by simp))

/-- NS_KEY_STATE reads BUSY from the start of an operation. -/
theorem g_keyStart_state (s : State) (n : Fin 256) (kind : Nat) : (keyStart s n kind).g Od.NS_KEY_STATE n = 3 := by
  have hx : Quiet (Od.NS_KEY_STATE.el n) := by simp only [Quiet, Ob.el, Od.NS_KEY_STATE]; omega
  rw [keyStart_eq]
  exact (at_chestWrite _ _ _ (by decide) hx).g.trans (State.g_p_self ..)

/-! ### NS_KEY_CTRL (R154, R686) -/

section
variable {s : State} {n kind : Nat}

theorem keyCtrl_powerFail (hp : s.g Od.PF_STATE ≠ 0) : keyCtrl s n kind = (s, 0x0A) := if_pos hp

variable (hp : s.g Od.PF_STATE = 0)
include hp

theorem keyCtrl_slotBusy (hs : s.g Od.NS_KEY_STATE n = 3) : keyCtrl s n kind = (s, 0x0C) :=
  (if_neg (not_not_intro hp)).trans (if_pos hs)

theorem keyCtrl_loadLength (hs : s.g Od.NS_KEY_STATE n ≠ 3) (hk : kind = 2) (hl : (s.blob Od.NS_KEY_DATA n).length ≠ 32) :
    keyCtrl s n kind = (s, 0x06) :=
  (if_neg (not_not_intro hp)).trans ((if_neg hs).trans (if_pos ⟨hk, hl⟩))

theorem keyCtrl_starts (hs : s.g Od.NS_KEY_STATE n ≠ 3) (hl : kind = 2 → (s.blob Od.NS_KEY_DATA n).length = 32) :
    keyCtrl s n kind = (keyStart s n kind, 0) :=
  (if_neg (not_not_intro hp)).trans ((if_neg hs).trans (if_neg fun ⟨hk, hne⟩ => hne (hl hk)))

end

/-- An admitted GENERATE, LOAD or DESTROY: the write of NS_KEY_CTRL of its kind, and the answer. -/
theorem exec_keyCommand {s t : State} {who : Crib} {n : Fin 256} {kind code : Nat} {c : Instr} (h : Live s)
    (hw : s.writeCodeOf who Od.NS_KEY_CTRL n = 0)
    (hc : kind = 1 ∧ c = .generate who n ∨ kind = 2 ∧ c = .load who n ∨ kind = 3 ∧ c = .destroy who n)
    (hk : keyCtrl s n kind = (t, code)) : exec c s = .next (keep s (t.answer who code)) := by
  have hexec : exec c s = actWrite who Od.NS_KEY_CTRL n (fun s => keyCtrl s n kind) s := by
    obtain ⟨rfl, rfl⟩ | ⟨rfl, rfl⟩ | ⟨rfl, rfl⟩ := hc <;> rfl
  rw [hexec, actWrite_live h hw, hk]

/-! ### JOB_KEY_DATA (R158) -/

/-- An admitted JOB_KEY_DATA whose effect is `t`, which reaches nothing that the frame keeps. -/
theorem exec_jobKeyData_admitted {s t : State} {who c : Crib} {k : Fin 8} {d : List Byte} {code : Nat} (h : Live s)
    (hw : s.writeCodeOf who Od.JOB_KEY_DATA (8 * c + k) = 0) (hj : jobKeyWrite s (8 * c + k) d = (t, code)) (ht : keep s t = t) :
    exec (.jobKeyData who c k d) s = .next (t.answer who code) := by
  rw [exec_jobKeyData, execJobKeyData, actWrite_live h hw, hj, keep_answer ht]

/-- Settles O24: the refusals of a key operation in their order, the state in which one waits for its record, and JOB_KEY_DATA. The
drawn secret, the length that NS_KEY_DATA keeps, what the power-fail sequence refuses and the order of the refusals are the model's choice
(assumption logs 14, 39, 42 and 29). -/
theorem keyOperationsWaitForTheirRecord : Obligations.KeyOperationsWaitForTheirRecord := by
  refine ⟨fun s who n kind c h hw hc => ⟨fun hp => ?powerFail, fun hp hs => ?slotBusy, fun hp hs hk hl => ?loadLength,
      fun hp hs hl => ?starts⟩,
    fun s who c k d h hw => ⟨fun hd => ?jobKeyLength, fun hd => ?jobKey⟩⟩
  case powerFail => rw [exec_keyCommand h hw hc (keyCtrl_powerFail hp), keep_answer (keep_self s)]
  case slotBusy => rw [exec_keyCommand h hw hc (keyCtrl_slotBusy hp hs), keep_answer (keep_self s)]
  case loadLength => rw [exec_keyCommand h hw hc (keyCtrl_loadLength hp hs hk hl), keep_answer (keep_self s)]
  case starts =>
    have hkeys := keys_keyStart s n kind
    refine ⟨_, exec_keyCommand h hw hc (keyCtrl_starts hp hs hl), g_keyStart_state s n kind, ?out,
      ⟨newSecret s n kind, ?waits, ?drawn, ?loaded⟩, fun m hm => ?otherSlot, (congrArg Keys.recs hkeys :),
      (congrArg Keys.secrets hkeys :), (congrArg Keys.jobKeys hkeys :), blobs_keyStart s n kind, objectsKeptEv_keyStart s n kind⟩
    case out => exact congrArg (· ++ _) (out_keyStart s n kind)
    case waits => exact (congrArg (·.ops.find? n.val) hkeys).trans ((Keyed.find?_insert ..).trans (if_pos rfl))
    case drawn => rintro rfl; exact newSecret_generate s n
    case loaded => rintro rfl; exact newSecret_load s n
    case otherSlot => exact (congrArg (·.ops.find? m) hkeys).trans ((Keyed.find?_insert ..).trans (if_neg (Ne.symm hm)))
  case jobKeyLength => exact exec_jobKeyData_admitted h hw (if_pos hd) (keep_self s)
  case jobKey => exact exec_jobKeyData_admitted h hw (if_neg (not_not_intro hd)) (keep_eq rfl rfl rfl rfl rfl)

/-! ### Entries of an admin queue (R408, R419, R440, R485) -/

/-- Every admin command is an entry of its queue that is taken and checked before the command's own effect `f`. -/
theorem exec_adminCommand {c : Instr} {q : IoQueue} {hdr : IoHdr} {during : Bool} (hc : adminCommand c = some (q, hdr, during)) :
    ∃ f : State → State, ∀ s, exec c s =
      if storesGranary c then actGranary s fun u => adminTake u q hdr during f else act s fun u => adminTake u q hdr during f := by
  cases c <;> cases hc <;> exact ⟨_, fun _ => rfl⟩

theorem exec_adminCommand_live {c : Instr} {q : IoQueue} {hdr : IoHdr} {during : Bool} (hc : adminCommand c = some (q, hdr, during)) :
    ∃ f : State → State, ∀ s, Live s → exec c s = .next (adminFrame c s (adminTake s q hdr during f)) := by
  obtain ⟨f, hexec⟩ := exec_adminCommand hc
  refine ⟨f, fun s h => ?_⟩
  rw [hexec, actGranary_live h, act_live h, adminFrame]
  split <;> rfl

section
variable {s u : State} {q : IoQueue} {hdr : IoHdr} {during : Bool} (ht : AdminTaken s q u) (f : State → State)
include ht

/-- The checks of an entry that is taken, in their order. -/
theorem adminTake_taken :
    adminTake s q hdr during f =
      if !during && u.admin.sanitize.state == 2 then u.complete q hdr.cid .sanitizeInProgress
      else if hdr.fuse ≠ 0 ∨ hdr.reserved = true then (ioViol u q 3).complete q hdr.cid .invalidField
      else if hdr.prpBad then (ioViol u q 2).complete q hdr.cid .invalidPrpOffset
      else f u := by
  obtain ⟨hserved, hfree, htake⟩ := ht
  simp [adminTake, hserved, hfree, htake]

theorem adminTake_sanitizing (hd : during = false) (hz : u.admin.sanitize.state = 2) :
    adminTake s q hdr during f = u.complete q hdr.cid .sanitizeInProgress :=
  (adminTake_taken ht f).trans (if_pos (by simp [hd, hz]))

variable (hz : during = true ∨ u.admin.sanitize.state ≠ 2)
include hz

theorem adminTake_reserved (hr : hdr.fuse ≠ 0 ∨ hdr.reserved = true) :
    adminTake s q hdr during f = (ioViol u q 3).complete q hdr.cid .invalidField :=
  (adminTake_taken ht f).trans ((if_neg (by simpa [or_iff_not_imp_left] using hz)).trans (if_pos hr))

theorem adminTake_prpBad (hf : hdr.fuse = 0) (hr : hdr.reserved = false) (hp : hdr.prpBad = true) :
    adminTake s q hdr during f = (ioViol u q 2).complete q hdr.cid .invalidPrpOffset :=
  (adminTake_taken ht f).trans ((if_neg (by simpa [or_iff_not_imp_left] using hz)).trans
    ((if_neg (by simp [hf, hr])).trans (if_pos hp)))

end

/-- Settles O40: an entry that waits, then the checks of one that is taken. Their order and what PF_STATE holds back are the model's choice
(assumption logs 66 and 42). -/
theorem adminEntriesAreTakenAndChecked : Obligations.AdminEntriesAreTakenAndChecked := by
  intro s c q hdr during h hc
  obtain ⟨f, hexec⟩ := exec_adminCommand_live hc
  rw [hexec s h]
  refine ⟨fun hn => ?waits, fun u ht => ⟨fun hd hz => ?sanitizing, fun hz => ⟨fun hr => ?reserved, fun hf hr hp => ?prpBad⟩⟩⟩
  case waits => rw [adminTake_idle hn]
  case sanitizing => rw [adminTake_sanitizing ht f hd hz]
  case reserved => rw [adminTake_reserved ht f hz hr]
  case prpBad => rw [adminTake_prpBad ht f hz hf hr hp]

end Sys2Proof.Machine
end

section
/-! SUPPORT. The drive servo's rows: where focus, tracking, jumps, seeks and holds start, and what each leaves. -/

namespace Sys2Proof.Machine

/-! ### Commands that a front end brings about -/

section
variable {s t : State} {n : Drive} {f : State → State} (h : LiveFe s n)
include h

theorem actFe_eq (hf : f s = t) : actPart (fePart n) s f = .next (keep s t) := by
  obtain ⟨hlive, hpart⟩ := h
  rw [actPart_live hlive (p := fePart n) hpart, hf]

theorem actFe_eq_of_keep (hf : f s = t) (ht : keep s t = t) : actPart (fePart n) s f = .next t := by
  rw [actFe_eq h hf, ht]

theorem actFe_eq_self (hf : f s = s) : actPart (fePart n) s f = .next s := actFe_eq_of_keep h hf (keep_self s)

end

/-! ### The servo array's image and a drive's fields -/

/-- A setting the servo array uses, after a write of another object. -/
theorem State.gs_p_ne (s : State) {o o' : Ob} {e e' : Nat} (v : Nat) (h : o.el e ≠ o'.el e') : (s.p o e v).gs o' e' = s.gs o' e' := by
  unfold State.gs
  rw [State.servoImg_p]
  cases s.servoImg with
  | none => exact State.g_p_ne s v h
  | some image => rfl

@[simp] theorem State.media_setDv (s : State) (n : Drive) (f : DriveSt → DriveSt) : (s.setDv n f).media = s.media := rfl

/-- One element written and one drive changed stand in the frame of an ordinary command as they are. -/
theorem keep_p_setDv (s : State) (o : Ob) (e v : Nat) (n : Drive) (f : DriveSt → DriveSt) :
    keep s ((s.p o e v).setDv n f) = (s.p o e v).setDv n f := keep_eq rfl rfl rfl rfl rfl

@[simp] theorem drives_mlockExit (s : State) (n : Drive) : (mlockExit s n).drives = s.drives := by
  unfold mlockExit
  split <;> rfl

/-- The angle's state says nothing of whether tracking is closed. -/
theorem trackClosed_setAngle (s : State) (n : Drive) (v : Nat) :
    (setAngle s n v).drives[n].trackClosed = s.drives[n].trackClosed := by
  simp only [setAngle, flushEvents]
  split <;> split <;> split <;> simp [-Fin.getElem_fin]

/-- From OBSERVER the angle goes to ACQUIRING with nothing else touched (R192). -/
theorem setAngle_acquiring {s : State} {n : Drive} (ha : s.g Od.ANGLE_STATE n = 1) : setAngle s n 2 = s.p Od.ANGLE_STATE n 2 := by
  simp [setAngle, ha]

theorem trackClosed_openTracking (s : State) (n : Drive) : (openTracking s n).drives[n].trackClosed = false := by
  rw [openTracking, angleOpen, trackClosed_setAngle, State.drives_setDv_self]

/-! ### Focus (R199) -/

theorem servoState_sweepStart (s : State) (n : Drive) (attempt : Nat) (cal : Bool) :
    (sweepStart s n attempt cal).g Od.DRIVE_SERVO_STATE n = 2 := State.g_p_self s Od.DRIVE_SERVO_STATE n 2

section
variable {s : State} {n : Drive} (h : Live s)
include h

theorem exec_focusAcquisition_notReady (hr : (s.focusReady n && s.drives[n].cal.focusDone == 15) = false) :
    exec (.focusAcquisition n) s = .next s := by
  rw [exec_focusAcquisition, execFocusAcquisition]
  exact act_eq_self h (if_neg (ne_true_of_eq_false hr))

theorem exec_focusAcquisition_ready (hr : (s.focusReady n && s.drives[n].cal.focusDone == 15) = true) :
    exec (.focusAcquisition n) s = .next (sweepStart (s.setDv n fun d => { d with target := wantLayer s n }) n 1 false) := by
  rw [exec_focusAcquisition, execFocusAcquisition]
  exact act_eq_of_keep h (if_pos hr) (keep_eq rfl rfl rfl rfl rfl)

end

/-! ### Tracking (R202, R214, R287) -/

/-- Tracking is pulled in: the loop closes, a seek goes on without the sled, the Winnower is armed. -/
def pulledIn (s : State) (n : Drive) : State :=
  (s.p Od.DRIVE_SERVO_STATE n 4).setDv n fun d => { d with
    trackClosed := true, lg := 0
    proc := match d.proc with
      | .seek t k _ => .seek t k false
      | _ => .idle
    fe := { d.fe with armed := true, settle := s.gf n Od.WIN_ARM_SETTLE } }

theorem exec_trackingPullIn_waits {s : State} {n : Drive} (h : Live s)
    (hw : s.drives[n].focusClosed = false ∨ s.drives[n].trackClosed = true ∨ s.gs Od.TRACK_PULLIN_RATE < crossingRate s n) :
    exec (.trackingPullIn n) s = .next s := by
  rw [exec_trackingPullIn, execTrackingPullIn]
  refine act_eq_self h (if_neg ?_)
  obtain hf | ht | hx := hw
  · simp [-Fin.getElem_fin, hf]
  · simp [-Fin.getElem_fin, ht]
  · simp [hx]

theorem servoState_pulledIn (s : State) (n : Drive) : (pulledIn s n).g Od.DRIVE_SERVO_STATE n = 4 :=
  State.g_p_self s Od.DRIVE_SERVO_STATE n 4

section
variable {s : State} {n : Drive} {r : Nat} (h : Live s) (hp : s.drives[n].proc = .pullIn r)
include hp

theorem proc_pulledIn : (pulledIn s n).drives[n].proc = .idle := by
  simp only [pulledIn, State.drives_setDv_self, State.drives_p, hp]

include h

theorem exec_trackingPullIn_closes (hf : s.drives[n].focusClosed = true) (ht : s.drives[n].trackClosed = false)
    (hb : s.balanceDone n = true) (hm : (s.ax (sledOf n)).move = none) (hh : s.drives[n].hold = none)
    (hx : crossingRate s n ≤ s.gs Od.TRACK_PULLIN_RATE) : exec (.trackingPullIn n) s = .next (pulledIn s n) := by
  rw [exec_trackingPullIn, execTrackingPullIn]
  refine act_eq_of_keep h (if_pos ?_) (keep_p_setDv ..)
  simp [-Fin.getElem_fin, hp, hf, ht, hb, hm, hh, hx]

theorem exec_trackPullInTimeout_early (hr : s.g Od.REV_COUNT n < r + 4) : exec (.trackPullInTimeout n) s = .next s := by
  rw [exec_trackPullInTimeout, execTrackPullInTimeout]
  refine act_eq_self h ?_
  rw [hp]
  exact if_neg fun hc => Nat.not_le.mpr hr hc.1

theorem exec_trackPullInTimeout_due (hr : r + 4 ≤ s.g Od.REV_COUNT n) (hb : s.balanceDone n = true) :
    exec (.trackPullInTimeout n) s = .next (keep s (loseLock s n 1 false)) := by
  rw [exec_trackPullInTimeout, execTrackPullInTimeout]
  refine act_eq h ?_
  rw [hp]
  exact if_pos ⟨hr, hb⟩

end

/-! ### The wobble (R192) -/

section
variable {s : State} {n : Drive} (h : LiveFe s n)
include h

theorem exec_wobbleLock_open (hc : (s.drives[n].focusClosed && s.drives[n].trackClosed && s.g Od.ANGLE_STATE n == 1) = false) :
    exec (.wobbleLock n) s = .next s := by
  rw [exec_wobbleLock, execWobbleLock]
  exact actFe_eq_self h (if_neg (ne_true_of_eq_false hc))

theorem exec_wobbleLock_closed (hc : (s.drives[n].focusClosed && s.drives[n].trackClosed && s.g Od.ANGLE_STATE n == 1) = true) :
    exec (.wobbleLock n) s = .next ((s.p Od.ANGLE_STATE n 2).setDv n fun d => { d with addrGood := 0, addrBad := 0 }) := by
  have ha : s.g Od.ANGLE_STATE n = 1 := eq_of_beq (Bool.and_eq_true_iff.mp hc).2
  rw [exec_wobbleLock, execWobbleLock]
  refine actFe_eq_of_keep h ((if_pos hc).trans ?_) (keep_p_setDv ..)
  rw [setAngle_acquiring ha]

end

/-! ### Layer jumps (R200) -/

/-- A jump of one layer towards the drive's next place has begun: the kick. -/
def layerJumpStart (s : State) (n : Drive) : State :=
  let up := decide (s.g Od.CUR_LAYER n < wantLayer s n)
  let u := openTracking s n
  (u.p Od.DRIVE_SERVO_STATE n 6).setDv n fun d => { d with
    focusClosed := false, target := if up then s.g Od.CUR_LAYER n + 1 else s.g Od.CUR_LAYER n - 1
    proc := .jump up 0 (u.gs Od.LAYER_KICK_T) 0 0, cal := { d.cal with carry := false } }

theorem servoState_layerJumpStart (s : State) (n : Drive) : (layerJumpStart s n).g Od.DRIVE_SERVO_STATE n = 6 :=
  State.g_p_self (openTracking s n) Od.DRIVE_SERVO_STATE n 6

theorem focusClosed_layerJumpStart (s : State) (n : Drive) : (layerJumpStart s n).drives[n].focusClosed = false := by
  rw [layerJumpStart, State.drives_setDv_self]

theorem trackClosed_layerJumpStart (s : State) (n : Drive) : (layerJumpStart s n).drives[n].trackClosed = false := by
  rw [layerJumpStart, State.drives_setDv_self, State.drives_p]
  exact trackClosed_openTracking s n

theorem target_layerJumpStart (s : State) (n : Drive) : (layerJumpStart s n).drives[n].target =
    if s.g Od.CUR_LAYER n < wantLayer s n then s.g Od.CUR_LAYER n + 1 else s.g Od.CUR_LAYER n - 1 := by
  rw [layerJumpStart, State.drives_setDv_self]
  simp only [decide_eq_true_eq]

section
variable {s : State} {n : Drive} (h : Live s)
include h

theorem exec_layerJump_there (hl : wantLayer s n = s.g Od.CUR_LAYER n) : exec (.layerJump n) s = .next s := by
  rw [exec_layerJump, execLayerJump]
  exact act_eq_self h (if_neg (by simp [hl]))

theorem exec_layerJump_starts (hp : s.drives[n].proc = .idle) (hf : s.drives[n].focusClosed = true) (hh : s.drives[n].hold = none)
    (hl : wantLayer s n ≠ s.g Od.CUR_LAYER n) (hg : s.drives[n].fe.gate = none) :
    exec (.layerJump n) s = .next (keep s (layerJumpStart s n)) := by
  rw [exec_layerJump, execLayerJump]
  refine act_eq h (if_pos ?_)
  simp [-Fin.getElem_fin, hp, hf, hh, hl, hg]

section
variable {up : Bool} {phase left since : Nat} {fe : Int} (hp : s.drives[n].proc = .jump up phase left fe since)
include hp

theorem exec_layerJumpTimeout_early (hw : since < s.gs Od.LAYER_JUMP_WINDOW) : exec (.layerJumpTimeout n) s = .next s := by
  rw [exec_layerJumpTimeout, execLayerJumpTimeout]
  refine act_eq_self h ?_
  rw [hp]
  exact if_neg (Nat.not_le.mpr hw)

theorem exec_layerJumpTimeout_due (hw : s.gs Od.LAYER_JUMP_WINDOW ≤ since) :
    exec (.layerJumpTimeout n) s = .next (sweepStart s n 1 false) := by
  rw [exec_layerJumpTimeout, execLayerJumpTimeout]
  refine act_eq_of_keep h ?_ (keep_p_setDv ..)
  rw [hp]
  exact if_pos hw

end

/-! ### Land and groove (R203, R204) -/

theorem exec_landGrooveSwitch_open
    (hc : (s.drives[n].focusClosed && s.drives[n].trackClosed && decide (2 ≤ s.g Od.ANGLE_STATE n)) = false) :
    exec (.landGrooveSwitch n) s = .next s := by
  rw [exec_landGrooveSwitch, execLandGrooveSwitch]
  exact act_eq_self h (if_neg (ne_true_of_eq_false hc))

end

/-- The command that tracking is held at: that of a hold in progress, else the one some periods ago (R203, R210). -/
def heldTrack (s : State) (n : Drive) : Int :=
  match s.drives[n].hold with
  | some h => h.track
  | none => (lookback s n).2

/-- Tracking held at the switching angle: a back jump in D1, else the other sign on the next track. -/
def grooveSwitched (s : State) (n : Drive) : State :=
  if s.g Od.DRV_STATE n = 1 then
    s.useFree.setDv n fun d => { d with lg := s.gs Od.LG_HOLD_SAMPLES, lgCmd := toInt 16 (s.free 16) }
  else (s.inc Od.CUR_TRACK n).setDv n fun d => { d with land := !d.land, lg := s.gs Od.LG_HOLD_SAMPLES, lgCmd := heldTrack s n }

theorem exec_landGrooveSwitch_closed {s : State} {n : Drive} (h : Live s)
    (hc : (s.drives[n].focusClosed && s.drives[n].trackClosed && decide (2 ≤ s.g Od.ANGLE_STATE n)) = true) :
    exec (.landGrooveSwitch n) s = .next (grooveSwitched s n) := by
  rw [exec_landGrooveSwitch, execLandGrooveSwitch]
  refine act_eq_of_keep h (if_pos hc) ?_
  unfold grooveSwitched
  split <;> exact keep_eq rfl rfl rfl rfl rfl

theorem lg_grooveSwitched (s : State) (n : Drive) : (grooveSwitched s n).drives[n].lg = s.gs Od.LG_HOLD_SAMPLES := by
  unfold grooveSwitched
  split <;> rw [State.drives_setDv_self]

theorem grooveSwitched_d1 {s : State} {n : Drive} (hd : s.g Od.DRV_STATE n = 1) :
    (grooveSwitched s n).drives[n].land = s.drives[n].land ∧ (grooveSwitched s n).od = s.od := by
  rw [grooveSwitched, if_pos hd, State.drives_setDv_self]
  exact ⟨rfl, rfl⟩

theorem grooveSwitched_d0 {s : State} {n : Drive} (hd : s.g Od.DRV_STATE n ≠ 1) :
    (grooveSwitched s n).drives[n].land = (!s.drives[n].land) ∧
      (grooveSwitched s n).g Od.CUR_TRACK n = (s.g Od.CUR_TRACK n + 1) % 2 ^ 32 ∧
      ObjectsKept [Od.CUR_TRACK.el n] s (grooveSwitched s n) := by
  rw [grooveSwitched, if_neg hd, State.drives_setDv_self]
  exact ⟨rfl, State.g_inc_self .., objectsKept_p s Od.CUR_TRACK n _⟩

/-! ### Seeks (R205 to R208) -/

/-- A fine seek of track `t` begins: tracking opens. -/
def fineSeekStart (s : State) (n : Drive) (t : Nat) : State :=
  ((openTracking s n).p Od.DRIVE_SERVO_STATE n 5).setDv n fun x => { x with proc := .seek t 1 false, land := decide (t % 2 = 1) }

/-- A long seek of track `t`, `d` tracks away, begins: tracking opens and the sled moves. -/
def longSeekStart (s : State) (n : Drive) (t : Nat) (d : Int) : State :=
  let u := ((openTracking s n).p Od.DRIVE_SERVO_STATE n 5).setDv n fun x => { x with proc := .seek t 0 true, land := decide (t % 2 = 1) }
  startMove u (sledOf n) ((u.ax (sledOf n)).pos / 65536 + seekMicrosteps u d) .seek

section
variable {s : State} {n : Drive} (h : Live s)
include h

theorem exec_seeks_notReady (hr : s.seekReady n = false) : exec (.fineSeek n) s = .next s ∧ exec (.longSeek n) s = .next s := by
  rw [exec_fineSeek, execFineSeek, exec_longSeek, execLongSeek]
  constructor
  all_goals
    refine act_eq_self h ?_
    split
    · exact if_neg (by simp [hr])
    · rfl

section
variable {t : Nat} {d : Int} (hg : ((seekWay s n).bind fun w => seekGoal w.1 w.2) = some (t, d))
include hg

/-- FINE_SEEK towards a place `d` tracks away: the seek, or nothing. -/
theorem exec_fineSeek_aimed : exec (.fineSeek n) s =
    .next (keep s (if s.seekReady n && decide (d.natAbs ≤ s.gs Od.SEEK_SHORT_MAX) then fineSeekStart s n t else s)) := by
  rw [exec_fineSeek, execFineSeek]
  refine act_eq h ?_
  generalize hq : Option.bind _ _ = q
  obtain rfl : q = some (t, d) := hq.symm.trans hg
  rfl

/-- LONG_SEEK towards a place `d` tracks away: the move of the sled, or nothing. -/
theorem exec_longSeek_aimed : exec (.longSeek n) s =
    .next (keep s (if s.seekReady n && decide (s.gs Od.SEEK_SHORT_MAX < d.natAbs) then longSeekStart s n t d else s)) := by
  rw [exec_longSeek, execLongSeek]
  refine act_eq h ?_
  generalize hq : Option.bind _ _ = q
  obtain rfl : q = some (t, d) := hq.symm.trans hg
  rfl

/-- A place within SEEK_SHORT_MAX is for a fine seek alone. -/
theorem exec_seeks_near (hr : s.seekReady n = true) (hd : d.natAbs ≤ s.gs Od.SEEK_SHORT_MAX) :
    exec (.longSeek n) s = .next s ∧ exec (.fineSeek n) s = .next (keep s (fineSeekStart s n t)) := by
  rw [exec_longSeek_aimed h hg, exec_fineSeek_aimed h hg, if_neg (by simp [hd]), if_pos (by simp [hr, hd]), keep_self]
  exact ⟨rfl, rfl⟩

/-- One farther away is for a long seek alone. -/
theorem exec_seeks_far (hr : s.seekReady n = true) (hd : s.gs Od.SEEK_SHORT_MAX < d.natAbs) :
    exec (.fineSeek n) s = .next s ∧ exec (.longSeek n) s = .next (keep s (longSeekStart s n t d)) := by
  rw [exec_longSeek_aimed h hg, exec_fineSeek_aimed h hg, if_neg (by simp [hd]), if_pos (by simp [hr, hd]), keep_self]
  exact ⟨rfl, rfl⟩

end

end

/-- Whether an operation has a place to work on next is told by the operation alone. -/
theorem MediaOp.next_eq_none_congr (s t : State) (n : Drive) (o : MediaOp) : o.next s n = none ↔ o.next t n = none := by
  unfold MediaOp.next
  cases o.kind <;> simp

/-- A drive that works on nothing has no next place, whatever the objects hold. -/
theorem nextPlace_eq_none_of_same {s t : State} {n : Drive} (hcal : t.drives[n].cal = s.drives[n].cal)
    (hmedia : t.media = s.media) (hn : nextPlace s n = none) : nextPlace t n = none := by
  unfold nextPlace at *
  dsimp only at *
  rw [hcal, hmedia]
  split at hn
  · cases hn
  · next he =>
    rw [if_neg he]
    cases ho : s.media.cur[n] with
    | none => rfl
    | some o =>
      rw [ho] at hn
      exact (MediaOp.next_eq_none_congr s t n o).mp hn

/-- A seek has ended on its track. -/
def seekArrived (s : State) (n : Drive) (t : Nat) : State :=
  ((s.p Od.CUR_TRACK n t).p Od.DRIVE_SERVO_STATE n 4).setDv n fun d => { d with proc := .idle }

theorem keep_seekArrived (s : State) (n : Drive) (t : Nat) : keep s (seekArrived s n t) = seekArrived s n t :=
  keep_p_setDv (s.p Od.CUR_TRACK n t) Od.DRIVE_SERVO_STATE n 4 n _

theorem nextPlace_seekArrived {s : State} {n : Drive} {t : Nat} (hn : nextPlace s n = none) :
    nextPlace (seekArrived s n t) n = none := by
  refine nextPlace_eq_none_of_same ?_ ?_ hn
  · rw [seekArrived, State.drives_setDv_self, State.drives_p, State.drives_p]
  · rw [seekArrived, State.media_setDv, State.media_p, State.media_p]

/-- The track that an address word names is no setting of the servo array. -/
theorem gs_fineAttempts_curTrack (s : State) (n : Drive) (v : Nat) :
    (s.p Od.CUR_TRACK n v).gs Od.SEEK_FINE_ATTEMPTS = s.gs Od.SEEK_FINE_ATTEMPTS :=
  s.gs_p_ne v (by simp only [Ob.el, Od.CUR_TRACK, Od.SEEK_FINE_ATTEMPTS]; omega)

section
variable {s : State} {n : Drive} {w t tries : Nat} {long : Bool} (h : LiveFe s n) (hp : s.drives[n].proc = .seek t tries long)
include h hp

theorem exec_seekEnd_open (hc : s.drives[n].trackClosed = false) : exec (.seekEnd n w) s = .next s := by
  rw [exec_seekEnd, execSeekEnd]
  refine actFe_eq_self h ?_
  dsimp only
  rw [hp]
  exact if_neg (ne_true_of_eq_false hc)

variable (hc : s.drives[n].trackClosed = true)
include hc

theorem exec_seekEnd_onTrack (hw : wordTrack w = t) (hn : nextPlace s n = none) :
    exec (.seekEnd n w) s = .next (seekArrived s n t) := by
  rw [exec_seekEnd, execSeekEnd]
  refine actFe_eq_of_keep h ?_ (keep_seekArrived ..)
  dsimp only
  rw [hp]
  refine (if_pos hc).trans ((if_pos hw).trans ?_)
  rw [hw]
  generalize hq : nextPlace _ n = q
  obtain rfl : q = none := hq.symm.trans (nextPlace_seekArrived hn)
  rfl

variable (hw : wordTrack w ≠ t)
include hw

theorem exec_seekEnd_again (ht : tries < s.gs Od.SEEK_FINE_ATTEMPTS) :
    exec (.seekEnd n w) s = .next (keep s ((openTracking (s.p Od.CUR_TRACK n (wordTrack w)) n).setDv n fun d =>
      { d with proc := .seek t (tries + 1) false })) := by
  rw [exec_seekEnd, execSeekEnd]
  refine actFe_eq h ?_
  dsimp only
  rw [hp]
  exact (if_pos hc).trans ((if_neg hw).trans (if_pos (by rwa [gs_fineAttempts_curTrack])))

theorem exec_seekEnd_lost (ht : s.gs Od.SEEK_FINE_ATTEMPTS ≤ tries) :
    exec (.seekEnd n w) s = .next (keep s (loseLock (s.p Od.CUR_TRACK n (wordTrack w)) n 2 false)) := by
  rw [exec_seekEnd, execSeekEnd]
  refine actFe_eq h ?_
  dsimp only
  rw [hp]
  exact (if_pos hc).trans ((if_neg hw).trans (if_neg (by rwa [gs_fineAttempts_curTrack, Nat.not_lt])))

end

/-! ### Holds (R212) -/

section
variable {s : State} {n : Drive} (h : Live s)
include h

theorem exec_defectHoldMaxExpiry_none (hh : s.drives[n].hold = none) : exec (.defectHoldMaxExpiry n) s = .next s := by
  rw [exec_defectHoldMaxExpiry, execDefectHoldMaxExpiry]
  refine act_eq_self h ?_
  rw [hh]

theorem exec_defectHoldMaxExpiry_early {x : HoldSt} (hh : s.drives[n].hold = some x) (hm : x.count < s.gs Od.DEFECT_HOLD_MAX) :
    exec (.defectHoldMaxExpiry n) s = .next s := by
  rw [exec_defectHoldMaxExpiry, execDefectHoldMaxExpiry]
  refine act_eq_self h ?_
  rw [hh]
  exact if_neg (Nat.not_le.mpr hm)

theorem exec_defectHoldMaxExpiry_due {x : HoldSt} (hh : s.drives[n].hold = some x) (hm : s.gs Od.DEFECT_HOLD_MAX ≤ x.count)
    (hs : s.drives[n].sumLow = 0) :
    exec (.defectHoldMaxExpiry n) s =
      .next (keep s (loseLock ((s.inc Od.DEFECT_HOLD_OVER_CNT n).setDv n fun d => { d with hold := none }) n 1 false)) := by
  rw [exec_defectHoldMaxExpiry, execDefectHoldMaxExpiry]
  refine act_eq h ?_
  rw [hh]
  exact (if_pos hm).trans (if_neg (by simp [-Fin.getElem_fin, hs]))

end

/-- Settles O28, row by row: what each does outside its condition, then what it starts and leaves. The sweep, the pull-in and the seeks
are the model's choice (assumption logs 45, 46 and 47). -/
theorem servoAcquiresJumpsAndSeeks : Obligations.ServoAcquiresJumpsAndSeeks := by
  refine ⟨fun s n h => ⟨exec_focusAcquisition_notReady h, fun hr => ?focus⟩,
    fun s n r h hp => ⟨fun hf ht hb hm hh hx => ?pullIn, exec_trackingPullIn_waits h, exec_trackPullInTimeout_early h hp,
      exec_trackPullInTimeout_due h hp⟩,
    fun s n h => ⟨exec_wobbleLock_open h, exec_wobbleLock_closed h⟩,
    fun s n h hp => ⟨exec_layerJump_there h, fun hf hh hl hg => ?layerJump⟩,
    fun s n up phase left since fe h hp => ⟨exec_layerJumpTimeout_early h hp, exec_layerJumpTimeout_due h hp⟩,
    fun s n h => ⟨exec_landGrooveSwitch_open h, fun hc => ?landGroove⟩,
    fun s n h => ⟨exec_seeks_notReady h, fun t d hr hg => ⟨exec_seeks_near h hg hr, exec_seeks_far h hg hr⟩⟩,
    fun s n w t tries long h hp => ⟨exec_seekEnd_open h hp, exec_seekEnd_onTrack h hp, exec_seekEnd_again h hp,
      exec_seekEnd_lost h hp⟩,
    fun s n h => ⟨exec_defectHoldMaxExpiry_none h, fun x hh => ⟨exec_defectHoldMaxExpiry_early h hh,
      exec_defectHoldMaxExpiry_due h hh⟩⟩⟩
  case focus =>
    refine ⟨_, exec_focusAcquisition_ready h hr, ?_, ?_, ?_, servoState_sweepStart .., objectsKept_p s Od.DRIVE_SERVO_STATE n 2⟩
    all_goals rw [sweepStart, State.drives_setDv_self]
    · rw [State.drives_p, State.drives_setDv_self]
    · rfl
  case pullIn =>
    refine ⟨_, exec_trackingPullIn_closes h hp hf ht hb hm hh hx, ?_, proc_pulledIn hp, ?_, servoState_pulledIn s n,
      objectsKept_p s Od.DRIVE_SERVO_STATE n 4⟩
    all_goals rw [pulledIn, State.drives_setDv_self]
  case layerJump =>
    exact ⟨_, exec_layerJump_starts h hp hf hh hl hg, focusClosed_layerJumpStart s n, trackClosed_layerJumpStart s n,
      servoState_layerJumpStart s n, target_layerJumpStart s n⟩
  case landGroove =>
    exact ⟨_, exec_landGrooveSwitch_closed h hc, lg_grooveSwitched s n, grooveSwitched_d1, grooveSwitched_d0⟩

end Sys2Proof.Machine
end

section
/-! SUPPORT. Angle events and late ones, the resets of a drive and of its front end, SELF_SAFE, laser faults and retrains. -/

namespace Sys2Proof.Machine

/-! ### An event that a front end takes (R191, R195, R196, R261, R294, R295) -/

/-- The front end may not drive its laser (R20, R220, R263, R680). -/
def State.dark (s : State) (n : Drive) : Bool :=
  s.drives[n].fe.selfSafe || s.drives[n].fe.laserFault || s.drives[n].rail5Low || !s.pins.laserEn.getLsbD n

section
variable (s : State) (n : Drive) (id : Nat) (late : Bool)

theorem drives_feTake : (feTake s n id late).drives[n] = { s.drives[n] with fe := { s.drives[n].fe with
    events := s.drives[n].fe.events.filter fun e => e.id != id, doneId := id % 256, late := late } } :=
  State.drives_setDv_self ..

theorem rail5Low_feTake : (feTake s n id late).drives[n].rail5Low = s.drives[n].rail5Low := by rw [drives_feTake]
theorem inhibit_feTake : (feTake s n id late).drives[n].inhibit = s.drives[n].inhibit := by rw [drives_feTake]
theorem laserMode_feTake : (feTake s n id late).drives[n].laserMode = s.drives[n].laserMode := by rw [drives_feTake]
theorem outstanding_feTake : (feTake s n id late).drives[n].outstanding = s.drives[n].outstanding := by rw [drives_feTake]

theorem keep_feTake : keep s (feTake s n id late) = feTake s n id late := keep_eq rfl rfl rfl rfl rfl

theorem keep_feTake_setDv (f : DriveSt → DriveSt) : keep s ((feTake s n id late).setDv n f) = (feTake s n id late).setDv n f :=
  keep_eq rfl rfl rfl rfl rfl

end

theorem keep_readGateOpen (s : State) (n : Drive) (id : Nat) (e : AngleEvent) :
    keep s (readGateOpen (feTake s n id false) n e) = readGateOpen (feTake s n id false) n e := keep_eq rfl rfl rfl rfl rfl

section
variable (s : State) (n : Drive) (e : AngleEvent)

theorem gate_readGateOpen : (readGateOpen s n e).drives[n].fe.gate = some ⟨e, false⟩ := by
  rw [readGateOpen, State.drives_setDv_self]

theorem lockBit_readGateOpen : (readGateOpen s n e).drives[n].fe.lockBit = 0 := by
  rw [readGateOpen, State.drives_setDv_self]

theorem fifoRead_readGateOpen : (readGateOpen s n e).drives[n].fe.fifoRead = [] := by
  rw [readGateOpen, State.drives_setDv_self]

theorem doneId_readGateOpen : (readGateOpen s n e).drives[n].fe.doneId = s.drives[n].fe.doneId := by
  rw [readGateOpen, State.drives_setDv_self, State.drives_p]

theorem rcState_readGateOpen : (readGateOpen s n e).g Od.RC_STATE n = 1 := State.g_p_self s Od.RC_STATE n 1

theorem objectsKept_readGateOpen : ObjectsKept [Od.RC_STATE.el n] s (readGateOpen s n e) := objectsKept_p s Od.RC_STATE n 1

end

section
variable {s : State} {n : Drive} {id : Nat} (h : LiveFe s n)
include h

theorem exec_angleEventExecute_absent (he : (s.drives[n].fe.events.find? fun e => e.id == id) = none) :
    exec (.angleEventExecute n id) s = .next s := by
  rw [exec_angleEventExecute, execAngleEventExecute]
  refine actFe_eq_self h ?_
  dsimp only
  rw [he]

section
variable {e : AngleEvent} (he : (s.drives[n].fe.events.find? fun e => e.id == id) = some e)
include he

section
variable (hk : e.kind = 2) (hg : s.drives[n].fe.gate = none)
include hk hg

theorem exec_angleEventExecute_readOpens (hd : s.dark n = false) :
    exec (.angleEventExecute n id) s = .next (readGateOpen (feTake s n id false) n e) := by
  rw [exec_angleEventExecute, execAngleEventExecute]
  refine actFe_eq_of_keep h ?_ (keep_readGateOpen ..)
  dsimp only
  rw [he, hg, rail5Low_feTake]
  exact (if_neg (by omega)).trans ((if_pos (.inl hk)).trans (if_neg (ne_true_of_eq_false hd)))

theorem exec_angleEventExecute_readDark (hd : s.dark n = true) : exec (.angleEventExecute n id) s = .next (feTake s n id false) := by
  rw [exec_angleEventExecute, execAngleEventExecute]
  refine actFe_eq_of_keep h ?_ (keep_feTake ..)
  dsimp only
  rw [he, hg, rail5Low_feTake]
  exact (if_neg (by omega)).trans ((if_pos (.inl hk)).trans (if_pos hd))

end

section
variable (hk : e.kind = 3)
include hk

theorem exec_angleEventExecute_step (hg : s.drives[n].fe.gate = none) :
    exec (.angleEventExecute n id) s = .next ((feTake s n id false).setDv n
      fun d => { d with fe := { d.fe with power := e.arg % 16384 }, laserPwr := e.arg % 16384 }) := by
  rw [exec_angleEventExecute, execAngleEventExecute]
  refine actFe_eq_of_keep h ?_ (keep_feTake_setDv ..)
  dsimp only
  rw [he, hg]
  exact (if_neg (by omega)).trans ((if_neg (by omega)).trans (if_pos hk))

theorem exec_angleEventExecute_stepWaits {g : GateOpen} (hg : s.drives[n].fe.gate = some g) (hw : g.write = false) :
    exec (.angleEventExecute n id) s = .next ((feTake s n id false).setDv n
      fun d => { d with fe := { d.fe with stepWaiting := some e } }) := by
  rw [exec_angleEventExecute, execAngleEventExecute]
  refine actFe_eq_of_keep h ?_ (keep_feTake_setDv ..)
  dsimp only
  rw [he, hg]
  exact (if_neg (by omega)).trans ((if_neg (by omega)).trans ((if_pos hk).trans (if_neg (ne_true_of_eq_false hw))))

end

section
variable (hk : e.kind = 1)
include hk

theorem exec_angleEventExecute_underrun (hd : s.dark n = false) (hi : s.drives[n].inhibit = false) (hm : 1 < s.drives[n].laserMode)
    (hf : s.drives[n].fe.fifo < 82560) :
    exec (.angleEventExecute n id) s = .next ((feTake s n id false).setDv n fun d => { d with fe := { d.fe with underrun := true } }) := by
  have hc : ¬(s.dark n || s.drives[n].inhibit || decide (s.drives[n].laserMode ≤ 1)) = true := by
    simp [-Fin.getElem_fin, hd, hi, hm]
  rw [exec_angleEventExecute, execAngleEventExecute]
  refine actFe_eq_of_keep h ?_ (keep_feTake_setDv ..)
  dsimp only
  rw [he, rail5Low_feTake, inhibit_feTake, laserMode_feTake]
  exact (if_pos hk).trans ((if_neg hc).trans (if_pos hf))

theorem exec_angleEventExecute_writeShut (hc : s.dark n = true ∨ s.drives[n].inhibit = true ∨ s.drives[n].laserMode ≤ 1) :
    exec (.angleEventExecute n id) s = .next (feTake s n id false) := by
  have hc' : (s.dark n || s.drives[n].inhibit || decide (s.drives[n].laserMode ≤ 1)) = true := by
    simpa only [Bool.or_eq_true, decide_eq_true_eq, or_assoc] using hc
  rw [exec_angleEventExecute, execAngleEventExecute]
  refine actFe_eq_of_keep h ?_ (keep_feTake ..)
  dsimp only
  rw [he, rail5Low_feTake, inhibit_feTake, laserMode_feTake]
  exact (if_pos hk).trans (if_pos hc')

end

end

/-! ### Late events (R196) -/

theorem exec_evtLate_unknown (hq : (s.drives[n].fe.events.any fun e => e.id == id) = false)
    (ho : (s.drives[n].outstanding.any fun e => e.id == id) = false) : exec (.evtLate n id) s = .next s := by
  rw [exec_evtLate, execEvtLate]
  refine actFe_eq_self h (if_neg ?_)
  rw [hq, ho]
  decide

end

/-- An outstanding event was late: taken from the front end, forgotten, and a slip counted. -/
def slipped (s : State) (n : Drive) (id : Nat) : State :=
  ((eventDone (feTake s n id true) n id).inc Od.ANGLE_SLIP_CNT n).setDv n fun d => { d with rx := none }

theorem exec_evtLate_outstanding {s : State} {n : Drive} {id : Nat} (h : LiveFe s n)
    (ho : (s.drives[n].outstanding.any fun e => e.id == id) = true) : exec (.evtLate n id) s = .next (slipped s n id) := by
  rw [exec_evtLate, execEvtLate]
  refine actFe_eq_of_keep h ((if_pos ?_).trans ?_) (keep_eq rfl rfl rfl rfl rfl)
  · rw [ho, Bool.or_true]
  · rw [lateEvent, outstanding_feTake]
    exact if_pos ho

section
variable (s : State) (n : Drive) (id : Nat)

theorem drives_slipped : (slipped s n id).drives[n] = { (feTake s n id true).drives[n] with
    outstanding := s.drives[n].outstanding.filter fun e => e.id != id, rx := none } := by
  rw [slipped, State.drives_setDv_self, State.inc, State.add, State.drives_p, eventDone, State.drives_setDv_self, outstanding_feTake]

theorem rx_slipped : (slipped s n id).drives[n].rx = none := by rw [drives_slipped]

theorem late_slipped : (slipped s n id).drives[n].fe.late = true := by rw [drives_slipped, drives_feTake]

/-- The late event is outstanding no more. -/
theorem outstanding_slipped : ((slipped s n id).drives[n].outstanding.any fun e => e.id == id) = false := by
  rw [drives_slipped]
  simp [-Fin.getElem_fin]

theorem slips_slipped : (slipped s n id).g Od.ANGLE_SLIP_CNT n = (s.g Od.ANGLE_SLIP_CNT n + 1) % 2 ^ 32 :=
  State.g_inc_self (eventDone (feTake s n id true) n id) Od.ANGLE_SLIP_CNT n

theorem objectsKept_slipped : ObjectsKept [Od.ANGLE_SLIP_CNT.el n] s (slipped s n id) :=
  objectsKept_p (eventDone (feTake s n id true) n id) Od.ANGLE_SLIP_CNT n _

end

/-! ### DRIVE_RESET (R218) -/

/-- The answer of a write of an object is the last thing sent. -/
theorem getLast?_out_answer (s t : State) (who code : Nat) :
    (keep s (t.answer who code)).out.getLast? = some (.answer who code []) := List.getLast?_concat ..

theorem exec_driveReset_admitted {s : State} {n : Drive} (h : Live s) (hw : s.writeCodeOf 0 Od.DRIVE_RESET n = 0) :
    exec (.driveReset n) s = .next (keep s ((driveResetWrite s n).answer 0 0)) := by
  rw [exec_driveReset, execDriveReset, actWrite_live h hw]

theorem driveResetWrite_undeclared {s : State} {n : Drive} (hd : s.driveDeclared n = false) : driveResetWrite s n = s :=
  if_neg (ne_true_of_eq_false hd)

/-- What becomes of a disc in FAULT changes no object. -/
theorem g_driveResetWrite {s : State} {n : Drive} (hd : s.driveDeclared n = true) (o : Ob) (e : Nat) :
    (driveResetWrite s n).g o e = (((driveReset s n).p Od.DRIVE_FAULT n 0).p Od.DRIVE_SERVO_STATE n 0).g o e := by
  rw [driveResetWrite, if_pos hd]
  dsimp only
  generalize (State.p _ _ _ _).p _ _ _ = u
  split
  · exact State.g_setPicker ..
  · rfl

section
variable {s : State} {n : Drive} (hd : s.driveDeclared n = true)
include hd

theorem driveFault_driveResetWrite : (driveResetWrite s n).g Od.DRIVE_FAULT n = 0 := by
  rw [g_driveResetWrite hd, State.g_p_ne _ _ (by simp only [Ob.el, Od.DRIVE_SERVO_STATE, Od.DRIVE_FAULT]; omega), State.g_p_self,
    Nat.zero_mod]

theorem servoState_driveResetWrite : (driveResetWrite s n).g Od.DRIVE_SERVO_STATE n = 0 := by
  rw [g_driveResetWrite hd, State.g_p_self, Nat.zero_mod]

end

/-! ### FE_RESET and its release (R222, R339) -/

@[simp] theorem feRst_keep (s t : State) : (keep s t).pins.feRst = t.pins.feRst := by
  unfold keep enablesFrom
  split <;> rfl

/-- Front end `n` is held in reset. -/
def FeHeld (n : Drive) (t : State) : Prop :=
  t.pins.feRst.getLsbD n = false ∧ t.parts.feUp.getLsbD n = false ∧ t.drives[n].resetting = true

theorem FeHeld.of_eventsOnly {n : Drive} {s t : State} (h : FeHeld n s) (he : EventsOnly s t) : FeHeld n t := by
  rw [he]
  exact h

section
variable {n : Drive} {s : State} (h : FeHeld n s)
include h

theorem FeHeld.p (o : Ob) (e v : Nat) : FeHeld n (s.p o e v) := h

theorem FeHeld.setDom (i : Fin 21) (d : DomPhase) : FeHeld n (setDom s i d) := h

/-- Whether its drive goes to D2 or stays, the front end is held. -/
theorem FeHeld.toD2 {c : Prop} [Decidable c] (w : Option (Nat × Nat)) :
    FeHeld n (if c then (s.p Od.DRV_STATE n 2).setDv n fun d => { d with wake := w } else s) := by
  obtain ⟨hpin, hup, hreset⟩ := h
  split
  · refine ⟨hpin, hup, ?_⟩
    rw [State.drives_setDv_self]
    exact hreset
  · exact ⟨hpin, hup, hreset⟩

end

/-- The bit of front end `n` is low after it is cleared. -/
theorem getLsbD_cleared (x : BitVec 16) (n : Drive) : (x &&& ~~~BitVec.twoPow 16 n).getLsbD n = false := by
  simp

theorem feHeld_feReset (s : State) (n : Drive) : FeHeld n (feReset s n) := by
  unfold feReset
  dsimp only
  generalize inhibitDrive _ _ _ _ = u
  refine FeHeld.of_eventsOnly (FeHeld.toD2 (((FeHeld.p ?_ ..).p ..).p .. |>.setDom ..) _) (evtReach_violation ..).only
  refine ⟨getLsbD_cleared .., getLsbD_cleared .., ?_⟩
  dsimp only
  rw [State.drives_setDv_self]

theorem feResetWrite_undeclared {s : State} {n : Drive} (hd : s.driveDeclared n = false) : feResetWrite s n = s :=
  if_neg (ne_true_of_eq_false hd)

theorem feHeld_feResetWrite {s : State} {n : Drive} (hd : s.driveDeclared n = true) : FeHeld n (feResetWrite s n) := by
  rw [feResetWrite, if_pos hd]
  exact feHeld_feReset s n

/-- Front end `n` comes out of its reset, with the dark offset to be measured. -/
def feReleased (s : State) (n : Drive) : State :=
  ({ s with pins := { s.pins with feRst := s.pins.feRst ||| BitVec.twoPow 16 n } }).p Od.CAL_STATE n 1

section
variable {s : State} {n : Drive} (h : Live s)
include h

theorem exec_feReset_admitted (hw : s.writeCodeOf 0 Od.FE_RESET n = 0) :
    exec (.feReset n) s = .next (keep s ((feResetWrite s n).answer 0 0)) := by
  rw [exec_feReset, execFeReset, actWrite_live h hw]

theorem exec_feResetRelease_waits (hc : s.drives[n].resetting = false ∨ s.driveDeclared n = false ∨ s.pwr.railOut ≠ 0) :
    exec (.feResetRelease n) s = .next s := by
  rw [exec_feResetRelease, execFeResetRelease]
  refine act_eq_self h (if_neg ?_)
  rintro ⟨hr, hd, ho⟩
  simp [-Fin.getElem_fin, hr, hd, ho] at hc

theorem exec_feResetRelease_due (hr : s.drives[n].resetting = true) (hd : s.driveDeclared n = true) (ho : s.pwr.railOut = 0) :
    exec (.feResetRelease n) s = .next (keep s (feReleased s n)) := by
  rw [exec_feResetRelease, execFeResetRelease]
  exact act_eq h (if_pos ⟨hr, hd, ho⟩)

end

theorem feRst_feReleased (s : State) (n : Drive) : (feReleased s n).pins.feRst.getLsbD n = true := by
  simp [feReleased]

theorem calState_feReleased (s : State) (n : Drive) : (feReleased s n).g Od.CAL_STATE n = 1 :=
  State.g_p_self { s with pins := { s.pins with feRst := s.pins.feRst ||| BitVec.twoPow 16 n } } Od.CAL_STATE n 1

theorem objectsKept_feReleased (s : State) (n : Drive) : ObjectsKept [Od.CAL_STATE.el n] s (feReleased s n) :=
  objectsKept_p { s with pins := { s.pins with feRst := s.pins.feRst ||| BitVec.twoPow 16 n } } Od.CAL_STATE n 1

/-! ### DRIVE_FAULT_TIMEOUT (R219, R395, R438) -/

section
variable {s : State} (h : Live s)
include h

theorem exec_driveFaultTimeout_sound {n : Drive} (hf : s.g Od.DRIVE_FAULT n = 0) :
    exec (.driveFaultTimeout (some n)) s = .next (keep s (settle s)) := by
  rw [exec_driveFaultTimeout, execDriveFaultTimeout]
  refine act_eq h ?_
  simp [driveFaultTimeout, hf]

theorem exec_driveFaultTimeout_pickerSound (hp : s.g Od.PICK_STATE ≠ 2) :
    exec (.driveFaultTimeout none) s = .next (keep s (settle s)) := by
  rw [exec_driveFaultTimeout, execDriveFaultTimeout]
  refine act_eq h ?_
  simp [driveFaultTimeout, hp]

/-- With no operation on the drive, what waits for its disc fails. -/
theorem exec_driveFaultTimeout_faulted {n : Drive} (hf : s.g Od.DRIVE_FAULT n ≠ 0) (hc : s.media.cur[n] = none) :
    exec (.driveFaultTimeout (some n)) s = .next (keep s (opsFault (settle (if s.g Od.DRV_DISC n = 0xFFFF then s
      else failDisc s (s.g Od.DRV_DISC n) .internalError false)) 1 (· == s.g Od.DRV_DISC n))) := by
  rw [exec_driveFaultTimeout, execDriveFaultTimeout]
  refine act_eq h ?_
  simp [-Fin.getElem_fin, driveFaultTimeout, hf, hc]

end

/-! ### SELF_SAFE and a laser fault (R220, R263) -/

/-- A front end has made itself safe: the laser off, the gate closed, its queue discarded. -/
def feSafed (s : State) (n : Drive) : State :=
  ((closeWriteGate s n).p Od.RC_STATE n 0).setDv n fun d => { d with fe := { d.fe with
    selfSafe := true, gate := none, events := [], missDown := max 6 d.fe.missDown, power := 0 } }

/-- A laser fault has closed the gate and turned the laser off. -/
def laserFaulted (s : State) (n : Drive) : State :=
  ((closeWriteGate s n).p Od.RC_STATE n 0).setDv n fun d => { d with fe := { d.fe with laserFault := true, gate := none, power := 0 } }

section
variable {s : State} {n : Drive} (h : LiveFe s n)
include h

theorem exec_selfSafe_asleep
    (hp : s.pwr.dom[(⟨5 + n.val, by omega⟩ : Fin 21)] = .off ∨
      s.pwr.dom[(⟨5 + n.val, by omega⟩ : Fin 21)] = .exiting) :
    exec (.selfSafe n) s = .next s := by
  rw [exec_selfSafe, execSelfSafe]
  exact actFe_eq_self h (if_pos hp)

theorem exec_selfSafe_awake (ho : s.pwr.dom[(⟨5 + n.val, by omega⟩ : Fin 21)] ≠ .off)
    (he : s.pwr.dom[(⟨5 + n.val, by omega⟩ : Fin 21)] ≠ .exiting) : exec (.selfSafe n) s = .next (keep s (feSafed s n)) := by
  rw [exec_selfSafe, execSelfSafe]
  exact actFe_eq h (if_neg (not_or.mpr ⟨ho, he⟩))

theorem exec_laserFault_faulted : exec (.laserFault n) s = .next (keep s (laserFaulted s n)) := by
  rw [exec_laserFault, execLaserFault]
  exact actFe_eq h rfl

end

theorem fe_feSafed (s : State) (n : Drive) : (feSafed s n).drives[n].fe = { (closeWriteGate s n).drives[n].fe with
    selfSafe := true, gate := none, events := [], missDown := max 6 (closeWriteGate s n).drives[n].fe.missDown, power := 0 } := by
  rw [feSafed, State.drives_setDv_self, State.drives_p]

theorem fe_laserFaulted (s : State) (n : Drive) : (laserFaulted s n).drives[n].fe =
    { (closeWriteGate s n).drives[n].fe with laserFault := true, gate := none, power := 0 } := by
  rw [laserFaulted, State.drives_setDv_self, State.drives_p]

theorem rcState_feSafed (s : State) (n : Drive) : (feSafed s n).g Od.RC_STATE n = 0 :=
  State.g_p_self (closeWriteGate s n) Od.RC_STATE n 0

theorem rcState_laserFaulted (s : State) (n : Drive) : (laserFaulted s n).g Od.RC_STATE n = 0 :=
  State.g_p_self (closeWriteGate s n) Od.RC_STATE n 0

/-! ### Retrains of the Giperlink (R216, R220, R222, R691) -/

section
variable {s : State} {n : Drive} (h : Live s)
include h

theorem exec_giperlinkAligned_idle (hr : s.drives[n].retraining = false) : exec (.giperlinkAligned n) s = .next s := by
  rw [exec_giperlinkAligned, execGiperlinkAligned]
  exact act_eq_self h (if_neg (ne_true_of_eq_false hr))

theorem exec_giperlinkAligned_retraining (hr : s.drives[n].retraining = true) :
    exec (.giperlinkAligned n) s = .next (s.setDv n fun d => { d with
      retraining := false, missUp := 0, sent := [], fe := { d.fe with selfSafe := false, missDown := 0 } }) := by
  rw [exec_giperlinkAligned, execGiperlinkAligned]
  exact act_eq_of_keep h (if_pos hr) (keep_eq rfl rfl rfl rfl rfl)

theorem exec_giperlinkRetrainTimeout_idle (hr : s.drives[n].retraining = false)
    (he : s.pwr.dom[(⟨5 + n.val, by omega⟩ : Fin 21)] ≠ .exiting) : exec (.giperlinkRetrainTimeout n) s = .next s := by
  rw [exec_giperlinkRetrainTimeout, execGiperlinkRetrainTimeout]
  refine act_eq_self h (if_neg ?_)
  rw [hr, Bool.false_or, beq_iff_eq]
  exact he

theorem exec_giperlinkRetrainTimeout_due (hr : s.drives[n].retraining = true) :
    exec (.giperlinkRetrainTimeout n) s = .next (keep s (feReset s n)) := by
  rw [exec_giperlinkRetrainTimeout, execGiperlinkRetrainTimeout]
  refine act_eq h (if_pos ?_)
  rw [hr, Bool.true_or]

end

/-- Settles O29, in the order of its clauses. The Internal Error after a fault has lasted and the gates are the model's choice (assumption
logs 67 and 49), and so is that the reset of an undeclared drive only answers. -/
theorem angleEventsFaultsAndResets : Obligations.AngleEventsFaultsAndResets := by
  refine ⟨fun s n id h => ⟨exec_angleEventExecute_absent h, fun e he =>
      ⟨fun hk hg hd => ?readOpens, exec_angleEventExecute_readDark h he, exec_angleEventExecute_step h he,
        fun hk g hg hw => exec_angleEventExecute_stepWaits h he hk hg hw, exec_angleEventExecute_underrun h he,
        exec_angleEventExecute_writeShut h he⟩⟩,
    fun s n id h => ⟨exec_evtLate_unknown h, fun ho => ?late⟩,
    fun s n h hw => ⟨fun hd => ?driveUndeclared, fun hd => ?driveDeclared⟩,
    fun s n h hw => ⟨fun hd => ?feUndeclared, fun hd => ?feDeclared⟩,
    fun s n h => ⟨exec_driveFaultTimeout_sound h, exec_driveFaultTimeout_pickerSound h, exec_driveFaultTimeout_faulted h⟩,
    fun s n h => ⟨exec_selfSafe_asleep h, fun ho he => ?selfSafe, ?laserFault⟩,
    fun s n h => ⟨exec_giperlinkAligned_idle h, exec_giperlinkAligned_retraining h, exec_giperlinkRetrainTimeout_idle h,
      exec_giperlinkRetrainTimeout_due h, exec_feResetRelease_waits h, fun hr hd ho => ?released⟩⟩
  case readOpens =>
    refine ⟨_, exec_angleEventExecute_readOpens h he hk hg hd, gate_readGateOpen .., lockBit_readGateOpen .., fifoRead_readGateOpen ..,
      ?_, rcState_readGateOpen .., objectsKept_readGateOpen (feTake s n id false) n e⟩
    rw [doneId_readGateOpen, drives_feTake]
  case late =>
    exact ⟨_, exec_evtLate_outstanding h ho, slips_slipped .., rx_slipped .., late_slipped .., outstanding_slipped ..,
      objectsKept_slipped s n id⟩
  case driveUndeclared => rw [exec_driveReset_admitted h hw, driveResetWrite_undeclared hd, keep_answer (keep_self s)]
  case driveDeclared =>
    exact ⟨_, exec_driveReset_admitted h hw, driveFault_driveResetWrite hd, servoState_driveResetWrite hd, getLast?_out_answer ..⟩
  case feUndeclared => rw [exec_feReset_admitted h hw, feResetWrite_undeclared hd, keep_answer (keep_self s)]
  case feDeclared =>
    obtain ⟨hpin, hup, hreset⟩ := feHeld_feResetWrite hd
    exact ⟨_, exec_feReset_admitted h hw, by rw [feRst_keep]; exact hpin, hup, hreset, getLast?_out_answer ..⟩
  case selfSafe =>
    refine ⟨_, exec_selfSafe_awake h ho he, ?_, ?_, ?_, ?_, rcState_feSafed s n⟩
    all_goals rw [keep_drives, fe_feSafed]
  case laserFault =>
    refine ⟨_, exec_laserFault_faulted h, ?_, ?_, ?_, rcState_laserFaulted s n⟩
    all_goals rw [keep_drives, fe_laserFaulted]
  case released =>
    refine ⟨_, exec_feResetRelease_due h hr hd ho, ?_, calState_feReleased s n, objectsKept_feReleased s n⟩
    rw [feRst_keep]
    exact feRst_feReleased s n

end Sys2Proof.Machine
end

section
/-! SUPPORT. Spindles and the carousel: their starts, the voltage limit, settling, braking, stops and faults. -/

namespace Sys2Proof.Machine

/-! ### Elements with one number, bits and motors -/

theorem Ob.el_ne {o p : Ob} (e : Nat) (h : o.addr ≠ p.addr) : o.el e ≠ p.el e := fun he => h (Nat.add_right_cancel he)

/-- A write of an object leaves the element with the same number of another. -/
theorem State.g_p_other (s : State) {o p : Ob} (e v : Nat) (h : o.addr ≠ p.addr) : (s.p o e v).g p e = s.g p e :=
  State.g_p_ne s v (Ob.el_ne e h)

theorem testBit_putBit_self (v i : Nat) (b : Bool) : (putBit v i b).testBit i = b := by
  unfold putBit
  split
  · next h => exact eq_of_beq h
  · next h =>
    cases b with
    | true =>
      rw [if_pos rfl, Nat.add_comm, Nat.testBit_two_pow_add_eq]
      simpa using h
    | false =>
      have hv : v.testBit i = true := by simpa using h
      obtain ⟨w, rfl⟩ := Nat.exists_eq_add_of_le (Nat.ge_two_pow_of_testBit hv)
      rw [Nat.testBit_two_pow_add_eq] at hv
      rw [if_neg Bool.false_ne_true, Nat.add_sub_cancel_left]
      simpa using hv

theorem testBit_putBit_lower (v : Nat) {i j : Nat} (b : Bool) (hj : j < i) : (putBit v i b).testBit j = v.testBit j := by
  unfold putBit
  split
  · rfl
  · next h =>
    cases b with
    | true => rw [if_pos rfl, Nat.add_comm, Nat.testBit_two_pow_add_gt hj]
    | false =>
      obtain ⟨w, rfl⟩ := Nat.exists_eq_add_of_le (Nat.ge_two_pow_of_testBit (x := v) (i := i) (by simpa using h))
      rw [if_neg Bool.false_ne_true, Nat.add_sub_cancel_left, Nat.testBit_two_pow_add_gt hj]

theorem State.gb_pb_self (s : State) {o : Ob} (e : Nat) {i : Nat} (b : Bool) (hi : i < o.bits) : (s.pb o e i b).gb o e i = b := by
  rw [State.gb, State.pb, State.g_p_self, Nat.testBit_mod_two_pow, testBit_putBit_self, decide_eq_true hi, Bool.true_and]

theorem State.gb_pb_lower (s : State) {o : Ob} (e : Nat) {i j : Nat} (b : Bool) (hi : i < o.bits) (hj : j < i) :
    (s.pb o e i b).gb o e j = s.gb o e j := by
  rw [State.gb, State.pb, State.g_p_self, Nat.testBit_mod_two_pow, testBit_putBit_lower _ _ hj, decide_eq_true (hj.trans hi),
    Bool.true_and, State.gb]

@[simp] theorem State.mot_setMot_self (s : State) (m : Motor) (f : MotorSt → MotorSt) : (s.setMot m f).mot m = f (s.mot m) :=
  vmod_get _ _ _

@[simp] theorem State.mot_p (s : State) (o : Ob) (e v : Nat) (m : Motor) : (s.p o e v).mot m = s.mot m := rfl

@[simp] theorem State.media_setAx (s : State) (a : Axis) (f : AxisSt → AxisSt) : (s.setAx a f).media = s.media := rfl

/-- One element written and one motor changed stand in the frame of an ordinary command as they are. -/
theorem keep_p_setMot (s : State) (o : Ob) (e v : Nat) (m : Motor) (f : MotorSt → MotorSt) :
    keep s ((s.p o e v).setMot m f) = (s.p o e v).setMot m f := keep_eq rfl rfl rfl rfl rfl

/-! ### Which elements an operation writes -/

theorem ObjectsKept.g {w : List Nat} {s t : State} (h : ObjectsKept w s t) {o : Ob} {e : Nat} (ho : o.el e ∉ w) : t.g o e = s.g o e :=
  h _ ho

theorem objectsKept_of_od {w : List Nat} {s t : State} (h : t.od = s.od) : ObjectsKept w s t := fun _ _ => by rw [h]

section
variable {w : List Nat} {s t : State} (h : ObjectsKept w s t)
include h

theorem ObjectsKept.p {o : Ob} {e : Nat} (hm : o.el e ∈ w) (v : Nat) : ObjectsKept w s (t.p o e v) :=
  h.trans ((objectsKept_p t o e v).mono fun _ ha => List.mem_singleton.mp ha ▸ hm)

theorem ObjectsKept.pb {o : Ob} {e : Nat} (hm : o.el e ∈ w) (i : Nat) (b : Bool) : ObjectsKept w s (t.pb o e i b) := h.p hm _

theorem ObjectsKept.inc {o : Ob} {e : Nat} (hm : o.el e ∈ w) : ObjectsKept w s (t.inc o e) := h.p hm _

theorem ObjectsKept.setMot (m : Motor) (f : MotorSt → MotorSt) : ObjectsKept w s (t.setMot m f) := h

theorem ObjectsKept.ite {u : State} (k : ObjectsKept w s u) (c : Prop) [Decidable c] : ObjectsKept w s (if c then t else u) := by
  split
  · exact h
  · exact k

end

/-- A state after an event, at an element below the event unit's. -/
theorem ObjectsKeptEv.g {w : List Nat} {s t : State} (h : ObjectsKeptEv w s t) {o : Ob} {e : Nat} (ho : o.el e ∉ w)
    (hq : o.el e < 0x62000000) : t.g o e = s.g o e :=
  h _ ho (by omega) (by omega) (by omega)

theorem EvtReach.g {s t : State} (h : EvtReach s t) {o : Ob} {e : Nat} (hq : o.el e < 0x62000000) : t.g o e = s.g o e :=
  h.kept.g (by simp) hq

/-! ### HFI_ALIGN_DONE (R231) -/

section
variable {s : State} {n : Drive} (h : Live s)
include h

theorem exec_hfiAlignDone_ends (hst : s.g Od.SPIN_STATE n = 1) (ht : s.g Od.HFI_SETTLE ≤ (s.mot (spindleOf n)).ticks) :
    exec (.hfiAlignDone n) s = .next ((s.p Od.SPIN_STATE n 2).setMot (spindleOf n) fun m => { m with ticks := 0 }) := by
  rw [exec_hfiAlignDone, execHfiAlignDone]
  exact act_eq_of_keep h (if_pos ⟨hst, ht⟩) (keep_p_setMot ..)

theorem exec_hfiAlignDone_waits (hw : s.g Od.SPIN_STATE n ≠ 1 ∨ (s.mot (spindleOf n)).ticks < s.g Od.HFI_SETTLE) :
    exec (.hfiAlignDone n) s = .next s := by
  rw [exec_hfiAlignDone, execHfiAlignDone]
  exact act_eq_self h (if_neg (by omega))

end

/-! ### HFI_SIGN_DECISION (R231, R256) -/

/-- The two pulses' peaks differ by the margin. -/
def SignClear (s : State) (plus minus : Nat) : Prop :=
  0 < max plus minus ∧ min plus minus * (100 + s.g Od.HFI_SIGN_MARGIN) ≤ max plus minus * 100

/-- The ratio of the peaks is reported. -/
def signMeasured (s : State) (n : Drive) (plus minus : Nat) : State :=
  let r := signRatio s (max plus minus) (min plus minus)
  r.1.p Od.HFI_SIGN_RATIO n r.2

/-- The sign is known: the spindle ramps up, turned by half a turn where the minus pulse was the larger. -/
def signDecided (s : State) (n : Drive) (plus minus : Nat) : State :=
  ((signMeasured s n plus minus).p Od.SPIN_STATE n 3).setMot (spindleOf n) fun m => { m with
    eangle := if plus < minus then (m.eangle + 32768) % 65536 else m.eangle, ticks := 0, ramp := 0 }

/-- ALIGN begins again with one attempt more. -/
def signRepeated (s : State) (n : Drive) (plus minus : Nat) : State :=
  ((signMeasured s n plus minus).p Od.SPIN_STATE n 1).setMot (spindleOf n) fun m => { m with ticks := 0, attempts := m.attempts + 1 }

section
variable (s : State) (n : Drive) (plus minus : Nat)

theorem od_signRatio (big small : Nat) : (signRatio s big small).1.od = s.od := by
  unfold signRatio
  split <;> rfl

theorem motion_signRatio (big small : Nat) : (signRatio s big small).1.motion = s.motion := by
  unfold signRatio
  split <;> rfl

theorem signRatio_stated {s : State} {big small : Nat} (hs : small ≠ 0) (hb : big * 1000 / small ≤ 65535) :
    signRatio s big small = (s, big * 1000 / small) := if_neg (by omega)

theorem mot_signMeasured (m : Motor) : (signMeasured s n plus minus).mot m = s.mot m := by
  rw [signMeasured, State.mot_p, State.mot, motion_signRatio, State.mot]

theorem objectsKept_signMeasured : ObjectsKept [Od.HFI_SIGN_RATIO.el n] s (signMeasured s n plus minus) :=
  (objectsKept_of_od (od_signRatio ..)).trans (objectsKept_p (signRatio s _ _).1 Od.HFI_SIGN_RATIO n _)

theorem spinState_signDecided : (signDecided s n plus minus).g Od.SPIN_STATE n = 3 := by
  rw [signDecided, State.g_setMot, State.g_p_self]
  rfl

theorem signRatio_signDecided (hs : min plus minus ≠ 0) (hr : max plus minus * 1000 / min plus minus ≤ 65535) :
    (signDecided s n plus minus).g Od.HFI_SIGN_RATIO n = max plus minus * 1000 / min plus minus := by
  rw [signDecided, State.g_setMot, State.g_p_other _ _ _ (by decide), signMeasured, signRatio_stated hs hr, State.g_p_self]
  exact Nat.mod_eq_of_lt (Nat.lt_succ_of_le hr)

theorem eangle_signDecided : ((signDecided s n plus minus).mot (spindleOf n)).eangle =
    if plus < minus then ((s.mot (spindleOf n)).eangle + 32768) % 65536 else (s.mot (spindleOf n)).eangle := by
  rw [signDecided, State.mot_setMot_self, State.mot_p, mot_signMeasured]

theorem objectsKept_signDecided : ObjectsKept [Od.SPIN_STATE.el n, Od.HFI_SIGN_RATIO.el n] s (signDecided s n plus minus) :=
  (((objectsKept_signMeasured s n plus minus).mono fun _ => List.mem_cons_of_mem _).p (o := Od.SPIN_STATE) List.mem_cons_self 3).setMot _ _

theorem spinState_signRepeated : (signRepeated s n plus minus).g Od.SPIN_STATE n = 1 := by
  rw [signRepeated, State.g_setMot, State.g_p_self]
  rfl

theorem attempts_signRepeated : ((signRepeated s n plus minus).mot (spindleOf n)).attempts = (s.mot (spindleOf n)).attempts + 1 := by
  rw [signRepeated, State.mot_setMot_self, State.mot_p, mot_signMeasured]

theorem signClear_signMeasured : SignClear (signMeasured s n plus minus) plus minus ↔ SignClear s plus minus := by
  have hm : (signMeasured s n plus minus).g Od.HFI_SIGN_MARGIN = s.g Od.HFI_SIGN_MARGIN :=
    (objectsKept_signMeasured s n plus minus).g (by simp only [Ob.el, Od.HFI_SIGN_MARGIN, Od.HFI_SIGN_RATIO, List.mem_singleton]; omega)
  rw [SignClear, hm, SignClear]

end

section
variable {s : State} {n : Drive} {plus minus : Nat} (h : Live s)
include h

theorem exec_hfiSignDecision_elsewhere (hst : s.g Od.SPIN_STATE n ≠ 2) : exec (.hfiSignDecision n plus minus) s = .next s := by
  rw [exec_hfiSignDecision, execHfiSignDecision]
  exact act_eq_self h (if_pos hst)

section
variable (hst : s.g Od.SPIN_STATE n = 2)
include hst

theorem exec_hfiSignDecision_decides (hc : SignClear s plus minus) :
    exec (.hfiSignDecision n plus minus) s = .next (keep s (signDecided s n plus minus)) := by
  rw [exec_hfiSignDecision, execHfiSignDecision]
  exact act_eq h ((if_neg (not_not_intro hst)).trans (if_pos ((signClear_signMeasured s n plus minus).mpr hc)))

section
variable (hc : ¬SignClear s plus minus)
include hc

theorem exec_hfiSignDecision_repeats (ha : (s.mot (spindleOf n)).attempts < 2) :
    exec (.hfiSignDecision n plus minus) s = .next (keep s (signRepeated s n plus minus)) := by
  rw [← mot_signMeasured s n plus minus] at ha
  rw [exec_hfiSignDecision, execHfiSignDecision]
  exact act_eq h ((if_neg (not_not_intro hst)).trans
    ((if_neg (mt (signClear_signMeasured s n plus minus).mp hc)).trans (if_neg (Nat.not_le.mpr ha))))

theorem exec_hfiSignDecision_faults (ha : 2 ≤ (s.mot (spindleOf n)).attempts) :
    exec (.hfiSignDecision n plus minus) s = .next (keep s (spinFault (signMeasured s n plus minus) n 1)) := by
  rw [← mot_signMeasured s n plus minus] at ha
  rw [exec_hfiSignDecision, execHfiSignDecision]
  exact act_eq h ((if_neg (not_not_intro hst)).trans
    ((if_neg (mt (signClear_signMeasured s n plus minus).mp hc)).trans (if_pos ha)))

end
end
end

/-! ### The voltage limit (R243, R244) -/

section
variable (s : State) (m : Motor) (b : Bool)

theorem objectsKept_setVlim : ObjectsKept [Od.SPIN_FLAGS.el m, Od.CAR_FLAGS.el 0] s (s.setVlim m b) :=
  ((ObjectsKept.refl _ s).pb (by simp) 0 b).ite ((ObjectsKept.refl _ s).pb (by simp) 0 b) _

theorem vlim_setVlim : (s.setVlim m b).vlim m = b := by
  unfold State.setVlim State.vlim
  split <;> exact State.gb_pb_self _ _ _ (by decide)

/-- SETTLED is another flag than VLIM. -/
theorem vlim_pb_settled : (s.pb Od.SPIN_FLAGS m 2 b).vlim m = s.vlim m := by
  unfold State.vlim
  split
  · exact State.gb_pb_lower _ _ _ (by decide) (by decide)
  · rw [State.gb, State.pb, State.g_p_ne _ _ (by simp only [Ob.el, Od.SPIN_FLAGS, Od.CAR_FLAGS]; omega), State.gb]

end

/-- Where a motor's flag stands, the flag is as it was. -/
theorem vlim_eq_of_g {s t : State} {m : Motor} (hs : t.g Od.SPIN_FLAGS m = s.g Od.SPIN_FLAGS m) (hc : t.g Od.CAR_FLAGS = s.g Od.CAR_FLAGS) :
    t.vlim m = s.vlim m := by
  rw [State.vlim, State.gb, State.gb, hs, hc]
  rfl

/-- A motor's voltage has reached its limit: the flag, its count and its tick. -/
def limitEntered (s : State) (m : Motor) : State :=
  let u := (s.setVlim m true).inc Od.VLIM_CNT m
  u.setMot m fun x => { x with vlimTick := u.g Od.MOT_TICK }

/-- A motor's voltage is below its limit again, and its spindle no longer settled. -/
def limitLeft (s : State) (m : Motor) : State :=
  let u := s.setVlim m false
  if m.val < 16 then u.pb Od.SPIN_FLAGS m 2 false else u

section
variable (s : State) (m : Motor)

theorem vlim_limitEntered : (limitEntered s m).vlim m = true := by
  refine Eq.trans (vlim_eq_of_g ?_ ?_) (vlim_setVlim s m true)
  · exact State.g_p_other (s.setVlim m true) _ _ (by decide)
  · exact State.g_p_ne (s.setVlim m true) _ (by simp only [Ob.el, Od.VLIM_CNT, Od.CAR_FLAGS]; omega)

theorem count_limitEntered : (limitEntered s m).g Od.VLIM_CNT m = (s.g Od.VLIM_CNT m + 1) % 2 ^ 32 := by
  rw [limitEntered, State.g_setMot, State.g_inc_self, (objectsKept_setVlim s m true).g]
  · rfl
  · simp only [Ob.el, Od.VLIM_CNT, Od.SPIN_FLAGS, Od.CAR_FLAGS, List.mem_cons, List.not_mem_nil, or_false]; omega

theorem vlimTick_limitEntered : ((limitEntered s m).mot m).vlimTick = s.g Od.MOT_TICK := by
  rw [limitEntered, State.mot_setMot_self]
  dsimp only
  rw [State.inc, State.add, State.g_p_ne _ _ (by simp only [Ob.el, Od.VLIM_CNT, Od.MOT_TICK]; omega), (objectsKept_setVlim s m true).g]
  simp only [Ob.el, Od.MOT_TICK, Od.SPIN_FLAGS, Od.CAR_FLAGS, List.mem_cons, List.not_mem_nil, or_false]; omega

theorem totalsKept_limitEntered : TotalsKept s (limitEntered s m) := by
  have hset : TotalsKept s (s.setVlim m true) := by
    unfold State.setVlim
    split
    · exact totalsKept_p _ _ _ _ (by simp only [Ob.el, Od.SPIN_FLAGS]; omega)
    · exact totalsKept_p _ _ _ _ (by decide)
  exact hset.trans (totalsKept_p (s.setVlim m true) Od.VLIM_CNT m _ (by simp only [Ob.el, Od.VLIM_CNT]; omega))

theorem voltageLimit_lt : Src.voltageLimit m < 4096 := by simp only [Src.voltageLimit]; omega

theorem voltageLimit_ne_logLoss : Src.voltageLimit m ≠ Src.logLoss := by simp only [Src.voltageLimit, Src.logLoss]; omega

theorem vlim_limitLeft : (limitLeft s m).vlim m = false := by
  unfold limitLeft
  dsimp only
  split
  · rw [vlim_pb_settled, vlim_setVlim]
  · exact vlim_setVlim ..

theorem settled_limitLeft (hm : m.val < 16) : (limitLeft s m).gb Od.SPIN_FLAGS m 2 = false := by
  rw [limitLeft, if_pos hm]
  exact State.gb_pb_self _ _ _ (by decide)

end

section
variable {s : State} {m : Motor} (h : Live s)
include h

theorem exec_voltageLimitSet_waits (hw : s.vlim m = true ∨ (s.mot m).vHigh < s.g Od.VLIM_TICKS) :
    exec (.voltageLimitSet m) s = .next s := by
  rw [exec_voltageLimitSet, execVoltageLimitSet]
  refine act_eq_self h (if_neg ?_)
  rintro ⟨hv, ht⟩
  rw [hv] at hw
  exact hw.elim Bool.false_ne_true (Nat.not_lt.mpr ht)

theorem exec_voltageLimitSet_due (hv : s.vlim m = false) (ht : s.g Od.VLIM_TICKS ≤ (s.mot m).vHigh) :
    exec (.voltageLimitSet m) s =
      .next (keep s (raise (limitEntered s m) (Src.voltageLimit m) ((limitEntered s m).g Od.MOD_INDEX m))) := by
  rw [exec_voltageLimitSet, execVoltageLimitSet]
  exact act_eq h (if_pos ⟨hv, ht⟩)

theorem exec_voltageLimitClear_waits (hw : s.vlim m = false ∨ (s.mot m).vLow < s.g Od.VLIM_TICKS) :
    exec (.voltageLimitClear m) s = .next s := by
  rw [exec_voltageLimitClear, execVoltageLimitClear]
  refine act_eq_self h (if_neg ?_)
  rintro ⟨hv, ht⟩
  rw [hv] at hw
  exact hw.elim (fun he => Bool.false_ne_true he.symm) (Nat.not_lt.mpr ht)

theorem exec_voltageLimitClear_due (hv : s.vlim m = true) (ht : s.g Od.VLIM_TICKS ≤ (s.mot m).vLow) :
    exec (.voltageLimitClear m) s = .next (keep s (limitLeft s m)) := by
  rw [exec_voltageLimitClear, execVoltageLimitClear]
  exact act_eq h (if_pos ⟨hv, ht⟩)

end

/-! ### The angle's state while the spindle is not in media lock (R192 to R194, R239) -/

theorem mlockExit_unlocked {s : State} {n : Drive} (hst : s.g Od.SPIN_STATE n ≠ 5) : mlockExit s n = s := if_neg hst

/-- Leaving media lock writes the spindle's state, its flags and a count. -/
theorem objectsKept_mlockExit (s : State) (n : Drive) :
    ObjectsKept [Od.SPIN_STATE.el n, Od.MLOCK_DROP_CNT.el n, Od.SPIN_FLAGS.el n] s (mlockExit s n) := by
  unfold mlockExit
  refine .ite (.setMot (.pb (.inc (.p (.refl _ s) ?_ _) ?_) ?_ _ _) _ _) (.refl _ s) _
  all_goals simp

theorem vmod_vmod {α : Type} {k : Nat} (v : Vector α k) (i : Fin k) (f g : α → α) :
    vmod (vmod v i f) i g = vmod v i fun x => g (f x) := by
  rw [vmod, vmod_get, vmod, Vector.set_set, vmod]

theorem vmod_id {α : Type} {k : Nat} (v : Vector α k) (i : Fin k) : (vmod v i fun x => x) = v := Vector.set_getElem_self _

theorem State.setDv_setDv (s : State) (n : Drive) (f g : DriveSt → DriveSt) : (s.setDv n f).setDv n g = s.setDv n fun d => g (f d) := by
  simp only [State.setDv, vmod_vmod]

theorem State.setDv_id (s : State) (n : Drive) : (s.setDv n fun d => d) = s := by
  simp only [State.setDv, vmod_id]

/-- What a drive forgets when its angle goes from state `old` to `v`: its events when it leaves LOCKED, its addresses below ACQUIRING. -/
def angleForgets (old v : Nat) (d : DriveSt) : DriveSt :=
  let d := if old = 3 ∧ v ≠ 3 then { d with flush := true, toSend := [], outstanding := [], rx := none } else d
  if v < 2 then { d with addrGood := 0, addrBad := 0 } else d

section
variable {s : State} {n : Drive} (hst : s.g Od.SPIN_STATE n ≠ 5)
include hst

theorem setAngle_unlocked (v : Nat) :
    setAngle s n v = (s.p Od.ANGLE_STATE n v).setDv n (angleForgets (s.g Od.ANGLE_STATE n) v) := by
  have hp : (s.p Od.ANGLE_STATE n v).g Od.SPIN_STATE n ≠ 5 := by rwa [State.g_p_other _ _ _ (by decide)]
  have hexit (f : DriveSt → DriveSt) : mlockExit ((s.p Od.ANGLE_STATE n v).setDv n f) n = (s.p Od.ANGLE_STATE n v).setDv n f :=
    mlockExit_unlocked hp
  unfold setAngle flushEvents angleForgets
  dsimp only
  by_cases hold : s.g Od.ANGLE_STATE n = 3 ∧ v ≠ 3
  · simp only [if_pos hold, hexit, ite_self, State.setDv_setDv]
    split <;> rfl
  · simp only [if_neg hold, mlockExit_unlocked hp, ite_self]
    split
    · rfl
    · exact (State.setDv_id ..).symm

/-- With focus or tracking open the angle is the observer's, or none (R192, R193). -/
theorem angleOpen_unlocked : ∃ v, angleOpen s n = (s.p Od.ANGLE_STATE n v).setDv n (angleForgets (s.g Od.ANGLE_STATE n) v) :=
  ⟨_, setAngle_unlocked hst _⟩

end

theorem angleForgets_keeps (old v : Nat) (d : DriveSt) : (angleForgets old v d).focusClosed = d.focusClosed ∧
    (angleForgets old v d).wake = d.wake ∧ (angleForgets old v d).cal = d.cal := by
  unfold angleForgets
  dsimp only
  split <;> split <;> exact ⟨rfl, rfl, rfl⟩

/-! ### SPIN_SETTLED (R244) -/

section
variable {s : State} {n : Drive} (h : Live s)
include h

theorem exec_spinSettled_due (hv : s.vlim (spindleOf n) = true) (hlo : 3 ≤ s.g Od.SPIN_STATE n) (hhi : s.g Od.SPIN_STATE n ≤ 5)
    (ht : (s.mot (spindleOf n)).vlimTick + 2000 ≤ s.g Od.MOT_TICK) (hl : 400 ≤ (s.mot (spindleOf n)).speeds.length)
    (hd : (s.gi Od.SPIN_SPEED_MEAS n - (s.mot (spindleOf n)).speeds.getLastD 0).natAbs * 1000 <
      (s.gi Od.SPIN_SPEED_MEAS n).natAbs * 2) :
    exec (.spinSettled n) s = .next ((s.p Od.SPIN_TARGET n (s.gi Od.SPIN_SPEED_MEAS n).toNat).pb Od.SPIN_FLAGS n 2 true) := by
  rw [exec_spinSettled, execSpinSettled]
  exact act_eq_of_keep h (if_pos ⟨hv, hlo, hhi, ht, hl, hd⟩) (keep_eq rfl rfl rfl rfl rfl)

theorem exec_spinSettled_waits (hw : s.vlim (spindleOf n) = false ∨ s.g Od.SPIN_STATE n < 3 ∨ 5 < s.g Od.SPIN_STATE n) :
    exec (.spinSettled n) s = .next s := by
  rw [exec_spinSettled, execSpinSettled]
  refine act_eq_self h (if_neg ?_)
  rintro ⟨hv, hlo, hhi, -⟩
  rw [hv] at hw
  exact hw.elim (fun he => Bool.false_ne_true he.symm) (by omega)

end

/-! ### SPIN_BRAKE (R245) -/

theorem spinBrake_still {s : State} {n : Drive} (hst : s.g Od.SPIN_STATE n = 0 ∨ 6 ≤ s.g Od.SPIN_STATE n) : spinBrake s n = s :=
  if_pos hst

theorem spinState_spinBrake {s : State} {n : Drive} (hlo : 1 ≤ s.g Od.SPIN_STATE n) (hhi : s.g Od.SPIN_STATE n ≤ 5) :
    (spinBrake s n).g Od.SPIN_STATE n = if (s.gi Od.SPIN_SPEED_MEAS n).toNat < rpmUnits 180 then 7 else 6 := by
  have hmeas : (mlockExit s n).gi Od.SPIN_SPEED_MEAS n = s.gi Od.SPIN_SPEED_MEAS n :=
    congrArg _ ((objectsKept_mlockExit s n).g (by
      simp only [Ob.el, Od.SPIN_SPEED_MEAS, Od.SPIN_STATE, Od.MLOCK_DROP_CNT, Od.SPIN_FLAGS, List.mem_cons, List.not_mem_nil, or_false]
      omega))
  rw [spinBrake, if_neg (by omega), State.pb, State.g_p_other _ _ _ (by decide), State.g_setMot, hmeas]
  split
  · rw [State.g_p_self]
    rfl
  · rw [State.g_p_other _ _ _ (by decide), State.g_p_self]
    rfl

section
variable {s : State} {n : Drive} (h : Live s)
include h

theorem exec_spinBrake_stays
    (hw : s.media.cur[n] ≠ none ∨ s.g Od.DRV_STATE n < 2 ∨ s.g Od.SPIN_STATE n = 0 ∨ 6 ≤ s.g Od.SPIN_STATE n) :
    exec (.spinBrake n) s = .next s := by
  rw [exec_spinBrake, execSpinBrake]
  refine act_eq_self h ?_
  split
  · next hc =>
    obtain ⟨hcur, hdrv⟩ := hc
    exact spinBrake_still ((hw.resolve_left (not_not_intro hcur)).resolve_left (Nat.not_lt.mpr hdrv))
  · rfl

theorem exec_spinBrake_brakes (hcur : s.media.cur[n] = none) (hdrv : 2 ≤ s.g Od.DRV_STATE n) :
    exec (.spinBrake n) s = .next (keep s (spinBrake s n)) := by
  rw [exec_spinBrake, execSpinBrake]
  exact act_eq h (if_pos ⟨hcur, hdrv⟩)

end

/-! ### SPIN_STOPPED (R246, R250, R256) -/

/-- A tripped or faulted spindle stands still in FAULT. -/
def spinFaulted (s : State) (n : Drive) : State :=
  ((s.setDv n fun d => { d with laserMode := 0 }).p Od.SPIN_STATE n 9).setMot (spindleOf n) fun m => { m with tripped := false }

/-- One that stopped as ordered is STOPPED without a target, its drive in D3, or D4 without a disc, with the laser off and the
loops open. -/
def spinOpened (s : State) (n : Drive) : State :=
  let u := (((s.setDv n fun d => { d with laserMode := 0 }).p Od.SPIN_STATE n 0).p Od.SPIN_TARGET n 0).p Od.DRV_STATE n
    (if s.g Od.DRV_DISC n = 0xFFFF then 4 else 3)
  openLoops (u.setDv n fun d => { d with proc := .idle }) n true

/-- The same once its angle has followed, the servo is idle and the sled has no move to take up again: all that a stop does before work
is looked for. -/
def spinRested (s : State) (n : Drive) : State :=
  ((angleOpen (spinOpened s n) n).p Od.DRIVE_SERVO_STATE n 0).setAx (sledOf n) fun x => { x with resume := none }

section
variable (s : State) (n : Drive)

theorem spinState_spinFaulted : (spinFaulted s n).g Od.SPIN_STATE n = 9 := by
  rw [spinFaulted, State.g_setMot, State.g_p_self]
  rfl

theorem laserMode_spinFaulted : (spinFaulted s n).drives[n].laserMode = 0 := by
  have hd : (spinFaulted s n).drives = (s.setDv n fun d => { d with laserMode := 0 }).drives := rfl
  rw [hd, State.drives_setDv_self]

theorem tripped_spinFaulted : ((spinFaulted s n).mot (spindleOf n)).tripped = false := by
  rw [spinFaulted, State.mot_setMot_self]

/-- Opening the loops changes no object. -/
theorem g_spinOpened (o : Ob) : (spinOpened s n).g o n = (((s.p Od.SPIN_STATE n 0).p Od.SPIN_TARGET n 0).p Od.DRV_STATE n
    (if s.g Od.DRV_DISC n = 0xFFFF then 4 else 3)).g o n := rfl

theorem spinState_spinOpened : (spinOpened s n).g Od.SPIN_STATE n = 0 := by
  rw [g_spinOpened, State.g_p_other _ _ _ (by decide), State.g_p_other _ _ _ (by decide), State.g_p_self]
  rfl

theorem spinTarget_spinOpened : (spinOpened s n).g Od.SPIN_TARGET n = 0 := by
  rw [g_spinOpened, State.g_p_other _ _ _ (by decide), State.g_p_self]
  rfl

theorem drvState_spinOpened : (spinOpened s n).g Od.DRV_STATE n = if s.g Od.DRV_DISC n = 0xFFFF then 4 else 3 := by
  rw [g_spinOpened, State.g_p_self]
  split <;> rfl

theorem drvDisc_spinOpened : (spinOpened s n).g Od.DRV_DISC n = s.g Od.DRV_DISC n := by
  rw [g_spinOpened, State.g_p_other _ _ _ (by decide), State.g_p_other _ _ _ (by decide), State.g_p_other _ _ _ (by decide)]

theorem drives_spinOpened : (spinOpened s n).drives[n].focusClosed = false ∧ (spinOpened s n).drives[n].wake = s.drives[n].wake ∧
    (spinOpened s n).drives[n].cal = s.drives[n].cal := by
  simp only [spinOpened, openLoops, State.drives_setDv_self, State.drives_p, Bool.not_true, Bool.and_false, and_self]

theorem media_spinOpened : (spinOpened s n).media = s.media := rfl

theorem spinRested_eq : ∃ v, spinRested s n =
    ((((spinOpened s n).p Od.ANGLE_STATE n v).setDv n (angleForgets ((spinOpened s n).g Od.ANGLE_STATE n) v)).p
      Od.DRIVE_SERVO_STATE n 0).setAx (sledOf n) fun x => { x with resume := none } := by
  obtain ⟨v, hv⟩ := angleOpen_unlocked (s := spinOpened s n) (n := n) (by rw [spinState_spinOpened]; decide)
  exact ⟨v, by rw [spinRested, hv]⟩

/-- The rest adds the angle's and the servo's states to what it writes. -/
theorem g_spinRested {o : Ob} (ha : Od.ANGLE_STATE.addr ≠ o.addr) (hs : Od.DRIVE_SERVO_STATE.addr ≠ o.addr) :
    (spinRested s n).g o n = (spinOpened s n).g o n := by
  obtain ⟨v, hv⟩ := spinRested_eq s n
  rw [hv, State.g_setAx, State.g_p_other _ _ _ hs, State.g_setDv, State.g_p_other _ _ _ ha]

theorem media_spinRested : (spinRested s n).media = s.media := by
  obtain ⟨v, hv⟩ := spinRested_eq s n
  rw [hv, State.media_setAx, State.media_p, State.media_setDv, State.media_p, media_spinOpened]

theorem drives_spinRested : (spinRested s n).drives[n].focusClosed = false ∧ (spinRested s n).drives[n].wake = s.drives[n].wake ∧
    (spinRested s n).drives[n].cal = s.drives[n].cal := by
  obtain ⟨v, hv⟩ := spinRested_eq s n
  have hd : (spinRested s n).drives[n] = angleForgets ((spinOpened s n).g Od.ANGLE_STATE n) v (spinOpened s n).drives[n] := by
    rw [hv]
    exact State.drives_setDv_self ..
  obtain ⟨hfocus, hwake, hcal⟩ := angleForgets_keeps ((spinOpened s n).g Od.ANGLE_STATE n) v (spinOpened s n).drives[n]
  obtain ⟨hfocus', hwake', hcal'⟩ := drives_spinOpened s n
  rw [hd]
  exact ⟨hfocus.trans hfocus', hwake.trans hwake', hcal.trans hcal'⟩

/-- The stop gives the drive no work and takes none from it. -/
theorem hasWork_spinRested : (spinRested s n).hasWork n = s.hasWork n := by
  obtain ⟨-, hwake, hcal⟩ := drives_spinRested s n
  rw [State.hasWork, media_spinRested, hwake, hcal, g_spinRested s n (by decide) (by decide), drvDisc_spinOpened, State.hasWork]

end

section
variable {s : State} {n : Drive}

theorem spinStopped_faults (hst : s.g Od.SPIN_STATE n = 9) : spinStopped s n = spinFaulted s n := if_pos (.inl hst)

theorem spinStopped_rests (hst : s.g Od.SPIN_STATE n = 7) (ht : (s.mot (spindleOf n)).tripped = false) (hw : s.hasWork n = false) :
    spinStopped s n = spinRested s n := by
  have hw' : ¬(spinRested s n).hasWork n = true := by rw [hasWork_spinRested, hw]; exact Bool.false_ne_true
  have hst' : ¬(s.g Od.SPIN_STATE n = 9 ∨ (s.mot (spindleOf n)).tripped = true) := by rw [hst, ht]; decide
  exact (if_neg hst').trans (if_neg hw')

section
variable (h : Live s)
include h

theorem exec_spinStopped_waits
    (hw : s.g Od.SPIN_STATE n ≠ 7 ∧ s.g Od.SPIN_STATE n ≠ 8 ∧ s.g Od.SPIN_STATE n ≠ 9 ∨ (s.mot (spindleOf n)).lowTicks < 4000) :
    exec (.spinStopped n) s = .next s := by
  rw [exec_spinStopped, execSpinStopped]
  exact act_eq_self h (if_neg (by omega))

theorem exec_spinStopped_due (hst : s.g Od.SPIN_STATE n = 7 ∨ s.g Od.SPIN_STATE n = 8 ∨ s.g Od.SPIN_STATE n = 9)
    (hl : 4000 ≤ (s.mot (spindleOf n)).lowTicks) : exec (.spinStopped n) s = .next (keep s (spinStopped s n)) := by
  rw [exec_spinStopped, execSpinStopped]
  exact act_eq h (if_pos ⟨hst, hl⟩)

/-! ### The time-outs of a start and of a stop (R247, R256) -/

theorem exec_spinStopTimeout_elsewhere (h6 : s.g Od.SPIN_STATE n ≠ 6) (h7 : s.g Od.SPIN_STATE n ≠ 7) :
    exec (.spinStopTimeout n) s = .next s := by
  rw [exec_spinStopTimeout, execSpinStopTimeout]
  exact act_eq_self h (if_neg (not_or.mpr ⟨h6, h7⟩))

theorem exec_spinStopTimeout_faults (hst : s.g Od.SPIN_STATE n = 6 ∨ s.g Od.SPIN_STATE n = 7) :
    exec (.spinStopTimeout n) s = .next (keep s (spinFault s n 6)) := by
  rw [exec_spinStopTimeout, execSpinStopTimeout]
  exact act_eq h (if_pos hst)

theorem exec_spinStartTimeout_faults
    (hst : s.g Od.SPIN_STATE n = 1 ∨ s.g Od.SPIN_STATE n = 2 ∨ (s.g Od.SPIN_STATE n = 3 ∧ s.spinMeas n < rpmUnits 240)) :
    exec (.spinStartTimeout n) s = .next (keep s (spinFault s n 3)) := by
  rw [exec_spinStartTimeout, execSpinStartTimeout]
  exact act_eq h (if_pos hst)

theorem exec_spinStartTimeout_elsewhere (hst : s.g Od.SPIN_STATE n = 0 ∨ 4 ≤ s.g Od.SPIN_STATE n) :
    exec (.spinStartTimeout n) s = .next s := by
  rw [exec_spinStartTimeout, execSpinStartTimeout]
  exact act_eq_self h (if_neg (by omega))

/-! ### BRAKE_REVERSE (R248) -/

theorem exec_brakeReverse_stays (hw : s.g Od.SPIN_STATE n ≠ 6 ∨ s.hasWork n = false) : exec (.brakeReverse n) s = .next s := by
  rw [exec_brakeReverse, execBrakeReverse]
  refine act_eq_self h (if_neg ?_)
  rintro ⟨hst, hwork, -⟩
  rw [hwork] at hw
  exact hw.elim (fun hne => hne hst) fun he => Bool.false_ne_true he.symm

theorem exec_brakeReverse_resumes (hst : s.g Od.SPIN_STATE n = 6) (hw : s.hasWork n = true) (hd : s.driven = true)
    (hf : s.g Od.DRIVE_FAULT n = 0) : exec (.brakeReverse n) s = .next (keep s (wakeDrive (spinResume s n) n)) := by
  rw [exec_brakeReverse, execBrakeReverse]
  exact act_eq h (if_pos ⟨hst, hw, hd, hf⟩)

end
end

theorem spinState_spinResume (s : State) (n : Drive) : (spinResume s n).g Od.SPIN_STATE n = 4 := by
  rw [spinResume, State.g_setMot, State.g_p_other _ _ _ (by decide), State.g_p_self]
  rfl

/-! ### Spindle faults (R215, R219, R227, R256) -/

theorem closeWriteGate_closed {s : State} {n : Drive} (hg : s.drives[n].fe.gate = none) : closeWriteGate s n = s := by
  rw [closeWriteGate, hg]

/-- A drive's gates are inhibited, its events discarded, its loops opened and its laser set (R215). -/
def driveInhibited (s : State) (n : Drive) (laserOff focus : Bool) : State :=
  (openLoops (flushEvents s n) n focus).setDv n fun d => { d with inhibit := true, laserMode := if laserOff then 0 else 1, proc := .idle }

theorem inhibitDrive_closed {s : State} {n : Drive} (hg : s.drives[n].fe.gate = none) (laserOff focus : Bool) :
    inhibitDrive s n laserOff focus = angleOpen (driveInhibited s n laserOff focus) n := by
  rw [inhibitDrive, closeWriteGate_closed hg, driveInhibited]

/-- With no gate open and no media lock, inhibiting a drive writes its angle's state alone. -/
theorem objectsKept_inhibitDrive {s : State} {n : Drive} (hg : s.drives[n].fe.gate = none) (hst : s.g Od.SPIN_STATE n ≠ 5)
    (laserOff focus : Bool) : ObjectsKept [Od.ANGLE_STATE.el n] s (inhibitDrive s n laserOff focus) := by
  obtain ⟨a, ha⟩ := angleOpen_unlocked (s := driveInhibited s n laserOff focus) hst
  rw [inhibitDrive_closed hg, ha]
  exact objectsKept_p (driveInhibited s n laserOff focus) Od.ANGLE_STATE n a

/-- A drive fault writes the fault and the servo's state, and what its event reaches. -/
theorem objectsKeptEv_faultDrive (s : State) (n : Drive) (bit : Nat) :
    ObjectsKeptEv [Od.DRIVE_SERVO_STATE.el n] (s.pb Od.DRIVE_FAULT n bit true) (faultDrive s n bit) := by
  have hp : ObjectsKeptEv [Od.DRIVE_SERVO_STATE.el n] (s.pb Od.DRIVE_FAULT n bit true)
      ((s.pb Od.DRIVE_FAULT n bit true).p Od.DRIVE_SERVO_STATE n 9) := ObjectsKept.ev (objectsKept_p _ Od.DRIVE_SERVO_STATE n 9)
  unfold faultDrive
  dsimp only
  split
  · exact hp.trans ((evtReach_raise (State.setDv _ n _) _ (he := by simp only [Src.driveFault]; omega)).kept.mono (by simp))
  · exact hp

theorem g_faultDrive (s : State) (n : Drive) (bit : Nat) {o : Ob} (hs : o.addr ≠ Od.DRIVE_SERVO_STATE.addr) (ho : o.addr < 0x40000000) :
    (faultDrive s n bit).g o n = (s.pb Od.DRIVE_FAULT n bit true).g o n :=
  (objectsKeptEv_faultDrive s n bit).g (mt List.mem_singleton.mp (Ob.el_ne n hs)) (by simp only [Ob.el]; omega)

theorem gb_faultDrive (s : State) (n : Drive) {bit : Nat} (hb : bit < 32) : (faultDrive s n bit).gb Od.DRIVE_FAULT n bit = true := by
  rw [State.gb, g_faultDrive s n bit (by decide) (by decide)]
  exact State.gb_pb_self s n true hb

/-- A spindle has a fault's cause and no target, and coasts or stands in FAULT: the state in which its drive is inhibited and faulted. -/
def spinDropped (s : State) (n : Drive) (cause : Nat) : State :=
  let u := ((mlockExit s n).p Od.SPIN_FAULT_CAUSE n cause).p Od.SPIN_STATE n (if decide (5 ≤ cause) then 8 else 9)
  ((u.pb Od.SPIN_FLAGS n 2 false).p Od.SPIN_TARGET n 0).setMot (spindleOf n) fun m =>
    { m with tripped := decide (5 ≤ cause), stopping := false, ticks := 0, lowTicks := 0, iq := 0 }

theorem spinFault_eq (s : State) (n : Drive) (cause : Nat) :
    spinFault s n cause = faultDrive (inhibitDrive (spinDropped s n cause) n true true) n 6 := rfl

section
variable (s : State) (n : Drive) (cause : Nat)

theorem drives_spinDropped : (spinDropped s n cause).drives = s.drives := drives_mlockExit s n

theorem cause_spinDropped : (spinDropped s n cause).g Od.SPIN_FAULT_CAUSE n = cause % 256 := by
  rw [spinDropped, State.g_setMot, State.g_p_other _ _ _ (by decide), State.pb, State.g_p_other _ _ _ (by decide),
    State.g_p_other _ _ _ (by decide), State.g_p_self]
  rfl

theorem target_spinDropped : (spinDropped s n cause).g Od.SPIN_TARGET n = 0 := by
  rw [spinDropped, State.g_setMot, State.g_p_self]
  rfl

theorem spinState_spinDropped : (spinDropped s n cause).g Od.SPIN_STATE n ≠ 5 := by
  rw [spinDropped, State.g_setMot, State.g_p_other _ _ _ (by decide), State.pb, State.g_p_other _ _ _ (by decide), State.g_p_self]
  split <;> decide

variable {s n} in
/-- With no gate open, a spindle fault leaves the spindle's objects as the drop writes them. -/
theorem g_spinFault (hg : s.drives[n].fe.gate = none) {o : Ob} (ha : o.addr ≠ Od.ANGLE_STATE.addr)
    (hs : o.addr ≠ Od.DRIVE_SERVO_STATE.addr) (hf : Od.DRIVE_FAULT.addr ≠ o.addr) (ho : o.addr < 0x40000000) :
    (spinFault s n cause).g o n = (spinDropped s n cause).g o n := by
  have hg' : (spinDropped s n cause).drives[n].fe.gate = none := by rwa [drives_spinDropped]
  rw [spinFault_eq, g_faultDrive _ _ _ hs ho, State.pb, State.g_p_other _ _ _ hf]
  exact (objectsKept_inhibitDrive hg' (spinState_spinDropped s n cause) true true).g (mt List.mem_singleton.mp (Ob.el_ne n ha))

variable {s n} in
theorem spinFault_shown (hg : s.drives[n].fe.gate = none) : (spinFault s n cause).g Od.SPIN_FAULT_CAUSE n = cause % 256 ∧
    (spinFault s n cause).gb Od.DRIVE_FAULT n 6 = true ∧ (spinFault s n cause).g Od.SPIN_TARGET n = 0 := by
  refine ⟨?_, ?_, ?_⟩
  · rw [g_spinFault cause hg (by decide) (by decide) (by decide) (by decide), cause_spinDropped]
  · rw [spinFault_eq]
    exact gb_faultDrive _ n (by decide)
  · rw [g_spinFault cause hg (by decide) (by decide) (by decide) (by decide), target_spinDropped]

end

/-! ### OVERCURRENT of a spindle (R227, R256) -/

section
variable {s : State} {n : Drive} (h : Live s) (hp : s.scan.lost.getLsbD (motorPart (spindleOf n)) = false)
include h hp

theorem exec_overcurrent_spindle : exec (.overcurrent (spindleOf n)) s =
    .next (keep s (if 1 ≤ s.g Od.SPIN_STATE n ∧ s.g Od.SPIN_STATE n ≤ 7 then spinFault s n 5 else s)) := by
  rw [exec_overcurrent, execOvercurrent, actPart_live h hp, dif_pos (show (spindleOf n).val < 16 from n.isLt)]
  rfl

theorem exec_overcurrent_spindleStill (hst : s.g Od.SPIN_STATE n = 0 ∨ 8 ≤ s.g Od.SPIN_STATE n) :
    exec (.overcurrent (spindleOf n)) s = .next s := by
  rw [exec_overcurrent_spindle h hp, if_neg (by omega), keep_self]

theorem exec_overcurrent_spindleTurns (hlo : 1 ≤ s.g Od.SPIN_STATE n) (hhi : s.g Od.SPIN_STATE n ≤ 7) :
    exec (.overcurrent (spindleOf n)) s = .next (keep s (spinFault s n 5)) := by
  rw [exec_overcurrent_spindle h hp, if_pos ⟨hlo, hhi⟩]

end

/-! ### Faults of the picker and of the carousel (R227, R254, R374, R375, R396) -/

theorem objectsKept_loseAxis (s : State) (a : Axis) : ObjectsKept [Od.MOT_FLAGS.el a, Od.CAR_FLAGS.el 0] s (loseAxis s a) := by
  have hflags : ObjectsKept [Od.MOT_FLAGS.el a, Od.CAR_FLAGS.el 0] s ((s.pb Od.MOT_FLAGS a 1 true).pb Od.MOT_FLAGS a 0 false) :=
    ((ObjectsKept.refl _ s).pb List.mem_cons_self 1 true).pb List.mem_cons_self 0 false
  exact (hflags.pb (by simp) 1 true).ite hflags _

theorem objectsKept_stopAxis (s : State) (a : Axis) (k : StopKind) (again : Bool) :
    ObjectsKept [Od.MOT_STATE.el a] s (stopAxis s a k again) := by
  unfold stopAxis
  split
  · exact .refl _ s
  · exact (objectsKept_p s Od.MOT_STATE a 3)

/-- The states of the picker's axes. -/
def pickerAxes : List Nat := ([16, 17, 18, 19] : List Axis).map fun (a : Axis) => Od.MOT_STATE.el a.val

/-- The picker's axes go on their stop ramps, and its sequence ends. -/
def pickerStopped (s : State) : State :=
  (s.each ([16, 17, 18, 19] : List Axis) fun s a => stopAxis s a .ramp false).setPicker fun p =>
    { p with seq := none, homing := 0, putBack := none }

theorem objectsKept_pickerStopped (s : State) : ObjectsKept pickerAxes s (pickerStopped s) := by
  refine each_rel (R := ObjectsKept pickerAxes) (.refl _) .trans _ _ (fun u a ha => ?_) s
  have hmem : Od.MOT_STATE.el a.val ∈ pickerAxes := List.mem_map_of_mem ha
  refine (objectsKept_stopAxis u a .ramp false).mono fun x hx => ?_
  rwa [List.mem_singleton.mp hx]

theorem pickFault_eq (s : State) (cause : Nat) :
    pickFault s cause = raise (pickerStopped ((s.p Od.PICK_STATE 0 2).p Od.PICK_FAULT_CAUSE 0 cause)) Src.picker cause := rfl

/-- A picker fault writes the picker's state and cause, its axes' states, and what its event reaches. -/
theorem objectsKeptEv_pickFault (s : State) (cause : Nat) :
    ObjectsKeptEv pickerAxes ((s.p Od.PICK_STATE 0 2).p Od.PICK_FAULT_CAUSE 0 cause) (pickFault s cause) := by
  rw [pickFault_eq]
  exact (objectsKept_pickerStopped _).ev.trans ((evtReach_raise _ cause (he := by decide)).kept.mono (by simp))

section
variable (s : State) (cause : Nat)

theorem pickState_pickFault : (pickFault s cause).g Od.PICK_STATE = 2 := by
  rw [(objectsKeptEv_pickFault s cause).g (by decide) (by decide), State.g_p_other _ _ _ (by decide), State.g_p_self]
  rfl

theorem cause_pickFault : (pickFault s cause).g Od.PICK_FAULT_CAUSE = cause % 256 := by
  rw [(objectsKeptEv_pickFault s cause).g (by decide) (by decide), State.g_p_self]
  rfl

theorem g_pickFault {o : Ob} (hs : Od.PICK_STATE.addr ≠ o.addr) (hc : Od.PICK_FAULT_CAUSE.addr ≠ o.addr) (ha : o.el 0 ∉ pickerAxes)
    (hq : o.el 0 < 0x62000000) : (pickFault s cause).g o = s.g o := by
  rw [(objectsKeptEv_pickFault s cause).g ha hq, State.g_p_other _ _ _ hc, State.g_p_other _ _ _ hs]

end

/-- An overcurrent stops the carousel at once, its position lost. -/
def carTripped (s : State) : State :=
  (loseAxis (s.p Od.CAR_STATE 0 3) 16).setAx 16 fun x => { x with move := none, energised := false }

theorem carState_carTripped (s : State) : (carTripped s).g Od.CAR_STATE = 3 := by
  rw [carTripped, State.g_setAx, (objectsKept_loseAxis _ 16).g (by decide), State.g_p_self]
  rfl

/-- Of the objects outside the picker and the motion axes, the resolver's fault writes the carousel's state and the count alone. -/
theorem g_carouselFault (s : State) {o : Ob} (hs : Od.PICK_STATE.addr ≠ o.addr) (hc : Od.PICK_FAULT_CAUSE.addr ≠ o.addr)
    (ha : o.el 0 ∉ pickerAxes) (hq : o.el 0 < 0x62000000) (hm : o.el 0 ∉ [Od.MOT_STATE.el 16])
    (hl : o.el 0 ∉ [Od.MOT_FLAGS.el 16, Od.CAR_FLAGS.el 0]) :
    (carouselFault s true).g o = ((s.p Od.CAR_STATE 0 3).inc Od.RES_FAULT_CNT).g o := by
  rw [carouselFault, g_pickFault _ _ hs hc ha hq, (objectsKept_stopAxis _ 16 .ramp false).g hm, if_pos rfl, State.g_setMot,
    (objectsKept_loseAxis _ 16).g hl]

theorem carState_carouselFault (s : State) : (carouselFault s true).g Od.CAR_STATE = 3 := by
  rw [g_carouselFault s (by decide) (by decide) (by decide) (by decide) (by decide) (by decide), State.inc, State.add,
    State.g_p_other _ _ _ (by decide), State.g_p_self]
  rfl

theorem count_carouselFault (s : State) : (carouselFault s true).g Od.RES_FAULT_CNT = (s.g Od.RES_FAULT_CNT + 1) % 2 ^ 32 := by
  rw [g_carouselFault s (by decide) (by decide) (by decide) (by decide) (by decide) (by decide), State.g_inc_self,
    State.g_p_other _ _ _ (by decide)]
  rfl

theorem pickState_carouselFault (s : State) : (carouselFault s true).g Od.PICK_STATE = 2 := pickState_pickFault ..

section
variable {s : State} (h : Live s)
include h

theorem exec_overcurrent_carousel (hp : s.scan.lost.getLsbD 21 = false) (hst : s.g Od.CAR_STATE = 1) :
    exec (.overcurrent 16) s = .next (keep s (pickFault (carTripped s) Cause.carousel)) := by
  rw [exec_overcurrent, execOvercurrent, actPart_live h (p := motorPart 16) hp, dif_neg (by decide), if_pos hst, carTripped]

theorem exec_resolverFault_due (hb : 3 ≤ (s.mot 16).resBad) (ho : (s.mot 16).openRate = none) (hst : s.g Od.CAR_STATE ≠ 0) :
    exec .resolverFault s = .next (keep s (carouselFault s true)) := by
  rw [exec_resolverFault, execResolverFault]
  exact act_eq h (if_pos ⟨hb, ho, hst⟩)

theorem exec_resolverFault_waits (hb : (s.mot 16).resBad < 3) : exec .resolverFault s = .next s := by
  rw [exec_resolverFault, execResolverFault]
  exact act_eq_self h (if_neg fun hc => Nat.not_le.mpr hb hc.1)

end

/-- Settles O31, row by row. FAULT after a trip once the spindle stands still, and the carousel's overcurrent with its picker fault, are
the model's choice (assumption logs 51 and 52). -/
theorem spindleStartsStopsAndFaults : Obligations.SpindleStartsStopsAndFaults := by
  refine ⟨fun s n h => ⟨exec_hfiAlignDone_ends h, exec_hfiAlignDone_waits h⟩,
    fun s n plus minus h => ⟨exec_hfiSignDecision_elsewhere h, fun hst hc => ?decided, fun hst hc ha => ?repeated,
      exec_hfiSignDecision_faults h⟩,
    fun s m h => ⟨fun hv ht => ?limited, exec_voltageLimitSet_waits h, fun hv ht => ?unlimited, exec_voltageLimitClear_waits h⟩,
    fun s n h => ⟨exec_spinSettled_due h, exec_spinSettled_waits h, exec_spinBrake_stays h, fun hcur hdrv hlo hhi => ?brakes,
      exec_spinStopped_waits h, fun hst hl => ?standsFaulted, fun hst ht hl hw => ?rests, exec_spinStopTimeout_elsewhere h,
      exec_spinStopTimeout_faults h, exec_spinStartTimeout_faults h, exec_spinStartTimeout_elsewhere h, exec_brakeReverse_stays h,
      fun hst hw hd hf => ⟨_, exec_brakeReverse_resumes h hst hw hd hf, rfl, spinState_spinResume s n⟩⟩,
    fun s n cause hg => spinFault_shown cause hg,
    fun s n h hp => ⟨exec_overcurrent_spindleStill h hp, exec_overcurrent_spindleTurns h hp⟩,
    fun s h => ⟨fun hp hst => ?carouselTrips, fun hb ho hst => ?resolver, exec_resolverFault_waits h⟩⟩
  case decided =>
    exact ⟨_, exec_hfiSignDecision_decides h hst hc, spinState_signDecided .., signRatio_signDecided s n plus minus,
      eangle_signDecided .., objectsKept_signDecided s n plus minus⟩
  case repeated =>
    exact ⟨_, exec_hfiSignDecision_repeats h hst hc ha, spinState_signRepeated .., attempts_signRepeated ..⟩
  case limited =>
    have hlt := voltageLimit_lt m
    have hreach := evtReach_raise (limitEntered s m) ((limitEntered s m).g Od.MOD_INDEX m) (he := hlt)
    refine ⟨_, exec_voltageLimitSet_due h hv ht, ?_, ?_, ?_, ?_⟩
    · exact (vlim_eq_of_g (hreach.g (by simp only [Ob.el, Od.SPIN_FLAGS]; omega)) (hreach.g (by decide))).trans (vlim_limitEntered s m)
    · exact (hreach.g (by simp only [Ob.el, Od.VLIM_CNT]; omega)).trans (count_limitEntered s m)
    · rw [State.mot, keep_motion, hreach.only.motion_eq]
      exact vlimTick_limitEntered s m
    · have hraised := raised_raise (limitEntered s m) ((limitEntered s m).g Od.MOD_INDEX m) (he := hlt) (h8 := voltageLimit_ne_logLoss m)
      exact hraised.of_totalsKept (totalsKept_limitEntered s m) hlt
  case unlimited => exact ⟨_, exec_voltageLimitClear_due h hv ht, vlim_limitLeft s m, settled_limitLeft s m⟩
  case brakes => exact ⟨_, exec_spinBrake_brakes h hcur hdrv, spinState_spinBrake hlo hhi⟩
  case standsFaulted =>
    refine ⟨_, exec_spinStopped_due h (.inr (.inr hst)) hl, ?_⟩
    rw [spinStopped_faults hst]
    exact ⟨spinState_spinFaulted s n, laserMode_spinFaulted s n, tripped_spinFaulted s n⟩
  case rests =>
    refine ⟨_, exec_spinStopped_due h (.inl hst) hl, ?_⟩
    obtain ⟨hfocus, -, -⟩ := drives_spinRested s n
    rw [spinStopped_rests hst ht hw]
    exact ⟨(g_spinRested s n (by decide) (by decide)).trans (spinState_spinOpened s n),
      (g_spinRested s n (by decide) (by decide)).trans (spinTarget_spinOpened s n),
      (g_spinRested s n (by decide) (by decide)).trans (drvState_spinOpened s n), hfocus⟩
  case carouselTrips =>
    refine ⟨_, exec_overcurrent_carousel h hp hst, ?_, pickState_pickFault .., cause_pickFault ..⟩
    exact (g_pickFault _ _ (by decide) (by decide) (by decide) (by decide)).trans (carState_carTripped s)
  case resolver =>
    exact ⟨_, exec_resolverFault_due h hb ho hst, carState_carouselFault s, count_carouselFault s, pickState_carouselFault s⟩

end Sys2Proof.Machine
end

section
/-! SUPPORT. What the controller makes of a sheaf that a drive has read, of a stook and of a disc just loaded. -/

namespace Sys2Proof.Machine

/-- An ordinary command that lets the deferred work run on after its effect. -/
theorem act_settle_eq {s t : State} {f : State → State} (h : Live s) (hf : f s = t) :
    act s (fun u => settle (f u)) = .next (keep s (settle t)) :=
  act_eq h (congrArg settle hf)

/-! ### The counts of a judged read (R316) -/

/-- Counting rows writes the two row counters alone. -/
theorem g_countRows (s : State) (n : Drive) (r : SheafRead) {o : Ob} {e : Nat} (hc : Od.CODEC_ROW_CORR_CNT.el n ≠ o.el e)
    (he : Od.CODEC_ROW_ERASED_CNT.el n ≠ o.el e) : (countRows s n r).g o e = s.g o e := by
  rw [countRows, State.add, State.g_p_ne _ _ he, State.add, State.g_p_ne _ _ hc]

theorem rereadMax_countRows (s : State) (n : Drive) (r : SheafRead) : (countRows s n r).g Od.REREAD_MAX = s.g Od.REREAD_MAX :=
  g_countRows s n r (by simp only [Ob.el, Od.CODEC_ROW_CORR_CNT, Od.REREAD_MAX]; omega)
    (by simp only [Ob.el, Od.CODEC_ROW_ERASED_CNT, Od.REREAD_MAX]; omega)

theorem erased_countRows (s : State) (n : Drive) (r : SheafRead) : (countRows s n r).g Od.CODEC_ROW_ERASED_CNT n =
    (s.g Od.CODEC_ROW_ERASED_CNT n + (r.rows.filter fun w => w.data.isNone).length) % 2 ^ 64 := by
  rw [countRows, State.g_add_self, State.add, State.g_p_other _ _ _ (by decide)]
  rfl

/-! ### SHEAF_DECODE (R316, R318) -/

/-- The read of an operation's sheaf, as the codes judge it (R312, R316, R330). -/
def sheafRead (s : State) (n : Drive) (o : MediaOp) (rx : RxGate) : SheafRead :=
  readSheaf (s.g Od.INNER_TRUST) (physSlot (s.physSheaf n (s.homePhys o.disc o.dz o.q))) (rxFrames rx)

/-- What a judged read means to its operation: its data, another read, or the loss of the sheaf (R318). -/
def sheafJudged (s : State) (n : Drive) (o : MediaOp) (r : SheafRead) : State :=
  match r.sheaf with
  | some (m, user) =>
    if o.kind = .stook then memberRead (endOp (countRows s n r) n) o m user
    else deliverSheaf (endOp (countRows s n r) n) o m.firstLba m.valid user
  | none =>
    if o.lr = false ∧ o.rereads < s.g Od.REREAD_MAX then
      ((countRows s n r).setCur n (some { o with rereads := o.rereads + 1 })).setDv n fun d => { d with rx := none }
    else sheafLost (countRows s n r) n o

section
variable {s : State} {n : Drive} (h : Live s)
include h

theorem exec_sheafDecode_idle (hcur : s.media.cur[n] = none) : exec (.sheafDecode n) s = .next (keep s (settle s)) := by
  rw [exec_sheafDecode, execSheafDecode]
  refine act_settle_eq h ?_
  rw [hcur]

variable {o : MediaOp} {rx : RxGate} (hcur : s.media.cur[n] = some o) (hrx : s.drives[n].rx = some rx) (htodo : o.todo = [])
  (hver : o.verifying = false)
include hcur hrx htodo hver

theorem exec_sheafDecode_lost (hf : 3 ≤ s.drives[n].acqFails) :
    exec (.sheafDecode n) s = .next (keep s (settle (sheafLost s n o))) := by
  rw [exec_sheafDecode, execSheafDecode]
  refine act_settle_eq h ?_
  rw [hcur, hrx]
  exact (if_neg (by simp [htodo, hver])).trans (if_pos hf)

theorem exec_sheafDecode_waits (hf : s.drives[n].acqFails < 3) (hst : rx.status ≠ some 0) :
    exec (.sheafDecode n) s = .next (keep s (settle s)) := by
  rw [exec_sheafDecode, execSheafDecode]
  refine act_settle_eq h ?_
  rw [hcur, hrx]
  exact (if_neg (by simp [htodo, hver])).trans ((if_neg (by omega)).trans (if_pos hst))

theorem exec_sheafDecode_judged (hf : s.drives[n].acqFails < 3) (hst : rx.status = some 0) :
    exec (.sheafDecode n) s = .next (keep s (settle (sheafJudged s n o (sheafRead s n o rx)))) := by
  rw [exec_sheafDecode, execSheafDecode]
  refine act_settle_eq h ?_
  rw [hcur, hrx]
  refine (if_neg (by simp [htodo, hver])).trans ((if_neg (by omega)).trans ((if_neg (not_not_intro hst)).trans ?_))
  dsimp only
  rw [← sheafRead, sheafJudged, rereadMax_countRows]
  cases (sheafRead s n o rx).sheaf with
  | some p => rfl
  | none => exact if_congr (by simp) rfl rfl

end

/-! ### SHEAF_VERIFY (R326, R327, R352) -/

/-- The state in which a verify read is judged: its rows counted, the write power adjusted, the read put away. -/
def verifyRead (s : State) (n : Drive) (w : WSheaf) (r : SheafRead) : State :=
  (powerAdjust (countRows s n r) n (physLayer w.phys)).setDv n fun d => { d with rx := none, acqFails := 0 }

/-- What the verify read of a write's last sheaf means: the end of the write, or a replacement of the sheaf (R326, R327). -/
def lastVerified (s : State) (n : Drive) (o : MediaOp) (w : WSheaf) (r : SheafRead) : State :=
  if verifies s r = true then writeEnd (sheafVerified s n o w).1 n { (sheafVerified s n o w).2 with wrote := [] }
  else match replaceSheaf s n o w true with
    | (u, some v) => u.setCur n (some { o with wrote := [], todo := [v], verifying := false })
    | (u, none) => endOp u n

/-- A verified sheaf leaves its operation's sheaves still to be written. -/
theorem todo_sheafVerified (s : State) (n : Drive) (o : MediaOp) (w : WSheaf) : (sheafVerified s n o w).2.todo = o.todo := by
  unfold sheafVerified
  cases o.kind <;> rfl

section
variable {s : State} {n : Drive} (h : Live s)
include h

theorem exec_sheafVerify_idle (hcur : s.media.cur[n] = none) : exec (.sheafVerify n) s = .next (keep s (settle s)) := by
  rw [exec_sheafVerify, execSheafVerify]
  refine act_settle_eq h ?_
  rw [hcur]

theorem exec_sheafVerify_last {o : MediaOp} {rx : RxGate} {w : WSheaf} (hcur : s.media.cur[n] = some o)
    (hrx : s.drives[n].rx = some rx) (hw : o.wrote = [w]) (hver : o.verifying = true) (hst : rx.status = some 0)
    (hf : s.drives[n].acqFails < 3) (htodo : o.todo = []) :
    let r := readSheaf (s.g Od.INNER_TRUST) (physSlot w.phys) (rxFrames rx)
    exec (.sheafVerify n) s = .next (keep s (settle (lastVerified (verifyRead s n w r) n o w r))) := by
  intro r
  have hread : decide (3 ≤ s.drives[n].acqFails) = false := decide_eq_false (by omega)
  rw [exec_sheafVerify, execSheafVerify]
  refine act_settle_eq h ?_
  rw [hcur, hrx]
  dsimp only
  rw [hw]
  dsimp only
  rw [hread, if_neg (by simp [hver, hst]), lastVerified]
  refine if_congr (by simp [verifyRead, r]) ?verified ?replaced
  case verified => exact if_pos ⟨rfl, (todo_sheafVerified ..).trans htodo⟩
  case replaced =>
    change (match replaceSheaf (verifyRead s n w r) n o w true with | (u, some v) => _ | (u, none) => _) = _
    rcases replaceSheaf (verifyRead s n w r) n o w true with ⟨u, - | v⟩
    · rfl
    · exact (if_neg (by simp)).trans (by rw [htodo]; rfl)

end

/-! ### STOOK_SOLVE and STOOK_REBUILD_FAIL (R333 to R336) -/

/-- The rebuild of a disc's sheaf in stook (f, z, q), when one is in progress (R335). -/
def rebuildOf (s : State) (f z q d : Nat) : Option Rebuild :=
  s.media.rebuilds.find? fun r => r.family == f && r.dz == z && r.q == q && r.disc == d

section
variable {s : State} {f z q d : Nat} (h : Live s)
include h

theorem exec_stookSolve_none (hr : rebuildOf s f z q d = none) :
    exec (.stookSolve f z q d) s = .next (keep s (settle s)) := by
  rw [exec_stookSolve, execStookSolve]
  refine act_settle_eq h ?_
  rw [← rebuildOf, hr]

theorem exec_stookRebuildFail_none (hr : rebuildOf s f z q d = none) :
    exec (.stookRebuildFail f z q d) s = .next (keep s (settle s)) := by
  rw [exec_stookRebuildFail, execStookRebuildFail]
  refine act_settle_eq h ?_
  rw [← rebuildOf, hr]

variable {r : Rebuild} (hr : rebuildOf s f z q d = some r)
include hr

theorem exec_stookSolve_few (hk : r.have_.length < fieldOf (s.g Od.STOOK_FAM_KM f) 3 0) :
    exec (.stookSolve f z q d) s = .next (keep s (settle s)) := by
  rw [exec_stookSolve, execStookSolve]
  refine act_settle_eq h ?_
  rw [← rebuildOf, hr]
  exact if_pos hk

/-- With its data members there, a stook's parity is solved for and queued to be written (R334). -/
theorem exec_stookSolve_parity (hk : fieldOf (s.g Od.STOOK_FAM_KM f) 3 0 ≤ r.have_.length) (hp : r.op.kind = .parity) :
    exec (.stookSolve f z q d) s = .next (keep s (settle
      (match stookRebuild (fieldOf (s.g Od.STOOK_FAM_KM f) 3 0) (fieldOf (s.g Od.DISC_STOOK d) 13 10) r.have_ with
       | some user => memberWrite (rebuildEnd (mediaUses s 1) r) r .parity user
       | none => s))) := by
  rw [exec_stookSolve, execStookSolve]
  refine act_settle_eq h ?_
  rw [← rebuildOf, hr]
  refine (if_neg (Nat.not_lt.mpr hk)).trans ?_
  cases stookRebuild (fieldOf (s.g Od.STOOK_FAM_KM f) 3 0) (fieldOf (s.g Od.DISC_STOOK d) 13 10) r.have_ with
  | none => rfl
  | some user => exact if_pos hp

theorem exec_stookRebuildFail_waits (hm : r.toRead ≠ [] ∨ fieldOf (s.g Od.STOOK_FAM_KM f) 3 0 ≤ r.have_.length) :
    exec (.stookRebuildFail f z q d) s = .next (keep s (settle s)) := by
  rw [exec_stookRebuildFail, execStookRebuildFail]
  refine act_settle_eq h ?_
  rw [← rebuildOf, hr]
  exact if_neg fun hc => hm.elim (· hc.1) (Nat.not_le.mpr hc.2)

theorem exec_stookRebuildFail_fails (hm : r.toRead = []) (hk : r.have_.length < fieldOf (s.g Od.STOOK_FAM_KM f) 3 0)
    (hp : r.op.kind ≠ .parity) : exec (.stookRebuildFail f z q d) s = .next (keep s (settle
      (failSheaf (raise ((rebuildEnd s r).inc Od.STOOK_FAIL_CNT f) Src.stookFail f) r.op))) := by
  rw [exec_stookRebuildFail, execStookRebuildFail]
  refine act_settle_eq h ?_
  rw [← rebuildOf, hr]
  exact (if_pos ⟨hm, hk⟩).trans (if_neg hp)

end

/-! ### STOOK_PARITY_WRITE (R333, R334) -/

section
variable {s : State} {f z q : Nat} (h : Live s)
include h

theorem exec_stookParityWrite_waits
    (hc : (Keyed.find? s.media.unprot (stookKey f z q)).isSome = false ∨ fieldOf (s.g Od.STOOK_FAM_KM f) 3 0 = 0) :
    exec (.stookParityWrite f z q) s = .next s := by
  rw [exec_stookParityWrite, execStookParityWrite]
  refine act_eq_self h (if_neg ?_)
  rcases hc with hc | hc <;> simp [hc]

/-- The first unprotected sheaf of a family with one parity member, its data members all ready, has its parity computed (R334). -/
theorem exec_stookParityWrite_one {d : Nat} (hu : (Keyed.find? s.media.unprot (stookKey f z q)).isSome = true)
    (hfirst : ∀ u ∈ s.media.unprot, ¬(stookKey f z 0 ≤ u.1 ∧ u.1 < stookKey f z q))
    (hfree : ∀ r ∈ s.media.rebuilds, ¬(r.family = f ∧ r.dz = z ∧ r.q = q)) (hk : fieldOf (s.g Od.STOOK_FAM_KM f) 3 0 ≠ 0)
    (hready : ∀ p < fieldOf (s.g Od.STOOK_FAM_KM f) 3 0, ∃ m w, s.stookDisc f p = some m ∧ memberReady s m z q = some w)
    (hm : fieldOf (s.g Od.STOOK_FAM_KM f) 6 4 = 1) (hd : s.stookDisc f (fieldOf (s.g Od.STOOK_FAM_KM f) 3 0) = some d)
    (hw : (Keyed.getD s.media.parity (stookKey f z q) 0).testBit 0 = false) :
    ∃ r : Rebuild, (r.family, r.dz, r.q, r.disc) = (f, z, q, d) ∧ r.op.kind = .parity ∧ r.op.disc = d ∧
      exec (.stookParityWrite f z q) s = .next (keep s (rebuildNext s r)) := by
  rw [exec_stookParityWrite, execStookParityWrite, act_live h, if_pos ?due, hm, show List.range 1 = [0] from rfl, each_cons, each_nil]
  case due =>
    simp only [Bool.and_eq_true, List.all_eq_true]
    refine ⟨⟨⟨⟨hu, ?first⟩, ?ready⟩, bne_iff_ne.mpr hk⟩, ?free⟩
    case first => simpa using hfirst
    case ready =>
      simp only [List.mem_map, List.mem_range]
      rintro _ ⟨p, hp, rfl⟩
      obtain ⟨m, w, hdisc, hmem⟩ := hready p hp
      rw [hdisc, Option.bind_some, hmem]
      rfl
    case free => simpa only [Bool.not_eq_true', ← Bool.not_eq_true, Bool.and_eq_true, beq_iff_eq, and_assoc] using hfree
  dsimp only
  rw [Nat.add_zero, hd]
  dsimp only
  rw [hw, if_neg Bool.false_ne_true]
  refine ⟨_, ?_, ?_, ?_, rfl⟩ <;> rfl

end

/-! ### DISC_RECOGNITION (R322, R324, R351, R430) -/

/-- A loaded disc can be recognised: its drive is calibrated, its angle known. -/
def RecognitionDue (s : State) (n : Drive) : Prop :=
  s.g Od.MEDIA_STATE n = 1 ∧ s.drives[n].cal.eqDone = true ∧ s.g Od.CAL_STATE n = 0 ∧ s.g Od.ANGLE_STATE n = 3

/-- The list of a recognised disc: a replacement not rewritten since its zone's reset is none on KDF-2E (R324, R331). -/
def recognisedList (s : State) (d media id : Nat) (disc : List (Nat × SlotRead)) : DiscInfo :=
  let i := buildList media id disc
  if media = 2 then { i with repl := i.repl.filter fun p => stillWritten s d p.1 } else i

/-- A recognised disc: READY, with its identifier and list, its write powers and its spare slots (R322, R324, R329, R351). -/
def discReady (s : State) (n : Drive) (media id : Nat) (disc : List (Nat × SlotRead)) : State :=
  spareReport (powersInit (setMedia ((s.setDisc n (some (recognisedList s (s.g Od.DRV_DISC n) media id disc))).p Od.DRV_DISC_ID n id)
    n 2 0) n true) n

section
variable {s : State} {n : Drive} {disc : List (Nat × SlotRead)} (h : Live s)
include h

theorem exec_discRecognition_waits (hd : ¬RecognitionDue s n) : exec (.discRecognition n disc) s = .next s := by
  rw [exec_discRecognition, execDiscRecognition]
  exact act_eq_self h (if_neg hd)

variable (hd : RecognitionDue s n)
include hd

theorem exec_discRecognition_blank (hi : discInfoOf disc = none)
    (hb : ((List.range 16).all fun k => slotAt disc (physOf 0 k) == .blank) = true) :
    exec (.discRecognition n disc) s = .next (keep s (restoreEnd (setMedia s n 3 0) n (s.g Od.DRV_DISC n) false)) := by
  rw [exec_discRecognition, execDiscRecognition]
  refine act_eq h ((if_pos hd).trans ?_)
  rw [hi]
  exact if_pos hb

theorem exec_discRecognition_unreadable (hi : discInfoOf disc = none)
    (hb : ((List.range 16).all fun k => slotAt disc (physOf 0 k) == .blank) = false) :
    exec (.discRecognition n disc) s =
      .next (keep s (restoreEnd (faultDrive (setMedia s n 4 2) n 7) n (s.g Od.DRV_DISC n) false)) := by
  rw [exec_discRecognition, execDiscRecognition]
  refine act_eq h ((if_pos hd).trans ?_)
  rw [hi]
  exact if_neg (by rw [hb]; exact Bool.false_ne_true)

variable {media layers id slots : Nat} (hi : discInfoOf disc = some (media, layers, id, slots))
include hi

theorem exec_discRecognition_otherFormat (hf : media ≠ s.discMedia (s.g Od.DRV_DISC n) ∨ layers ≠ (mediaOf media).layers ∨
    slots ≠ (mediaOf media).slots) : exec (.discRecognition n disc) s =
      .next (keep s (restoreEnd (faultDrive (setMedia s n 4 1) n 7) n (s.g Od.DRV_DISC n) false)) := by
  rw [exec_discRecognition, execDiscRecognition]
  refine act_eq h ((if_pos hd).trans ?_)
  rw [hi]
  exact if_neg (by tauto)

theorem exec_discRecognition_ready (hmed : media = s.discMedia (s.g Od.DRV_DISC n)) (hlay : layers = (mediaOf media).layers)
    (hslo : slots = (mediaOf media).slots) : exec (.discRecognition n disc) s =
      .next (keep s (restoreEnd (discReady s n media id disc) n (s.g Od.DRV_DISC n)
        (restoreCheck (discReady s n media id disc) n (s.g Od.DRV_DISC n) disc))) := by
  rw [exec_discRecognition, execDiscRecognition]
  refine act_eq h ((if_pos hd).trans ?_)
  rw [hi]
  exact if_pos ⟨hmed, hlay, hslo⟩

end

/-- Settles O27, row by row. What a failed acquisition and a read that is not OK leave to be done, which replacements a recognised KDF-2E
disc keeps, and what recognition makes of blank and unreadable copies are the model's choice (assumption logs 54, 56 and 57). -/
theorem sheavesStooksAndDiscsAreJudged : Obligations.SheavesStooksAndDiscsAreJudged := by
  refine ⟨fun s n h => ⟨fun hcur => ⟨exec_sheafDecode_idle h hcur, exec_sheafVerify_idle h hcur⟩,
      fun o rx hcur hrx htodo hver => ⟨exec_sheafDecode_lost h hcur hrx htodo hver, exec_sheafDecode_waits h hcur hrx htodo hver,
        fun hf hst => ⟨?judged, erased_countRows s n _⟩⟩,
      fun o rx w rest hcur hrx hw hver hst hf htodo hrest =>
        exec_sheafVerify_last h hcur hrx (hrest ▸ hw) hver hst hf htodo⟩,
    fun s f z q d h hr => ⟨exec_stookSolve_none h hr, exec_stookRebuildFail_none h hr⟩,
    fun s f z q d r h hr => ⟨exec_stookSolve_few h hr, exec_stookRebuildFail_waits h hr, exec_stookSolve_parity h hr,
      exec_stookRebuildFail_fails h hr⟩,
    fun s f z q h => exec_stookParityWrite_waits h,
    fun s f z q d h hu hfirst hfree => exec_stookParityWrite_one h hu hfirst hfree,
    fun s n disc h => ⟨exec_discRecognition_waits h, exec_discRecognition_blank h, exec_discRecognition_unreadable h,
      fun hd media layers id slots hi => ⟨exec_discRecognition_otherFormat h hd hi, exec_discRecognition_ready h hd hi⟩⟩⟩
  case judged =>
    refine (exec_sheafDecode_judged h hcur hrx htodo hver hf hst).trans ?_
    generalize hr : readSheaf _ _ _ = r
    rw [sheafRead, hr]
    unfold sheafJudged
    cases r.sheaf <;> rfl

end Sys2Proof.Machine
end

section
/-! SUPPORT. I/O commands: how an entry of an I/O queue is taken and checked. -/

namespace Sys2Proof.Machine

/-! ### Entries of an I/O queue (R408, R414, R419, R439, R440, R460, R478, R554) -/

/-- Every I/O command is an entry put to its queue. -/
theorem exec_ioCommand {c : Instr} {q : IoQueue} {hdr : IoHdr} {op : IoOp} (hc : ioCommand c = some (q, hdr, op)) (s : State) :
    exec c s = act s fun u => ioSubmit u q hdr op := by
  cases c <;> cases hc <;> rfl

/-- None of them is an opcode that the controller does not have. -/
theorem ioCommand_valid {c : Instr} {q : IoQueue} {hdr : IoHdr} {op : IoOp} (hc : ioCommand c = some (q, hdr, op)) (n : Nat) :
    op ≠ .invalid n := by
  cases c <;> cases hc <;> exact IoOp.noConfusion

section
variable {s u : State} {q : IoQueue} {hdr : IoHdr} {op : IoOp}

theorem ioSubmit_unoffered (ho : s.offered q = false) : ioSubmit s q hdr op = s := if_pos (by simp [ho])

theorem ioSubmit_waits (ho : s.offered q = true) (hn : s.fetching q = false ∨ s.waitingOn q ≠ [] ∨ ioRoom s q op = false) :
    ioSubmit s q hdr op = { s with host := { s.host with waiting := s.host.waiting ++ [⟨q, hdr, op⟩] } } := by
  refine (if_neg (by simp [ho])).trans (if_neg ?_)
  rintro h
  simp only [Bool.and_eq_true, List.isEmpty_iff] at h
  obtain ⟨⟨hf, hw⟩, hr⟩ := h
  simp [hf, hw, hr] at hn

theorem ioSubmit_taken (ht : Taken s q op u) : ioSubmit s q hdr op = ioAdmit u q hdr op := by
  obtain ⟨ho, hf, hw, hr, htake⟩ := ht
  refine (if_neg (by simp [ho])).trans ((if_pos (by simp [hf, hw, hr])).trans ?_)
  rw [htake]

/-- A queue that is offered an entry holds it; taking it moves the queue's head alone. -/
theorem takeEntry_of_offered (ho : s.offered q = true) : ∃ u, s.takeEntry q = some u ∧ u.od = s.od ∧ u.host.ctxs = s.host.ctxs := by
  cases q with
  | sq f qid =>
    unfold State.offered at ho
    dsimp only at ho
    split at ho
    · next e hq =>
      have hne : e.head ≠ e.tail := fun heq => by simp [heq] at ho
      unfold State.takeEntry
      dsimp only
      rw [hq]
      dsimp only
      rw [if_neg hne]
      exact ⟨_, rfl, rfl, rfl⟩
    · cases ho
  | conn k =>
    unfold State.offered at ho
    cases hc : s.net.conns.find? k with
    | none => simp [hc] at ho
    | some d => exact ⟨_, congrArg (Option.map _) hc, rfl, rfl⟩

/-- An entry that a check turns away completes with that check's status. -/
theorem ioAdmit_refused {v : State} {st : Status} {dnr : Option Bool} (hk : ioCheck u q hdr op = (v, .error (st, dnr))) :
    ioAdmit u q hdr op = v.complete q hdr.cid st dnr := by
  rw [ioAdmit, hk]

/-- One that passes them begins, and the connection that brought it asks for its data. -/
theorem ioAdmit_passes {n : Nat} {m : Ns} (hp : Passes u q hdr op n m) (hj : opJob op = false) :
    ioAdmit u q hdr op = asking q (ioRun (begun u) (newCtx u q hdr op n) m) := by
  obtain ⟨hk, hns⟩ := hp
  unfold ioAdmit
  rw [hk]
  cases op with
  | job w r d => cases hj
  | _ =>
    dsimp only
    rw [hns]
    cases q <;> rfl

/-- A Threshing Job that passes them is kept until a sequencer is assigned to it. -/
theorem ioAdmit_job {w n : Nat} {r : Bool} {d : Option (List Byte)} (hk : ioCheck u q hdr (.job w r d) = (u, .ok n)) :
    ioAdmit u q hdr (.job w r d) = asking q (keeping (begun u) (newCtx u q hdr (.job w (r && hdr.nsid == 0) d) noNs)) := by
  unfold ioAdmit
  rw [hk]
  cases q <;> rfl

end

/-- A Threshing Job moves no blocks. -/
theorem opMoves_of_job {op : IoOp} (hj : opJob op = true) : opMoves op = false := by
  cases op with
  | job w r d => rfl
  | _ => cases hj

/-- PSDT is not 0 in an entry of a submission queue, which R414 refuses of a transfer. -/
def psdtSet (hdr : IoHdr) : IoQueue → Bool
  | .sq .. => hdr.psdt != 0
  | .conn _ => false

section
variable {s : State} {q : IoQueue} {hdr : IoHdr} {op : IoOp} (hv : ∀ n, op ≠ .invalid n)
include hv

theorem ioCheck_gated {st : Status} (hg : adminGate s none = some st) : ioCheck s q hdr op = (s, .error (st, none)) := by
  unfold ioCheck
  split
  · exact absurd rfl (hv _)
  · rw [hg]

variable (hg : adminGate s none = none)
include hg

/-- The checks of an entry that no Sanitize holds back, in their order. -/
theorem ioCheck_open : ioCheck s q hdr op =
    if hdr.fuse ≠ 0 ∨ hdr.reserved = true then (ioViol s q 3, .error (.invalidField, none))
    else if hdr.prpBad then (ioViol s q 2, .error (.invalidPrpOffset, none))
    else if opMoves op && (hdr.prinfo != 0 || psdtSet hdr q) then (s, .error (.invalidField, none))
    else if opJob op then
      if s.g Od.CRIB_SEQ_MAX (s.queueCrib q) = 0 then (s, .error (.invalidOpcode, none)) else (s, .ok noNs)
    else (s.nsOf (s.queueCrib q) hdr.nsid).elim (cribViol s (s.queueCrib q) 2, .error (.invalidNamespace, none)) fun p =>
      (adminGate s (some p.1)).elim (s, .ok p.1) fun st => (s, .error (st, none)) := by
  unfold ioCheck
  split
  · exact absurd rfl (hv _)
  · rw [hg]
    dsimp only
    cases s.nsOf (s.queueCrib q) hdr.nsid with
    | none => cases q <;> rfl
    | some p =>
      dsimp only [Option.elim_some]
      cases adminGate s (some p.1) <;> cases q <;> rfl

theorem ioCheck_reserved (hr : hdr.fuse ≠ 0 ∨ hdr.reserved = true) :
    ioCheck s q hdr op = (ioViol s q 3, .error (.invalidField, none)) := (ioCheck_open hv hg).trans (if_pos hr)

variable (hf : hdr.fuse = 0) (hr : hdr.reserved = false)
include hf hr

theorem ioCheck_prpBad (hp : hdr.prpBad = true) : ioCheck s q hdr op = (ioViol s q 2, .error (.invalidPrpOffset, none)) :=
  (ioCheck_open hv hg).trans ((if_neg (by simp [hf, hr])).trans (if_pos hp))

variable (hp : hdr.prpBad = false)
include hp

theorem ioCheck_transfer (hm : opMoves op = true) (hb : hdr.prinfo ≠ 0 ∨ psdtSet hdr q = true) :
    ioCheck s q hdr op = (s, .error (.invalidField, none)) :=
  (ioCheck_open hv hg).trans ((if_neg (by simp [hf, hr])).trans ((if_neg (by simp [hp])).trans (if_pos (by simpa [hm] using hb))))

theorem ioCheck_unnamed (hm : opMoves op = true → hdr.prinfo = 0 ∧ psdtSet hdr q = false) (hj : opJob op = false)
    (hn : s.nsOf (s.queueCrib q) hdr.nsid = none) :
    ioCheck s q hdr op = (cribViol s (s.queueCrib q) 2, .error (.invalidNamespace, none)) := by
  refine (ioCheck_open hv hg).trans ((if_neg (by simp [hf, hr])).trans ((if_neg (by simp [hp])).trans
    ((if_neg fun h => ?_).trans ((if_neg (by simp [hj])).trans (by rw [hn]; rfl)))))
  obtain ⟨hmv, hb⟩ := Bool.and_eq_true_iff.1 h
  simp [hm hmv] at hb

theorem ioCheck_job (hj : opJob op = true) : ioCheck s q hdr op =
    if s.g Od.CRIB_SEQ_MAX (s.queueCrib q) = 0 then (s, .error (.invalidOpcode, none)) else (s, .ok noNs) := by
  have hm : opMoves op = false := opMoves_of_job hj
  exact (ioCheck_open hv hg).trans ((if_neg (by simp [hf, hr])).trans ((if_neg (by simp [hp])).trans
    ((if_neg (by simp [hm])).trans (if_pos hj))))

end

/-- Settles O36: an entry that is not offered, one that waits, one that is taken, and then each check of one that is taken. The order of
the checks is the model's choice (assumption log 66). -/
theorem ioEntriesAreTakenInTurnAndChecked : Obligations.IoEntriesAreTakenInTurnAndChecked := by
  intro s c q hdr op h hc
  have hv := ioCommand_valid hc
  have hexec : exec c s = .next (keep s (ioSubmit s q hdr op)) := by rw [exec_ioCommand hc, act_live h]
  refine ⟨fun ho => ?unoffered, fun ho hn => ?waits, fun ho hf hw hr => ?taken, fun u ht => ?checked⟩
  case unoffered => rw [hexec, ioSubmit_unoffered ho, keep_self]
  case waits =>
    rw [hexec, ioSubmit_waits ho hn]
    exact congrArg _ (keep_eq rfl rfl rfl rfl rfl)
  case taken =>
    obtain ⟨u, htake, hod, hctxs⟩ := takeEntry_of_offered ho
    exact ⟨u, htake, by rw [hexec, ioSubmit_taken ⟨ho, hf, hw, hr, htake⟩], hod, hctxs⟩
  case checked =>
    intro psdtBad cr
    have hps : psdtSet hdr q = true ↔ psdtBad := by cases q <;> simp [psdtSet, psdtBad]
    have hrefused {v : State} {st : Status} (hk : ioCheck u q hdr op = (v, .error (st, none))) :
        exec c s = .next (keep s (v.complete q hdr.cid st)) := by rw [hexec, ioSubmit_taken ht, ioAdmit_refused hk]
    refine ⟨fun hz => hrefused (ioCheck_gated hv (if_pos hz)), fun hz => hrefused (ioCheck_gated hv (by simp [adminGate, hz])),
      fun h2 h3 => ?_⟩
    have hg : adminGate u none = none := by simp [adminGate, h2, h3]
    refine ⟨fun hr => hrefused (ioCheck_reserved hv hg hr), fun hf hr => ⟨fun hp => hrefused (ioCheck_prpBad hv hg hf hr hp),
      fun hp => ⟨fun hm hb => ?transfer, fun hm hj hn => ?unnamed, fun hm hi hb hn => ?unnamedTransfer, fun hj hq => ?noSequencer,
        fun w r d ho hq => ?job⟩⟩⟩
    case transfer => exact hrefused (ioCheck_transfer hv hg hf hr hp hm (by rwa [hps]))
    case unnamed => exact hrefused (ioCheck_unnamed hv hg hf hr hp (by simp [hm]) hj hn)
    case unnamedTransfer =>
      have hj : opJob op = false := Bool.eq_false_iff.2 fun hj => by simp [opMoves_of_job hj] at hm
      exact hrefused (ioCheck_unnamed hv hg hf hr hp (fun _ => ⟨hi, Bool.eq_false_iff.2 (mt hps.1 hb)⟩) hj hn)
    case noSequencer => exact hrefused ((ioCheck_job hv hg hf hr hp hj).trans (if_pos hq))
    case job =>
      subst ho
      rw [hexec, ioSubmit_taken ht, ioAdmit_job ((ioCheck_job hv hg hf hr hp rfl).trans (if_neg hq))]

end Sys2Proof.Machine
end

section
/-! SUPPORT. What Reads, Writes and Zone Appends do once their entry has passed its checks. -/

namespace Sys2Proof.Machine

/-! ### The range of a transfer (R415, R421) -/

/-- What a Read or Write of a range does: the refusals of R415 and R421 in their order, else `f` of its zone. -/
def inRange (s : State) (x : Ctx) (m : Ns) (lba nlb : Nat) (f : Nat → State) : State :=
  if nlb = 0 ∨ 256 < nlb then s.complete x.queue x.cid .invalidField
  else if m.blocks < lba + nlb then s.complete x.queue x.cid .lbaOutOfRange
  else if lba / zoneBlocks ≠ (lba + nlb - 1) / zoneBlocks then s.complete x.queue x.cid .zoneBoundary
  else if s.g Od.NS_KEY_STATE x.ns ≠ 1 then s.complete x.queue x.cid .namespaceNotReady (some true)
  else f (lba / zoneBlocks)

section
variable {s : State} {x : Ctx} {m : Ns} {lba nlb : Nat} {f : Nat → State}

theorem inRange_length (hn : nlb = 0 ∨ 256 < nlb) : inRange s x m lba nlb f = s.complete x.queue x.cid .invalidField := if_pos hn

variable (h0 : nlb ≠ 0) (h256 : nlb ≤ 256)
include h0 h256

theorem inRange_past (hm : m.blocks < lba + nlb) : inRange s x m lba nlb f = s.complete x.queue x.cid .lbaOutOfRange :=
  (if_neg (by omega)).trans (if_pos hm)

variable (hm : lba + nlb ≤ m.blocks)
include hm

theorem inRange_crosses (hz : lba / zoneBlocks ≠ (lba + nlb - 1) / zoneBlocks) :
    inRange s x m lba nlb f = s.complete x.queue x.cid .zoneBoundary :=
  (if_neg (by omega)).trans ((if_neg (not_lt.2 hm)).trans (if_pos hz))

variable (hz : lba / zoneBlocks = (lba + nlb - 1) / zoneBlocks)
include hz

theorem inRange_keyless (hk : s.g Od.NS_KEY_STATE x.ns ≠ 1) :
    inRange s x m lba nlb f = s.complete x.queue x.cid .namespaceNotReady (some true) :=
  (if_neg (by omega)).trans ((if_neg (not_lt.2 hm)).trans ((if_neg (not_not_intro hz)).trans (if_pos hk)))

theorem inRange_served (hk : s.g Od.NS_KEY_STATE x.ns = 1) : inRange s x m lba nlb f = f (lba / zoneBlocks) :=
  (if_neg (by omega)).trans ((if_neg (not_lt.2 hm)).trans ((if_neg (not_not_intro hz)).trans (if_neg (not_not_intro hk))))

end

/-! ### Writes and Zone Appends (R415, R421, R426) -/

/-- The blocks that an entry brings with it. -/
def broughtBlocks (nlb : Nat) (d : Option (List Byte)) : Keyed (List Byte) :=
  d.elim [] fun b => (chunks nlb 4096 b).zipIdx.map fun (b, i) => (i, padTo 4096 b)

/-- A Write or Zone Append that its zone admits: the zone opens, and the command is kept with a staging line for each block. -/
def writeAdmitted (s : State) (x : Ctx) (z lba nlb : Nat) (d : Option (List Byte)) : State :=
  keeping ((writeOpens s x.ns z).add Od.STAGE_LINES_USED 0 nlb)
    { x with zone := z, lba := lba, nlb := nlb, blocks := broughtBlocks nlb d, left := nlb }

/-- What a Write or Zone Append at a place of zone `z` does. -/
def writeAt (s : State) (x : Ctx) (place : Option Nat) (z lba nlb : Nat) (d : Option (List Byte)) : State :=
  (writeCheck s x.ns z nlb place).elim (writeAdmitted s x z lba nlb d) fun st =>
    s.complete x.queue x.cid st (if st = .zoneIsOffline then some true else none)

section
variable {s : State} {x : Ctx} {place : Option Nat} {z lba nlb : Nat} {d : Option (List Byte)}

theorem writeAt_refused {st : Status} (hw : writeCheck s x.ns z nlb place = some st) :
    writeAt s x place z lba nlb d = s.complete x.queue x.cid st (if st = .zoneIsOffline then some true else none) := by
  rw [writeAt, hw]; rfl

theorem writeAt_admitted (hw : writeCheck s x.ns z nlb place = none) : writeAt s x place z lba nlb d = writeAdmitted s x z lba nlb d := by
  rw [writeAt, hw]; rfl

end

theorem ioRun_write {s : State} {x : Ctx} {m : Ns} {lba nlb : Nat} {d : Option (List Byte)} (hx : x.op = .write lba nlb d) :
    ioRun s x m = inRange s x m lba nlb fun z => writeAt s x (some (lba % zoneBlocks)) z lba nlb d := by
  obtain ⟨⟩ := x
  cases hx
  unfold ioRun inRange writeAt
  dsimp only
  cases hw : writeCheck s _ (lba / zoneBlocks) nlb (some (lba % zoneBlocks)) with
  | none => cases d <;> rfl
  | some st => cases st <;> rfl

theorem ioRun_append {s : State} {x : Ctx} {m : Ns} {lba nlb : Nat} {d : Option (List Byte)} (hx : x.op = .append lba nlb d) :
    ioRun s x m =
      if nlb = 0 ∨ 256 < nlb ∨ lba % zoneBlocks ≠ 0 then s.complete x.queue x.cid .invalidField
      else if m.blocks ≤ lba then s.complete x.queue x.cid .lbaOutOfRange
      else if s.g Od.NS_KEY_STATE x.ns ≠ 1 then s.complete x.queue x.cid .namespaceNotReady (some true)
      else writeAt s x none (lba / zoneBlocks) (lba + s.admission x.ns (lba / zoneBlocks)) nlb d := by
  obtain ⟨⟩ := x
  cases hx
  unfold ioRun writeAt
  dsimp only
  cases hw : writeCheck s _ (lba / zoneBlocks) nlb none with
  | none => cases d <;> rfl
  | some st => cases st <;> rfl

/-- A zone that is neither Offline nor Full turns away what it cannot hold, and then a Write elsewhere than at its admission pointer
(R426). -/
theorem writeCheck_eq {s : State} {ns z nlb : Nat} {place : Option Nat} (ho : (s.zone ns z).state ≠ .offline)
    (hf : (s.zone ns z).state ≠ .full) :
    ∃ rest, writeCheck s ns z nlb place =
      if zoneBlocks < s.admission ns z + nlb then some .zoneBoundary
      else if place.elim false fun a => a != s.admission ns z then some .zoneInvalidWrite else rest := by
  unfold writeCheck
  dsimp only
  split
  · next h => exact absurd h ho
  · next h => exact absurd h hf
  · exact ⟨_, rfl⟩

/-! ### Reads (R429, R504) -/

theorem ioRun_read {s : State} {x : Ctx} {m : Ns} {lba nlb : Nat} {lr : Bool} (hx : x.op = .read lba nlb lr) :
    ioRun s x m = inRange s x m lba nlb fun z =>
      if s.zoneOffline x.ns z then s.complete x.queue x.cid .zoneIsOffline (some true)
      else readStart ((keeping s { x with zone := z, lba := lba, nlb := nlb }).add Od.HAY_LAND_USED 0
        ({ x with zone := z, lba := lba, nlb := nlb } : Ctx).sheaves) { x with zone := z, lba := lba, nlb := nlb } lr := by
  obtain ⟨⟩ := x
  cases hx
  rfl

/-- A Read's data as its lookups gather it, block by block, where every block reads as zeros. -/
def zeroBlocks (l : List Nat) (got : Keyed (List Byte)) : Keyed (List Byte) := l.foldl (fun g i => Keyed.insert g i zeroBlock) got

theorem getD_zeroBlocks (l : List Nat) {got : Keyed (List Byte)} (hg : ∀ j, Keyed.getD got j zeroBlock = zeroBlock) (j : Nat) :
    Keyed.getD (zeroBlocks l got) j zeroBlock = zeroBlock := by
  induction l generalizing got with
  | nil => exact hg j
  | cons i t ih =>
    refine ih fun k => ?_
    rw [Keyed.getD, Keyed.find?_insert]
    split
    · rfl
    · exact hg k

theorem foldl_zeroBlocks {f : State × Keyed (List Byte) × List Nat → Nat → State × Keyed (List Byte) × List Nat} (l : List Nat)
    (hf : ∀ r, ∀ i ∈ l, f r i = (r.1, Keyed.insert r.2.1 i zeroBlock, r.2.2)) (r : State × Keyed (List Byte) × List Nat) :
    l.foldl f r = (r.1, zeroBlocks l r.2.1, r.2.2) := by
  induction l generalizing r with
  | nil => rfl
  | cons i t ih =>
    rw [List.foldl_cons, hf r i (by simp), ih fun r j hj => hf r j (by simp [hj])]
    rfl

/-- A Read none of whose blocks lies below its zone's write pointer looks nothing up. -/
theorem readStart_above {s : State} {x : Ctx} (lr : Bool) (hw : x.zone * zoneBlocks + (s.zone x.ns x.zone).wp ≤ x.lba) :
    ∃ (streamed : Bool) (u : State), u.host = s.host ∧ readStart s x lr = readSettle (u.setCtx x.id fun _ =>
      { x with blocks := zeroBlocks (List.range x.nlb) [], left := 0, landing := 0, streaming := streamed }) x.id := by
  have hrun : (streamStep s x.queue x.ns x.lba x.nlb).1.host = s.host := rfl
  unfold readStart
  generalize streamStep s x.queue x.ns x.lba x.nlb = r at hrun
  obtain ⟨t, run⟩ := r
  have hwp : x.zone * zoneBlocks + (t.zone x.ns x.zone).wp ≤ x.lba := by rwa [State.zone, hrun]
  dsimp only
  rw [foldl_zeroBlocks]
  · exact ⟨run || t.hinted x.crib x.ns x.lba x.nlb, t.sub Od.HAY_LAND_USED 0 (x.sheaves - 0), hrun, rfl⟩
  · rintro ⟨v, got, miss⟩ i -
    exact if_pos (hwp.trans (Nat.le_add_right _ _))

/-! ### What a completion sends -/

theorem out_prefix_msix (s : State) (f v : Nat) : s.out <+: (s.msix f v).out := by
  unfold State.msix
  split
  · dsimp only
    split
    · exact List.prefix_rfl
    · exact List.prefix_append ..
  · exact List.prefix_rfl

theorem out_prefix_cqPost (s : State) (f : Crib) (cq : Nat) (c : Cpl) : s.out <+: (cqPost s f cq c).out := by
  unfold cqPost
  split
  · exact List.prefix_rfl
  · split
    · exact List.prefix_rfl
    · dsimp only
      split
      · refine List.IsPrefix.trans ?_ (out_prefix_msix _ _ _)
        exact List.prefix_append s.out [.cqe c]
      · exact List.prefix_append s.out [.cqe c]

/-- A completion into a completion queue takes nothing back that was sent. -/
theorem out_prefix_complete (s : State) (f : Crib) (qid cid : Nat) (st : Status) (dnr : Option Bool) (dw0 dw1 : Nat) :
    s.out <+: (s.complete (.sq f qid) cid st dnr dw0 dw1).out := by
  unfold State.complete State.post
  split
  · exact List.prefix_rfl
  · dsimp only
    split
    · exact List.prefix_rfl
    · refine List.IsPrefix.trans ?_ (out_prefix_cqPost _ _ _ _)
      split <;> exact List.prefix_rfl

theorem out_meter (s : State) (c k n : Nat) : (meter s c k n).out = s.out := by
  have hacct (c : Nat) (f : Account → Account) : (setAcct s c f).out = s.out := by
    unfold setAcct
    split <;> rfl
  unfold meter
  split
  · split
    · dsimp only
      split <;> exact hacct _ _
    · rfl
  · rfl

theorem ctx?_setCtx_const {s : State} {y : Ctx} (hs : ∃ x ∈ s.host.ctxs, x.id = y.id) : (s.setCtx y.id fun _ => y).ctx? y.id = some y := by
  obtain ⟨x, hx, hid⟩ := hs
  have hmem : y ∈ (s.setCtx y.id fun _ => y).host.ctxs := List.mem_map.2 ⟨x, hx, if_pos (by simp [hid])⟩
  have hall : ∀ z ∈ (s.setCtx y.id fun _ => y).host.ctxs, z.id = y.id → z = y := by
    intro z hz hzid
    obtain ⟨w, -, rfl⟩ := List.mem_map.1 hz
    dsimp only at hzid ⊢
    split
    · rfl
    · next hw =>
      rw [if_neg hw] at hzid
      exact absurd (beq_iff_eq.2 hzid) hw
  cases hf : (s.setCtx y.id fun _ => y).ctx? y.id with
  | none => exact absurd (List.find?_eq_none.1 hf y hmem) (by simp)
  | some z => rw [hall z (List.mem_of_find?_eq_some hf) (by simpa using List.find?_some hf)]

/-- A Read that has all its blocks sends them to the host, on a submission queue. -/
theorem readSettle_sends {s : State} {x : Ctx} {f : Crib} {qid : Nat} (hx : s.ctx? x.id = some x) (hl : x.left = 0) (hw : x.isWrite = false)
    (hq : x.queue = .sq f qid) :
    Output.hostData x.queue x.cid ((List.range x.nlb).flatMap fun i => Keyed.getD x.blocks i zeroBlock) ∈ (readSettle s x.id).out := by
  unfold readSettle
  rw [hx]
  dsimp only
  rw [if_pos hl, endCtx, hw, if_neg Bool.false_ne_true, hq]
  refine (out_prefix_complete _ f qid x.cid .success none 0 0).subset ?_
  change _ ∈ (meter _ _ _ _).out
  rw [out_meter, hostSend, hq]
  exact List.mem_append_right _ (List.mem_singleton_self _)

/-- The zeros of a number of blocks. -/
theorem flatMap_zeroBlocks (n : Nat) :
    ((List.range n).flatMap fun i => Keyed.getD (zeroBlocks (List.range n) []) i zeroBlock) = List.replicate (4096 * n) 0#8 := by
  have hz : (fun i => Keyed.getD (zeroBlocks (List.range n) []) i zeroBlock) = fun _ => zeroBlock :=
    funext fun i => getD_zeroBlocks _ (fun _ => rfl) i
  rw [hz, List.flatMap, List.map_const', List.length_range, zeroBlock, List.flatten_replicate_replicate, Nat.mul_comm]

/-- A Read at or above its zone's write pointer, from a submission queue, sends zeros in the step that begins it. -/
theorem readStart_sends_zeros {s : State} {x : Ctx} {f : Crib} {qid : Nat} (lr : Bool)
    (hw : x.zone * zoneBlocks + (s.zone x.ns x.zone).wp ≤ x.lba) (hx : x ∈ s.host.ctxs) (hr : x.isWrite = false) (hq : x.queue = .sq f qid) :
    Output.hostData x.queue x.cid (List.replicate (4096 * x.nlb) 0#8) ∈ (readStart s x lr).out := by
  obtain ⟨streamed, u, hu, hread⟩ := readStart_above lr hw
  rw [hread, ← flatMap_zeroBlocks]
  let y : Ctx := { x with blocks := zeroBlocks (List.range x.nlb) [], left := 0, landing := 0, streaming := streamed }
  exact readSettle_sends (x := y) (ctx?_setCtx_const ⟨x, by rwa [hu], rfl⟩) rfl hr hq

/-! ### The commands -/

/-- An entry that is taken and passes its checks begins. -/
theorem exec_ioPasses {s u : State} {c : Instr} {q : IoQueue} {hdr : IoHdr} {op : IoOp} {n : Nat} {m : Ns} (h : Live s)
    (hc : ioCommand c = some (q, hdr, op)) (ht : Taken s q op u) (hp : Passes u q hdr op n m) (hj : opJob op = false) {t : State}
    (hrun : ioRun (begun u) (newCtx u q hdr op n) m = t) : exec c s = .next (keep s (asking q t)) := by
  rw [exec_ioCommand hc, act_live h, ioSubmit_taken ht, ioAdmit_passes hp hj, hrun]

/-- Settles O37: a Read, a Write and a Zone Append, each with its refusals in their order and then what it does. What becomes of a zone that
a write opens and how the zones are counted is the model's choice (assumption logs 66, 67 and 69). -/
theorem readsWritesAndAppends : Obligations.ReadsWritesAndAppends := by
  refine ⟨fun s u q hdr lba nlb n lr m h ht hp => ?read, fun s u q hdr lba nlb n d m h ht hp => ?write,
    fun s u q hdr lba nlb n d m h ht hp => ?append⟩
  case read =>
    intro done c x
    have hexec {t : State} := @exec_ioPasses s u c q hdr _ n m h rfl ht hp rfl t
    have hrun := ioRun_read (s := begun u) (x := newCtx u q hdr (.read lba nlb lr) n) (m := m) rfl
    refine ⟨fun hl => hexec (hrun.trans (inRange_length hl)), fun h0 h256 => ⟨fun hm => hexec (hrun.trans (inRange_past h0 h256 hm)),
      fun hm hz => hexec (hrun.trans (inRange_crosses h0 h256 hm hz)), fun hm hz => ⟨fun hk => ?keyless, fun hk ho => ?offline,
        fun hk ho => ?served⟩⟩⟩
    case keyless => exact hexec (hrun.trans (inRange_keyless h0 h256 hm hz hk))
    case offline => exact hexec (hrun.trans ((inRange_served h0 h256 hm hz hk).trans (if_pos ho)))
    case served =>
      have hstart := hexec (hrun.trans ((inRange_served h0 h256 hm hz hk).trans (if_neg (ne_true_of_eq_false ho))))
      refine ⟨hstart, fun hwp ⟨f, i, hq⟩ => ⟨_, hstart, ?_⟩⟩
      subst hq
      exact readStart_sends_zeros lr hwp (List.mem_append_right _ (List.mem_singleton_self x)) rfl rfl
  case write =>
    intro done c z
    have hexec {t : State} := @exec_ioPasses s u c q hdr _ n m h rfl ht hp rfl t
    have hrun := ioRun_write (s := begun u) (x := newCtx u q hdr (.write lba nlb d) n) (m := m) rfl
    refine ⟨fun hl => hexec (hrun.trans (inRange_length hl)), fun h0 h256 => ⟨fun hm => hexec (hrun.trans (inRange_past h0 h256 hm)),
      fun hm hz => hexec (hrun.trans (inRange_crosses h0 h256 hm hz)), fun hm hz => ⟨fun hk => ?keyless, fun hk => ⟨fun st hw => ?refused,
        fun hw hd => ?later, fun hw b hd => ?brought⟩⟩⟩, fun e he ho hf => ?checks⟩
    case keyless => exact hexec (hrun.trans (inRange_keyless h0 h256 hm hz hk))
    case refused => exact hexec (hrun.trans ((inRange_served h0 h256 hm hz hk).trans (writeAt_refused hw)))
    case later =>
      subst hd
      exact hexec (hrun.trans ((inRange_served h0 h256 hm hz hk).trans (writeAt_admitted hw)))
    case brought =>
      subst hd
      exact hexec (hrun.trans ((inRange_served h0 h256 hm hz hk).trans (writeAt_admitted hw)))
    case checks =>
      subst he
      obtain ⟨rest, hcheck⟩ := writeCheck_eq (nlb := nlb) (place := some (lba % zoneBlocks)) ho hf
      exact ⟨fun hlt => hcheck.trans (if_pos hlt), fun hle hne => hcheck.trans ((if_neg (not_lt.2 hle)).trans (if_pos (by simpa using hne)))⟩
  case append =>
    intro done c z
    have hexec {t : State} := @exec_ioPasses s u c q hdr _ n m h rfl ht hp rfl t
    have hrun := ioRun_append (s := begun u) (x := newCtx u q hdr (.append lba nlb d) n) (m := m) rfl
    refine ⟨fun hl => hexec (hrun.trans (if_pos hl)), fun h0 h256 hz => ?_⟩
    replace hrun := hrun.trans (if_neg (by omega))
    refine ⟨fun hm => hexec (hrun.trans (if_pos hm)), fun hm hk => hexec (hrun.trans ((if_neg (not_le.2 hm)).trans (if_pos hk))),
      fun hm hk => ?_⟩
    replace hrun := hrun.trans ((if_neg (not_le.2 hm)).trans (if_neg (not_not_intro hk)))
    refine ⟨fun st hw => hexec (hrun.trans (writeAt_refused hw)), fun hw hd => ?later, fun hw b hd => ?brought⟩
    all_goals
      subst hd
      exact hexec (hrun.trans (writeAt_admitted hw))

end Sys2Proof.Machine
end

section
/-! SUPPORT. Zone Open of a zone that a Format NVM has left Offline. -/

namespace Sys2Proof.Machine

/-- A serving block whose namespace 1 has one zone, Offline as step ZONES leaves what it cannot back (R473); queue 1 of crib 0 holds an
entry. -/
def unbackedZone : State :=
  let s : State := { State.reset with dev := .serving, host := { State.reset.host with
    ns := [(0, ⟨1, 1, false, some 0, [], none⟩)], zones := [(0, ⟨none, 0, .offline, false⟩)] } }
  ((s.p Od.CRIB_STATE 0 1).p Od.CRIB_CTX_MAX 0 8).setCtl 0 fun g =>
    { g with en := true, rdy := true, sqs := [(1, ⟨4, 1, 0, 1, 0⟩)], cqs := [(1, ⟨4, 0, 0, 0, false, []⟩)] }

/-- The same with the entry taken. -/
def unbackedTaken : State := (unbackedZone.takeEntry (.sq 0 1)).getD unbackedZone

/-- An entry that names namespace 1. -/
def plainHdr : IoHdr := ⟨0, 1, 0, 0, 0, false, false⟩

theorem unbackedZone_taken : Live unbackedZone ∧ Taken unbackedZone (.sq 0 1) (.zoneOpen 0 false) unbackedTaken ∧
    Passes unbackedTaken (.sq 0 1) plainHdr (.zoneOpen 0 false) 0 ⟨1, 1, false, some 0, [], none⟩ := by
  unfold Live Taken Passes
  decide +kernel

/-- Refutes O38: of a zone whose own state is Offline, as step ZONES leaves one that has no disc zone to back it (R473), the clauses on
Zone Open ask for both Zone Invalid State Transition and an opened zone: the clause on a zone that is neither Empty nor Full rules out
R430's Offline alone. -/
theorem not_zoneManagementAndDiscOperations : ¬ Obligations.ZoneManagementAndDiscOperations := by
  rintro ⟨-, -, hzone, -⟩
  obtain ⟨hlive, htaken, hpasses⟩ := unbackedZone_taken
  obtain ⟨-, -, hopen⟩ := hzone unbackedZone unbackedTaken (.sq 0 1) plainHdr 0 0 false _ _ _ hlive (.inr (.inl ⟨rfl, rfl⟩)) htaken hpasses
  obtain ⟨-, -, hone, -⟩ := hopen (by decide) (.inr (by decide))
  obtain ⟨hrefused, -, -, -, hopened⟩ := hone rfl rfl
  replace hrefused := hrefused (.inr (by decide +kernel))
  replace hopened := hopened (by decide +kernel) (by decide +kernel) (by decide +kernel) (by decide +kernel)
  have hsame := Host.Outcome.next.inj (hrefused.symm.trans hopened)
  exact absurd (congrArg (fun t : State => (t.zone 0 0).st) hsame) (by decide +kernel)

end Sys2Proof.Machine
end

section
/-! SUPPORT. Queues, and what a host does to a function's controller. -/

namespace Sys2Proof.Machine

/-! ### Admin commands that pass their checks -/

section
variable {s u t : State} {c : Instr} {q : IoQueue} {hdr : IoHdr} {f : State → State} (h : Live s) (ht : AdminClear s q hdr u)
include h ht

/-- An admin command that a Sanitize lets through: its own effect `f`. -/
theorem exec_adminClear (hc : exec c s = act s fun v => adminTake v q hdr true f) (hf : f u = t) : exec c s = .next (keep s t) := by
  rw [hc, act_live h, adminTake_clear ht, hf]

end

/-! ### I/O queues (R401, R409, R416, R417) -/

section
variable {s u : State} {f : Crib} {j : Nat} {hdr : IoHdr} {qid : Nat}

/-- The queues of a controller can only be created and deleted by its own function's admin queue (R409). -/
theorem exec_queueCommand_conn {k size a : Nat} {i pc : Bool} {b : Nat} {c : Instr} (h : Live s) (ht : AdminClear s (.conn k) hdr u)
    (hc : c = .createIoSq (.conn k) hdr qid size a b pc ∨ c = .createIoCq (.conn k) hdr qid size a i pc ∨
      c = .deleteIoSq (.conn k) hdr qid ∨ c = .deleteIoCq (.conn k) hdr qid) :
    exec c s = .next (keep s (u.complete (.conn k) hdr.cid .invalidOpcode)) := by
  obtain rfl | rfl | rfl | rfl := hc <;> exact exec_adminClear h ht rfl rfl

variable (h : Live s) (ht : AdminClear s (.sq f j) hdr u)
include h ht

/-- A Create I/O Submission Queue on controller `g` has the effect that its checks come to, in their order. -/
theorem exec_createIoSq_eq {size cq prio : Nat} {pc : Bool} {g : NvmeCtl} (hg : u.host.ctl[f] = g) {t : State}
    (hr : (if !qidOk g qid false || (g.sqs.find? qid).isSome then u.complete (.sq f j) hdr.cid .invalidQueueId
      else if size < 2 ∨ 4096 < size then u.complete (.sq f j) hdr.cid .invalidQueueSize
      else if !pc then u.complete (.sq f j) hdr.cid .invalidField
      else if cq = 0 ∨ (g.cqs.find? cq).isNone then u.complete (.sq f j) hdr.cid .completionQueueInvalid
      else if !unitFree u f (sqUnits u) then (hqViol u f 5 f qid).complete (.sq f j) hdr.cid .invalidQueueId
      else (u.setCtl f fun g => { g with sqs := g.sqs.insert qid ⟨size, 0, 0, cq, prio⟩ }).complete (.sq f j) hdr.cid .success) = t) :
    exec (.createIoSq (.sq f j) hdr qid size cq prio pc) s = .next (keep s t) := by
  subst hg
  exact exec_adminClear h ht rfl hr

/-- The same of a Create I/O Completion Queue. -/
theorem exec_createIoCq_eq {size vec : Nat} {ien pc : Bool} {g : NvmeCtl} (hg : u.host.ctl[f] = g) {t : State}
    (hr : (if !qidOk g qid true || (g.cqs.find? qid).isSome then u.complete (.sq f j) hdr.cid .invalidQueueId
      else if size < 2 ∨ 4096 < size then u.complete (.sq f j) hdr.cid .invalidQueueSize
      else if !pc then u.complete (.sq f j) hdr.cid .invalidField
      else if 64 ≤ vec then u.complete (.sq f j) hdr.cid .invalidVector
      else if !unitFree u f (cqUnits u) then (hqViol u f 5 f qid).complete (.sq f j) hdr.cid .invalidQueueId
      else (u.setCtl f fun g => { g with cqs := g.cqs.insert qid ⟨size, 0, 0, vec, ien, []⟩ }).complete (.sq f j) hdr.cid .success) = t) :
    exec (.createIoCq (.sq f j) hdr qid size vec ien pc) s = .next (keep s t) := by
  subst hg
  exact exec_adminClear h ht rfl hr

theorem exec_deleteIoSq_none (hn : qid = 0 ∨ u.host.ctl[f].sqs.find? qid = none ∨ (u.host.dels.any fun d => d.1 == f && d.2.2 == qid) = true) :
    exec (.deleteIoSq (.sq f j) hdr qid) s = .next (keep s (u.complete (.sq f j) hdr.cid .invalidQueueId)) :=
  exec_adminClear h ht rfl (if_pos (by rwa [Option.isNone_iff_eq_none]))

theorem exec_deleteIoSq_begins (h0 : qid ≠ 0) (hq : (u.host.ctl[f].sqs.find? qid).isSome = true)
    (hl : (u.host.dels.any fun d => d.1 == f && d.2.2 == qid) = false) :
    exec (.deleteIoSq (.sq f j) hdr qid) s = .next (keep s (settleQueues { u with host := { u.host with
      waiting := u.host.waiting.filter fun w => w.queue != .sq f qid, dels := u.host.dels ++ [(f, hdr.cid, qid)] } })) := by
  refine exec_adminClear h ht rfl (if_neg ?_)
  rw [hl, ← Option.not_isSome, hq]
  simp [h0]

theorem exec_deleteIoCq_none (hn : qid = 0 ∨ u.host.ctl[f].cqs.find? qid = none) :
    exec (.deleteIoCq (.sq f j) hdr qid) s = .next (keep s (u.complete (.sq f j) hdr.cid .invalidQueueId)) :=
  exec_adminClear h ht rfl (if_pos (by rwa [Option.isNone_iff_eq_none]))

variable (h0 : qid ≠ 0) (hq : (u.host.ctl[f].cqs.find? qid).isSome = true)
include h0 hq

theorem exec_deleteIoCq_named (hn : ∃ p ∈ u.host.ctl[f].sqs, p.2.cq = qid) :
    exec (.deleteIoCq (.sq f j) hdr qid) s = .next (keep s (u.complete (.sq f j) hdr.cid .queueDeletionOrder)) := by
  refine exec_adminClear h ht rfl ((if_neg ?_).trans (if_pos ?_))
  · rw [← Option.not_isSome, hq]
    simp [h0]
  · simpa using hn

theorem exec_deleteIoCq_deletes (hn : ∀ p ∈ u.host.ctl[f].sqs, p.2.cq ≠ qid) :
    exec (.deleteIoCq (.sq f j) hdr qid) s = .next (keep s
      ((u.setCtl f fun g => { g with cqs := Keyed.erase g.cqs qid }).complete (.sq f j) hdr.cid .success)) := by
  refine exec_adminClear h ht rfl ((if_neg ?_).trans (if_neg ?_))
  · rw [← Option.not_isSome, hq]
    simp [h0]
  · simpa using hn

end

/-! ### The controller of a function (R144, R406, R407, R441) -/

theorem State.setCtl_setCtl (s : State) (c : Crib) (f g : NvmeCtl → NvmeCtl) : (s.setCtl c f).setCtl c g = s.setCtl c fun x => g (f x) := by
  simp only [State.setCtl, vmod_vmod]

theorem State.ctl_setCtl (s : State) (c : Crib) (f : NvmeCtl → NvmeCtl) : (s.setCtl c f).host.ctl[c] = f s.host.ctl[c] := vmod_get ..

/-- CC.EN going to 1: the controller that it makes, ready where its crib is ACTIVE and Booting has ended. -/
def enabledCtl (s : State) (f : Crib) (cc aqa : Nat) : NvmeCtl :=
  let g : NvmeCtl := { NvmeCtl.fresh with en := true, cc := cc, aqa := aqa }
  if s.g Od.CRIB_STATE f == 1 && !s.isDev .booting then { g with
    rdy := true
    sqs := [(0, ⟨aqa % 4096 + 1, 0, 0, 0, 0⟩)]
    cqs := [(0, ⟨aqa / 65536 % 4096 + 1, 0, 0, 0, true, []⟩)] }
  else g

theorem ctlReady_enabled (s : State) (f : Crib) (cc aqa : Nat) :
    ctlReady (s.setCtl f fun _ => { NvmeCtl.fresh with en := true, cc := cc, aqa := aqa }) f = s.setCtl f fun _ => enabledCtl s f cc aqa := by
  unfold ctlReady
  dsimp only
  rw [State.ctl_setCtl, State.setCtl_setCtl, enabledCtl]
  change (if s.g Od.CRIB_STATE f == 1 && !s.isDev .booting then _ else _) = _
  split <;> rfl

theorem rdy_enabledCtl (s : State) (f : Crib) (cc aqa : Nat) :
    (enabledCtl s f cc aqa).rdy = true ↔ s.g Od.CRIB_STATE f = 1 ∧ s.dev ≠ .booting := by
  unfold enabledCtl
  split
  · next h => simpa [State.isDev] using h
  · next h => simpa [State.isDev, NvmeCtl.fresh] using h

section
variable {s : State} (h : Live s) {f : Crib}
include h

theorem exec_ccEnSet_none {cc aqa : Nat} (hn : s.host.ctl[f].en = true ∨ s.fnThere f = false ∨ s.boot.crs = true) :
    exec (.ccEnSet f cc aqa) s = .next s := by
  rw [exec_ccEnSet, execCcEnSet]
  refine act_eq_self h (if_pos ?_)
  simpa [or_assoc] using hn

theorem exec_ccEnSet_enables {cc aqa : Nat} (he : s.host.ctl[f].en = false) (ht : s.fnThere f = true) (hb : s.boot.crs = false) :
    exec (.ccEnSet f cc aqa) s = .next (s.setCtl f fun _ => enabledCtl s f cc aqa) := by
  rw [exec_ccEnSet, execCcEnSet]
  exact act_eq_of_keep h ((if_neg (by rw [he, ht, hb]; decide)).trans (ctlReady_enabled s f cc aqa)) (keep_eq rfl rfl rfl rfl rfl)

theorem exec_ccShn_none {shn : Nat} (hn : s.host.ctl[f].rdy = false ∨ (shn ≠ 1 ∧ shn ≠ 2)) : exec (.ccShn f shn) s = .next s := by
  rw [exec_ccShn, execCcShn]
  refine act_eq_self h (if_neg ?_)
  obtain hr | hs := hn
  · rw [hr]
    exact Bool.false_ne_true
  · simp [hs]

theorem exec_ccShn_starts {shn : Nat} (hr : s.host.ctl[f].rdy = true) (hs : shn = 1 ∨ shn = 2) :
    exec (.ccShn f shn) s = .next (keep s (settleQueues (s.setCtl f fun g => { g with shst := 1 }))) := by
  rw [exec_ccShn, execCcShn]
  refine act_eq h (if_pos ?_)
  rw [hr]
  simpa using hs

theorem exec_keepAliveExpiry_none (hn : adminServed s (.sq f 0) = false ∨ s.host.ctl[f].kato = 0) :
    exec (.keepAliveExpiry f) s = .next s := by
  rw [exec_keepAliveExpiry, execKeepAliveExpiry]
  refine act_eq_self h (if_neg ?_)
  obtain hv | hk := hn
  · rw [hv]
    exact Bool.false_ne_true
  · rw [hk]
    simp

theorem exec_keepAliveExpiry_due (hv : adminServed s (.sq f 0) = true) (hk : s.host.ctl[f].kato ≠ 0) :
    exec (.keepAliveExpiry f) s = .next (keep s (hqViol (s.setCtl f fun g => { g with cfs := true }) f 4 f 0)) := by
  rw [exec_keepAliveExpiry, execKeepAliveExpiry]
  refine act_eq h (if_pos ?_)
  rw [hv]
  simpa using hk

end

/-- A host's violation leaves the controllers alone. -/
theorem host_hqViol (s : State) (c k wher node : Nat) : (hqViol s c k wher node).host = s.host :=
  (evtReach_violation _ _ _ _ _ _ _).only.host_eq

/-- It counts once in the crib's count of its kind (R442). -/
theorem count_hqViol (s : State) (c : Crib) {k : Nat} (hk : k < 8) (wher node : Nat) :
    (hqViol s c k wher node).g Od.HQ_VIOL_CNT (8 * c + k) = (s.g Od.HQ_VIOL_CNT (8 * c + k) + 1) % 2 ^ 32 := by
  have hx : Quiet (Od.HQ_VIOL_CNT.el (8 * c + k)) := by simp only [Quiet, Ob.el, Od.HQ_VIOL_CNT]; omega
  exact (at_violation _ _ _ _ _ _ _ hx).g.trans (State.g_inc_self ..)

/-- No I/O command is fetched from a controller in CFS (R441). -/
theorem fetching_of_cfs {s : State} {f : Crib} {qid : Nat} (hc : s.host.ctl[f].cfs = true) : s.fetching (.sq f qid) = false := by
  have hctl : s.ctlOf (.sq f qid) = some s.host.ctl[f] := rfl
  unfold State.fetching
  rw [hctl]
  dsimp only
  rw [hc]
  simp

/-! ### MSI-X and configuration requests (R108, R400, R401, R604, R613) -/

/-- A vector's message changes of its function no more than what is pending. -/
theorem fns_msix (s : State) (f : Crib) (vec : Nat) :
    (s.msix f vec).fns[f].vtab = s.fns[f].vtab ∧ (s.msix f vec).fns[f].vmask = s.fns[f].vmask := by
  unfold State.msix
  rw [dif_pos f.isLt]
  dsimp only
  split
  · have hset (x : Fn) : (s.fns.set f.val x f.isLt)[f] = x := Vector.getElem_set_self ..
    rw [hset]
    exact ⟨rfl, rfl⟩
  · exact ⟨rfl, rfl⟩

/-- A function with an MSI-X entry written: its address and data, its mask, and nothing of it pending once it is to be sent. -/
def Fn.entryPut (fn : Fn) (vec : Fin 64) (addr data : Nat) (masked : Bool) : Fn :=
  { fn with
    vtab := Keyed.insert fn.vtab vec (addr, data)
    vmask := if masked then fn.vmask ||| BitVec.twoPow 64 vec else fn.vmask &&& ~~~ BitVec.twoPow 64 vec
    vpend := if !masked && fn.vpend.getLsbD vec then fn.vpend &&& ~~~ BitVec.twoPow 64 vec else fn.vpend }

theorem vmask_entryPut_self (fn : Fn) (vec : Fin 64) (addr data : Nat) (m : Bool) : (fn.entryPut vec addr data m).vmask.getLsbD vec = m := by
  cases m <;> simp [Fn.entryPut]

theorem vmask_entryPut_ne (fn : Fn) {vec w : Fin 64} (addr data : Nat) (m : Bool) (hw : w ≠ vec) :
    (fn.entryPut vec addr data m).vmask.getLsbD w = fn.vmask.getLsbD w := by
  have hv : w.val ≠ vec.val := fun he => hw (Fin.ext he)
  cases m <;> simp [Fn.entryPut, hv]

/-- A function's MSI-X entry is written, and its message sent where it waited for its mask alone. -/
def entryWritten (s : State) (f : Crib) (vec : Fin 64) (addr data : Nat) (m : Bool) : State :=
  let u : State := { s with fns := s.fns.set f (s.fns[f].entryPut vec addr data m) }
  if !m && s.fns[f].vpend.getLsbD vec then u.msix f vec else u

/-- Nothing but the functions and what is sent differs; the entry and its mask are those written. -/
theorem entryWritten_entry (s : State) (f : Crib) (vec : Fin 64) (addr data : Nat) (m : Bool) :
    EvtReach { s with fns := s.fns.set f (s.fns[f].entryPut vec addr data m) } (entryWritten s f vec addr data m) ∧
    (entryWritten s f vec addr data m).od = s.od ∧
    (entryWritten s f vec addr data m).fns[f].vtab = (s.fns[f].entryPut vec addr data m).vtab ∧
    (entryWritten s f vec addr data m).fns[f].vmask = (s.fns[f].entryPut vec addr data m).vmask := by
  have hput : (s.fns.set f.val (s.fns[f].entryPut vec addr data m) f.isLt)[f] = s.fns[f].entryPut vec addr data m :=
    Vector.getElem_set_self ..
  unfold entryWritten
  dsimp only
  split
  · obtain ⟨htab, hmask⟩ := fns_msix { s with fns := s.fns.set f (s.fns[f].entryPut vec addr data m) } f vec
    exact ⟨evtReach_msix _ _ _, od_msix _ _ _, by rw [htab, hput], by rw [hmask, hput]⟩
  · exact ⟨.refl _, rfl, by rw [hput], by rw [hput]⟩

/-- With its mask set nothing is sent and what waits goes on waiting. -/
theorem entryWritten_masked (s : State) (f : Crib) (vec : Fin 64) (addr data : Nat) :
    (entryWritten s f vec addr data true).fns[f].vpend = s.fns[f].vpend ∧ (entryWritten s f vec addr data true).out = s.out := by
  have hput : (s.fns.set f.val (s.fns[f].entryPut vec addr data true) f.isLt)[f] = s.fns[f].entryPut vec addr data true :=
    Vector.getElem_set_self ..
  exact ⟨(congrArg Fn.vpend hput :), rfl⟩

section
variable {s : State} (h : Live s) {f : Crib}
include h

theorem exec_msixTableWrite_none {vec : Fin 64} {addr data : Nat} {m : Bool} (hn : s.fnThere f = false ∨ s.boot.crs = true) :
    exec (.msixTableWrite f vec addr data m) s = .next s := by
  rw [exec_msixTableWrite, execMsixTableWrite]
  exact act_eq_self h (if_pos (by simpa using hn))

theorem exec_msixTableWrite_writes (vec : Fin 64) (addr data : Nat) (m : Bool) (ht : s.fnThere f = true) (hb : s.boot.crs = false) :
    exec (.msixTableWrite f vec addr data m) s = .next (entryWritten s f vec addr data m) := by
  obtain ⟨hreach, -⟩ := entryWritten_entry s f vec addr data m
  rw [exec_msixTableWrite, execMsixTableWrite]
  exact act_eq_of_keep h (if_neg (by rw [ht, hb]; decide)) (keep_only hreach.only)

variable (bme : Option Bool) (vfs : Option Nat)

theorem exec_pcieConfigRequest_retry (hb : s.boot.crs = true) : exec (.pcieConfigRequest f bme vfs) s = .next (s.emit (.pcie f 1)) := by
  rw [exec_pcieConfigRequest, execPcieConfigRequest]
  exact act_eq_of_keep h (if_pos hb) (keep_eq rfl rfl rfl rfl rfl)

theorem exec_pcieConfigRequest_absent (hb : s.boot.crs = false) (ht : s.fnThere f = false) :
    exec (.pcieConfigRequest f bme vfs) s = .next (s.emit (.pcie f 2)) := by
  rw [exec_pcieConfigRequest, execPcieConfigRequest]
  exact act_eq_of_keep h ((if_neg (ne_true_of_eq_false hb)).trans (if_pos (by simp [ht]))) (keep_eq rfl rfl rfl rfl rfl)

section
variable (hb : s.boot.crs = false) (ht : s.fnThere f = true)
include hb ht

theorem exec_pcieConfigRequest_plain : exec (.pcieConfigRequest f none none) s = .next (s.emit (.pcie f 0)) := by
  rw [exec_pcieConfigRequest, execPcieConfigRequest]
  exact act_eq_of_keep h ((if_neg (ne_true_of_eq_false hb)).trans (if_neg (by simp [ht]))) (keep_eq rfl rfl rfl rfl rfl)

/-- The PF's number of enabled VFs is written. -/
theorem exec_pcieConfigRequest_vfs (n : Nat) (hf : f.val = 0) : exec (.pcieConfigRequest f none (some n)) s =
    .next (({ s with host := { s.host with numVfs := min n 32 } } : State).emit (.pcie f 0)) := by
  rw [exec_pcieConfigRequest, execPcieConfigRequest]
  refine act_eq_of_keep h ((if_neg (ne_true_of_eq_false hb)).trans ((if_neg (by simp [ht])).trans ?_)) (keep_eq rfl rfl rfl rfl rfl)
  dsimp only
  rw [if_pos hf]

/-- Bus Master Enable is cleared. -/
theorem exec_pcieConfigRequest_masterOff : exec (.pcieConfigRequest f (some false) none) s =
    .next (({ s with fns := vmod s.fns f fun x => { x with bme := false } } : State).emit (.pcie f 0)) := by
  rw [exec_pcieConfigRequest, execPcieConfigRequest]
  exact act_eq_of_keep h ((if_neg (ne_true_of_eq_false hb)).trans (if_neg (by simp [ht]))) (keep_eq rfl rfl rfl rfl rfl)

end

end

/-- Settles O41: the queue commands over a connection, Create and Delete of each kind of queue with their refusals in their order, CC.EN,
CC.SHN, the keep-alive timer, the MSI-X table, configuration requests, and the link. The order of the statuses, the start of a controller
and how a message waits are the model's choice (assumption logs 63, 65 and 90). -/
theorem queuesAndControllers : Obligations.QueuesAndControllers := by
  refine ⟨fun s u k hdr qid a b i pc c h ht => exec_queueCommand_conn h ht, fun s u f j hdr qid size cq prio pc h ht => ?createSq,
    fun s u f j hdr qid size vec ien pc h ht => ?createCq, fun s u f j hdr qid h ht => ⟨exec_deleteIoSq_none h ht,
      exec_deleteIoSq_begins h ht, exec_deleteIoCq_none h ht, exec_deleteIoCq_named h ht, exec_deleteIoCq_deletes h ht⟩,
    fun s f cc aqa h => ⟨exec_ccEnSet_none h, fun he ht hb => ?enable⟩, fun s f shn h => ⟨exec_ccShn_none h, exec_ccShn_starts h⟩,
    fun s f h => ⟨exec_keepAliveExpiry_none h, fun hv hk => ?keepAlive⟩,
    fun s f vec addr data m h => ⟨exec_msixTableWrite_none h, fun ht hb => ?msix⟩,
    fun s f bme vfs h => ⟨exec_pcieConfigRequest_retry h bme vfs, exec_pcieConfigRequest_absent h bme vfs, fun hb ht => ⟨?plain, ?vfs,
      ?masterOff⟩, ?peer⟩,
    fun s rate width h => ?link⟩
  case createSq =>
    intro c g no
    have hexec {t : State} := @exec_createIoSq_eq s u f j hdr qid h ht size cq prio pc g rfl t
    clear_value g
    refine ⟨fun hn => hexec (if_pos (by simpa using hn)), fun hq hn => ?_⟩
    have hfree : ¬(!qidOk g qid false || (g.sqs.find? qid).isSome) = true := by simp [hq, hn]
    refine ⟨fun hs => hexec ((if_neg hfree).trans (if_pos hs)), fun h2 h4096 => ?_⟩
    have hsize : ¬(size < 2 ∨ 4096 < size) := by omega
    refine ⟨fun hp => hexec ((if_neg hfree).trans ((if_neg hsize).trans (if_pos (by simp [hp])))), fun hp hc => ?noCq,
      fun hp hc0 hc => ⟨fun hu => ?poolEmpty, fun hu => ?created⟩⟩
    case noCq =>
      exact hexec ((if_neg hfree).trans ((if_neg hsize).trans ((if_neg (by simp [hp])).trans (if_pos (by simpa using hc)))))
    all_goals
      have hcq : ¬(cq = 0 ∨ (g.cqs.find? cq).isNone = true) := by
        rw [← Option.not_isSome, hc]
        simp [hc0]
      refine hexec ((if_neg hfree).trans ((if_neg hsize).trans ((if_neg (by simp [hp])).trans ((if_neg hcq).trans ?_))))
    case poolEmpty => exact if_pos (by simp [hu])
    case created => exact if_neg (by simp [hu])
  case createCq =>
    intro c g no
    have hexec {t : State} := @exec_createIoCq_eq s u f j hdr qid h ht size vec ien pc g rfl t
    clear_value g
    refine ⟨fun hn => hexec (if_pos (by simpa using hn)), fun hq hn => ?_⟩
    have hfree : ¬(!qidOk g qid true || (g.cqs.find? qid).isSome) = true := by simp [hq, hn]
    refine ⟨fun hs => hexec ((if_neg hfree).trans (if_pos hs)), fun h2 h4096 => ?_⟩
    have hsize : ¬(size < 2 ∨ 4096 < size) := by omega
    refine ⟨fun hp => hexec ((if_neg hfree).trans ((if_neg hsize).trans (if_pos (by simp [hp])))), fun hp hv => ?badVector,
      fun hp hv => ⟨fun hu => ?poolEmpty, fun hu => ?created⟩⟩
    all_goals refine hexec ((if_neg hfree).trans ((if_neg hsize).trans ((if_neg (by simp [hp])).trans ?_)))
    case badVector => exact if_pos hv
    case poolEmpty => exact (if_neg (not_le.2 hv)).trans (if_pos (by simp [hu]))
    case created => exact (if_neg (not_le.2 hv)).trans (if_neg (by simp [hu]))
  case enable =>
    have hctl := State.ctl_setCtl s f fun _ => enabledCtl s f cc aqa
    have hsettings : (enabledCtl s f cc aqa).en = true ∧ (enabledCtl s f cc aqa).cc = cc ∧ (enabledCtl s f cc aqa).nq = none ∧
        (enabledCtl s f cc aqa).cfs = false := by
      unfold enabledCtl
      split <;> exact ⟨rfl, rfl, rfl, rfl⟩
    refine ⟨_, exec_ccEnSet_enables h he ht hb, ?_⟩
    rw [hctl]
    obtain ⟨hen, hcc, hnq, hcfs⟩ := hsettings
    exact ⟨rfl, hen, hcc, hnq, hcfs, rdy_enabledCtl s f cc aqa⟩
  case keepAlive =>
    have hcfs : (keep s (hqViol (s.setCtl f fun g => { g with cfs := true }) f 4 f 0)).host.ctl[f].cfs = true := by
      rw [keep_host, host_hqViol, State.ctl_setCtl]
    exact ⟨_, exec_keepAliveExpiry_due h hv hk, hcfs, count_hqViol _ f (by decide) f 0, fetching_of_cfs hcfs⟩
  case msix =>
    obtain ⟨hreach, hod, htab, hmask⟩ := entryWritten_entry s f vec addr data m
    refine ⟨_, exec_msixTableWrite_writes h vec addr data m ht hb, ?_, ?_, fun w hw => ?_, hod, hreach.only.host_eq, ?_⟩
    · rw [htab]
      exact (Keyed.find?_insert ..).trans (if_pos rfl)
    · rw [hmask, vmask_entryPut_self]
    · rw [hmask, vmask_entryPut_ne _ _ _ _ hw]
    · rintro rfl
      exact entryWritten_masked s f vec addr data
  case plain => rintro rfl rfl; exact exec_pcieConfigRequest_plain h hb ht
  case vfs => rintro n hf rfl rfl; exact exec_pcieConfigRequest_vfs h hb ht n hf
  case masterOff => rintro rfl rfl; exact exec_pcieConfigRequest_masterOff h hb ht
  case peer =>
    rw [exec_peerBarRequest, execPeerBarRequest]
    exact act_eq_of_keep h rfl (keep_eq rfl rfl rfl rfl rfl)
  case link =>
    rw [exec_perstNRelease, execPerstNRelease]
    exact act_eq_of_keep h rfl (keep_p ..)

end Sys2Proof.Machine
end

section
/-! SUPPORT. Identify, log pages, features, Abort, events and Keep Alive. -/

namespace Sys2Proof.Machine

/-! ### Identify and Get Log Page (R405, R410, R411, R488) -/

section
variable {s u : State} {q : IoQueue} {hdr : IoHdr} (h : Live s) (ht : AdminClear s q hdr u)
include h ht

theorem exec_identify_controller (csi : Nat) :
    exec (.identify q hdr 1 csi) s = .next (keep s (adminData u.useFree q hdr (identifyCtl u q))) := exec_adminClear h ht rfl rfl

theorem exec_identify_noNamespace (csi : Nat) (hn : u.nsOf (u.queueCrib q) hdr.nsid = none) :
    exec (.identify q hdr 0 csi) s = .next (keep s ((cribViol u (u.queueCrib q) 2).complete q hdr.cid .invalidNamespace)) := by
  refine exec_adminClear h ht rfl ?_
  dsimp only
  rw [hn]
  rfl

theorem exec_identify_namespace (csi : Nat) {i : Nat} {n : Ns} (hn : u.nsOf (u.queueCrib q) hdr.nsid = some (i, n)) :
    exec (.identify q hdr 0 csi) s = .next (keep s (adminData u.useFree q hdr (identifyNs u n))) := by
  refine exec_adminClear h ht rfl ?_
  dsimp only
  rw [hn]
  rfl

/-- The structures of every function are the PF's to read (R410). -/
theorem exec_identify_pfOnly {cns : Nat} (csi : Nat) (hc : cns = 0x10 ∨ cns = 0x11 ∨ cns = 0x12) (hq : onPf q = false) :
    exec (.identify q hdr cns csi) s = .next (keep s (u.complete q hdr.cid .invalidField)) := by
  obtain rfl | rfl | rfl := hc <;> exact exec_adminClear h ht rfl (if_neg (by simp [hq]))

/-- Those of a command set are those of the Zoned one (R410). -/
theorem exec_identify_otherSet {cns csi : Nat} (hc : cns = 5 ∨ cns = 6) (hs : csi ≠ 2) :
    exec (.identify q hdr cns csi) s = .next (keep s (u.complete q hdr.cid .invalidField)) := by
  obtain rfl | rfl := hc <;> exact exec_adminClear h ht rfl (if_neg hs)

theorem exec_identify_unknown {cns : Nat} (csi : Nat) (hc : cns ∉ [0, 1, 2, 3, 5, 6, 7, 0x10, 0x11, 0x12, 0x1C]) :
    exec (.identify q hdr cns csi) s = .next (keep s (u.complete q hdr.cid .invalidField)) := by
  refine exec_adminClear h ht rfl ?_
  dsimp only
  split
  case h_12 => rfl
  all_goals exact absurd (by decide) hc

theorem exec_getLogPage_unknown {lid : Nat} (bytes off : Nat) (hl : lid ∉ [1, 2, 4, 5, 0x81, 0xBF]) :
    exec (.getLogPage q hdr lid bytes off) s = .next (keep s (u.complete q hdr.cid .invalidField)) := by
  refine exec_adminClear h ht rfl ?_
  dsimp only
  split
  case h_7 => rfl
  all_goals exact absurd (by decide) hl

theorem exec_getLogPage_sanitizeElsewhere (bytes off : Nat) (hq : onPf q = false) :
    exec (.getLogPage q hdr 0x81 bytes off) s = .next (keep s (u.complete q hdr.cid .invalidField)) :=
  exec_adminClear h ht rfl (if_neg (by simp [hq]))

theorem exec_getLogPage_sanitize (bytes off : Nat) (hq : onPf q = true) :
    exec (.getLogPage q hdr 0x81 bytes off) s =
      .next (keep s (adminData u.useFree q hdr (padTo bytes (slice off bytes (sanitizeLog u))))) :=
  exec_adminClear h ht rfl (if_pos hq)

theorem exec_getLogPage_changedNs (bytes off : Nat) :
    exec (.getLogPage q hdr 4 bytes off) s = .next (keep s
      (adminData (u.modCtl q fun g => { g with changedNs := [] }).useFree q hdr (padTo bytes (slice off bytes
        (padTo 4096 (((u.ctlOf q).getD NvmeCtl.fresh).changedNs.flatMap fun n => leBytes 4 n)))))) := exec_adminClear h ht rfl rfl

/-! ### Features (R408, R412, R417) -/

theorem exec_setFeatures_unknown {fid : Nat} (v : Nat) {save : Bool} (hf : fid ∉ [1, 2, 4, 7, 8, 9, 0xB, 0xF] ∨ save = true) :
    exec (.setFeatures q hdr fid v save) s = .next (keep s (u.complete q hdr.cid .invalidField)) := by
  refine exec_adminClear h ht rfl (if_pos ?_)
  simpa [featureIds] using hf

theorem exec_getFeatures_unknown {fid sel : Nat} (hf : fid ∉ [1, 2, 4, 7, 8, 9, 0xB, 0xF] ∨ sel ≠ 0) :
    exec (.getFeatures q hdr fid sel) s = .next (keep s (u.complete q hdr.cid .invalidField)) := by
  refine exec_adminClear h ht rfl (if_pos ?_)
  simpa [featureIds] using hf

theorem exec_setFeatures_power {v : Nat} :
    exec (.setFeatures q hdr 2 v false) s = .next (keep s (if v % 32 ≠ 0 then u.complete q hdr.cid .invalidField
      else u.complete q hdr.cid .success)) := exec_adminClear h ht rfl rfl

theorem exec_setFeatures_queuesAgain (v : Nat) (hn : ((u.ctlOf q).bind fun g => g.nq).isSome = true) :
    exec (.setFeatures q hdr 7 v false) s = .next (keep s (u.complete q hdr.cid .commandSequence)) := exec_adminClear h ht rfl (if_pos hn)

theorem exec_setFeatures_queues (v : Nat) (hn : ((u.ctlOf q).bind fun g => g.nq) = none) :
    let most := u.g Od.CRIB_QP_MAX (u.queueCrib q) - 1
    let n := min most (v % 65536) + 65536 * min most (v / 65536 % 65536)
    exec (.setFeatures q hdr 7 v false) s = .next (keep s
      ((u.modCtl q fun g => { g with nq := some n }).complete q hdr.cid .success none n)) := by
  have hnone : ¬((u.ctlOf q).bind fun g => g.nq).isSome = true := by
    rw [hn]
    exact Bool.false_ne_true
  exact exec_adminClear h ht rfl (if_neg hnone)

theorem exec_setFeatures_keepAlive (v : Nat) : exec (.setFeatures q hdr 0xF v false) s = .next (keep s
    ((u.modCtl q fun g => { g with kato := v % 2 ^ 32 }).complete q hdr.cid .success)) := exec_adminClear h ht rfl rfl

theorem exec_setFeatures_kept {fid : Nat} (v : Nat) (hf : fid ∈ [1, 4, 8, 9, 0xB]) : exec (.setFeatures q hdr fid v false) s = .next (keep s
    ((u.modCtl q fun g => { g with feats := Keyed.put g.feats fid (v % 2 ^ 32) 0 }).complete q hdr.cid .success)) := by
  simp only [List.mem_cons, List.not_mem_nil, or_false] at hf
  obtain rfl | rfl | rfl | rfl | rfl := hf <;> exact exec_adminClear h ht rfl rfl

/-! ### Abort, events and Keep Alive (R409, R420, R439) -/

theorem exec_abort_noQueue {qid : Nat} (cid : Nat) (hq : sameCtl u q qid = none) :
    exec (.abort q hdr qid cid) s = .next (keep s (u.complete q hdr.cid .success none 1)) := by
  refine exec_adminClear h ht rfl ?_
  dsimp only
  rw [hq]
  rfl

section
variable {qid cid : Nat} {tq : IoQueue} {x : Ctx} (hq : sameCtl u q qid = some tq)
  (hx : (u.host.ctxs.find? fun x => x.queue == tq && x.cid == cid) = some x)
include hq hx

theorem exec_abort_started (hs : ctxStarted u x = true ∨ x.result.isSome = true) :
    exec (.abort q hdr qid cid) s = .next (keep s (u.complete q hdr.cid .success none 1)) := by
  refine exec_adminClear h ht rfl ?_
  dsimp only
  rw [hq]
  dsimp only
  rw [hx]
  exact if_pos (by simpa using hs)

theorem exec_abort_unstarted (hs : ctxStarted u x = false) (hr : x.result = none) :
    exec (.abort q hdr qid cid) s = .next (keep s ((endCtx u x .abortRequested).complete q hdr.cid .success)) := by
  refine exec_adminClear h ht rfl ?_
  dsimp only
  rw [hq]
  dsimp only
  rw [hx]
  exact if_neg (by simp [hs, hr])

end

theorem exec_asynchronousEventRequest_answered {e : AsyncEvent} {rest : List AsyncEvent}
    (hk : ((u.ctlOf q).getD NvmeCtl.fresh).kept = e :: rest) : exec (.asynchronousEventRequest q hdr) s = .next (keep s
      ((u.modCtl q fun g => { g with kept := rest }).post ⟨q, hdr.cid, .success, none, 0, 0, some e, 0⟩)) := by
  refine exec_adminClear h ht rfl ?_
  dsimp only
  rw [hk]

theorem exec_asynchronousEventRequest_waits (hk : ((u.ctlOf q).getD NvmeCtl.fresh).kept = []) :
    exec (.asynchronousEventRequest q hdr) s = .next (keep s
      (if 4 ≤ ((u.ctlOf q).getD NvmeCtl.fresh).aers.length then u.complete q hdr.cid .asyncLimit
        else u.modCtl q fun g => { g with aers := g.aers ++ [hdr.cid] })) := by
  refine exec_adminClear h ht rfl ?_
  dsimp only
  rw [hk]
  rfl

end

/-- Settles O42: an opcode that the controller does not have, then Identify, the log pages, the features, Abort, events and Keep Alive. The
bytes of the pages, the details of the features and what Abort takes for started are the model's choice (assumption logs 63 to 66). -/
theorem identifyLogsFeaturesAndAbort : Obligations.IdentifyLogsFeaturesAndAbort := by
  refine ⟨fun s q hdr opc h => ⟨fun u hq ht => ?invalidAdmin, fun u hq ht => ?invalidIo⟩, fun s u q hdr h ht => ?_⟩
  case invalidAdmin =>
    rw [exec_invalidCommandOpcode, execInvalidCommandOpcode]
    exact act_eq h ((if_pos hq).trans (adminTake_clear ht _))
  case invalidIo =>
    rw [exec_invalidCommandOpcode, execInvalidCommandOpcode]
    exact act_eq h ((if_neg (by simp [hq])).trans ((ioSubmit_taken ht).trans (ioAdmit_refused rfl)))
  intro no
  refine ⟨fun cns csi => ⟨?identifyController, ?noNamespace, ?oneNamespace, exec_identify_pfOnly h ht csi, exec_identify_otherSet h ht,
      exec_identify_unknown h ht csi⟩,
    fun lid bytes off => ⟨exec_getLogPage_unknown h ht bytes off, ?sanitizeElsewhere, ?sanitizeLog, ?changedNs⟩,
    fun fid v save => ⟨exec_setFeatures_unknown h ht v, fun hs => ?setFeatures⟩,
    fun fid sel => ⟨exec_getFeatures_unknown h ht, ?getQueues, ?getKeepAlive⟩,
    fun qid cid => ⟨exec_abort_noQueue h ht cid, fun tq x hq hx => ⟨exec_abort_started h ht hq hx, exec_abort_unstarted h ht hq hx⟩⟩,
    fun e rest => exec_asynchronousEventRequest_answered h ht, fun hk => ⟨fun hn => ?tooMany, fun hn => ?waits⟩,
    exec_adminClear h ht rfl rfl⟩
  case identifyController => rintro rfl; exact exec_identify_controller h ht csi
  case noNamespace => rintro rfl hn; exact exec_identify_noNamespace h ht csi hn
  case oneNamespace => rintro rfl i n hn; exact exec_identify_namespace h ht csi hn
  case sanitizeElsewhere => rintro rfl hq; exact exec_getLogPage_sanitizeElsewhere h ht bytes off hq
  case sanitizeLog => rintro rfl hq; exact exec_getLogPage_sanitize h ht bytes off hq
  case changedNs => rintro rfl; exact exec_getLogPage_changedNs h ht bytes off
  case setFeatures =>
    subst hs
    refine ⟨?powerBad, ?power, ?queuesAgain, ?queues, ?keepAlive, exec_setFeatures_kept h ht v⟩
    case powerBad => rintro rfl hv; rw [exec_setFeatures_power h ht, if_pos hv]
    case power => rintro rfl hv; rw [exec_setFeatures_power h ht, if_neg (not_not_intro hv)]
    case queuesAgain => rintro rfl hn; exact exec_setFeatures_queuesAgain h ht v hn
    case queues => rintro rfl hn; exact exec_setFeatures_queues h ht v hn
    case keepAlive => rintro rfl; exact exec_setFeatures_keepAlive h ht v
  case getQueues => rintro rfl rfl; exact exec_adminClear h ht rfl rfl
  case getKeepAlive => rintro rfl rfl; exact exec_adminClear h ht rfl rfl
  case tooMany => rw [exec_asynchronousEventRequest_waits h ht hk, if_pos hn]
  case waits => rw [exec_asynchronousEventRequest_waits h ht hk, if_neg (not_le.2 hn)]

end Sys2Proof.Machine
end

section
/-! SUPPORT. Namespaces, Format NVM, Sanitize, and how admin operations advance. -/

namespace Sys2Proof.Machine

/-! ### Admin commands that a running Sanitize holds back (R485) -/

/-- An entry that is taken while no Sanitize runs and passes its checks has its command's own effect. -/
theorem adminTake_passes {s u : State} {q : IoQueue} {hdr : IoHdr} (ht : AdminClear s q hdr u) (hz : u.admin.sanitize.state ≠ 2)
    (during : Bool) (f : State → State) : adminTake s q hdr during f = f u := by
  obtain ⟨htaken, hfuse, hrsv, hprp⟩ := ht
  rw [adminTake_taken htaken, if_neg (by simp [hz]), if_neg (by simp [hfuse, hrsv]), if_neg (by simp [hprp])]

section
variable {s u : State} {q : IoQueue} {hdr : IoHdr} (h : Live s) (ht : AdminClear s q hdr u) (hz : u.admin.sanitize.state ≠ 2)
include h ht hz

theorem exec_adminPasses {c : Instr} {f : State → State} {t : State} (hc : exec c s = act s fun v => adminTake v q hdr false f)
    (hf : f u = t) : exec c s = .next (keep s t) := by
  rw [hc, act_live h, adminTake_passes ht hz, hf]

/-! ### Namespaces (R409, R422, R424) -/

section
variable {csi flbas nsze ncap media so : Nat}

theorem exec_namespaceCreate_elsewhere (hq : onPf q = false) :
    exec (.namespaceCreate q hdr csi flbas nsze ncap media so) s = .next (keep s (u.complete q hdr.cid .invalidOpcode)) :=
  exec_adminPasses h ht hz rfl (if_pos (by simp [hq]))

variable (hq : onPf q = true)
include hq

theorem exec_namespaceCreate_badField
    (hb : csi ≠ 2 ∨ flbas ≠ 0 ∨ ncap ≠ nsze ∨ nsze % zoneBlocks ≠ 0 ∨ (media ≠ 1 ∧ media ≠ 2) ∨ 1 < so) :
    exec (.namespaceCreate q hdr csi flbas nsze ncap media so) s = .next (keep s (u.complete q hdr.cid .invalidField)) :=
  exec_adminPasses h ht hz rfl ((if_neg (by simp [hq])).trans (if_pos hb))

variable (hb : ¬(csi ≠ 2 ∨ flbas ≠ 0 ∨ ncap ≠ nsze ∨ nsze % zoneBlocks ≠ 0 ∨ (media ≠ 1 ∧ media ≠ 2) ∨ 1 < so))
include hb

theorem exec_namespaceCreate_tooLarge (hl : (u.freeDiscZones media (so == 1)).length < nsze / zoneBlocks) :
    exec (.namespaceCreate q hdr csi flbas nsze ncap media so) s = .next (keep s (u.complete q hdr.cid .insufficientCapacity)) :=
  exec_adminPasses h ht hz rfl ((if_neg (by simp [hq])).trans ((if_neg hb).trans (if_pos hl)))

end
end

/-- A namespace of free disc zones, not yet attached (R422). -/
def freshNs (u : State) (zones media so : Nat) : Ns :=
  { zones := zones, media := media, stookOnly := so == 1, attached := none
    reserved := (u.freeDiscZones media (so == 1)).take zones, lastMag := none }

/-- Namespace slot `i` is taken by a namespace whose key is being generated. -/
def nsCreated (u : State) (i : Nat) (n : Ns) : State :=
  keyStart (((({ u with host := { u.host with ns := u.host.ns.insert i n } } : State).p Od.NS_ZONES_BOUND i 0).p
    Od.NS_FORMAT_STATE i 0).p Od.NS_ZONES_SHORT i 0) i 1

theorem exec_namespaceCreate_creates {s u : State} {q : IoQueue} {hdr : IoHdr} (h : Live s) (ht : AdminClear s q hdr u)
    (hz : u.admin.sanitize.state ≠ 2) {csi flbas nsze ncap media so : Nat} (hq : onPf q = true)
    (hb : ¬(csi ≠ 2 ∨ flbas ≠ 0 ∨ ncap ≠ nsze ∨ nsze % zoneBlocks ≠ 0 ∨ (media ≠ 1 ∧ media ≠ 2) ∨ 1 < so))
    (hl : nsze / zoneBlocks ≤ (u.freeDiscZones media (so == 1)).length) {i : Nat}
    (hi : ((List.range 256).find? fun i => (u.host.ns.find? i).isNone && u.g Od.NS_KEY_STATE i != 3) = some i) :
    exec (.namespaceCreate q hdr csi flbas nsze ncap media so) s =
      .next (keep s ((nsCreated u i (freshNs u (nsze / zoneBlocks) media so)).complete q hdr.cid .success none (i + 1))) := by
  refine exec_adminPasses h ht hz rfl ((if_neg (by simp [hq])).trans ((if_neg hb).trans ((if_neg (not_lt.2 hl)).trans ?_)))
  dsimp only
  rw [hi]
  rfl

/-- A record write leaves the namespaces alone. -/
theorem ns_chestWrite (s : State) (region pos : Nat) : (s.chestWrite region pos).host.ns = s.host.ns := by
  have hkeep : (s.chestKeep region pos).host.ns = s.host.ns := by
    unfold State.chestKeep
    split
    · rfl
    · split <;> rfl
  have hmade : (s.chestMade region pos).host.ns = s.host.ns := by
    refine Eq.trans ?_ hkeep
    unfold State.chestMade
    dsimp only
    split <;> rfl
  unfold State.chestWrite State.chestPut
  split
  · rfl
  · split
    · exact hmade
    · rfl

theorem ns_keyStart (s : State) (n kind : Nat) : (keyStart s n kind).host.ns = s.host.ns := by
  rw [keyStart_eq, ns_chestWrite]
  rfl

theorem ns_nsCreated (u : State) (i : Nat) (n : Ns) : (nsCreated u i n).host.ns = u.host.ns.insert i n := ns_keyStart _ i 1

theorem keys_nsCreated (u : State) (i : Nat) (n : Ns) : ((nsCreated u i n).keys.ops.find? i).isSome = true := by
  rw [nsCreated, keys_keyStart, keysAsked, Keyed.find?_insert, if_pos rfl]
  rfl

theorem g_nsCreated {u : State} {i : Nat} (n : Ns) (hi : i < 256) : (nsCreated u i n).g Od.NS_KEY_STATE i = 3 ∧
    (nsCreated u i n).g Od.NS_ZONES_BOUND i = 0 ∧ (nsCreated u i n).g Od.NS_ZONES_SHORT i = 0 := by
  unfold nsCreated
  refine ⟨g_keyStart_state _ ⟨i, hi⟩ 1, ?_, ?_⟩
  · rw [(objectsKeptEv_keyStart _ i 1).g (by simp only [List.mem_singleton, Ob.el, Od.NS_ZONES_BOUND, Od.NS_KEY_STATE]; omega)
      (by simp only [Ob.el, Od.NS_ZONES_BOUND]; omega), State.g_p_other _ _ _ (by decide), State.g_p_other _ _ _ (by decide), State.g_p_self]
    rfl
  · rw [(objectsKeptEv_keyStart _ i 1).g (by simp only [List.mem_singleton, Ob.el, Od.NS_ZONES_SHORT, Od.NS_KEY_STATE]; omega)
      (by simp only [Ob.el, Od.NS_ZONES_SHORT]; omega), State.g_p_self]
    rfl

/-- The slot that a new namespace takes is one of the 256. -/
theorem lt_of_find?_range {k i : Nat} {p : Nat → Bool} (h : (List.range k).find? p = some i) : i < k :=
  List.mem_range.1 (List.mem_of_find?_eq_some h)

/-- Namespace slot `i` is attached to a function, or to none. -/
def nsAttached (u : State) (i : Nat) (n : Ns) (a : Option Nat) : State :=
  { u with host := { u.host with ns := u.host.ns.insert i { n with attached := a } } }

/-- The command that an admitted Format NVM of one namespace is kept as. -/
def formatOf (u : State) (q : IoQueue) (hdr : IoHdr) (ses i : Nat) : FormatCmd :=
  { id := u.host.nextCtx, queue := q, cid := hdr.cid, func := u.queueCrib q, ses := ses, units := [i], format := true
    certify := false, ops := 1, failed := false, started := false }

section
variable {s u : State} {q : IoQueue} {hdr : IoHdr} (h : Live s) (ht : AdminClear s q hdr u) (hz : u.admin.sanitize.state ≠ 2)
include h ht hz

theorem exec_namespaceDelete_elsewhere (hq : onPf q = false) :
    exec (.namespaceDelete q hdr) s = .next (keep s (u.complete q hdr.cid .invalidOpcode)) :=
  exec_adminPasses h ht hz rfl (if_pos (by simp [hq]))

/-- A delete of one namespace has the effect that its checks come to, in their order. -/
theorem exec_namespaceDelete_eq (hq : onPf q = true) (hall : hdr.nsid ≠ 0xFFFFFFFF) : exec (.namespaceDelete q hdr) s = .next (keep s
    (if hdr.nsid = 0 ∨ (u.host.ns.find? (hdr.nsid - 1)).isNone then u.complete q hdr.cid .invalidNamespace
      else if u.g Od.NS_FORMAT_STATE (hdr.nsid - 1) = 1 then u.complete q hdr.cid .formatInProgress
      else (deleteNs u (hdr.nsid - 1)).complete q hdr.cid .success)) :=
  exec_adminPasses h ht hz rfl ((if_neg (by simp [hq])).trans ((if_neg (by simp [hall])).trans (if_neg hall)))

theorem exec_namespaceAttachment_elsewhere (attach : Bool) (fs : List Crib) (hq : onPf q = false) :
    exec (.namespaceAttachment q hdr attach fs) s = .next (keep s (u.complete q hdr.cid .invalidOpcode)) :=
  exec_adminPasses h ht hz rfl (if_pos (by simp [hq]))

theorem exec_namespaceAttachment_unnamed (attach : Bool) (fs : List Crib) (hq : onPf q = true) (hn : hdr.nsid = 0) :
    exec (.namespaceAttachment q hdr attach fs) s = .next (keep s (u.complete q hdr.cid .invalidNamespace)) := by
  refine exec_adminPasses h ht hz rfl ((if_neg (by simp [hq])).trans ?_)
  rw [if_pos hn]
  rfl

/-- An attachment of one namespace and one function has the effect that its checks come to, in their order. -/
theorem exec_namespaceAttachment_eq {attach : Bool} {f : Crib} {n : Ns} (hq : onPf q = true) (h0 : hdr.nsid ≠ 0)
    (hn : u.host.ns.find? (hdr.nsid - 1) = some n) {t : State}
    (hr : (if u.g Od.NS_FORMAT_STATE (hdr.nsid - 1) = 1 then u.complete q hdr.cid .formatInProgress
      else if attach then
        if n.attached.isSome then u.complete q hdr.cid .alreadyAttached
        else if 8 ≤ (u.host.ns.filter fun p => p.2.attached == some f.val).length then u.complete q hdr.cid .attachLimit
        else (nsChanged (nsAttached u (hdr.nsid - 1) n (some f.val)) f hdr.nsid).complete q hdr.cid .success
      else if n.attached ≠ some f.val then u.complete q hdr.cid .notAttached
      else (nsChanged (nsAttached u (hdr.nsid - 1) n none) f hdr.nsid).complete q hdr.cid .success) = t) :
    exec (.namespaceAttachment q hdr attach [f]) s = .next (keep s t) := by
  refine exec_adminPasses h ht hz rfl ((if_neg (by simp [hq])).trans (Eq.trans ?_ hr))
  rw [if_neg h0, hn]
  rfl

/-! ### Format NVM (R475 to R479) -/

section
variable {lbaf mset pi pil ses : Nat}

theorem exec_formatNvm_badField (hb : lbaf ≠ 0 ∨ mset ≠ 0 ∨ pi ≠ 0 ∨ pil ≠ 0 ∨ 2 < ses) :
    exec (.formatNvm q hdr lbaf mset pi pil ses) s = .next (keep s (u.complete q hdr.cid .invalidField)) :=
  exec_adminPasses h ht hz rfl (if_pos hb)

variable (hb : ¬(lbaf ≠ 0 ∨ mset ≠ 0 ∨ pi ≠ 0 ∨ pil ≠ 0 ∨ 2 < ses)) (hall : hdr.nsid ≠ 0xFFFFFFFF)
include hb hall

theorem exec_formatNvm_unnamed (hn : u.nsOf (u.queueCrib q) hdr.nsid = none) :
    exec (.formatNvm q hdr lbaf mset pi pil ses) s =
      .next (keep s ((cribViol u (u.queueCrib q) 2).complete q hdr.cid .invalidNamespace)) := by
  refine exec_adminPasses h ht hz rfl ((if_neg hb).trans (if_pos ?_))
  rw [hn]
  simp [hall]

theorem exec_formatNvm_named {i : Nat} {n : Ns} (hn : u.nsOf (u.queueCrib q) hdr.nsid = some (i, n)) :
    exec (.formatNvm q hdr lbaf mset pi pil ses) s = .next (keep s
      (if u.g Od.NS_FORMAT_STATE i = 1 then u.complete q hdr.cid .formatInProgress
      else formatSettle (formatsStart { u with
        host := { u.host with nextCtx := u.host.nextCtx + 1 }
        admin := { u.admin with formats := u.admin.formats ++ [formatOf u q hdr ses i] } }) u.host.nextCtx)) := by
  have hone : (hdr.nsid == 0xFFFFFFFF) = false := by simp [hall]
  refine exec_adminPasses h ht hz rfl ((if_neg hb).trans ((if_neg ?_).trans ?_))
  · rw [hn]
    simp [hall]
  · rw [hn, hone]
    by_cases hf : u.g Od.NS_FORMAT_STATE i = 1
    · rw [if_pos hf]
      exact if_pos (by simp [hf])
    · rw [if_neg hf]
      exact if_neg (by simp [hf])

end
end

/-! ### Sanitize (R483 to R485) -/

section
variable {s u : State} {q : IoQueue} {hdr : IoHdr} (ht : AdminClear s q hdr u) {ndas : Bool} (f : State → State)
include ht

theorem sanitizeTake_elsewhere (hq : onPf q = false) : sanitizeTake s q hdr ndas f = u.complete q hdr.cid .invalidOpcode :=
  (adminTake_clear ht _).trans (if_pos (by simp [hq]))

variable (hq : onPf q = true)
include hq

theorem sanitizeTake_noDealloc (hn : ndas = true) : sanitizeTake s q hdr ndas f = u.complete q hdr.cid .invalidField :=
  (adminTake_clear ht _).trans ((if_neg (by simp [hq])).trans (if_pos hn))

variable (hn : ndas = false)
include hn

theorem sanitizeTake_running (hz : u.admin.sanitize.state = 2) :
    sanitizeTake s q hdr ndas f = u.complete q hdr.cid .sanitizeInProgress :=
  (adminTake_clear ht _).trans ((if_neg (by simp [hq])).trans ((if_neg (by simp [hn])).trans (if_pos hz)))

theorem sanitizeTake_passes (hz : u.admin.sanitize.state ≠ 2) : sanitizeTake s q hdr ndas f = f u :=
  (adminTake_clear ht _).trans ((if_neg (by simp [hq])).trans ((if_neg (by simp [hn])).trans (if_neg hz)))

end

/-- What a Sanitize that erases does once it is accepted. -/
def eraseStart (u : State) (q : IoQueue) (hdr : IoHdr) (w : Nat) (ause : Bool) : State :=
  let v := sanitizeStart u q hdr w ause
  scrubSettle (stopJobs { v with thresh := { v.thresh with scrub := List.range 33 } } .sanitize fun _ => true)

/-- What an exit of the failure mode does once it is accepted: a failed Sanitize that had AUSE set is cleared. -/
def failureExit (u : State) (q : IoQueue) (hdr : IoHdr) : State :=
  if u.admin.sanitize.state = 3 ∧ u.admin.sanitize.ause = true then
    ({ u with admin := { u.admin with sanitize := { u.admin.sanitize with state := u.free 1 } } } : State).useFree.complete q hdr.cid .success
  else u.complete q hdr.cid .sanitizeFailed

section
variable {s : State} (h : Live s) (q : IoQueue) (hdr : IoHdr) (ndas : Bool)
include h

theorem exec_exitFailureMode_live : exec (.exitFailureMode q hdr ndas) s =
    .next (keep s (sanitizeTake s q hdr ndas fun v => failureExit v q hdr)) := by
  rw [exec_exitFailureMode, execExitFailureMode]
  exact act_eq h rfl

theorem exec_overwrite_live : exec (.overwrite q hdr ndas) s =
    .next (keep s (sanitizeTake s q hdr ndas fun v => v.complete q hdr.cid .invalidField)) := by
  rw [exec_overwrite, execOverwrite]
  exact act_eq h rfl

variable {q hdr ndas} {ause : Bool} {w : Nat} {c : Instr}

theorem exec_erase (hc : c = .blockErase q hdr ndas ause w ∨ c = .cryptoErase q hdr ndas ause w) :
    exec c s = .next (adminFrame c s (sanitizeTake s q hdr ndas fun v =>
      if v.admin.ops ≠ [] ∨ v.admin.formats ≠ [] then v.complete q hdr.cid .formatInProgress else eraseStart v q hdr w ause)) := by
  have hframe (t : State) : adminFrame c s t = keepG s t := by
    obtain rfl | rfl := hc <;> rfl
  have hexec : exec c s = sanitizeErase q hdr ndas ause w s := by
    obtain rfl | rfl := hc <;> rfl
  rw [hframe, hexec, sanitizeErase, actGranary_live h]
  rfl

/-- A Sanitize of any action goes through its shared checks, in its frame, before its own effect. -/
theorem exec_sanitize (hc : c = .exitFailureMode q hdr ndas ∨ c = .overwrite q hdr ndas ∨ c = .blockErase q hdr ndas ause w ∨
      c = .cryptoErase q hdr ndas ause w) :
    ∃ f, exec c s = .next (adminFrame c s (sanitizeTake s q hdr ndas f)) := by
  obtain rfl | rfl | hc := hc
  · exact ⟨_, exec_exitFailureMode_live h q hdr ndas⟩
  · exact ⟨_, exec_overwrite_live h q hdr ndas⟩
  · exact ⟨_, exec_erase h hc⟩

end

/-! ### Operations advance (R471, R480, R495) -/

section
variable {s : State} (h : Live s) {st : Fin 8}
include h

/-- ADMIN_OP_STEP while operations advance. -/
theorem exec_adminOpStep_eq (lost : Bool) (hr : s.adminRuns = true) : exec (.adminOpStep st lost) s = .next (keep s (formatsStart
    ((s.adminOp? st).elim s fun o => if o.kind = 3 then s else opStep s o lost))) := by
  rw [exec_adminOpStep, execAdminOpStep]
  refine act_eq h ((if_neg (by simp [hr])).trans ?_)
  cases s.adminOp? st <;> rfl

/-- CERTIFICATION_STEP of a stream that runs no certification. -/
theorem exec_certificationStep_none (found : List (Nat × Nat)) (ok lost : Bool) (ho : ∀ o, s.adminOp? st = some o → o.kind ≠ 3) :
    exec (.certificationStep st found ok lost) s = .next s := by
  rw [exec_certificationStep, execCertificationStep]
  refine act_eq_self h ?_
  split
  · rfl
  · split
    · next o hs => exact if_neg (ho o hs)
    · rfl

theorem exec_certificationStep_some (found : List (Nat × Nat)) (ok lost : Bool) (hr : s.adminRuns = true) {o : AdminOp}
    (ho : s.adminOp? st = some o) (hk : o.kind = 3) : exec (.certificationStep st found ok lost) s = .next (keep s (certStep s o found ok lost)) := by
  rw [exec_certificationStep, execCertificationStep]
  refine act_eq h ((if_neg (by simp [hr])).trans ?_)
  rw [ho]
  exact if_pos hk

/-- Neither has an effect while no operation advances. -/
theorem exec_adminSteps_held (found : List (Nat × Nat)) (ok lost : Bool) (hr : s.adminRuns = false) :
    exec (.adminOpStep st lost) s = .next s ∧ exec (.certificationStep st found ok lost) s = .next s := by
  rw [exec_adminOpStep, execAdminOpStep, exec_certificationStep, execCertificationStep]
  exact ⟨act_eq_self h (if_pos (by simp [hr])), act_eq_self h (if_pos (by simp [hr]))⟩

end

/-! ### Key records that have been read back (R154, R155) -/

/-- A record that does not read back leaves the key as it was (R155). -/
theorem keyReadBack_lost {s : State} {n : Fin 256} {op : KeyOp} (ho : s.keys.ops.find? n.val = some op) (hc : s.slotCrib n ≤ 32) :
    (keyReadBack s n false).keys = { s.keys with ops := Keyed.erase s.keys.ops n } ∧
    (keyReadBack s n false).g Od.NS_KEY_STATE n = op.before % 2 ^ Od.NS_KEY_STATE.bits := by
  have heq : ∃ d, keyReadBack s n false =
      raiseCrib (({ s with keys := { s.keys with ops := Keyed.erase s.keys.ops n } } : State).p Od.NS_KEY_STATE n op.before) (s.slotCrib n) 4 d := by
    unfold keyReadBack
    rw [ho]
    exact ⟨_, rfl⟩
  obtain ⟨d, heq⟩ := heq
  have hreach := evtReach_raiseCrib
    (({ s with keys := { s.keys with ops := Keyed.erase s.keys.ops n } } : State).p Od.NS_KEY_STATE n op.before) d hc (i := 4) (by decide)
  rw [heq]
  refine ⟨hreach.only.keys_eq, ?_⟩
  rw [hreach.g (by simp only [Ob.el, Od.NS_KEY_STATE]; omega), State.g_p_self]

section
variable {s : State} (h : Live s) {n : Fin 256}
include h

theorem exec_keyRecordReadBack_waits (hn : s.keys.ops.find? n.val = none ∨ s.chestWaiting Region.state (keyPos s n) = true) (ok : Bool) :
    exec (.keyRecordReadBack n ok) s = .next s := by
  rw [exec_keyRecordReadBack, execKeyRecordReadBack]
  exact act_eq_self h (if_pos (by simpa using hn))

variable (hw : s.chestWaiting Region.state (keyPos s n) = false) {op : KeyOp} (ho : s.keys.ops.find? n.val = some op)
include hw ho

theorem exec_keyRecordReadBack_good : exec (.keyRecordReadBack n true) s = .next (keep s (keyReadBack s n true)) := by
  rw [exec_keyRecordReadBack, execKeyRecordReadBack]
  exact act_eq h (if_neg (by simp [hw, ho]))

theorem exec_keyRecordReadBack_lost : ∃ t, exec (.keyRecordReadBack n false) s = .next t ∧ t.keys = (keyReadBack s n false).keys ∧
    t.od = (keyReadBack s n false).od := by
  rw [exec_keyRecordReadBack, execKeyRecordReadBack]
  exact ⟨_, act_eq h (if_neg (by simp [hw, ho])), rfl, rfl⟩

end

/-- Settles O43, command by command: each is its entry taken and checked, and then its own checks in the order in which the model
makes them (R485 first). The order of the checks and what a Format or Sanitize leaves are the model's choices (assumption logs 69, 71
and 72). -/
theorem namespacesFormatAndSanitize : Obligations.NamespacesFormatAndSanitize := by
  refine ⟨fun s u q hdr h ht hz => ?commands, fun s u q hdr ndas ause w c h ht hz hq hn hc => ?sanitizing, fun s st lost ok found h => ?steps,
    fun s n h => ⟨fun hn ok => exec_keyRecordReadBack_waits h hn ok, fun hw op ho => ⟨exec_keyRecordReadBack_good h hw ho,
      fun hc => ?lostRecord⟩⟩⟩
  case sanitizing =>
    obtain ⟨f, hexec⟩ := exec_sanitize h hc
    rw [hexec, sanitizeTake_running ht f hq hn hz]
  case steps =>
    refine ⟨exec_adminSteps_held h found ok lost, fun hr ho => ⟨?_, exec_certificationStep_none h found ok lost (by simp [ho])⟩,
      fun hr o ho => ⟨exec_certificationStep_some h found ok lost hr ho, fun hk => ⟨?_,
        exec_certificationStep_none h found ok lost (by simpa [ho] using hk)⟩⟩⟩
    · rw [exec_adminOpStep_eq h lost hr, ho]
      rfl
    · rw [exec_adminOpStep_eq h lost hr, ho, Option.elim_some, if_neg hk]
  case lostRecord =>
    obtain ⟨t, hexec, hkeys, hod⟩ := exec_keyRecordReadBack_lost h hw ho
    obtain ⟨hlost, hstate⟩ := keyReadBack_lost ho hc
    rw [hlost] at hkeys
    refine ⟨t, hexec, ?_, by rw [hkeys], by rw [hkeys], ?_⟩
    · rw [hkeys]
      exact (Keyed.find?_erase ..).trans (if_pos rfl)
    · rw [← hstate, State.g, State.g, hod]
  case commands =>
    intro no
    refine ⟨fun csi flbas nsze ncap media so => ⟨exec_namespaceCreate_elsewhere h ht hz, fun hq => ⟨exec_namespaceCreate_badField h ht hz hq,
        fun h1 h2 h3 h4 h5 h6 => ?create⟩⟩,
      ⟨exec_namespaceDelete_elsewhere h ht hz, fun hq hall => ?delete⟩,
      fun attach f => ⟨exec_namespaceAttachment_elsewhere h ht hz attach [f], exec_namespaceAttachment_unnamed h ht hz attach [f],
        fun hq h0 n hn => ?attachment⟩,
      fun lbaf mset pi pil ses => ⟨exec_formatNvm_badField h ht hz, fun h1 h2 h3 h4 h5 hall => ?format⟩,
      fun ndas => ?exitAndOverwrite, fun ndas ause w c hc => ?erase⟩
    case create =>
      have hb : ¬(csi ≠ 2 ∨ flbas ≠ 0 ∨ ncap ≠ nsze ∨ nsze % zoneBlocks ≠ 0 ∨ (media ≠ 1 ∧ media ≠ 2) ∨ 1 < so) := by omega
      refine ⟨exec_namespaceCreate_tooLarge h ht hz hq hb, fun hl i hi => ?_⟩
      obtain ⟨hstate, hbound, hshort⟩ := g_nsCreated (u := u) (freshNs u (nsze / zoneBlocks) media so) (lt_of_find?_range hi)
      refine ⟨_, exec_namespaceCreate_creates h ht hz hq hb hl hi, ?_, fun j hj => ?_, hstate, keys_nsCreated u i _, hbound, hshort⟩
      · rw [ns_nsCreated, Keyed.find?_insert, if_pos rfl]
        rfl
      · rw [ns_nsCreated, Keyed.find?_insert, if_neg hj.symm]
    case delete =>
      rw [exec_namespaceDelete_eq h ht hz hq hall]
      refine ⟨fun hn => by rw [if_pos (by simpa using hn)], fun h0 hn => ?_⟩
      have hnamed : ¬(hdr.nsid = 0 ∨ (u.host.ns.find? (hdr.nsid - 1)).isNone = true) := by
        rw [not_or, Option.isNone_iff_eq_none, ← ne_eq (u.host.ns.find? _), Option.ne_none_iff_isSome]
        exact ⟨h0, hn⟩
      rw [if_neg hnamed]
      exact ⟨fun hf => by rw [if_pos hf], fun hf => by rw [if_neg hf]⟩
    case attachment =>
      intro held put
      have hexec {t : State} := exec_namespaceAttachment_eq h ht hz (attach := attach) (f := f) (t := t) hq h0 hn
      refine ⟨fun hf => hexec (if_pos hf), fun hf ha => ⟨fun hn1 => hexec ?_, fun hn1 h8 => hexec ?_, fun hn1 h8 => hexec ?_⟩,
        fun hf ha => ⟨fun hn1 => hexec ?_, fun hn1 => hexec ?_⟩⟩
      · rw [if_neg hf, if_pos ha, if_pos hn1]
      · rw [if_neg hf, if_pos ha, if_neg (by simp [hn1]), if_pos h8]
      · rw [if_neg hf, if_pos ha, if_neg (by simp [hn1]), if_neg (not_le.2 h8)]
        rfl
      · rw [if_neg hf, if_neg (by simp [ha]), if_pos hn1]
      · rw [if_neg hf, if_neg (by simp [ha]), if_neg (by simp [hn1])]
        rfl
    case format =>
      have hb : ¬(lbaf ≠ 0 ∨ mset ≠ 0 ∨ pi ≠ 0 ∨ pil ≠ 0 ∨ 2 < ses) := by omega
      refine ⟨exec_formatNvm_unnamed h ht hz hb hall, fun i n hn => ?_⟩
      rw [exec_formatNvm_named h ht hz hb hall hn]
      exact ⟨fun hf => by rw [if_pos hf], fun hf => by rw [if_neg hf]; rfl⟩
    case exitAndOverwrite =>
      rw [exec_exitFailureMode_live h, exec_overwrite_live h]
      refine ⟨fun hq => ⟨?_, ?_⟩, fun hq => ?_, fun hq hn => ?_, fun hq hn hf => ?_, fun hq hn h3 ha => ?_⟩
      · rw [sanitizeTake_elsewhere ht _ hq]
      · rw [sanitizeTake_elsewhere ht _ hq]
      · cases ndas with
        | true => rw [sanitizeTake_noDealloc ht _ hq rfl]
        | false => rw [sanitizeTake_passes ht _ hq rfl hz]
      · rw [sanitizeTake_noDealloc ht _ hq hn]
      · rw [sanitizeTake_passes ht _ hq hn hz, failureExit, if_neg hf]
      · rw [sanitizeTake_passes ht _ hq hn hz, failureExit, if_pos ⟨h3, ha⟩]
    case erase =>
      intro stop
      rw [exec_erase h hc]
      refine ⟨fun hq => ?_, fun hq hn => ?_, fun hq hn hbusy => ?_, fun hq hn hops hformats => ?_⟩
      · rw [sanitizeTake_elsewhere ht _ hq]
      · rw [sanitizeTake_noDealloc ht _ hq hn]
      · rw [sanitizeTake_passes ht _ hq hn hz, if_pos hbusy]
      · rw [sanitizeTake_passes ht _ hq hn hz, if_neg (by simp [hops, hformats])]
        rfl

end Sys2Proof.Machine
end

section
/-! SUPPORT. The Ethernet ports: frames, pauses, new connections and the link. -/

namespace Sys2Proof.Machine

/-! ### What sending and counting leave -/

/-- Counting for the ledger changes the ledger alone. -/
theorem meter_eq (s : State) (c k n : Nat) : meter s c k n = { s with ledger := (meter s c k n).ledger } := by
  have hacct (c : Nat) (f : Account → Account) : setAcct s c f = { s with ledger := (setAcct s c f).ledger } := by
    unfold setAcct
    split <;> rfl
  unfold meter
  split
  · split
    · dsimp only
      rw [hacct]
      split <;> rfl
    · rfl
  · rfl

@[simp] theorem dev_meter (s : State) (c k n : Nat) : (meter s c k n).dev = s.dev := by rw [meter_eq]
@[simp] theorem net_meter (s : State) (c k n : Nat) : (meter s c k n).net = s.net := by rw [meter_eq]

@[simp] theorem dev_meterIn (s : State) (c n : Nat) : (meterIn s c n).dev = s.dev := dev_meter ..
@[simp] theorem net_meterIn (s : State) (c n : Nat) : (meterIn s c n).net = s.net := net_meter ..

@[simp] theorem net_wireSend (s : State) (crib : Option Nat) (o : Output) : (wireSend s crib o).net = s.net := net_meter ..

@[simp] theorem conns_portSend (s : State) (p : Fin 2) (pcp : Nat) (o : NetOut) (crib : Nat) :
    (portSend s p pcp o crib).net.conns = s.net.conns := by
  unfold portSend
  split
  · rfl
  · split
    · rfl
    · rw [net_wireSend]

@[simp] theorem net_connCount (s : State) : (connCount s).net = s.net :=
  (each_rel (R := fun u v => v.net = u.net) (fun _ => rfl) (fun h k => k.trans h) _ _ (fun _ _ _ => State.net_p ..) _).trans
    (State.net_p ..)

@[simp] theorem net_pfcSend (s : State) (p : Fin 2) (q n : Nat) : (pfcSend s p q n).net = s.net := by
  unfold pfcSend
  split
  · rfl
  · exact net_meter ..

theorem out_pfcSend {s : State} {p : Fin 2} {q n : Nat} (hp : s.portUp p = true) :
    (pfcSend s p q n).out = s.out ++ [.net p (.pfc q n)] := by
  refine (congrArg State.out (if_neg (by simp [hp]))).trans ?_
  exact out_meter ..

/-! ### Frames (R446, R447, R449, R465, R469) -/

/-- The crib of the connection that a frame is for; crib 0 has the others. -/
def frameOwner (s : State) (conn : Option Nat) : Nat := ((conn.bind s.net.conns.find?).bind fun c => c.crib).getD 0

/-- A good frame has been counted, and its priority's buffer holds `occ` bytes without it. -/
def frameCounted (s : State) (p : Fin 2) (q : Fin 8) (len own occ : Nat) : State :=
  (meterIn (s.add Od.NET_RX_FRAMES p 1) own len).setPort p fun x => { x with rx := x.rx.set q occ }

theorem dev_frameCounted (s : State) (p : Fin 2) (q : Fin 8) (len own occ : Nat) : (frameCounted s p q len own occ).dev = s.dev := by
  simp [frameCounted, State.add]

/-- A frame that is taken fills its priority's buffer. -/
def frameTaken (v : State) (p : Fin 2) (q : Fin 8) (len occ : Nat) : State :=
  pfcCheck (v.setPort p fun x => { x with rx := x.rx.set q (occ + len) }) p q

/-- What a frame that is taken brings about: RST to an unknown TCP peer, an acknowledgement on a connection. -/
def frameAnswered (w : State) (p : Fin 2) (q : Fin 8) (own : Nat) : Option Nat → Option Nat → State
  | none, some a => portSend w p q (.rst a)
  | some _, _ => (meterOut w own (w.free 8)).useFree
  | none, none => w

/-- The reasons for which a good frame is dropped, in their order, and one that is taken. -/
def frameJudged (v : State) (p : Fin 2) (vlan : Nat) (q : Fin 8) (len own occ : Nat) (wanted : Bool) (conn peer : Option Nat) : State :=
  if v.dev = .held then v.add Od.NET_RX_DROP (5 * p + 2) 1
  else if v.g Od.NET_MTU p + (if vlan = 0 then 18 else 22) < len then v.add Od.NET_RX_DROP (5 * p + 4) 1
  else if 262144 < occ + len then v.add Od.NET_RX_DROP (5 * p + 1) 1
  else if !wanted || (ifaceOf v p vlan).isNone then v.add Od.NET_RX_DROP (5 * p + 3) 1
  else frameAnswered (frameTaken v p q len occ) p q own conn peer

section
variable {v : State} {p : Fin 2} {vlan len own occ : Nat} {q : Fin 8} {wanted : Bool} {conn peer : Option Nat}

theorem frameJudged_held (hd : v.dev = .held) :
    frameJudged v p vlan q len own occ wanted conn peer = v.add Od.NET_RX_DROP (5 * p + 2) 1 := if_pos hd

variable (hd : v.dev ≠ .held)
include hd

theorem frameJudged_long (hm : v.g Od.NET_MTU p + (if vlan = 0 then 18 else 22) < len) :
    frameJudged v p vlan q len own occ wanted conn peer = v.add Od.NET_RX_DROP (5 * p + 4) 1 := (if_neg hd).trans (if_pos hm)

variable (hm : ¬v.g Od.NET_MTU p + (if vlan = 0 then 18 else 22) < len)
include hm

theorem frameJudged_full (ho : 262144 < occ + len) :
    frameJudged v p vlan q len own occ wanted conn peer = v.add Od.NET_RX_DROP (5 * p + 1) 1 :=
  (if_neg hd).trans ((if_neg hm).trans (if_pos ho))

variable (ho : occ + len ≤ 262144)
include ho

theorem frameJudged_notOurs (hn : wanted = false ∨ ifaceOf v p vlan = none) :
    frameJudged v p vlan q len own occ wanted conn peer = v.add Od.NET_RX_DROP (5 * p + 3) 1 :=
  (if_neg hd).trans ((if_neg hm).trans ((if_neg (Nat.not_lt.2 ho)).trans (if_pos (by simpa using hn))))

theorem frameJudged_taken (hw : wanted = true) (hi : (ifaceOf v p vlan).isSome = true) :
    frameJudged v p vlan q len own occ wanted conn peer = frameAnswered (frameTaken v p q len occ) p q own conn peer := by
  refine (if_neg hd).trans ((if_neg hm).trans ((if_neg (Nat.not_lt.2 ho)).trans (if_neg ?_)))
  rw [hw, ← Option.not_isSome, hi]
  exact Bool.false_ne_true

end

section
variable {s : State} (h : Live s) {p : Fin 2} {vlan len taken : Nat} {q : Fin 8} {good wanted : Bool} {conn peer : Option Nat}
include h

theorem exec_ethFrameReceive_none (hn : s.g Od.NET_LINK p ≠ 2 ∨ s.dev = .booting) :
    exec (.ethFrameReceive p vlan q len good wanted taken conn peer) s = .next s := by
  rw [exec_ethFrameReceive, execEthFrameReceive]
  exact act_eq_self h (if_pos hn)

variable (hl : s.g Od.NET_LINK p = 2) (hb : s.dev ≠ .booting)
include hl hb

theorem exec_ethFrameReceive_bad :
    exec (.ethFrameReceive p vlan q len false wanted taken conn peer) s = .next (s.add Od.NET_RX_DROP (5 * p) 1) := by
  rw [exec_ethFrameReceive, execEthFrameReceive]
  exact act_eq_of_keep h ((if_neg (by simp [hl, hb])).trans (if_pos rfl)) (keep_p ..)

theorem exec_ethFrameReceive_good {t : State}
    (ht : frameJudged (frameCounted s p q len (frameOwner s conn) ((s.net.ports[p]).rx[q] - taken)) p vlan q len (frameOwner s conn)
      ((s.net.ports[p]).rx[q] - taken) wanted conn peer = t) :
    exec (.ethFrameReceive p vlan q len true wanted taken conn peer) s = .next (keep s t) := by
  rw [exec_ethFrameReceive, execEthFrameReceive]
  refine act_eq h ((if_neg (by simp [hl, hb])).trans ((if_neg (by simp)).trans (Eq.trans ?_ ht)))
  let u := meterIn (s.add Od.NET_RX_FRAMES p 1) (frameOwner s conn) len
  have hu : u.net.ports = s.net.ports := congrArg NetSt.ports (net_meterIn ..)
  rw [← hu]
  cases conn with
  | none => cases peer <;> rfl
  | some k => rfl

end
/-! ### Answers for an interface's own address (R448) -/

section
variable {s : State} (h : Live s) {p : Fin 2} {vlan hi lo ip a : Nat} {q : Fin 8} {v6 : Bool} {d : List Byte}
include h

/-- A frame of a VLAN that no interface has is answered by nothing. -/
theorem exec_addressFrames_noInterface (hf : ifaceOf s p vlan = none) :
    exec (.arpRequest p vlan q ip a) s = .next s ∧ exec (.neighbourSolicitation p vlan q hi lo a) s = .next s ∧
      exec (.echoRequest p vlan q v6 hi lo a d) s = .next s := by
  rw [exec_arpRequest, execArpRequest, exec_neighbourSolicitation, execNeighbourSolicitation, exec_echoRequest, execEchoRequest]
  refine ⟨act_eq_self h ?_, act_eq_self h ?_, act_eq_self h ?_⟩ <;> rw [hf]

end

/-! ### Pauses (R450, R451) -/

section
variable {s : State} (h : Live s) {p : Fin 2} {q : Fin 8} {level n : Nat}
include h

/-- A buffer that has fallen to XON ends the pause that was asked for, with a time of 0. -/
theorem exec_pfcXon_ends (hx : (s.net.ports[p]).xoff.getLsbD q = true) (hv : level ≤ 1024 * s.g Od.NET_PFC_XON) :
    ∃ t, exec (.pfcXon p q level) s = .next t ∧ t.net.ports[p].xoff.getLsbD q = false ∧
      t.net.ports[p].rx[q] = min level (s.net.ports[p]).rx[q] ∧ t.net.ports[p].paused = (s.net.ports[p]).paused ∧
      (s.portUp p = true → t.out = s.out ++ [.net p (.pfc q 0)]) := by
  rw [exec_pfcXon, execPfcXon]
  refine ⟨_, act_eq h (if_pos (by rw [hx]; simp [hv])), ?_, ?_, ?_, out_pfcSend (s := s.setPort p _)⟩
  all_goals rw [keep_net, net_pfcSend, State.setPort, vmod_get]
  · simp
  · simp

/-- A PFC frame that is taken: it is counted, and then does what it asks for if its priority's pause is enabled. -/
theorem exec_pfcFrameReceive_taken {t : State} (hl : s.g Od.NET_LINK p = 2) (hb : s.dev ≠ .booting)
    (ht : (let u := meterIn (s.add Od.NET_RX_FRAMES p 1) 0 64
      if s.dev = .held then u.add Od.NET_RX_DROP (5 * p + 2) 1
      else (if !u.gb Od.NET_PFC_EN p q then u
        else if n = 0 then portFlush (u.setPort p fun x => { x with paused := x.paused &&& ~~~ BitVec.twoPow 8 q }) p q
        else u.setPort p fun x => { x with paused := x.paused ||| BitVec.twoPow 8 q }).inc Od.NET_PAUSE_RX_CNT p) = t) :
    exec (.pfcFrameReceive p [(q, n)]) s = .next (keep s t) := by
  rw [exec_pfcFrameReceive, execPfcFrameReceive]
  refine act_eq h ((if_neg (by simp [hl, hb])).trans (Eq.trans ?_ ht))
  dsimp only
  rw [dev_meterIn]
  rfl

end

/-! ### New connections and segments (R445, R446, R452, R454) -/

/-- The key of a new connection: the lowest that is free (assumption log 76). -/
def freeConn (s : State) : Nat := ((List.range 65536).find? fun k => (s.net.conns.find? k).isNone).getD 0

theorem find?_freeConn {s : State} (hk : ∃ k < 65536, s.net.conns.find? k = none) : s.net.conns.find? (freeConn s) = none := by
  obtain ⟨k, hk, hn⟩ := hk
  unfold freeConn
  cases hf : (List.range 65536).find? fun k => (s.net.conns.find? k).isNone with
  | none =>
    have hall := List.find?_eq_none.1 hf k (List.mem_range.2 hk)
    simp [hn] at hall
  | some j => simpa using List.find?_some hf

/-- A connection as its SYN leaves it: no ICReq has come, and no Connect has bound it. -/
def newConn (p i q peer : Nat) : Conn where
  port := p
  iface := i
  pcp := q
  peer := peer
  icDone := false
  hdgst := false
  ddgst := false
  cntlid := none
  qid := 0
  sqSize := 0
  sqHead := 0
  crib := none
  termSent := false
  closed := false
  r2ts := []
  maxR2t := 0
  nextTag := 0
  bufs := []
  retrans := 0
  held := []
  pins := []

/-- A SYN is accepted. -/
def connAccepted (s : State) (p : Fin 2) (i : Nat) (q : Fin 8) (v6 : Bool) (peer : Nat) : State :=
  portSend (connCount (s.setConn (freeConn s) (newConn p i q peer))) p q (.synAck peer
    ((connCount (s.setConn (freeConn s) (newConn p i q peer))).g Od.NET_MTU p - if v6 then 60 else 40))

theorem conn_connAccepted (s : State) (p : Fin 2) (i : Nat) (q : Fin 8) (v6 : Bool) (peer : Nat) :
    (connAccepted s p i q v6 peer).net.conns.find? (freeConn s) = some (newConn p i q peer) := by
  rw [connAccepted, conns_portSend, net_connCount, State.setConn, Keyed.find?_insert, if_pos rfl]

section
variable {s : State} (h : Live s) {p : Fin 2} {vlan hi lo dport peer : Nat} {q : Fin 8} {v6 : Bool}
include h

theorem exec_tcpSyn_none (hn : s.g Od.NET_LINK p ≠ 2 ∨ s.dev = .booting ∨ s.dev = .held) :
    exec (.tcpSyn p vlan q v6 hi lo dport peer) s = .next s := by
  rw [exec_tcpSyn, execTcpSyn]
  exact act_eq_self h (if_pos hn)

variable (hl : s.g Od.NET_LINK p = 2) (hb : s.dev ≠ .booting) (hd : s.dev ≠ .held)
include hl hb hd

theorem exec_tcpSyn_noInterface (hf : ifaceOf s p vlan = none) :
    exec (.tcpSyn p vlan q v6 hi lo dport peer) s = .next (s.add Od.NET_RX_DROP (5 * p + 3) 1) := by
  rw [exec_tcpSyn, execTcpSyn]
  refine act_eq_of_keep h ((if_neg (by simp [hl, hb, hd])).trans ?_) (keep_p ..)
  rw [hf]

variable {i : Nat} (hf : ifaceOf s p vlan = some i)
include hf

theorem exec_tcpSyn_notOurs (hn : ifaceHas s i v6 hi lo = false ∨ dport ≠ s.g Od.NVT_TCP_PORT) :
    exec (.tcpSyn p vlan q v6 hi lo dport peer) s = .next (s.add Od.NET_RX_DROP (5 * p + 3) 1) := by
  rw [exec_tcpSyn, execTcpSyn]
  refine act_eq_of_keep h ((if_neg (by simp [hl, hb, hd])).trans ?_) (keep_p ..)
  rw [hf]
  exact if_pos (by simpa using hn)

/-- A SYN to our address and port is accepted or refused. -/
theorem exec_tcpSyn_ours (ha : ifaceHas s i v6 hi lo = true) (hp : dport = s.g Od.NVT_TCP_PORT) {t : State}
    (ht : (if decide ((s.net.conns.filter fun c => !c.2.closed).length < 256) && s.isDev .serving then connAccepted s p i q v6 peer
      else netViol (portSend s p q (.rst peer)) p 0 4) = t) :
    exec (.tcpSyn p vlan q v6 hi lo dport peer) s = .next (keep s t) := by
  rw [exec_tcpSyn, execTcpSyn]
  refine act_eq h ((if_neg (by simp [hl, hb, hd])).trans ?_)
  rw [hf]
  exact (if_neg (by simp [ha, hp])).trans ht

end

/-- The time-out of a segment of a connection: nothing, a reset, or the segment again. -/
theorem exec_tcpRetransmitTimeout_conn {s : State} (h : Live s) {k : Nat} {first : Bool} {c : Conn} (hc : s.net.conns.find? k = some c)
    {t : State}
    (ht : (if c.closed || s.g Od.NET_LINK c.port != 2 then s
      else
        let r := if first then 1 else c.retrans + 1
        if 12 < r then connReset s k else connEmit (s.setConn k { c with retrans := r }) c (.segment c.peer)) = t) :
    exec (.tcpRetransmitTimeout k first) s = .next (keep s t) := by
  rw [exec_tcpRetransmitTimeout, execTcpRetransmitTimeout]
  refine act_eq h ?_
  rw [hc]
  exact ht

/-! ### The link (R443, R464) -/

section
variable {s : State} (h : Live s) {p : Fin 2}
include h

/-- A link that is up and falls: it is down, that is counted, and the port reports it. -/
theorem exec_netLinkDown_falls (hl : s.g Od.NET_LINK p = 2) : ∃ t, exec (.netLinkDown p) s = .next t ∧ t.g Od.NET_LINK p = 1 ∧
    t.g Od.NET_LINK_DOWN_CNT p = (s.g Od.NET_LINK_DOWN_CNT p + 1) % 2 ^ Od.NET_LINK_DOWN_CNT.bits ∧ Raised Src.netLink s t := by
  have hs : setLink s p 1 = raise (s.p Od.NET_LINK p 1) Src.netLink (p + 256 * 1) := if_neg (by simp [hl])
  have hr := evtReach_raise (s.p Od.NET_LINK p 1) (p + 256 * 1) (e := Src.netLink) (he := by decide)
  have hp : p.val < 2 := p.isLt
  rw [exec_netLinkDown, execNetLinkDown]
  refine ⟨_, act_eq h ((if_pos hl).trans (congrArg (fun u => u.inc Od.NET_LINK_DOWN_CNT p) hs)), ?link, ?count, ?raised⟩
  case link =>
    calc _ = (raise (s.p Od.NET_LINK p 1) Src.netLink (p + 256 * 1)).g Od.NET_LINK p :=
          State.g_p_ne _ _ (by simp only [Ob.el, Od.NET_LINK_DOWN_CNT, Od.NET_LINK]; omega)
      _ = (s.p Od.NET_LINK p 1).g Od.NET_LINK p := hr.g (by simp only [Ob.el, Od.NET_LINK]; omega)
      _ = 1 := State.g_p_self ..
  case count =>
    rw [keep_g, State.g_inc_self, hr.g (by simp only [Ob.el, Od.NET_LINK_DOWN_CNT]; omega),
      State.g_p_ne _ _ (by simp only [Ob.el, Od.NET_LINK_DOWN_CNT, Od.NET_LINK]; omega)]
  case raised =>
    have hup : Raised Src.netLink s (raise (s.p Od.NET_LINK p 1) Src.netLink (p + 256 * 1)) :=
      (raised_raise _ _ (he := by decide) (h8 := by decide)).of_totalsKept
        (totalsKept_p _ _ _ _ (by simp only [Ob.el, Od.NET_LINK]; omega)) (by decide)
    exact (totalsKept_p _ _ _ _ (by simp only [Ob.el, Od.NET_LINK_DOWN_CNT]; omega) _ (by decide)).trans hup

end

/-- Settles O44: frames, answers for our addresses, pauses, new connections, segments and the link. What becomes of a port's buffer and of
a TCP segment is the model's choice (assumption log 75). -/
theorem ethernetPorts : Obligations.EthernetPorts := by
  refine ⟨fun s p vlan len taken q good wanted conn peer h => ⟨exec_ethFrameReceive_none h, ?bad, fun hl hb hg => ?good⟩,
    fun s p vlan hi lo ip a q v6 d h => ⟨exec_addressFrames_noInterface h, fun i hf => ?address⟩,
    fun s p q level n h => ⟨fun hn => ?repeatNone, fun hx hv => ?repeats, fun hn => ?xonNone, exec_pfcXon_ends h, fun hn => ?expiryNone,
      fun hx => ?expires, fun hn => ?pfcNone, fun hl hb => ?pfc⟩,
    fun s p vlan hi lo dport peer q v6 h => ⟨exec_tcpSyn_none h, fun hl hb hd => ⟨exec_tcpSyn_noInterface h hl hb hd, fun i hf =>
      ⟨exec_tcpSyn_notOurs h hl hb hd hf, fun ha hp => ⟨fun hn => ?synRefused, fun hn hs hk => ?synAccepted⟩⟩⟩⟩,
    fun s k first h => ⟨fun hn => ?noConn, fun c hc => ⟨fun hn => ?sendNone, fun ho hl hr => ?sendGivesUp, fun ho hl hr => ?sendAgain⟩⟩,
    fun s p h => ⟨fun hn => ?downNone, exec_netLinkDown_falls h, fun hn => ?upNone, fun hl => ?up, fun hl => ?holdNone, fun hl => ?hold⟩⟩
  case bad =>
    rintro hl hb rfl
    exact exec_ethFrameReceive_bad h hl hb
  case good =>
    subst hg
    have hv := dev_frameCounted s p q len (frameOwner s conn) ((s.net.ports[p]).rx[q] - taken)
    refine ⟨fun hd => exec_ethFrameReceive_good h hl hb (frameJudged_held (hv.trans hd)), fun hd hm => ?long, fun hd hm ho => ?full,
      fun hd hm ho => ⟨fun hn => ?notOurs, fun hw hi => ?taken⟩⟩
    all_goals rw [← hv] at hd
    case long => exact exec_ethFrameReceive_good h hl hb (frameJudged_long hd (of_decide_eq_true hm))
    case full => exact exec_ethFrameReceive_good h hl hb (frameJudged_full hd (of_decide_eq_false hm) ho)
    case notOurs => exact exec_ethFrameReceive_good h hl hb (frameJudged_notOurs hd (of_decide_eq_false hm) ho hn)
    case taken =>
      have ht := exec_ethFrameReceive_good (peer := peer) h hl hb (frameJudged_taken hd (of_decide_eq_false hm) ho hw hi)
      refine ⟨?_, ?_, fun hc => ?_⟩
      · rintro rfl rfl
        exact ht
      · rintro rfl a rfl
        exact ht
      · obtain ⟨k, rfl⟩ := Option.isSome_iff_exists.1 hc
        exact ht
  case address =>
    simp only [exec_arpRequest, execArpRequest, exec_neighbourSolicitation, execNeighbourSolicitation, exec_echoRequest, execEchoRequest]
    refine ⟨fun ha => act_eq_self h ?_, fun ha => act_eq h ?_, fun ha => act_eq_self h ?_, fun ha => act_eq h ?_,
      fun ha => act_eq_self h ?_, fun ha => act_eq h ?_⟩ <;> simp only [hf, ha, if_true, Bool.false_eq_true, if_false]
  case repeatNone =>
    rw [exec_pfcRepeat, execPfcRepeat]
    exact act_eq_self h (if_neg (by simpa [imp_iff_not_or] using hn))
  case repeats =>
    rw [exec_pfcRepeat, execPfcRepeat]
    exact act_eq h (if_pos (by rw [hx]; simpa using hv))
  case xonNone =>
    rw [exec_pfcXon, execPfcXon]
    exact act_eq_self h (if_neg (by simpa [imp_iff_not_or] using hn))
  case expiryNone =>
    rw [exec_pfcPauseExpiry, execPfcPauseExpiry]
    exact act_eq_self h (if_neg (by rw [hn]; exact Bool.false_ne_true))
  case expires =>
    rw [exec_pfcPauseExpiry, execPfcPauseExpiry]
    exact act_eq h (if_pos hx)
  case pfcNone =>
    rw [exec_pfcFrameReceive, execPfcFrameReceive]
    exact act_eq_self h (if_pos hn)
  case pfc =>
    refine ⟨fun hd => exec_pfcFrameReceive_taken h hl hb (if_pos hd), fun hd he => ?_, fun hd he hn => ?_, fun hd he hn => ?_⟩
    all_goals refine exec_pfcFrameReceive_taken h hl hb ((if_neg hd).trans (congrArg (fun u => State.inc u Od.NET_PAUSE_RX_CNT p) ?_))
    · exact if_pos (by rw [he]; rfl)
    · exact (if_neg (by rw [he]; exact Bool.false_ne_true)).trans (if_neg hn)
    · exact (if_neg (by rw [he]; exact Bool.false_ne_true)).trans (if_pos hn)
  case synRefused => exact exec_tcpSyn_ours h hl hb hd hf ha hp (if_neg (by simpa [State.isDev, imp_iff_not_or] using hn))
  case synAccepted =>
    refine ⟨_, freeConn s, newConn p i q peer, exec_tcpSyn_ours h hl hb hd hf ha hp (if_pos (by simpa [State.isDev, hs] using hn)),
      find?_freeConn hk, conn_connAccepted .., rfl, rfl, rfl, rfl, rfl, rfl, rfl⟩
  case noConn =>
    rw [exec_tcpRetransmitTimeout, execTcpRetransmitTimeout]
    exact act_eq_self h (by rw [hn])
  case sendNone => exact (exec_tcpRetransmitTimeout_conn h hc (if_pos (by simpa using hn))).trans (congrArg _ (keep_self s))
  case sendGivesUp => exact exec_tcpRetransmitTimeout_conn h hc ((if_neg (by simp [ho, hl])).trans (if_pos hr))
  case sendAgain => exact exec_tcpRetransmitTimeout_conn h hc ((if_neg (by simp [ho, hl])).trans (if_neg (Nat.not_lt.2 hr)))
  case downNone =>
    rw [exec_netLinkDown, execNetLinkDown]
    exact act_eq_self h (if_neg hn)
  case upNone =>
    rw [exec_netLinkUp, execNetLinkUp]
    exact act_eq_self h (if_neg hn)
  case up =>
    rw [exec_netLinkUp, execNetLinkUp]
    exact act_eq h (if_pos hl)
  case holdNone =>
    rw [exec_netLinkHoldExpiry, execNetLinkHoldExpiry]
    exact act_eq_self h (if_neg (not_not_intro hl))
  case hold =>
    rw [exec_netLinkHoldExpiry, execNetLinkHoldExpiry]
    exact act_eq h (if_pos hl)

end Sys2Proof.Machine
end

section
/-! SUPPORT. NVMe/TCP connections: PDUs and capsules, Connect, data for R2Ts, and the ways a connection ends. -/

namespace Sys2Proof.Machine

/-! ### PDUs and capsules (R455, R461, R466) -/

section
variable {s : State} {k : Nat} {c : Conn}

theorem pdu_closed (hn : s.conn? k = none) (f : Conn → State) : pdu s k f = s := by rw [pdu, hn]

theorem pdu_early (hc : s.conn? k = some c) (hi : c.icDone = false) (f : Conn → State) : pdu s k f = pduViol s k .sequence 7 := by
  rw [pdu, hc]
  exact if_neg (by simp [hi])

theorem pdu_done (hc : s.conn? k = some c) (hi : c.icDone = true) (f : Conn → State) : pdu s k f = f c := by
  rw [pdu, hc]
  exact if_pos hi

end

/-- The commands that are a PDU after the ICReq. -/
theorem exec_pdu {k cid qid off v i2 i3 i4 : Nat} {n1 n2 d : List Byte} {hdr : IoHdr} {op : IoOp} {bad : Bool} {e : Instr}
    (he : e = .connect k cid qid off v i2 n1 n2 i3 ∨ e = .propertyGet k cid off ∨ e = .disconnect k cid ∨
      e = .authenticationSend k cid ∨ e = .authenticationReceive k cid ∨ e = .capsuleCommand k hdr op bad ∨ e = .h2cdata k i4 off d bad) :
    ∃ f : State → Conn → State, ∀ s, exec e s = act s fun u => pdu u k (f u) := by
  obtain rfl | rfl | rfl | rfl | rfl | rfl | rfl := he <;> exact ⟨_, fun _ => rfl⟩

/-! ### ICReq (R455) -/

section
variable {s : State} (h : Live s) {k pfv r2t : Nat} {hd dd : Bool}
include h

theorem exec_icreq_closed (hn : s.conn? k = none) :
    exec (.icreq k pfv hd dd r2t) s = .next s ∧ exec (.icreqTimeout k) s = .next s := by
  rw [exec_icreq, execIcreq, exec_icreqTimeout, execIcreqTimeout]
  exact ⟨act_eq_self h (by rw [hn]), act_eq_self h (by rw [hn])⟩

variable {c : Conn} (hc : s.conn? k = some c)
include hc

theorem exec_icreq_again (hi : c.icDone = true) :
    exec (.icreq k pfv hd dd r2t) s = .next (keep s (pduViol s k .sequence 7)) ∧ exec (.icreqTimeout k) s = .next s := by
  rw [exec_icreq, execIcreq, exec_icreqTimeout, execIcreqTimeout]
  refine ⟨act_eq h ?_, act_eq_self h ?_⟩ <;> rw [hc] <;> exact if_pos hi

variable (hi : c.icDone = false)
include hi

theorem exec_icreqTimeout_resets : exec (.icreqTimeout k) s = .next (keep s (connReset s k)) := by
  rw [exec_icreqTimeout, execIcreqTimeout]
  refine act_eq h ?_
  rw [hc]
  exact if_neg (by simp [hi])

/-- A first ICReq, of version 0 or of another. -/
theorem exec_icreq_first {t : State}
    (ht : (if pfv ≠ 0 then pduViol s k .unsupported 6
      else
        let a := hd && s.gb Od.NVT_DIGEST_ALLOW 0 0
        let b := dd && s.gb Od.NVT_DIGEST_ALLOW 0 1
        netSend (s.setConn k { c with icDone := true, hdgst := a, ddgst := b, maxR2t := r2t }) k
          (.net c.port (.icResp c.peer 0 0 131072 a b))) = t) :
    exec (.icreq k pfv hd dd r2t) s = .next (keep s t) := by
  rw [exec_icreq, execIcreq]
  refine act_eq h ?_
  rw [hc]
  exact (if_neg (by simp [hi])).trans ht

end

/-! ### Connect (R416, R452, R453, R457, R458, R467) -/

/-- A connection bound by Connect to crib `w` and controller `id`. -/
def boundConn (c : Conn) (w : Crib) (id qid sq : Nat) : Conn :=
  { c with crib := some w.val, cntlid := some id, qid := qid, sqSize := sq + 1, sqHead := c.sqHead % (sq + 1) }

/-- The state in which it is. -/
def connBound (u : State) (k : Nat) (c : Conn) (w : Crib) (id qid sq : Nat) : State := connCount (u.setConn k (boundConn c w id qid sq))

theorem conn_connBound (u : State) (k : Nat) (c : Conn) (w : Crib) (id qid sq : Nat) :
    (connBound u k c w id qid sq).net.conns.find? k = some (boundConn c w id qid sq) := by
  rw [connBound, net_connCount, State.setConn, Keyed.find?_insert, if_pos rfl]

theorem assocs_connBound (u : State) (k : Nat) (c : Conn) (w : Crib) (id qid sq : Nat) :
    (connBound u k c w id qid sq).net.assocs = u.net.assocs := by rw [connBound, net_connCount, State.setConn]

/-- The association that an admin Connect makes, with a fresh controller that its admin connection `k` reaches. -/
def newAssoc (w : Crib) (host : List Byte) (hid k kato : Nat) : Assoc :=
  { crib := w.val, hostNqn := host, hostId := hid, admin := k, ctl := { NvmeCtl.fresh with kato := kato } }

/-- An association is kept under its controller's identifier. -/
def assocAdded (u : State) (id : Nat) (a : Assoc) : State := { u with net := { u.net with assocs := u.net.assocs.insert id a } }

theorem assoc_assocAdded (u : State) (id : Nat) (a : Assoc) : (assocAdded u id a).net.assocs.find? id = some a := by
  rw [assocAdded, Keyed.find?_insert, if_pos rfl]

/-- Admin connections that are bound. -/
def adminConns (u : State) : Nat := (u.net.conns.filter fun p => !p.2.closed && p.2.crib.isSome && p.2.qid == 0).length

section
variable {s u : State} {k cid qid sq kato cn hid : Nat} {sub host : List Byte} {c : Conn} (h : Live s) (hc : CapsuleOn s k u c)
include h hc

theorem exec_connect_bound (hb : c.crib.isSome = true) :
    exec (.connect k cid qid sq kato cn sub host hid) s = .next (keep s (u.complete (.conn k) cid .commandSequence)) := by
  rw [exec_connect, execConnect]
  exact act_eq h ((capsule_on hc _).trans (if_pos hb))

variable (hb : c.crib = none)
include hb

theorem exec_connect_invalid (hv : sq = 0 ∨ 4095 < sq ∨ (qid = 0 ∧ (kato = 0 ∨ cn ≠ 0xFFFF))) :
    exec (.connect k cid qid sq kato cn sub host hid) s = .next (keep s (u.complete (.conn k) cid .connectInvalid)) := by
  rw [exec_connect, execConnect]
  exact act_eq h ((capsule_on hc _).trans ((if_neg (by simp [hb])).trans (if_pos hv)))

variable (hv : ¬(sq = 0 ∨ 4095 < sq ∨ (qid = 0 ∧ (kato = 0 ∨ cn ≠ 0xFFFF))))
include hv

theorem exec_connect_otherSubsystem (hs : sub ≠ u.blob Od.NVT_SUBNQN) :
    exec (.connect k cid qid sq kato cn sub host hid) s = .next (keep s ((netViol u c.port 0 3).complete (.conn k) cid .connectInvalid)) := by
  rw [exec_connect, execConnect]
  exact act_eq h ((capsule_on hc _).trans ((if_neg (by simp [hb])).trans ((if_neg hv).trans (if_pos hs))))

variable (hs : sub = u.blob Od.NVT_SUBNQN)
include hs

theorem exec_connect_otherHost (hn : bindingOf u c host = none) :
    exec (.connect k cid qid sq kato cn sub host hid) s = .next (keep s ((netViol u c.port 0 3).complete (.conn k) cid .connectHost)) := by
  rw [exec_connect, execConnect]
  refine act_eq h ((capsule_on hc _).trans ((if_neg (by simp [hb])).trans ((if_neg hv).trans ((if_neg (not_not_intro hs)).trans ?_))))
  rw [hn]

/-- Connect of a host that a binding lets into crib `w`: what is left to check, and its effect. -/
theorem exec_connect_let {b : Nat} (hf : bindingOf u c host = some b) {w : Crib} (hw : u.g Od.NVT_BIND_CRIB b = w.val) {t : State}
    (ht : (if u.g Od.CRIB_STATE w ≠ 1 ∨ u.dev ≠ .serving then u.complete (.conn k) cid .connectBusy
      else if qid = 0 then
        if 64 ≤ adminConns u then u.complete (.conn k) cid .connectBusy
        else
          let id := (((List.range 0xFFEF).map (· + 1)).find? fun i => (u.net.assocs.find? i).isNone).getD 1
          (connBound (assocAdded u id (newAssoc w host hid k kato)) k c w id qid sq).complete (.conn k) cid .success none id
      else (u.net.assocs.find? cn).elim (u.complete (.conn k) cid .connectInvalid) fun a =>
        if a.crib ≠ w.val ∨ a.hostNqn ≠ host ∨ a.hostId ≠ hid then u.complete (.conn k) cid .connectInvalid
        else if !unitFree u w (sqUnits u) || !unitFree u w (cqUnits u) then (hqViol u w 5 c.port qid).complete (.conn k) cid .connectBusy
        else (connBound u k c w cn qid sq).complete (.conn k) cid .success none cn) = t) :
    exec (.connect k cid qid sq kato cn sub host hid) s = .next (keep s t) := by
  rw [exec_connect, execConnect]
  refine act_eq h ((capsule_on hc _).trans ((if_neg (by simp [hb])).trans ((if_neg hv).trans ((if_neg (not_not_intro hs)).trans ?_))))
  rw [hf]
  dsimp only
  simp only [hw]
  refine (dif_pos w.isLt).trans (Eq.trans ?_ ht)
  cases u.net.assocs.find? cn <;> rfl

variable {b : Nat} (hf : bindingOf u c host = some b) {w : Crib} (hw : u.g Od.NVT_BIND_CRIB b = w.val)
  (hserve : ¬(u.g Od.CRIB_STATE w ≠ 1 ∨ u.dev ≠ .serving))
include hf hw hserve

/-- An admin Connect binds its connection to a new association. -/
theorem exec_connect_admin (hz : qid = 0) (hn : adminConns u < 64) {id : Nat}
    (hfree : (((List.range 0xFFEF).map (· + 1)).find? fun i => (u.net.assocs.find? i).isNone) = some id) :
    ∃ v : State, exec (.connect k cid qid sq kato cn sub host hid) s = .next (keep s (v.complete (.conn k) cid .success none id)) ∧
      v.net.conns.find? k = some (boundConn c w id qid sq) ∧ v.net.assocs.find? id = some (newAssoc w host hid k kato) := by
  refine ⟨connBound (assocAdded u id (newAssoc w host hid k kato)) k c w id qid sq,
    exec_connect_let h hc hb hv hs hf hw ((if_neg hserve).trans ((if_pos hz).trans ((if_neg (Nat.not_le.2 hn)).trans ?_))),
    conn_connBound .., (congrArg (fun m => Keyed.find? m id) (assocs_connBound ..)).trans (assoc_assocAdded ..)⟩
  rw [hfree]
  rfl

variable (hz : qid ≠ 0)
include hz

theorem exec_connect_noAssoc (hn : u.net.assocs.find? cn = none) :
    exec (.connect k cid qid sq kato cn sub host hid) s = .next (keep s (u.complete (.conn k) cid .connectInvalid)) :=
  exec_connect_let h hc hb hv hs hf hw ((if_neg hserve).trans ((if_neg hz).trans (by rw [hn]; rfl)))

variable {a : Assoc} (ha : u.net.assocs.find? cn = some a)
include ha

theorem exec_connect_otherAssoc (hd : a.crib ≠ w.val ∨ a.hostNqn ≠ host ∨ a.hostId ≠ hid) :
    exec (.connect k cid qid sq kato cn sub host hid) s = .next (keep s (u.complete (.conn k) cid .connectInvalid)) := by
  refine exec_connect_let h hc hb hv hs hf hw ((if_neg hserve).trans ((if_neg hz).trans ?_))
  rw [ha]
  exact if_pos hd

variable (hd : ¬(a.crib ≠ w.val ∨ a.hostNqn ≠ host ∨ a.hostId ≠ hid))
include hd

theorem exec_connect_exhausted (hn : unitFree u w (sqUnits u) = false ∨ unitFree u w (cqUnits u) = false) :
    exec (.connect k cid qid sq kato cn sub host hid) s = .next (keep s
      ((hqViol u w 5 c.port qid).complete (.conn k) cid .connectBusy)) := by
  refine exec_connect_let h hc hb hv hs hf hw ((if_neg hserve).trans ((if_neg hz).trans ?_))
  rw [ha]
  exact (if_neg hd).trans (if_pos (by simpa using hn))

/-- An I/O Connect binds its connection to the association that it names. -/
theorem exec_connect_io (hsq : unitFree u w (sqUnits u) = true) (hcq : unitFree u w (cqUnits u) = true) :
    ∃ v : State, exec (.connect k cid qid sq kato cn sub host hid) s = .next (keep s (v.complete (.conn k) cid .success none cn)) ∧
      v.net.conns.find? k = some (boundConn c w cn qid sq) ∧ v.net.assocs = u.net.assocs := by
  refine ⟨connBound u k c w cn qid sq,
    exec_connect_let h hc hb hv hs hf hw ((if_neg hserve).trans ((if_neg hz).trans ?_)), conn_connBound .., assocs_connBound ..⟩
  rw [ha]
  exact (if_neg hd).trans (if_neg (by simp [hsq, hcq]))

end

/-! ### Property Get, Disconnect and authentication (R405, R456, R459, R463) -/

/-- The properties of a controller that can be read: CAP, VS, CC and CSTS. -/
def propertyOf (a : Assoc) (off : Nat) : Option Nat :=
  if off = 0 then some capReg else if off = 8 then some 0x20000 else if off = 0x14 then some a.ctl.cc
  else if off = 0x1C then some a.ctl.csts else none

theorem propertyOf_known {a : Assoc} {off v : Nat}
    (hv : off = 0 ∧ v = capReg ∨ off = 8 ∧ v = 0x20000 ∨ off = 0x14 ∧ v = a.ctl.cc ∨ off = 0x1C ∧ v = a.ctl.csts) :
    propertyOf a off = some v := by
  obtain ⟨rfl, rfl⟩ | ⟨rfl, rfl⟩ | ⟨rfl, rfl⟩ | ⟨rfl, rfl⟩ := hv <;> rfl

theorem propertyOf_other {a : Assoc} {off : Nat} (h0 : off ≠ 0) (h8 : off ≠ 8) (hcc : off ≠ 0x14) (hcsts : off ≠ 0x1C) :
    propertyOf a off = none := (if_neg h0).trans ((if_neg h8).trans ((if_neg hcc).trans (if_neg hcsts)))

section
variable {s u : State} {k cid off : Nat} {c : Conn} (h : Live s) (hc : CapsuleOn s k u c)
include h hc

/-- On a connection that is not an admin connection of a controller. -/
theorem exec_propertyGet_refused (hn : c.qid ≠ 0 ∨ c.cntlid = none) :
    exec (.propertyGet k cid off) s = .next (keep s (u.complete (.conn k) cid .commandSequence)) := by
  rw [exec_propertyGet, execPropertyGet]
  refine act_eq h ((capsule_on hc _).trans ?_)
  dsimp only
  split
  · next ha hq =>
    obtain hn | hn := hn
    · exact absurd hq hn
    · simp [hn] at ha
  · rfl

variable {i : Nat} {a : Assoc} (hq : c.qid = 0) (hi : c.cntlid = some i) (ha : u.net.assocs.find? i = some a)
include hq hi ha

/-- On one that is: the property, or a field that the controller does not have. -/
theorem exec_propertyGet_admin :
    exec (.propertyGet k cid off) s = .next (keep s ((propertyOf a off).elim (u.complete (.conn k) cid .invalidField) fun v =>
      (netSend u k (.net c.port (.property c.peer cid v))).complete (.conn k) cid .success none (v % 2 ^ 32) (v / 2 ^ 32))) := by
  rw [exec_propertyGet, execPropertyGet]
  refine act_eq h ((capsule_on hc _).trans ?_)
  simp only [hq, hi, Option.bind_some, ha]
  split
  case h_5 h0 h8 hcc hcsts => rw [propertyOf_other h0 h8 hcc hcsts, Option.elim_none]
  all_goals rfl

omit hq hi ha

theorem exec_disconnect_capsule : exec (.disconnect k cid) s = .next (keep s (connClose (u.complete (.conn k) cid .success) k)) := by
  rw [exec_disconnect, execDisconnect]
  exact act_eq h (capsule_on hc _)

theorem exec_authentication :
    exec (.authenticationSend k cid) s = .next (keep s (u.complete (.conn k) cid .invalidOpcode)) ∧
      exec (.authenticationReceive k cid) s = .next (keep s (u.complete (.conn k) cid .invalidOpcode)) := by
  rw [exec_authenticationSend, execAuthenticationSend, exec_authenticationReceive, execAuthenticationReceive]
  exact ⟨act_eq h (capsule_on hc _), act_eq h (capsule_on hc _)⟩

end

/-! ### Commands and their data (R460, R466, R468) -/

/-- A connection on which a capsule is taken has had its ICReq. -/
theorem icDone_of_capsuleOn {s u : State} {k : Nat} {c d : Conn} (hc : CapsuleOn s k u c) (hd : s.conn? k = some d) : d.icDone = true := by
  obtain ⟨hi, -, -⟩ := hc
  rwa [hd] at hi

/-- A command's capsule: one before Connect, one whose data is bad, and one that goes into its queue. -/
theorem exec_capsuleCommand_on {s u : State} (h : Live s) {k : Nat} {hdr : IoHdr} {op : IoOp} {bad : Bool} {c d : Conn}
    (hc : CapsuleOn s k u c) (hd : s.conn? k = some d) {t : State}
    (ht : (if d.crib.isNone || d.qid == 0 then u.complete (.conn k) hdr.cid .commandSequence
      else if bad then (netViol u d.port (d.crib.getD 0) 2).complete (.conn k) hdr.cid .transientTransport
      else ioSubmit s (.conn k) hdr op) = t) :
    exec (.capsuleCommand k hdr op bad) s = .next (keep s t) := by
  have hi := icDone_of_capsuleOn hc hd
  obtain ⟨-, htake, -⟩ := hc
  rw [exec_capsuleCommand, execCapsuleCommand]
  refine act_eq h ((pdu_done hd hi _).trans (Eq.trans ?_ ht))
  rw [htake]
  rfl

/-- The R2Ts that are left when `n` bytes have come for the R2T `r`: it goes with its last byte. -/
def r2tsLeft (c : Conn) (r : R2t) (tag n : Nat) : List R2t :=
  if r.got + n < r.len then c.r2ts.map fun t => if t.ttag == tag then { t with got := t.got + n } else t
  else c.r2ts.filter fun t => t.ttag != tag

/-- A command whose data has all come: a job has its descriptor and payload, a write its blocks. -/
def ctxGiven (buf : List Byte) (x : Ctx) : Ctx :=
  match x.op with
  | .job cdw10 rest0 _ => { x with op := .job cdw10 rest0 (some buf) }
  | _ => { x with blocks := (chunks x.nlb 4096 buf).zipIdx.map fun (b, i) => (i, b) }

section
variable {s : State} (h : Live s) {k tag off : Nat} {data : List Byte} {bad : Bool} {c : Conn} (hc : s.conn? k = some c)
  (hi : c.icDone = true)
include h hc hi

theorem exec_h2cdata_noR2t (hr : (c.r2ts.find? fun r => r.ttag == tag) = none) :
    exec (.h2cdata k tag off data bad) s = .next (keep s (pduViol s k .sequence 7)) := by
  rw [exec_h2cdata, execH2cdata]
  refine act_eq h ((pdu_done hc hi _).trans ?_)
  rw [hr]

variable {r : R2t} (hr : (c.r2ts.find? fun r => r.ttag == tag) = some r)
include hr

theorem exec_h2cdata_outOfPlace (ho : off < r.offset ∨ r.offset + r.len < off + data.length ∨ 131072 < data.length) :
    exec (.h2cdata k tag off data bad) s = .next (keep s (pduViol s k .outOfRange 7)) := by
  rw [exec_h2cdata, execH2cdata]
  refine act_eq h ((pdu_done hc hi _).trans ?_)
  rw [hr]
  exact if_pos ho

variable (ho : ¬(off < r.offset ∨ r.offset + r.len < off + data.length ∨ 131072 < data.length)) {x : Ctx}
  (hx : (s.host.ctxs.find? fun x => x.queue == .conn k && x.cid == r.cid) = some x)
include ho hx

theorem exec_h2cdata_bad : exec (.h2cdata k tag off data true) s = .next (keep s (endCtx ((netViol s c.port (c.crib.getD 0) 2).setConn k
    { c with r2ts := c.r2ts.filter fun t => t.cid != r.cid, bufs := Keyed.erase c.bufs r.cid }) x .transientTransport)) := by
  rw [exec_h2cdata, execH2cdata]
  refine act_eq h ((pdu_done hc hi _).trans ?_)
  rw [hr]
  refine (if_neg ho).trans ((if_pos rfl).trans ?_)
  rw [hx]
  rfl

/-- Data that is in place and good joins what has come of its command. -/
theorem exec_h2cdata_good {t : State}
    (ht : (let got := (Keyed.getD c.bufs r.cid (0, 0, [])).2.1 + data.length
      let buf := overlay (Keyed.getD c.bufs r.cid (0, 0, [])).2.2 off data
      let whole := decide (buf.length ≤ got)
      let v := s.setConn k { c with
        r2ts := r2tsLeft c r tag data.length
        bufs := if whole then Keyed.erase c.bufs r.cid
          else Keyed.insert c.bufs r.cid ((Keyed.getD c.bufs r.cid (0, 0, [])).1, got, buf) }
      if whole then v.setCtx x.id (ctxGiven buf) else r2tFill v k) = t) :
    exec (.h2cdata k tag off data false) s = .next (keep s t) := by
  rw [exec_h2cdata, execH2cdata]
  refine act_eq h ((pdu_done hc hi _).trans (Eq.trans ?_ ht))
  rw [hr]
  refine (if_neg ho).trans ((if_neg Bool.false_ne_true).trans ?_)
  rw [hx]
  rfl

/-- With its last byte the command goes on. -/
theorem exec_h2cdata_whole
    (hn : (overlay (Keyed.getD c.bufs r.cid (0, 0, [])).2.2 off data).length ≤ (Keyed.getD c.bufs r.cid (0, 0, [])).2.1 + data.length) :
    exec (.h2cdata k tag off data false) s = .next ((s.setConn k { c with
      r2ts := r2tsLeft c r tag data.length, bufs := Keyed.erase c.bufs r.cid }).setCtx x.id
        (ctxGiven (overlay (Keyed.getD c.bufs r.cid (0, 0, [])).2.2 off data))) := by
  rw [exec_h2cdata_good h hc hi hr ho hx rfl]
  simp only [hn, decide_true, if_true]
  exact congrArg _ (keep_eq rfl rfl rfl rfl rfl)

/-- While some is missing, more of it is asked for. -/
theorem exec_h2cdata_part
    (hn : (Keyed.getD c.bufs r.cid (0, 0, [])).2.1 + data.length < (overlay (Keyed.getD c.bufs r.cid (0, 0, [])).2.2 off data).length) :
    exec (.h2cdata k tag off data false) s = .next (keep s (r2tFill (s.setConn k { c with
      r2ts := r2tsLeft c r tag data.length
      bufs := Keyed.insert c.bufs r.cid ((Keyed.getD c.bufs r.cid (0, 0, [])).1, (Keyed.getD c.bufs r.cid (0, 0, [])).2.1 + data.length,
        overlay (Keyed.getD c.bufs r.cid (0, 0, [])).2.2 off data) }) k)) := by
  rw [exec_h2cdata_good h hc hi hr ho hx rfl]
  simp only [Nat.not_le.2 hn, decide_false, if_false, Bool.false_eq_true]

end
/-! ### The ways a connection ends (R462 to R464, R466, R467) -/

section
variable {s : State} (h : Live s) {k i : Nat} {kind : Fin 3}
include h

theorem exec_pduViolation_ends : exec (.pduViolation k kind) s = .next (keep s (pduViol s k
    (if kind = 0 then .pduHeader else if kind = 1 then .headerDigest else .sequence) (if kind = 0 then 0 else if kind = 1 then 1 else 7))) := by
  rw [exec_pduViolation, execPduViolation]
  refine act_eq h ?_
  match kind with
  | 0 | 1 | 2 => rfl

theorem exec_h2ctermreq_closed (hn : s.conn? k = none) : exec (.h2ctermreq k) s = .next s := by
  rw [exec_h2ctermreq, execH2ctermreq]
  exact act_eq_self h (by rw [hn])

theorem exec_h2ctermreq_ends {c : Conn} (hc : s.conn? k = some c) :
    exec (.h2ctermreq k) s = .next (keep s (connClose (netViol s c.port (c.crib.getD 0) 0) k)) := by
  rw [exec_h2ctermreq, execH2ctermreq]
  exact act_eq h (by rw [hc])

theorem exec_associationKeepAliveExpiry_none (hn : s.net.assocs.find? i = none) :
    exec (.associationKeepAliveExpiry i) s = .next s := by
  rw [exec_associationKeepAliveExpiry, execAssociationKeepAliveExpiry]
  exact act_eq_self h (by rw [hn])

variable {a : Assoc} (ha : s.net.assocs.find? i = some a)
include ha

theorem exec_associationKeepAliveExpiry_off (hk : a.ctl.kato = 0) : exec (.associationKeepAliveExpiry i) s = .next s := by
  rw [exec_associationKeepAliveExpiry, execAssociationKeepAliveExpiry]
  refine act_eq_self h ?_
  rw [ha]
  exact if_pos hk

theorem exec_associationKeepAliveExpiry_ends (hk : a.ctl.kato ≠ 0) : exec (.associationKeepAliveExpiry i) s = .next (keep s (assocEnd
    ((netViol s ((s.net.conns.find? a.admin).elim 0 fun c => c.port) a.crib 5).inc Od.HQ_VIOL_CNT (8 * a.crib + 4)) i)) := by
  rw [exec_associationKeepAliveExpiry, execAssociationKeepAliveExpiry]
  refine act_eq h ?_
  rw [ha]
  exact if_neg hk

end

/-- Settles O45: PDUs before the ICReq, the ICReq, Connect, the other capsules, commands and their data, and the ends of a connection. The
order of the checks of Connect and of a PDU is the model's choice (assumption logs 36 and 76). -/
theorem nvmeTcpConnections : Obligations.NvmeTcpConnections := by
  refine ⟨fun s k cid qid off v i2 i3 i4 n1 n2 d hdr op bad e h he => ?pdu,
    fun s k pfv r2t hd dd h => ⟨exec_icreq_closed h, fun c hc => ⟨exec_icreq_again h hc, fun hi => ⟨exec_icreqTimeout_resets h hc hi,
      fun hv => exec_icreq_first h hc hi (if_pos hv), fun hv => exec_icreq_first h hc hi (if_neg (not_not_intro hv))⟩⟩, ?peerClose⟩,
    fun s u k cid qid sq kato cn hid sub host c h hc => ⟨exec_connect_bound h hc, exec_connect_invalid h hc,
      fun hb h0 hq ha => ?connect⟩,
    fun s u k cid off c h hc => ⟨exec_disconnect_capsule h hc, (exec_authentication h hc).1, (exec_authentication h hc).2,
      exec_propertyGet_refused h hc, fun i a hq hi ha => ⟨fun v hv => ?property, fun h0 h8 hcc hcsts => ?noProperty⟩⟩,
    fun s u k hdr op bad c d h hc hd => ⟨fun hn => ?unbound, fun hs hq hb => ?badCapsule, fun hs hq hb => ?queued⟩,
    fun s k tag off data bad c h hc hi => ⟨exec_h2cdata_noR2t h hc hi,
      fun r hr => ⟨exec_h2cdata_outOfPlace h hc hi hr, fun h1 h2 h3 => ?data⟩⟩,
    fun s k i kind h => ⟨exec_pduViolation_ends h, exec_h2ctermreq_closed h, fun c => exec_h2ctermreq_ends h,
      exec_associationKeepAliveExpiry_none h, fun a ha => ⟨exec_associationKeepAliveExpiry_off h ha,
        exec_associationKeepAliveExpiry_ends h ha⟩⟩⟩
  case pdu =>
    obtain ⟨f, hf⟩ := exec_pdu he
    rw [hf]
    exact ⟨fun hn => act_eq_self h (pdu_closed hn _), fun e hc hi => act_eq h (pdu_early hc hi _)⟩
  case peerClose =>
    rw [exec_tcpPeerClose, execTcpPeerClose]
    exact act_eq h rfl
  case connect =>
    have hv : ¬(sq = 0 ∨ 4095 < sq ∨ (qid = 0 ∧ (kato = 0 ∨ cn ≠ 0xFFFF))) := by
      rintro (hz | hl | ⟨hz, hk | hn⟩)
      · exact h0 hz
      · omega
      · exact (ha hz).1 hk
      · exact hn (ha hz).2
    refine ⟨exec_connect_otherSubsystem h hc hb hv, exec_connect_otherHost h hc hb hv, fun hs b hf w hw => ?_⟩
    refine ⟨fun hn => exec_connect_let h hc hb hv hs hf hw (if_pos hn), fun hst hdev => ?_⟩
    have hserve : ¬(u.g Od.CRIB_STATE w ≠ 1 ∨ u.dev ≠ .serving) := by simp [hst, hdev]
    refine ⟨fun hz hn => exec_connect_let h hc hb hv hs hf hw ((if_neg hserve).trans ((if_pos hz).trans (if_pos hn))),
      fun hz hn id => exec_connect_admin h hc hb hv hs hf hw hserve hz hn, exec_connect_noAssoc h hc hb hv hs hf hw hserve,
      fun hz a hassoc => ⟨exec_connect_otherAssoc h hc hb hv hs hf hw hserve hz hassoc, fun hcrib hnqn hhid => ?_⟩⟩
    have hd : ¬(a.crib ≠ w.val ∨ a.hostNqn ≠ host ∨ a.hostId ≠ hid) := by simp [hcrib, hnqn, hhid]
    exact ⟨exec_connect_exhausted h hc hb hv hs hf hw hserve hz hassoc hd, exec_connect_io h hc hb hv hs hf hw hserve hz hassoc hd⟩
  case property => rw [exec_propertyGet_admin h hc hq hi ha, propertyOf_known hv, Option.elim_some]
  case noProperty => rw [exec_propertyGet_admin h hc hq hi ha, propertyOf_other h0 h8 hcc hcsts, Option.elim_none]
  case unbound => exact exec_capsuleCommand_on h hc hd (if_pos (by simpa using hn))
  case badCapsule =>
    refine exec_capsuleCommand_on h hc hd ((if_neg ?_).trans (if_pos hb))
    rw [← Option.not_isSome, hs]
    simpa using hq
  case queued =>
    subst hb
    refine exec_capsuleCommand_on h hc hd ((if_neg ?_).trans (if_neg Bool.false_ne_true))
    rw [← Option.not_isSome, hs]
    simpa using hq
  case data =>
    have ho : ¬(off < r.offset ∨ r.offset + r.len < off + data.length ∨ 131072 < data.length) := by omega
    refine ⟨?bad, ?good⟩
    case bad =>
      rintro rfl x hx
      exact exec_h2cdata_bad h hc hi hr ho hx
    case good =>
      rintro rfl
      refine ⟨fun hn x hx => exec_h2cdata_whole h hc hi hr ho hx hn, fun hn hm => ?_⟩
      obtain ⟨x, hx⟩ := Option.isSome_iff_exists.1 hm
      exact exec_h2cdata_part h hc hi hr ho hx hn

end Sys2Proof.Machine
end

section
/-! SUPPORT. The caches: the offers to the Hayloft, the ageing sweeps, the write path up to Hayloft staging, and the Rake. -/

namespace Sys2Proof.Keyed

variable {α : Type}

/-- Changing every value leaves the keys: a read gives the image of what was there. -/
theorem find?_map_snd (m : Keyed α) (f : α → α) (k : Nat) : find? (m.map fun p => (p.1, f p.2)) k = (m.find? k).map f := by
  induction m with
  | nil => rfl
  | cons p t ih =>
    simp only [List.map_cons, find?, ih]
    split <;> rfl

theorem mem_of_find? {m : Keyed α} {k : Nat} {v : α} (h : m.find? k = some v) : (k, v) ∈ m := by
  induction m with
  | nil => cases h
  | cons p t ih =>
    rw [find?] at h
    split at h
    case isTrue hk =>
      cases h
      exact hk ▸ List.mem_cons_self
    case isFalse => exact List.mem_cons_of_mem _ (ih h)

end Sys2Proof.Keyed

namespace Sys2Proof.Machine

/-! ### The offers (R511) -/

/-- The state without the first of its offers. -/
def offersLeft (s : State) (rest : List Offer) : State := { s with cache := { s.cache with offers := rest } }

/-- The Hayloft's line of an offered block's sheaf. -/
def heldFor (s : State) (o : Offer) : Option Line := (hayFind s o.tag o.ns (o.lba / 16)).bind fun k => s.cache.hay.find? k

/-- An offered block put into the Hayloft. -/
def offerPut (s : State) (o : Offer) : State × Bool := hayPut s o.tag o.ns (o.lba / 16) [(o.lba % 16, o.data)] 2 false

/-- What becomes of an offer that has been taken from the queue. -/
def offerJudged (s : State) (o : Offer) : State :=
  if s.haySets = 0 then s.inc Od.HAY_OFFER_CNT 5
  else if o.streamed then s.inc Od.HAY_OFFER_CNT 3
  else match heldFor s o with
    | some l =>
      if (l.blocks.find? (o.lba % 16)).isSome then s.inc Od.HAY_OFFER_CNT 2
      else if s.raked o.tag o.ns o.lba then s
      else (offerPut s o).1.inc Od.HAY_OFFER_CNT 0
    | none =>
      if s.raked o.tag o.ns o.lba then s
      else (offerPut s o).1.inc Od.HAY_OFFER_CNT (if (offerPut s o).2 then 1 else 4)

theorem exec_hayloftOffer_none {s : State} (h : Live s) (ho : s.cache.offers = []) : exec .hayloftOffer s = .next s := by
  rw [exec_hayloftOffer, execHayloftOffer]
  exact act_eq_self h (by simp only [ho])

theorem exec_hayloftOffer_first {s : State} {o : Offer} {rest : List Offer} (h : Live s) (ho : s.cache.offers = o :: rest) :
    exec .hayloftOffer s = .next (keep s (offerJudged (offersLeft s rest) o)) := by
  rw [exec_hayloftOffer, execHayloftOffer]
  refine act_eq h ?_
  simp only [ho]
  rfl

section
variable {s : State} {o : Offer}

theorem offerJudged_noHayloft (hz : s.haySets = 0) : offerJudged s o = s.inc Od.HAY_OFFER_CNT 5 := if_pos hz

variable (hz : s.haySets ≠ 0)
include hz

theorem offerJudged_streamed (hs : o.streamed = true) : offerJudged s o = s.inc Od.HAY_OFFER_CNT 3 :=
  (if_neg hz).trans (if_pos hs)

variable (hs : o.streamed = false)
include hs

theorem offerJudged_held {l : Line} (hl : heldFor s o = some l) (hb : (l.blocks.find? (o.lba % 16)).isSome = true) :
    offerJudged s o = s.inc Od.HAY_OFFER_CNT 2 := by
  rw [offerJudged, if_neg hz, if_neg (by simp [hs]), hl]
  exact if_pos hb

/-- A block that a Rake operation reaches is dropped without being counted. -/
theorem offerJudged_raked (hr : s.raked o.tag o.ns o.lba = true)
    (hl : ∀ l, heldFor s o = some l → l.blocks.find? (o.lba % 16) = none) : offerJudged s o = s := by
  rw [offerJudged, if_neg hz, if_neg (by simp [hs])]
  cases hh : heldFor s o with
  | none => exact if_pos hr
  | some l => exact (if_neg (by simp [hl l hh])).trans (if_pos hr)

variable (hr : s.raked o.tag o.ns o.lba = false)
include hr

theorem offerJudged_merged {l : Line} (hl : heldFor s o = some l) (hb : l.blocks.find? (o.lba % 16) = none) :
    offerJudged s o = (offerPut s o).1.inc Od.HAY_OFFER_CNT 0 := by
  rw [offerJudged, if_neg hz, if_neg (by simp [hs]), hl]
  exact (if_neg (by simp [hb])).trans (if_neg (by simp [hr]))

theorem offerJudged_newLine (hl : heldFor s o = none) :
    offerJudged s o = (offerPut s o).1.inc Od.HAY_OFFER_CNT (if (offerPut s o).2 then 1 else 4) := by
  rw [offerJudged, if_neg hz, if_neg (by simp [hs]), hl]
  exact if_neg (by simp [hr])

end

/-! ### Ageing (R509) -/

/-- The state after a pass over the Shelf. -/
def shelfAged (s : State) : State := { s with cache := { s.cache with shelf := s.cache.shelf.map fun p => (p.1, p.2.older) } }

/-- The state after a pass over the Hayloft. -/
def hayAged (s : State) : State := { s with cache := { s.cache with hay := s.cache.hay.map fun p => (p.1, p.2.older) } }

theorem exec_shelfAgeSweep_live {s : State} (h : Live s) : exec .shelfAgeSweep s = .next (shelfAged s) := by
  rw [exec_shelfAgeSweep, execShelfAgeSweep]
  exact act_eq_of_keep (t := shelfAged s) h rfl (keep_eq rfl rfl rfl rfl rfl)

theorem exec_hayloftAgeSweep_live {s : State} (h : Live s) : exec .hayloftAgeSweep s = .next (hayAged s) := by
  rw [exec_hayloftAgeSweep, execHayloftAgeSweep]
  exact act_eq_of_keep (t := hayAged s) h rfl (keep_eq rfl rfl rfl rfl rfl)

/-! ### Hayloft staging and the Sideboard (R513, R514) -/

theorem exec_hayloftStageReserve_none {s : State} (h : Live s) (hx : s.staged = []) : exec .hayloftStageReserve s = .next s := by
  rw [exec_hayloftStageReserve, execHayloftStageReserve]
  exact act_eq_self h (by simp only [hx])

section
variable {s : State} {x : Ctx} {rest : List Ctx} (h : Live s) (hx : s.staged = x :: rest)
include h hx

theorem exec_hayloftStageReserve_waits
    (hw : x.blocks.length ≠ x.nlb ∨ 16384 * s.g Od.HAYLOFT_STAGE_SIZE < s.g Od.HAY_STAGE_USED + x.sheaves) :
    exec .hayloftStageReserve s = .next s := by
  rw [exec_hayloftStageReserve, execHayloftStageReserve]
  refine act_eq_self h ?_
  simp only [hx]
  exact if_neg (by omega)

theorem exec_hayloftStageReserve_takes (hb : x.blocks.length = x.nlb)
    (hu : s.g Od.HAY_STAGE_USED + x.sheaves ≤ 16384 * s.g Od.HAYLOFT_STAGE_SIZE) : exec .hayloftStageReserve s = .next
      ((s.p Od.HAY_STAGE_USED 0 (s.g Od.HAY_STAGE_USED + x.sheaves)).setCtx x.id fun x => { x with stage := 1 }) := by
  rw [exec_hayloftStageReserve, execHayloftStageReserve]
  refine act_eq_of_keep h ?_ (keep_eq rfl rfl rfl rfl rfl)
  simp only [hx]
  exact if_pos ⟨hb, hu⟩

end

/-- The first command in Hayloft staging that has lines left to move. -/
def State.movingCtx (s : State) : Option Ctx := s.host.ctxs.find? fun x => x.isWrite && x.stage == 1 && x.left != 0

/-- The next staging line of a command as a Sideboard entry. -/
def Ctx.nextEntry (x : Ctx) : SideEntry :=
  ⟨x.id, x.lba + (x.nlb - x.left), padTo 4096 (Keyed.getD x.blocks (x.nlb - x.left) zeroBlock)⟩

/-- The state once that line has moved. -/
def lineMoved (s : State) (x : Ctx) : State :=
  ((({ s with cache := { s.cache with side := s.cache.side ++ [x.nextEntry] } } : State).inc Od.SIDEBOARD_USED).sub
    Od.STAGE_LINES_USED 0 1).setCtx x.id fun x => { x with left := x.left - 1 }

theorem exec_sideboardMove_nothing {s : State} (h : Live s) (hx : s.movingCtx = none ∨ 64 ≤ s.cache.side.length) :
    exec .sideboardMove s = .next s := by
  rw [exec_sideboardMove, execSideboardMove]
  refine act_eq_self h ?_
  split
  · rfl
  · next x hm => exact if_neg (by simpa using hx.resolve_left (by simp [State.movingCtx, hm]))

theorem exec_sideboardMove_first {s : State} {x : Ctx} (h : Live s) (hx : s.movingCtx = some x) (hr : s.cache.side.length < 64) :
    exec .sideboardMove s = .next (keep s (if x.left = 1 then handZone (lineMoved s x) x.ns x.zone else lineMoved s x)) := by
  rw [State.movingCtx] at hx
  rw [exec_sideboardMove, execSideboardMove]
  refine act_eq h ?_
  simp only [hx]
  exact if_pos hr

theorem keep_lineMoved (s : State) (x : Ctx) : keep s (lineMoved s x) = lineMoved s x := keep_eq rfl rfl rfl rfl rfl

theorem exec_sideboardDramWrite_none {s : State} (h : Live s) (he : s.cache.side = []) : exec .sideboardDramWrite s = .next s := by
  rw [exec_sideboardDramWrite, execSideboardDramWrite]
  exact act_eq_self h (by simp only [he])

/-- The state once the oldest Sideboard entry has gone to Hayloft staging. -/
def sideEntryWritten (s : State) (e : SideEntry) (rest : List SideEntry) : State :=
  (stagePut { s with cache := { s.cache with side := rest } } e.ctx e.block e.data).sub Od.SIDEBOARD_USED 0 1

theorem exec_sideboardDramWrite_first {s : State} {e : SideEntry} {rest : List SideEntry} (h : Live s)
    (he : s.cache.side = e :: rest) : exec .sideboardDramWrite s = .next (sideEntryWritten s e rest) := by
  rw [exec_sideboardDramWrite, execSideboardDramWrite]
  exact act_eq_of_keep h (by simp only [he]; rfl) (keep_eq rfl rfl rfl rfl rfl)

/-- A command's staged block after a block has been put into Hayloft staging. -/
theorem staged_stagePut (s : State) (id lba : Nat) (data : List Byte) (id' lba' : Nat) :
    Keyed.find? (Keyed.getD (stagePut s id lba data).cache.stage id' []) lba' =
      if id = id' ∧ lba = lba' then some data else Keyed.find? (Keyed.getD s.cache.stage id' []) lba' := by
  rw [stagePut, Keyed.getD, Keyed.find?_insert]
  by_cases hid : id = id'
  · rw [if_pos hid, Option.getD_some, Keyed.find?_insert, hid]
    simp
  · rw [if_neg hid, if_neg (by simp [hid]), Keyed.getD]

/-- Settles O34, in the order of its clauses: an offer, the two sweeps, the reservation of Hayloft staging, a move to the Sideboard and a
write from it. That an offer which a Rake operation reaches is dropped without being counted, and that each step of a write's staging is
a command of its own, are the model's choice (assumption logs 79 and 81). -/
theorem offersAgeingAndWriteStaging : Obligations.OffersAgeingAndWriteStaging := by
  unfold Obligations.OffersAgeingAndWriteStaging
  refine ⟨fun s h => ⟨exec_hayloftOffer_none h, fun o rest ho => ?offer⟩, fun s h => ⟨?shelfAges, ?hayAges⟩,
    fun s h => ⟨exec_hayloftStageReserve_none h, fun x rest hx =>
      ⟨exec_hayloftStageReserve_waits h hx, exec_hayloftStageReserve_takes h hx⟩⟩,
    fun s h => ⟨exec_sideboardMove_nothing h, fun x hx hr => ?move⟩,
    fun s h => ⟨exec_sideboardDramWrite_none h, fun e rest he => ?write⟩⟩
  case offer =>
    intro u held put
    have hexec {t : State} (ht : offerJudged u o = t) : exec .hayloftOffer s = .next (keep s t) :=
      ht ▸ exec_hayloftOffer_first h ho
    have hcounted (k : Nat) : keep s (u.inc Od.HAY_OFFER_CNT k) = u.inc Od.HAY_OFFER_CNT k := keep_eq rfl rfl rfl rfl rfl
    have hleft : keep s u = u := keep_eq rfl rfl rfl rfl rfl
    exact ⟨fun hz => hcounted 5 ▸ hexec (offerJudged_noHayloft hz),
      fun hz hs => hcounted 3 ▸ hexec (offerJudged_streamed hz hs),
      fun hz hs l hl hb => hcounted 2 ▸ hexec (offerJudged_held hz hs hl hb),
      fun hz hs hr hl => (hexec (offerJudged_raked hz hs hr hl)).trans (congrArg _ hleft),
      fun hz hs hr l hl hb => hexec (offerJudged_merged hz hs hr hl hb),
      fun hz hs hr hl => hexec (offerJudged_newLine hz hs hr hl)⟩
  case shelfAges => exact ⟨_, exec_shelfAgeSweep_live h, rfl, Keyed.find?_map_snd _ Line.older⟩
  case hayAges => exact ⟨_, exec_hayloftAgeSweep_live h, rfl, Keyed.find?_map_snd _ Line.older⟩
  case move =>
    intro i e u
    have hexec := exec_sideboardMove_first h hx hr
    refine ⟨fun hl => ?_, fun hl => ?_⟩
    · rw [if_neg hl, keep_lineMoved] at hexec
      exact hexec
    · rw [if_pos hl] at hexec
      exact hexec
  case write =>
    have hstaged := staged_stagePut { s with cache := { s.cache with side := rest } } e.ctx e.block e.data
    refine ⟨_, exec_sideboardDramWrite_first h he, rfl, (hstaged _ _).trans (if_pos ⟨rfl, rfl⟩), fun id lba hne => ?_,
      State.g_p_self .., objectsKept_p s Od.SIDEBOARD_USED 0 _, rfl, rfl, rfl⟩
    exact (hstaged id lba).trans (if_neg fun ⟨hid, hlba⟩ => hne (by rw [hid, hlba]))

/-! ### Dropping blocks from the Shelf (R522, R524) -/

theorem shelf_setShelf_none (s : State) (k : Nat) : (s.setShelf k none).cache.shelf = s.cache.shelf.erase k := by
  unfold State.setShelf
  split <;> rfl

theorem shelf_setHay (s : State) (k : Nat) (l : Option Line) : (s.setHay k l).cache.shelf = s.cache.shelf := by
  unfold State.setHay
  split <;> cases l <;> rfl

/-- Going through a list of lines and erasing those of a test leaves no line of the Shelf that was in the list and passes it. -/
theorem find?_shelf_each {f : State → Nat × Line → State} {p : Line → Bool}
    (hf : ∀ u k l, (f u (k, l)).cache.shelf = if p l then u.cache.shelf.erase k else u.cache.shelf) (m : Keyed Line) (s : State)
    {i : Nat} {l : Line} (h : (s.each m f).cache.shelf.find? i = some l) :
    s.cache.shelf.find? i = some l ∧ ∀ x, (i, x) ∈ m → p x = false := by
  induction m generalizing s with
  | nil => exact ⟨h, by simp⟩
  | cons c m ih =>
    obtain ⟨k, y⟩ := c
    obtain ⟨hs, hm⟩ := ih _ h
    rw [hf] at hs
    cases hy : p y with
    | false =>
      rw [if_neg (by simp [hy])] at hs
      refine ⟨hs, fun x hx => ?_⟩
      obtain hxy | hx := List.mem_cons.1 hx
      · cases hxy
        exact hy
      · exact hm x hx
    | true =>
      rw [if_pos hy, Keyed.find?_erase] at hs
      split at hs
      case isTrue => cases hs
      case isFalse hk =>
        refine ⟨hs, fun x hx => hm x ((List.mem_cons.1 hx).resolve_left fun hxy => hk ?_)⟩
        exact (congrArg Prod.fst hxy).symm

/-- No Shelf line for which the test holds is left. -/
theorem shelf_cacheDrop {s : State} {p : Nat → Nat → Nat → Bool} {i : Nat} {l : Line}
    (h : (cacheDrop s p).cache.shelf.find? i = some l) : p l.tag l.ns l.key = false := by
  have hhay {m : Keyed Line} {f : State → Nat × Line → State} {u : State} (hf : ∀ v c, (f v c).cache.shelf = v.cache.shelf) :
      (u.each m f).cache.shelf = u.cache.shelf :=
    each_inv (P := fun v => v.cache.shelf = u.cache.shelf) m f (fun v c _ hv => (hf v c).trans hv) rfl
  rw [cacheDrop, hhay fun v c => by
    dsimp only
    split
    · rfl
    · split
      · rfl
      · exact shelf_setHay ..] at h
  obtain ⟨hl, hm⟩ := find?_shelf_each (p := fun l => p l.tag l.ns l.key) (fun u k l => by
    dsimp only
    split
    · exact shelf_setShelf_none u k
    · rfl) _ _ h
  exact hm l (Keyed.mem_of_find? hl)

/-! ### The start of a Rake operation (R521 to R523) -/

/-- The oldest queued operation has become the running one. -/
def rakeTaken (s : State) (r : RakeOp) (rest : List RakeOp) : State :=
  { s with cache := { s.cache with rakes := rest, rakeRun := some { r with status := rakeCheck s r } } }

theorem keep_rakeTaken (s : State) (r : RakeOp) (rest : List RakeOp) : keep s (rakeTaken s r rest) = rakeTaken s r rest :=
  keep_eq rfl rfl rfl rfl rfl

theorem rakeStart_nothing {s : State} (h : s.cache.rakeRun.isSome = true ∨ s.cache.rakes = []) (k : Nat)
    (f : State → RakeOp → State) : rakeStart s k f = s := by
  unfold rakeStart
  split
  · next r rest hn hr => simp [hn, hr] at h
  · rfl

section
variable {s : State} {r : RakeOp} {rest : List RakeOp} (hn : s.cache.rakeRun = none) (hr : s.cache.rakes = r :: rest)
  {f : State → RakeOp → State}
include hn hr

theorem rakeStart_otherKind {k : Nat} (hk : r.op ≠ k) : rakeStart s k f = s := by
  simp only [rakeStart, hn, hr]
  exact if_neg hk

theorem rakeStart_refused (hc : rakeCheck s r ≠ 0) : rakeStart s r.op f = rakeTaken s r rest := by
  simp only [rakeStart, hn, hr]
  exact (if_pos trivial).trans (if_neg hc)

theorem rakeStart_runs (hc : rakeCheck s r = 0) : rakeStart s r.op f = f (rakeTaken s r rest) r := by
  simp only [rakeStart, hn, hr]
  exact (if_pos trivial).trans (if_pos hc)

end

/-- DEMOTE's effect on both levels. -/
def rakeDemote (s : State) (r : RakeOp) : State := { s with cache := { s.cache with
    shelf := s.cache.shelf.map fun p => (p.1, if r.reaches p.2.tag p.2.ns p.2.key then { p.2 with age := 3 } else p.2)
    hay := s.cache.hay.map fun p => (p.1,
      if p.2.blocks.any fun b => r.reaches p.2.tag p.2.ns (16 * p.2.key + b.1) then { p.2 with age := 3 } else p.2) } }

/-- PREFETCH's effect: the range's sheaves are read. -/
def rakePrefetch (s : State) (r : RakeOp) : State :=
  s.each (List.range ((r.slba + r.nlb + 15) / 16 - r.slba / 16)) fun s i =>
    prefetchSheaf s (r.nsid - 1) (r.slba / 16 + i) 1 false [rakeMark r.crib]

/-- The effect of each kind of Rake operation. -/
def rakeEffect (k : Nat) (s : State) (r : RakeOp) : State :=
  if k = 2 then rakeDemote s r else if k = 3 then rakePrefetch s r else cacheDrop s r.reaches

/-- The Rake command of each kind. -/
def rakeCommand (k : Nat) (c : Instr) : Prop :=
  k = 1 ∧ c = .invalidate ∨ k = 2 ∧ c = .demote ∨ k = 3 ∧ c = .prefetch ∨ k = 4 ∧ c = .invalidateAll

theorem exec_rakeCommand {k : Nat} {c : Instr} (hc : rakeCommand k c) (s : State) :
    exec c s = act s fun s => rakeStart s k (rakeEffect k) := by
  obtain ⟨rfl, rfl⟩ | ⟨rfl, rfl⟩ | ⟨rfl, rfl⟩ | ⟨rfl, rfl⟩ := hc <;> rfl

/-! ### The end of one (R523, R600) -/

section
variable (s : State) {c : Nat} (hc : c ≤ 32) (st : Nat)
include hc

/-- Once its status is written and it is no longer busy, all that is left is its event. -/
theorem evtReach_rakeEnd : EvtReach ((s.p Od.RAKE_STATUS c st).p Od.RAKE_BUSY c 0) (rakeEnd s c st) :=
  evtReach_raiseCrib _ st hc (by decide)

theorem busy_rakeEnd : (rakeEnd s c st).g Od.RAKE_BUSY c = 0 := by
  rw [(evtReach_rakeEnd s hc st).g (by simp only [Ob.el, Od.RAKE_BUSY]; omega), State.g_p_self, Nat.zero_mod]

theorem status_rakeEnd : (rakeEnd s c st).g Od.RAKE_STATUS c = st % 2 ^ Od.RAKE_STATUS.bits := by
  rw [(evtReach_rakeEnd s hc st).g (by simp only [Ob.el, Od.RAKE_STATUS]; omega), State.g_p_ne _ _ (Ob.el_ne c (by decide)),
    State.g_p_self]

theorem objectsKeptEv_rakeEnd : ObjectsKeptEv [Od.RAKE_BUSY.el c, Od.RAKE_STATUS.el c] s (rakeEnd s c st) :=
  (((ObjectsKept.refl _ s).p (by simp) st).p (by simp) 0).ev.trans ((evtReach_rakeEnd s hc st).kept.mono (by simp))

theorem cache_rakeEnd : (rakeEnd s c st).cache = s.cache := (evtReach_rakeEnd s hc st).only.cache_eq

end

/-- The reads of a running PREFETCH are still to come. -/
def stillReading (s : State) (r : RakeOp) : Prop := r.op = 3 ∧ r.status = 0 ∧ rakeReading s r.crib = true

section
variable {s : State} (h : Live s)
include h

theorem exec_rakeDone_none (hn : s.cache.rakeRun = none) (hr : s.cache.rakes = []) : exec .rakeDone s = .next s := by
  rw [exec_rakeDone, execRakeDone]
  exact act_eq_self h (by simp only [hn, hr])

theorem exec_rakeDone_queued {r : RakeOp} {rest : List RakeOp} (hn : s.cache.rakeRun = none) (hr : s.cache.rakes = r :: rest)
    (ho : r.op ≠ 0) : exec .rakeDone s = .next s := by
  rw [exec_rakeDone, execRakeDone]
  refine act_eq_self h ?_
  simp only [hn, hr]
  exact if_neg ho

theorem exec_rakeDone_reading {r : RakeOp} (hr : s.cache.rakeRun = some r) (hd : stillReading s r) : exec .rakeDone s = .next s := by
  rw [exec_rakeDone, execRakeDone]
  refine act_eq_self h ?_
  simp only [hr]
  exact if_pos hd

theorem exec_rakeDone_ends {r : RakeOp} (hr : s.cache.rakeRun = some r) (hd : ¬stillReading s r) : exec .rakeDone s =
    .next (keep s (rakeEnd { s with cache := { s.cache with rakeRun := none } } r.crib r.status)) := by
  rw [exec_rakeDone, execRakeDone]
  refine act_eq h ?_
  simp only [hr]
  exact if_neg hd

end

/-- Settles O35: nothing to start, another kind's operation, a refused one, the effect of each kind, and RAKE_DONE. What RAKE_DONE does
with an operation of RAKE_OP 0, the model's choice (assumption log 80), is not part of it. -/
theorem rakeOperations : Obligations.RakeOperations := by
  unfold Obligations.RakeOperations
  refine ⟨fun s k c h hc => ?start, fun s h => ⟨exec_rakeDone_none h, fun r hr h3 h0 hd => exec_rakeDone_reading h hr ⟨h3, h0, hd⟩,
    fun r hr hcrib hd => ?ends, fun r rest => exec_rakeDone_queued h⟩⟩
  case start =>
    have hexec {t : State} (ht : rakeStart s k (rakeEffect k) = t) : exec c s = .next (keep s t) :=
      (exec_rakeCommand hc s).trans (act_eq h ht)
    have hstays (ht : rakeStart s k (rakeEffect k) = s) : exec c s = .next s := (hexec ht).trans (congrArg _ (keep_self s))
    refine ⟨fun hn => hstays (rakeStart_nothing hn _ _), fun r rest hn hr => ?_⟩
    intro u
    refine ⟨fun ho => hstays (rakeStart_otherKind hn hr ho), ?refused, ?invalidate, ?demote, ?prefetch⟩
    case refused =>
      rintro rfl hst
      exact (hexec (rakeStart_refused hn hr hst)).trans (congrArg _ (keep_rakeTaken s r rest))
    case invalidate =>
      rintro rfl hst hk
      have heffect : rakeEffect r.op u r = cacheDrop u r.reaches := by
        rw [rakeEffect, if_neg (by omega), if_neg (by omega)]
      have hdrops : exec c s = .next (keep s (cacheDrop u r.reaches)) := hexec ((rakeStart_runs hn hr hst).trans heffect)
      refine ⟨hdrops, fun t ht i l hl => ?_⟩
      cases hdrops.symm.trans ht
      exact shelf_cacheDrop hl
    case demote =>
      rintro rfl hst hk
      have heffect : rakeEffect r.op u r = rakeDemote u r := if_pos hk
      have hkeep : keep s (rakeDemote u r) = rakeDemote u r := keep_eq rfl rfl rfl rfl rfl
      exact ⟨_, (hexec ((rakeStart_runs hn hr hst).trans heffect)).trans (congrArg _ hkeep), rfl,
        Keyed.find?_map_snd s.cache.shelf fun l => if r.reaches l.tag l.ns l.key then { l with age := 3 } else l⟩
    case prefetch =>
      rintro rfl hst hk
      have heffect : rakeEffect r.op u r = rakePrefetch u r := by rw [rakeEffect, if_neg (by omega), if_pos hk]
      exact hexec ((rakeStart_runs hn hr hst).trans heffect)
  case ends =>
    exact ⟨_, exec_rakeDone_ends h hr hd, cache_rakeEnd _ hcrib _, busy_rakeEnd _ hcrib _, status_rakeEnd _ hcrib _,
      objectsKeptEv_rakeEnd { s with cache := { s.cache with rakeRun := none } } hcrib _⟩

end Sys2Proof.Machine
end

section
/-! SUPPORT. Memory protection: erasure mode, error counters, the error log's REPEAT, retirement, and the check-bit test mode. -/

namespace Sys2Proof.Machine

/-! ### Going through a list -/

/-- What one round brings about and no round undoes holds after all of them. -/
theorem each_brings {α : Type} {P : State → Prop} {l : List α} {f : State → α → State} {x : α} (hx : x ∈ l) (hf : ∀ u, P (f u x))
    (hk : ∀ u y, y ∈ l → P u → P (f u y)) (s : State) : P (s.each l f) := by
  induction l generalizing s with
  | nil => cases hx
  | cons y l ih =>
    have hl : ∀ u z, z ∈ l → P u → P (f u z) := fun u z hz => hk u z (List.mem_cons_of_mem y hz)
    obtain rfl | hx := List.mem_cons.1 hx
    · exact each_inv l f hl (hf s)
    · exact ih hx hl _

@[simp] theorem State.g_answer (s : State) (who code : Nat) (o : Ob) (e : Nat) : (s.answer who code).g o e = s.g o e := rfl

/-! ### Erasure mode (R529) -/

theorem chestOnly_chestPut (s : State) (region pos : Nat) (w : List Waiter) : ChestOnly s (s.chestPut region pos w).1 := by
  unfold State.chestPut
  split
  · rfl
  · split
    · exact chestOnly_chestMade s region pos
    · rfl

theorem ChestOnly.mem_eq {s t : State} (h : ChestOnly s t) : t.mem = s.mem := by rw [h]
theorem ChestOnly.cache_eq {s t : State} (h : ChestOnly s t) : t.cache = s.cache := by rw [h]

/-- MEM_ERASE_DEV of a rank is written and its record asked of the Chest. -/
def eraseAsked (s : State) (r v : Nat) : State :=
  ((s.p Od.MEM_ERASE_DEV r v).chestPut Region.state Pos.eraseDev [.eraseDev r v]).1

/-- All that a record made at once adds is the value the Chest holds. -/
theorem setErase_eq (s : State) (r v : Nat) : ∃ m, setErase s r v = { eraseAsked s r v with mem := m } := by
  unfold setErase eraseAsked
  dsimp only
  generalize State.chestPut _ _ _ _ = x
  obtain ⟨u, made⟩ := x
  cases made
  · exact ⟨u.mem, rfl⟩
  · exact ⟨_, rfl⟩

theorem out_setErase (s : State) (r v : Nat) : (setErase s r v).out = s.out := by
  obtain ⟨m, hm⟩ := setErase_eq s r v
  rw [hm]
  exact (chestOnly_chestPut ..).out_eq

theorem od_setErase (s : State) (r v : Nat) : (setErase s r v).od = (eraseAsked s r v).od := by
  obtain ⟨m, hm⟩ := setErase_eq s r v
  rw [hm]

theorem objectsKeptEv_eraseRecord (s : State) (r v : Nat) : ObjectsKeptEv [] (s.p Od.MEM_ERASE_DEV r v) (setErase s r v) :=
  fun _ _ h1 h2 h3 => (at_chestPut _ _ _ _ (by decide) ⟨h1, h2, h3⟩).trans (at_od (od_setErase s r v))

theorem objectsKeptEv_setErase (s : State) (r v : Nat) : ObjectsKeptEv [Od.MEM_ERASE_DEV.el r] s (setErase s r v) :=
  (objectsKept_p s Od.MEM_ERASE_DEV r v).ev.trans ((objectsKeptEv_eraseRecord s r v).mono (by simp))

/-- A rank's element reads as the device it was set to. -/
theorem g_setErase_self (s : State) {r : Nat} (hr : r < 4) (v : Nat) : (setErase s r v).g Od.MEM_ERASE_DEV r = v % 256 := by
  rw [(objectsKeptEv_eraseRecord s r v).g (by simp) (by simp only [Ob.el, Od.MEM_ERASE_DEV]; omega), State.g_p_self]
  rfl

/-- Another rank's element stays. -/
theorem g_setErase_ne (s : State) {r q : Nat} (hq : q < 4) (hne : q ≠ r) (v : Nat) :
    (setErase s r v).g Od.MEM_ERASE_DEV q = s.g Od.MEM_ERASE_DEV q :=
  (objectsKeptEv_setErase s r v).g (by simp only [Ob.el, List.mem_singleton]; omega) (by simp only [Ob.el, Od.MEM_ERASE_DEV]; omega)

theorem exec_memEraseDevWrite_admitted {s : State} {r : Fin 4} {v : Nat} (h : Live s) (hw : s.writeCodeOf 0 Od.MEM_ERASE_DEV r = 0)
    (hv : v ≤ 9 ∨ v = 0xFF) : exec (.memEraseDevWrite r v) s = .next (keep s ((setErase s r v).answer 0 0)) := by
  rw [exec_memEraseDevWrite, execMemEraseDevWrite, actWrite_live h hw, if_pos hv]

theorem exec_memEraseDevWrite_range {s : State} {r : Fin 4} {v : Nat} (h : Live s) (hw : s.writeCodeOf 0 Od.MEM_ERASE_DEV r = 0)
    (hv : ¬(v ≤ 9 ∨ v = 0xFF)) : exec (.memEraseDevWrite r v) s = .next (s.answer 0 0x07) := by
  rw [exec_memEraseDevWrite, execMemEraseDevWrite, actWrite_live h hw, if_neg hv, keep_answer (keep_self s)]

/-! ### The error counters (R534) -/

/-- Only the object differs. -/
theorem fill_only (s : State) (o : Ob) (first n v : Nat) : s.fill o first n v = { s with od := (s.fill o first n v).od } :=
  each_rel (R := fun u w : State => w = { u with od := w.od }) (fun _ => rfl) (fun h k => by rw [k, h]) _ _ (fun _ _ _ => rfl) s

theorem objectsKept_fill (s : State) (o : Ob) (n v : Nat) : ObjectsKept ((List.range n).map o.el) s (s.fill o 0 n v) :=
  each_rel (R := ObjectsKept _) (.refl _) .trans _ _
    (fun u i hi => (ObjectsKept.refl _ u).p (List.mem_map.2 ⟨i, hi, by rw [Nat.zero_add]⟩) v) s

theorem g_fill (s : State) (o : Ob) {n e : Nat} (he : e < n) (v : Nat) : (s.fill o 0 n v).g o e = v % 2 ^ o.bits :=
  each_brings (P := fun u => u.g o e = v % 2 ^ o.bits) (x := e) (List.mem_range.2 he)
    (fun u => by rw [Nat.zero_add, State.g_p_self])
    (fun u i _ hu => by
      rw [State.g_p]
      split
      · rfl
      · exact hu) s

theorem memCeClear_only (s : State) : memCeClear s = { s with od := (memCeClear s).od } := by
  unfold memCeClear
  rw [fill_only (s.fill ..), fill_only s]

theorem objectsKept_memCeClear (s : State) :
    ObjectsKept ((List.range 43).map Od.MEM_CE_CNT.el ++ (List.range 2).map Od.MEM_CE_STICKY.el) s (memCeClear s) :=
  ((objectsKept_fill s Od.MEM_CE_CNT 43 0).mono fun _ => List.mem_append_left _).trans
    ((objectsKept_fill _ Od.MEM_CE_STICKY 2 0).mono fun _ => List.mem_append_right _)

theorem g_memCeClear_cnt (s : State) {e : Nat} (he : e < 43) : (memCeClear s).g Od.MEM_CE_CNT e = 0 := by
  have hkept : (memCeClear s).g Od.MEM_CE_CNT e = (s.fill Od.MEM_CE_CNT 0 43 0).g Od.MEM_CE_CNT e :=
    (objectsKept_fill (s.fill Od.MEM_CE_CNT 0 43 0) Od.MEM_CE_STICKY 2 0).g (by
      simp only [Ob.el, Od.MEM_CE_CNT, Od.MEM_CE_STICKY, List.mem_map, List.mem_range]
      omega)
  rw [hkept, g_fill _ _ he, Nat.zero_mod]

theorem g_memCeClear_sticky (s : State) {w : Nat} (hw : w < 2) : (memCeClear s).g Od.MEM_CE_STICKY w = 0 := by
  rw [memCeClear, g_fill _ _ hw, Nat.zero_mod]

theorem exec_memCeClear_admitted {s : State} (h : Live s) (hw : s.writeCodeOf 0 Od.MEM_CE_CLEAR 0 = 0) :
    exec .memCeClear s = .next ((memCeClear s).answer 0 0) := by
  rw [exec_memCeClear, execMemCeClear, actWrite_live h hw, keep_answer]
  rw [memCeClear_only]
  exact keep_eq rfl rfl rfl rfl rfl

/-! ### The log's REPEAT (R539) -/

theorem ChestOnly.keep_eq {s t u : State} (h : ChestOnly t u) (ht : keep s t = t) : keep s u = u := by
  rw [h]
  exact congrArg (fun x : State => { x with od := u.od, host := u.host, chest := u.chest }) ht

theorem exec_memLogRepeatFlush_dirty {s : State} (h : Live s) (hd : s.mem.dirty = true) (hc : s.chestClosed = false) :
    exec .memLogRepeatFlush s = .next
      (({ s with mem := { s.mem with dirty := false } }).chestWrite Region.memLog (s.g Od.MEM_ERR_HEAD % 256)) := by
  rw [exec_memLogRepeatFlush, execMemLogRepeatFlush]
  exact act_eq_of_keep h (if_pos (by rw [hd, hc]; rfl)) ((chestOnly_chestWrite ..).keep_eq (keep_eq rfl rfl rfl rfl rfl))

theorem exec_memLogRepeatFlush_nothing {s : State} (h : Live s) (hd : s.mem.dirty = false ∨ s.chestClosed = true) :
    exec .memLogRepeatFlush s = .next s := by
  rw [exec_memLogRepeatFlush, execMemLogRepeatFlush]
  exact act_eq_self h (if_neg (by obtain hd | hc := hd <;> simp [*]))

/-! ### Requests of retirement (R543, R686) -/

section
variable {s : State} {v : Nat}

theorem memRetireReq_busy (hb : s.g Od.PF_STATE ≠ 0 ∨ s.g Od.MEM_RETIRE_STATE = 1) : memRetireReq s v = (s, 0x0A) := if_pos hb

variable (hp : s.g Od.PF_STATE = 0) (hr : s.g Od.MEM_RETIRE_STATE ≠ 1)
include hp hr

theorem memRetireReq_refused (hc : retireCheck s v ≠ 0) : memRetireReq s v = (s.p Od.MEM_RETIRE_STATE 0 (retireCheck s v), 0) :=
  (if_neg fun hb => hb.elim (· hp) hr).trans (if_pos hc)

theorem memRetireReq_runs (hc : retireCheck s v = 0) :
    memRetireReq s v = ((s.p Od.MEM_RETIRE_STATE 0 1).setMem fun m => { m with retiring := some v }, 0) :=
  (if_neg fun hb => hb.elim (· hp) hr).trans (if_neg (not_not_intro hc))

end

theorem exec_memRetireReq_admitted {s t : State} {v code : Nat} (h : Live s) (hw : s.writeCodeOf 0 Od.MEM_RETIRE_REQ 0 = 0)
    (hm : memRetireReq s v = (t, code)) (ht : keep s t = t) : exec (.memRetireReq v) s = .next (t.answer 0 code) := by
  rw [exec_memRetireReq, execMemRetireReq, actWrite_live h hw, hm, keep_answer ht]

/-! ### The retirement list (R544 to R546) -/

/-- An entry of the list is written, and its record. -/
def retireEntry (s : State) (j v : Nat) : State := (s.p Od.MEM_RETIRE_LIST j v).chestWrite Region.state (Pos.retire (j / 12))

theorem objectsKeptEv_entryRecord (s : State) (j v : Nat) : ObjectsKeptEv [] (s.p Od.MEM_RETIRE_LIST j v) (retireEntry s j v) :=
  objectsKeptEv_chestWrite _ _ (by decide)

theorem chestOnly_retireEntry (s : State) (j v : Nat) : ChestOnly (s.p Od.MEM_RETIRE_LIST j v) (retireEntry s j v) :=
  chestOnly_chestWrite ..

/-- Reading the list after an entry is written. -/
theorem g_retireEntry (s : State) {i : Nat} (hi : i < 4128) (j v : Nat) :
    (retireEntry s j v).g Od.MEM_RETIRE_LIST i = if j = i then v % 2 ^ 32 else s.g Od.MEM_RETIRE_LIST i := by
  rw [(objectsKeptEv_entryRecord s j v).g (by simp) (by simp only [Ob.el, Od.MEM_RETIRE_LIST]; omega), State.g_p]
  simp only [Ob.el, Nat.add_left_cancel_iff]
  rfl

/-- The list holds what is not 0 of its entries. -/
theorem mem_retireList {s : State} {j : Nat} (hj : j < 4128) (hv : s.g Od.MEM_RETIRE_LIST j ≠ 0) :
    (j, s.g Od.MEM_RETIRE_LIST j) ∈ retireList s := by
  simp only [retireList, List.mem_filter, List.mem_map, List.mem_range]
  exact ⟨⟨j, hj, rfl⟩, by simpa using hv⟩

theorem retireList_eq_nil {s : State} (h : ∀ j < 4128, s.g Od.MEM_RETIRE_LIST j = 0) : retireList s = [] := by
  simp only [retireList, List.filter_eq_nil_iff, List.mem_map, List.mem_range]
  rintro _ ⟨j, hj, rfl⟩
  simp [h j hj]

theorem objectsKept_retireCount (s : State) :
    ObjectsKept [Od.MEM_RETIRE_COUNT.el 0, Od.MEM_RETIRE_COUNT.el 1] s (retireCount s) :=
  ((ObjectsKept.refl _ s).p (by simp) _).p (by simp) _

theorem mem_retireCount (s : State) : (retireCount s).mem = s.mem := by
  rw [retireCount, State.mem_p, State.mem_p]

theorem cache_retireCount (s : State) : (retireCount s).cache = s.cache := by
  rw [retireCount, State.cache_p, State.cache_p]

/-- An object other than the counts reads as before they were reported. -/
theorem g_retireCount (s : State) {o : Ob} {e : Nat} (ho : o.el e / 4096 ≠ 0x51052) : (retireCount s).g o e = s.g o e :=
  (objectsKept_retireCount s).g fun hm => ho (by
    simp only [List.mem_cons, List.not_mem_nil, or_false] at hm
    obtain hm | hm := hm <;> rw [hm] <;> rfl)

theorem g_retireCount_regions (s : State) : (retireCount s).g Od.MEM_RETIRE_COUNT 0 =
    (((retireList s).map (·.2)).filter fun e => !entryIsBank e).length % 2 ^ 16 := by
  rw [retireCount, State.g_p_ne _ _ (by decide), State.g_p_self]
  rfl

theorem g_retireCount_banks (s : State) : (retireCount s).g Od.MEM_RETIRE_COUNT 1 =
    (((retireList s).map (·.2)).filter entryIsBank).length % 2 ^ 16 := State.g_p_self ..

/-! ### MEM_RETIRE_DONE (R544) -/

theorem hay_setHay_none (s : State) (k : Nat) : (s.setHay k none).cache.hay = s.cache.hay.erase k := by
  unfold State.setHay
  split <;> rfl

theorem hayFind_setHay_none (s : State) (k i : Nat) :
    (s.setHay k none).cache.hay.find? i = if k = i then none else s.cache.hay.find? i := by
  rw [hay_setHay_none, Keyed.find?_erase]

/-- Taking away a line that is not there changes no object. -/
theorem od_setHay_absent {s : State} {k : Nat} (hk : s.cache.hay.find? k = none) : (s.setHay k none).od = s.od := by
  simp only [State.setHay, hk]

/-- The Hayloft without the lines of some positions. -/
def hayWithout (s : State) (lines : List Nat) : State := s.each lines fun s k => s.setHay k none

theorem hayFind_setHay_kept {s : State} {i : Nat} (k : Nat) (hi : s.cache.hay.find? i = none) :
    (s.setHay k none).cache.hay.find? i = none := by
  rw [hayFind_setHay_none, hi, ite_self]

theorem hayFind_hayWithout (s : State) {lines : List Nat} {k : Nat} (hk : k ∈ lines) : (hayWithout s lines).cache.hay.find? k = none :=
  each_brings (P := fun u => u.cache.hay.find? k = none) hk (fun u => by rw [hayFind_setHay_none, if_pos rfl])
    (fun _ i _ => hayFind_setHay_kept i) s

theorem od_hayWithout_absent {s : State} {lines : List Nat} (hk : ∀ k ∈ lines, s.cache.hay.find? k = none) :
    (hayWithout s lines).od = s.od :=
  (each_inv (P := fun u => u.od = s.od ∧ ∀ k ∈ lines, u.cache.hay.find? k = none) lines _
    (fun _ i hi ⟨hod, habsent⟩ => ⟨(od_setHay_absent (habsent i hi)).trans hod, fun k hk => hayFind_setHay_kept i (habsent k hk)⟩)
    ⟨rfl, hk⟩).1

/-- The first empty position of the list. -/
def firstEmpty (s : State) : Nat := ((List.range 4128).find? fun j => s.g Od.MEM_RETIRE_LIST j == 0).getD 0

theorem firstEmpty_eq {s : State} {j : Nat} (hj : j < 4128) (h0 : s.g Od.MEM_RETIRE_LIST j = 0)
    (hl : ∀ i < j, s.g Od.MEM_RETIRE_LIST i ≠ 0) : firstEmpty s = j := by
  have hfind : ((List.range 4128).find? fun j => s.g Od.MEM_RETIRE_LIST j == 0) = some j :=
    List.find?_range_eq_some.2 ⟨by simp [h0], List.mem_range.2 hj, fun i hi => by simp [hl i hi]⟩
  rw [firstEmpty, hfind, Option.getD_some]

/-- A region's retirement has ended: `u` is the state without the lines in its frames. -/
def regionRetired (u : State) (v : Nat) : State :=
  retireCount (((retireEntry u (firstEmpty u) v).p Od.MEM_RETIRE_STATE 0 2).setMem fun m => { m with retiring := none })

theorem exec_memRetireDone_none {s : State} (h : Live s) (lines : List Nat) (hr : s.mem.retiring = none) :
    exec (.memRetireDone lines) s = .next s := by
  rw [exec_memRetireDone, execMemRetireDone]
  exact act_eq_self h (by simp only [hr])

theorem exec_memRetireDone_region {s : State} (h : Live s) (lines : List Nat) {v : Nat} (hr : s.mem.retiring = some v)
    (hv : entryIsBank v = false) : exec (.memRetireDone lines) s = .next (keep s (regionRetired (hayWithout s lines) v)) := by
  rw [exec_memRetireDone, execMemRetireDone]
  refine act_eq h ?_
  simp only [hr, hv, Bool.false_eq_true, if_false]
  rfl

theorem retiring_regionRetired (u : State) (v : Nat) : (regionRetired u v).mem.retiring = none := by
  rw [regionRetired, mem_retireCount]
  rfl

theorem cache_regionRetired (u : State) (v : Nat) : (regionRetired u v).cache = u.cache := by
  rw [regionRetired, cache_retireCount]
  exact (chestOnly_retireEntry u _ v).cache_eq

theorem g_regionRetired_state (u : State) (v : Nat) : (regionRetired u v).g Od.MEM_RETIRE_STATE = 2 := by
  rw [regionRetired, g_retireCount _ (by decide), State.g_setMem, State.g_p_self]
  rfl

theorem g_regionRetired_list (u : State) (v : Nat) {i : Nat} (hi : i < 4128) : (regionRetired u v).g Od.MEM_RETIRE_LIST i =
    if firstEmpty u = i then v % 2 ^ 32 else u.g Od.MEM_RETIRE_LIST i := by
  rw [regionRetired, g_retireCount _ (by simp only [Ob.el, Od.MEM_RETIRE_LIST]; omega), State.g_setMem,
    State.g_p_ne _ _ (by simp only [Ob.el, Od.MEM_RETIRE_LIST, Od.MEM_RETIRE_STATE]; omega), g_retireEntry _ hi]

/-! ### MEM_RETIRE_CLEAR (R546) -/

/-- The state with every entry of its list emptied. -/
def listEmptied (s : State) : State := s.each (retireList s) fun s p => retireEntry s p.1 0

theorem g_listEmptied (s : State) {j : Nat} (hj : j < 4128) : (listEmptied s).g Od.MEM_RETIRE_LIST j = 0 := by
  have hkept (u : State) (p : Nat × Nat) (_ : p ∈ retireList s) (hu : u.g Od.MEM_RETIRE_LIST j = 0) :
      (retireEntry u p.1 0).g Od.MEM_RETIRE_LIST j = 0 := by
    rw [g_retireEntry _ hj, hu, Nat.zero_mod, ite_self]
  by_cases hv : s.g Od.MEM_RETIRE_LIST j = 0
  · exact each_inv (P := fun u => u.g Od.MEM_RETIRE_LIST j = 0) _ _ hkept hv
  · exact each_brings (P := fun u => u.g Od.MEM_RETIRE_LIST j = 0) (mem_retireList hj hv)
      (fun u => by rw [g_retireEntry _ hj, if_pos rfl, Nat.zero_mod]) hkept s

/-- The state with every rank in normal mode. -/
def ranksNormal (s : State) : State := s.each (List.range 4) fun s r => setErase s r 0xFF

theorem g_ranksNormal (s : State) {r : Nat} (hr : r < 4) : (ranksNormal s).g Od.MEM_ERASE_DEV r = 0xFF :=
  each_brings (P := fun u => u.g Od.MEM_ERASE_DEV r = 0xFF) (List.mem_range.2 hr) (fun u => g_setErase_self u hr 0xFF)
    (fun u q _ hu => by
      obtain rfl | hne := eq_or_ne r q
      · exact g_setErase_self u hr 0xFF
      · exact (g_setErase_ne u hr hne 0xFF).trans hu) s

/-- Which leaves the list. -/
theorem g_ranksNormal_list (s : State) {j : Nat} (hj : j < 4128) : (ranksNormal s).g Od.MEM_RETIRE_LIST j = s.g Od.MEM_RETIRE_LIST j :=
  each_inv (P := fun u => u.g Od.MEM_RETIRE_LIST j = s.g Od.MEM_RETIRE_LIST j) _ _ (fun u r hr hu =>
    ((objectsKeptEv_setErase u r 0xFF).g
      (by
        rw [List.mem_range] at hr
        simp only [Ob.el, Od.MEM_RETIRE_LIST, Od.MEM_ERASE_DEV, List.mem_singleton]
        omega)
      (by simp only [Ob.el, Od.MEM_RETIRE_LIST]; omega)).trans hu) rfl

/-- What is left is to count. -/
def retireCleared (s : State) : State :=
  ((ranksNormal (listEmptied s)).setMem fun m => { m with gone := [] }).p Od.HAY_LINES_RETIRED 0 0

theorem retireClear_eq (s : State) : retireClear s = retireCount (retireCleared s) := rfl

theorem g_retireCleared_list (s : State) {j : Nat} (hj : j < 4128) : (retireCleared s).g Od.MEM_RETIRE_LIST j = 0 := by
  rw [retireCleared, State.g_p_ne _ _ (by simp only [Ob.el, Od.MEM_RETIRE_LIST, Od.HAY_LINES_RETIRED]; omega), State.g_setMem,
    g_ranksNormal_list _ hj, g_listEmptied _ hj]

theorem g_retireClear_list (s : State) {j : Nat} (hj : j < 4128) : (retireClear s).g Od.MEM_RETIRE_LIST j = 0 := by
  rw [retireClear_eq, g_retireCount _ (by simp only [Ob.el, Od.MEM_RETIRE_LIST]; omega), g_retireCleared_list _ hj]

theorem g_retireClear_erase (s : State) {r : Nat} (hr : r < 4) : (retireClear s).g Od.MEM_ERASE_DEV r = 0xFF := by
  rw [retireClear_eq, g_retireCount _ (by simp only [Ob.el, Od.MEM_ERASE_DEV]; omega), retireCleared,
    State.g_p_ne _ _ (by simp only [Ob.el, Od.MEM_ERASE_DEV, Od.HAY_LINES_RETIRED]; omega), State.g_setMem, g_ranksNormal _ hr]

theorem retireList_retireCleared (s : State) : retireList (retireCleared s) = [] := retireList_eq_nil fun _ => g_retireCleared_list s

theorem g_retireClear_regions (s : State) : (retireClear s).g Od.MEM_RETIRE_COUNT 0 = 0 := by
  rw [retireClear_eq, g_retireCount_regions, retireList_retireCleared]
  rfl

theorem g_retireClear_banks (s : State) : (retireClear s).g Od.MEM_RETIRE_COUNT 1 = 0 := by
  rw [retireClear_eq, g_retireCount_banks, retireList_retireCleared]
  rfl

theorem g_retireClear_lines (s : State) : (retireClear s).g Od.HAY_LINES_RETIRED = 0 := by
  rw [retireClear_eq, g_retireCount _ (by decide), retireCleared, State.g_p_self, Nat.zero_mod]

theorem exec_memRetireClear_admitted {s t : State} {v : Nat} (h : Live s) (hw : s.writeCodeOf 0 Od.MEM_RETIRE_CLEAR 0 = 0)
    (hm : memRetireClear s v = t) : exec (.memRetireClear v) s = .next (keep s (t.answer 0 0)) := by
  rw [exec_memRetireClear, execMemRetireClear, actWrite_live h hw, hm]

/-- Settles O22, in the order of its clauses: erasure mode, the counters, REPEAT, requests, the end of a region's retirement and the
clear. The first empty place, the answer to a refused request, the wrong key without effect and the lines that are taken are the model's
choice (assumption log 85), as is BUSY while the power-fail sequence runs (log 42). -/
theorem memoryErasureCountersAndRetirement : Obligations.MemoryErasureCountersAndRetirement := by
  unfold Obligations.MemoryErasureCountersAndRetirement
  refine ⟨fun s r v h hw => ⟨fun hv => ?erase, exec_memEraseDevWrite_range h hw⟩, fun s h hw => ?counters,
    fun s h => ⟨exec_memLogRepeatFlush_dirty h, exec_memLogRepeatFlush_nothing h⟩,
    fun s v h hw => ⟨fun hb => ?busy, fun hp hr hc => ?refused, fun hp hr hc => ?runs⟩,
    fun s lines h => ⟨exec_memRetireDone_none h lines, fun v hr hv => ?retired⟩,
    fun s v h hw => ⟨fun hv => ?wrongKey, fun hv => ?cleared⟩⟩
  case erase =>
    have hbyte : v % 256 = v := Nat.mod_eq_of_lt (by omega)
    exact ⟨_, exec_memEraseDevWrite_admitted h hw hv, (g_setErase_self s r.isLt v).trans hbyte,
      congrArg (· ++ _) (out_setErase s r v), objectsKeptEv_setErase s r v⟩
  case counters =>
    exact ⟨_, exec_memCeClear_admitted h hw, fun e he => (State.g_answer ..).trans (g_memCeClear_cnt s he),
      fun w hw => (State.g_answer ..).trans (g_memCeClear_sticky s hw), congrArg (·.answer 0 0) (memCeClear_only s),
      (objectsKept_memCeClear s).trans (objectsKept_of_od (State.od_emit ..))⟩
  case busy => exact exec_memRetireReq_admitted h hw (memRetireReq_busy hb) (keep_self s)
  case refused => exact exec_memRetireReq_admitted h hw (memRetireReq_refused hp hr hc) (keep_p ..)
  case runs => exact exec_memRetireReq_admitted h hw (memRetireReq_runs hp hr hc) (keep_eq rfl rfl rfl rfl rfl)
  case retired =>
    refine ⟨_, exec_memRetireDone_region h lines hr hv, ?_⟩
    simp only [keep_mem, keep_g, keep_cache]
    refine ⟨retiring_regionRetired _ v, g_regionRetired_state _ v, fun k hk => ?_, fun habsent j hj h0 hl => ?_⟩
    · rw [cache_regionRetired]
      exact hayFind_hayWithout s hk
    · have hlist (i : Nat) : (hayWithout s lines).g Od.MEM_RETIRE_LIST i = s.g Od.MEM_RETIRE_LIST i :=
        (at_od (od_hayWithout_absent habsent)).g
      have hfirst : firstEmpty (hayWithout s lines) = j :=
        firstEmpty_eq hj ((hlist j).trans h0) fun i hi => (hlist i).symm ▸ hl i hi
      refine ⟨?_, fun i hi hne => ?_⟩
      · rw [g_regionRetired_list _ _ hj, if_pos hfirst]
      · rw [g_regionRetired_list _ _ hi, if_neg (hfirst ▸ hne.symm), hlist]
  case wrongKey =>
    exact (exec_memRetireClear_admitted h hw (if_neg hv)).trans (congrArg _ (keep_answer (keep_self s) 0 0))
  case cleared =>
    refine ⟨_, exec_memRetireClear_admitted h hw (if_pos hv), ?_⟩
    simp only [keep_g, State.g_answer]
    exact ⟨fun _ => g_retireClear_list s, fun _ => g_retireClear_erase s,
      g_retireClear_regions s, g_retireClear_banks s, g_retireClear_lines s⟩

/-! ### Records of the error log (R538, R539) -/

/-- What logging a memory error leaves: the blobs, the test lines, and every object but those of the log, the events and the Chest's
counts. -/
structure LogReach (s t : State) : Prop where
  blobs : t.blobs = s.blobs
  test : t.mem.test = s.mem.test
  kept : ObjectsKeptEv [Od.MEM_ERR_HEAD.el 0, Od.MEM_ERR_LOST.el 0] s t

theorem LogReach.refl (s : State) : LogReach s s := ⟨rfl, rfl, .refl _ s⟩

theorem LogReach.trans {s t u : State} (h : LogReach s t) (k : LogReach t u) : LogReach s u :=
  ⟨k.blobs.trans h.blobs, k.test.trans h.test, h.kept.trans k.kept⟩

theorem LogReach.ite {s t u : State} {c : Prop} [Decidable c] (h : LogReach s t) (k : LogReach s u) :
    LogReach s (if c then t else u) := by
  split
  · exact h
  · exact k

theorem EvtReach.log {s t : State} (h : EvtReach s t) : LogReach s t :=
  ⟨h.only.blobs_eq, congrArg MemSt.test h.only.mem_eq, h.kept.mono (by simp)⟩

theorem logReach_p {o : Ob} (s : State) (v : Nat) (ho : o.el 0 ∈ [Od.MEM_ERR_HEAD.el 0, Od.MEM_ERR_LOST.el 0]) : LogReach s (s.p o 0 v) :=
  ⟨rfl, rfl, ((ObjectsKept.refl _ s).p ho v).ev⟩

theorem logReach_chestWrite (s : State) (pos : Nat) : LogReach s (s.chestWrite Region.memLog pos) :=
  ⟨(chestOnly_chestWrite ..).blobs_eq, congrArg MemSt.test (chestOnly_chestWrite ..).mem_eq,
    (objectsKeptEv_chestWrite s pos (by decide)).mono (by simp)⟩

theorem logReach_setMem (s : State) {f : MemSt → MemSt} (hf : (f s.mem).test = s.mem.test) : LogReach s (s.setMem f) :=
  ⟨rfl, hf, .refl _ _⟩

theorem logReach_memRecord (s : State) (r : MemRec) : LogReach s (memRecord s r) := by
  unfold memRecord
  generalize s.mem.rate.tick s.second 1000 = x
  obtain ⟨rate, ok⟩ := x
  dsimp only
  split
  case isTrue => exact (logReach_setMem s (by rfl)).trans (logReach_p _ _ (by simp))
  case isFalse =>
    have hwritten (f : MemSt → MemSt) (hf : (f s.mem).test = s.mem.test) (v pos : Nat) :
        LogReach s (((s.setMem f).p Od.MEM_ERR_HEAD 0 v).chestWrite Region.memLog pos) :=
      ((logReach_setMem s hf).trans (logReach_p _ _ (by simp))).trans (logReach_chestWrite _ _)
    split
    · exact (hwritten _ (by rfl) _ _).trans (evtReach_raise _ _ (he := by decide)).log
    · exact hwritten _ (by rfl) _ _

theorem logReach_memLog (s : State) (r : MemRec) : LogReach s (memLog s r) := by
  unfold memLog
  exact LogReach.ite (logReach_setMem s (by rfl)) (logReach_memRecord s r)

/-- A test read's record, for whose address a free value is used. -/
theorem logReach_testRead (s : State) (r : MemRec) : LogReach s (memLog s r).useFree :=
  (logReach_memLog s r).trans ⟨rfl, rfl, .refl _ _⟩

/-! ### What a test read reports (R540) -/

/-- The result, the data and the stored check bits are in their objects, and the test lines are as they were. -/
structure TestReported (s t : State) (v : Nat) (data : List Byte) : Prop where
  data : t.blob Od.MEM_TEST_DATA = data
  check : t.blob Od.MEM_TEST_CHECK = padTo 16 ((testLine s).drop 64)
  result : t.g Od.MEM_TEST_RESULT = v % 2 ^ 32
  lines : t.mem.test = s.mem.test

/-- The state in which a test read has reported. -/
def testReport (s : State) (v : Nat) (data : List Byte) : State := testOut (s.p Od.MEM_TEST_RESULT 0 v) data

theorem testLine_p_result (s : State) (v : Nat) : testLine (s.p Od.MEM_TEST_RESULT 0 v) = testLine s := by
  have htarget : (s.p Od.MEM_TEST_RESULT 0 v).g Od.MEM_TEST_TARGET = s.g Od.MEM_TEST_TARGET := State.g_p_ne _ _ (by decide)
  have hline : (s.p Od.MEM_TEST_RESULT 0 v).g Od.MEM_TEST_LINE = s.g Od.MEM_TEST_LINE := State.g_p_ne _ _ (by decide)
  rw [testLine, testLine, testKey, testKey, htarget, hline, State.mem_p]

theorem testReported (s : State) (v : Nat) (data : List Byte) : TestReported s (testReport s v data) v data where
  data := by
    rw [testReport, testOut, State.blob_setBlob, if_neg (by decide), State.blob_setBlob_self]
  check := by
    rw [testReport, testOut, State.blob_setBlob_self, testLine_p_result]
  result := State.g_p_self ..
  lines := rfl

theorem TestReported.logged {s t u : State} {v : Nat} {data : List Byte} (h : TestReported s t v data) (k : LogReach t u) :
    TestReported s u v data where
  data := (congrArg (Keyed.getD · _ []) k.blobs).trans h.data
  check := (congrArg (Keyed.getD · _ []) k.blobs).trans h.check
  result := (k.kept.g (by decide) (by decide)).trans h.result
  lines := k.test.trans h.lines

/-- Free values taken before the report make no difference. -/
theorem TestReported.of_free {s t : State} {n v : Nat} {data : List Byte} (h : TestReported { s with freeCtr := n } t v data) :
    TestReported s t v data := ⟨h.data, h.check, h.result, h.lines⟩

/-! ### READ of a DRAM line (R527, R528, R540) -/

theorem result_judgeLine (w : List Byte) (k : Nat) : (judgeLine w k).result ≤ 2 := by
  unfold judgeLine
  dsimp only
  repeat' split
  all_goals simp

/-- The named DRAM line judged. -/
def testJudged (s : State) : Judged := judgeLine (testLine s) (s.g Od.MEM_ERASE_DEV (s.g Od.MEM_TEST_TARGET))

/-- What is reported of it: of an uncorrectable line the symbols and the mask are free values. -/
def dramFound (s : State) : Judged × State :=
  if (testJudged s).result = 2 then (⟨2, (testJudged s).data, s.free 5, s.useFree.free 10⟩, s.useFree.useFree) else (testJudged s, s)

theorem dramFound_ok {s : State} (h : (testJudged s).result ≠ 2) : dramFound s = (testJudged s, s) := if_neg h

theorem result_dramFound (s : State) : (dramFound s).1.result = (testJudged s).result := by
  unfold dramFound
  split
  · next h => exact h.symm
  · rfl

theorem data_dramFound (s : State) : (dramFound s).1.data = (testJudged s).data := by
  unfold dramFound
  split <;> rfl

theorem free_dramFound (s : State) : ∃ n, (dramFound s).2 = { s with freeCtr := n } := by
  unfold dramFound
  split
  · exact ⟨_, rfl⟩
  · exact ⟨s.freeCtr, rfl⟩

/-- MEM_TEST_RESULT of a judged line. -/
def Judged.word (j : Judged) : Nat := j.result + 256 * j.count + 65536 * j.mask

theorem memTestRead_dram {s : State} (h : s.g Od.MEM_TEST_TARGET < 4) : memTestRead s =
    let j := (dramFound s).1
    let u := testReport (dramFound s).2 j.word j.data
    if j.result = 0 then u else (memLog u (testRec u j)).useFree := if_pos h

theorem testReported_dram {s : State} (h : s.g Od.MEM_TEST_TARGET < 4) :
    TestReported s (memTestRead s) (dramFound s).1.word (testJudged s).data := by
  obtain ⟨n, hn⟩ := free_dramFound s
  have hreport := testReported (dramFound s).2 (dramFound s).1.word (dramFound s).1.data
  rw [memTestRead_dram h]
  dsimp only
  refine TestReported.of_free (n := n) ?_
  rw [← data_dramFound, ← hn]
  split
  · exact hreport
  · exact hreport.logged (logReach_testRead _ _)

theorem mem_memTestRead_dram {s : State} (h : s.g Od.MEM_TEST_TARGET < 4) (hj : (testJudged s).result = 0) :
    (memTestRead s).mem = s.mem := by
  rw [memTestRead_dram h, dramFound_ok (by omega)]
  dsimp only
  rw [if_pos hj]
  rfl

/-! ### READ of an SRAM line (R532, R540) -/

theorem result_judgeWord (w check : Nat) : (judgeWord w check).result ≤ 2 := by
  unfold judgeWord
  split <;> simp

/-- The words of the named SRAM line judged. -/
def testWords (s : State) : List Judged :=
  (List.range 8).map fun w => judgeWord (ofLe (slice (8 * w) 8 (testLine s))) (ofLe (slice (64 + w) 1 (testLine s)))

/-- Those that are not clean. -/
def wordsHit (s : State) : List Judged := (testWords s).filter fun j => j.result != 0

/-- The worst outcome of some words. -/
def worstOf (l : List Judged) : Nat := l.foldl (fun m j => max m j.result) 0

/-- The bit that is reported, for several bad words or an uncorrectable one a free value. -/
def sramBit (s : State) (hit : List Judged) : Nat × State :=
  match hit with
  | [] => (0, s)
  | [j] => if j.result = 1 then (j.count, s) else (s.free 8, s.useFree)
  | _ => (s.free 8, s.useFree)

theorem free_sramBit (s : State) (hit : List Judged) : ∃ n, (sramBit s hit).2 = { s with freeCtr := n } := by
  unfold sramBit
  split
  · exact ⟨s.freeCtr, rfl⟩
  · split
    · exact ⟨s.freeCtr, rfl⟩
    · exact ⟨_, rfl⟩
  · exact ⟨_, rfl⟩

theorem worstOf_le {l : List Judged} {n : Nat} (h : ∀ j ∈ l, j.result ≤ n) : worstOf l ≤ n :=
  List.foldlRecOn (motive := (· ≤ n)) l _ (Nat.zero_le n) fun _ hm j hj => max_le hm (h j hj)

theorem result_testWords {s : State} {j : Judged} (hj : j ∈ testWords s) : j.result ≤ 2 := by
  obtain ⟨w, -, rfl⟩ := List.mem_map.1 hj
  exact result_judgeWord ..

/-- MEM_TEST_RESULT of the judged words. -/
def wordsResult (s : State) : Nat := worstOf (testWords s) + 256 * (sramBit s (wordsHit s)).1

theorem memTestRead_sram {s : State} (h : ¬s.g Od.MEM_TEST_TARGET < 4) : memTestRead s =
    (testReport (sramBit s (wordsHit s)).2 (wordsResult s) ((testWords s).flatMap fun j => j.data)).each (wordsHit s)
      fun u j => (memLog u (testRec u j)).useFree := if_neg h

theorem testReported_sram {s : State} (h : ¬s.g Od.MEM_TEST_TARGET < 4) :
    TestReported s (memTestRead s) (wordsResult s) ((testWords s).flatMap fun j => j.data) := by
  obtain ⟨n, hn⟩ := free_sramBit s (wordsHit s)
  rw [memTestRead_sram h, hn]
  exact ((testReported _ _ _).logged (each_rel .refl .trans _ _ (fun u j _ => logReach_testRead u _) _)).of_free

section
variable {s : State} (hc : ∀ j ∈ testWords s, j.result = 0)
include hc

theorem wordsHit_clean : wordsHit s = [] := List.filter_eq_nil_iff.2 fun j hj => by simp [hc j hj]

theorem wordsResult_clean : wordsResult s = 0 := by
  have hworst : worstOf (testWords s) = 0 := Nat.le_zero.1 (worstOf_le fun j hj => (hc j hj).le)
  rw [wordsResult, wordsHit_clean hc, hworst]
  rfl

theorem mem_memTestRead_sram (h : ¬s.g Od.MEM_TEST_TARGET < 4) : (memTestRead s).mem = s.mem := by
  rw [memTestRead_sram h, wordsHit_clean hc]
  rfl

end

/-! ### The rows of MEM_TEST_OP (R540) -/

section
variable {s : State} (h : Live s) (hw : s.writeCodeOf 0 Od.MEM_TEST_OP 0 = 0)
include h hw

theorem exec_memTestWrite_admitted : exec .memTestWrite s = .next ((memTestWrite s).answer 0 0) := by
  rw [exec_memTestWrite, execMemTestWrite, actWrite_live h hw]
  exact congrArg _ (keep_answer (t := memTestWrite s) (keep_eq rfl rfl rfl rfl rfl) 0 0)

theorem exec_writeRaw_admitted : exec .writeRaw s = .next ((memWriteRaw s).answer 0 0) := by
  rw [exec_writeRaw, execWriteRaw, actWrite_live h hw]
  exact congrArg _ (keep_answer (t := memWriteRaw s) (keep_eq rfl rfl rfl rfl rfl) 0 0)

theorem exec_readRaw_admitted : exec .readRaw s = .next ((memReadRaw s).answer 0 0) := by
  rw [exec_readRaw, execReadRaw, actWrite_live h hw]
  exact congrArg _ (keep_answer (t := memReadRaw s) (keep_eq rfl rfl rfl rfl rfl) 0 0)

theorem exec_memTestRead_admitted : exec .memTestRead s = .next (keep s ((memTestRead s).answer 0 0)) := by
  rw [exec_memTestRead, execMemTestRead, actWrite_live h hw]
  rfl

end

/-- Settles O21, operation by operation; READ first as both targets report, then by the line code and word by word. -/
theorem memoryTestOperations : Obligations.MemoryTestOperations := by
  unfold Obligations.MemoryTestOperations
  intro s h hw dram d store
  refine ⟨?write, ?writeRaw, exec_readRaw_admitted h hw, _, exec_memTestRead_admitted h hw, getLast?_out_answer .., ?_⟩
  case write =>
    rw [exec_memTestWrite_admitted h hw, memTestWrite]
    simp only [dram, decide_eq_true_eq]
    rfl
  case writeRaw =>
    rw [exec_writeRaw_admitted h hw, memWriteRaw]
    simp only [dram, decide_eq_true_eq]
    rfl
  by_cases ht : s.g Od.MEM_TEST_TARGET < 4
  case pos =>
    obtain ⟨hdata, hcheck, hresult, hlines⟩ := testReported_dram ht
    refine ⟨hlines, hcheck, fun _ => ⟨hdata, ?_, fun hj => ?_, mem_memTestRead_dram ht⟩, fun hd => absurd ht (of_decide_eq_false hd)⟩
    · refine (congrArg (· % 256) hresult).trans ?_
      have hle := result_judgeLine (testLine s) (s.g Od.MEM_ERASE_DEV (s.g Od.MEM_TEST_TARGET))
      rw [Judged.word, result_dramFound, testJudged]
      omega
    · refine hresult.trans ?_
      rw [dramFound_ok hj]
      rfl
  case neg =>
    obtain ⟨hdata, hcheck, hresult, hlines⟩ := testReported_sram ht
    refine ⟨hlines, hcheck, fun hd => absurd (of_decide_eq_true hd) ht, fun _ => ⟨hdata, ?_, fun hc => ⟨?_, mem_memTestRead_sram hc ht⟩⟩⟩
    · refine (congrArg (· % 256) hresult).trans ?_
      have hle : worstOf (testWords s) ≤ 2 := worstOf_le fun _ => result_testWords
      have hmod : wordsResult s % 2 ^ 32 % 256 = worstOf (testWords s) := by
        rw [wordsResult]
        omega
      exact hmod
    · refine hresult.trans ?_
      rw [wordsResult_clean hc]
      rfl
end Sys2Proof.Machine
end

section
/-! SUPPORT. The engines of the Threshing Floor: which command is dispatched, what it stores in the Granary, and how it ends. -/

namespace Sys2Proof.Machine

/-! ### Bytes stored in the Granary -/

theorem gStore_cons (g : List Host.Cell) (a : Nat) (x : Byte) (bs : List Byte) :
    gStore g a (x :: bs) = gStore (Keyed.put g a x 0#8) (a + 1) bs := by
  simp only [gStore, List.zipIdx_cons', List.foldl_cons, List.foldl_map, Nat.add_zero, Prod.map_fst, Prod.map_snd, id_eq,
    ← Nat.add_assoc, Nat.add_right_comm a _ 1]

/-- A store leaves every byte outside its range. -/
theorem gByte_gStore_outside (g : List Host.Cell) {a b : Nat} {bs : List Byte} (h : b < a ∨ a + bs.length ≤ b) :
    gByte (gStore g a bs) b = gByte g b := by
  induction bs generalizing g a with
  | nil => rfl
  | cons x bs ih =>
    rw [List.length_cons] at h
    rw [gStore_cons, ih _ (by omega)]
    exact Keyed.getD_put_ne _ _ _ (by omega)

/-- A byte of its range reads as the byte stored. -/
theorem gByte_gStore_inside (g : List Host.Cell) (a : Nat) {bs : List Byte} {i : Nat} (h : i < bs.length) :
    gByte (gStore g a bs) (a + i) = bs[i] := by
  induction bs generalizing g a i with
  | nil => cases h
  | cons x bs ih =>
    rw [gStore_cons]
    cases i with
    | zero => exact (gByte_gStore_outside _ (.inl (Nat.lt_succ_self a))).trans (Keyed.getD_put_self ..)
    | succ i =>
      have haddr : a + (i + 1) = a + 1 + i := by omega
      exact (congrArg (gByte _) haddr).trans (ih _ _ (Nat.lt_of_succ_lt_succ h))

/-- Several ranges are stored one after the other. -/
def storeAll (s : State) (ws : List (Nat × List Byte)) : State := s.each ws fun s p => granaryStore s p.1 p.2

/-- Only the Granary and its poison marks differ. -/
def GranaryOnly (s t : State) : Prop := t = { s with granary := t.granary, mem := t.mem }

theorem GranaryOnly.od_eq {s t : State} (h : GranaryOnly s t) : t.od = s.od := by rw [h]
theorem GranaryOnly.host_eq {s t : State} (h : GranaryOnly s t) : t.host = s.host := by rw [h]
theorem GranaryOnly.out_eq {s t : State} (h : GranaryOnly s t) : t.out = s.out := by rw [h]
theorem GranaryOnly.thresh_eq {s t : State} (h : GranaryOnly s t) : t.thresh = s.thresh := by rw [h]

theorem granaryOnly_granaryStore (s : State) (a : Nat) (bs : List Byte) : GranaryOnly s (granaryStore s a bs) := rfl

theorem granaryOnly_storeAll (s : State) (ws : List (Nat × List Byte)) : GranaryOnly s (storeAll s ws) :=
  each_rel (R := GranaryOnly) (fun _ => rfl) (fun h k => by rw [GranaryOnly, k, h]) _ _ (fun u _ _ => granaryOnly_granaryStore u _ _) s

theorem gByte_storeAll_outside (s : State) {ws : List (Nat × List Byte)} {b : Nat}
    (h : ∀ p ∈ ws, b < p.1 ∨ p.1 + p.2.length ≤ b) : gByte (storeAll s ws).granary b = gByte s.granary b :=
  each_inv (P := fun u => gByte u.granary b = gByte s.granary b) ws _
    (fun u p hp hu => (gByte_gStore_outside u.granary (h p hp)).trans hu) rfl

/-! ### The effect of a command (R533, R568, R570) -/

theorem State.ctx?_useFree (s : State) (id : Nat) : s.useFree.ctx? id = s.ctx? id := rfl

/-- What TO_HOST sends, for a job whose command the host still waits for. -/
def toHostSent (s : State) (j : JobRun) (c : EngCmd) : State :=
  match s.ctx? j.id with
  | some x => s.emit (.jobData x.queue x.cid (c.w 3) (gBytes s.granary (c.w 2) (c.w 1)))
  | none => s

/-- The ranges that a command writes when none of what it reads is poisoned. -/
def runWrites (s : State) (j : JobRun) (c : EngCmd) : List (Nat × List Byte) :=
  cmdWrites s.granary (Keyed.getD s.keys.jobKeys (8 * j.crib + c.opts % 8) []) (leBytes 112 (Config.freeValue s.freeCtr)) c

section
variable {s : State} {c : EngCmd} (j : JobRun) (sq q : Fin 4)

theorem engineRun_readNs (hc : c.cls = 1 ∧ c.op = 3) : engineRun s j sq q c = readNsStart s j sq q c := if_pos hc

variable (hc : ¬(c.cls = 1 ∧ c.op = 3)) (hp : poisonedWords s c = [])
include hc hp

theorem engineRun_stores (hh : ¬(c.cls = 1 ∧ c.op = 4)) : engineRun s j sq q c = storeAll s.useFree (runWrites s j c) := by
  rw [engineRun, if_neg hc]
  simp only [hp, if_neg hh, if_true]
  rfl

theorem engineRun_toHost (hh : c.cls = 1 ∧ c.op = 4) : engineRun s j sq q c = toHostSent s.useFree j c := by
  rw [engineRun, if_neg hc]
  simp only [hp, if_pos hh, if_true]
  rfl

end

/-! ### Dispatch (R565, R569, R690) -/

/-- The Threshing Floor's frame changes nothing of a state whose Granary is canonical. -/
theorem keepG_self {s : State} (hg : GranaryOk s) : keepG s s = s := by
  rw [keepG, keep_self, tidy_of_canonical hg]

/-- A command of the Threshing Floor that has nothing to do. -/
theorem actGranary_eq_self {s : State} {f : State → State} (h : Live s) (hg : GranaryOk s) (hf : f s = s) : actGranary s f = .next s :=
  (actGranary_eq h hf).trans (congrArg _ (keepG_self hg))

/-- A row of the engines' operations stands for the class and number it is listed with. -/
theorem exec_engineOp {c : Instr} {sq q : Fin 4} {cls op : Nat} (hc : engineOp c = some (sq, q, cls, op)) (s : State) :
    exec c s = engineRow cls op sq q s := by
  cases c <;> cases hc <;> rfl

/-- The head of a queue is taken by an engine of its class. -/
def dispatched (u : State) (sq q : Fin 4) (cls : Nat) : State :=
  setHead u sq q fun e => { e with engine := some (pickEngine u cls), begun := u.now }

section
variable {s : State} {sq q : Fin 4} {cls op : Nat} (h : Live s)
include h

theorem engineRow_none (hg : GranaryOk s) (hn : s.headCmd sq q = none) : engineRow cls op sq q s = .next s :=
  actGranary_eq_self h hg (by simp only [hn])

variable {j : JobRun} {e : EngCmd} (hh : s.headCmd sq q = some (j, e))
include hh

theorem engineRow_other (hg : GranaryOk s) (ho : e.engine.isSome = true ∨ e.cls ≠ cls ∨ e.op ≠ op) : engineRow cls op sq q s = .next s := by
  refine actGranary_eq_self h hg ?_
  simp only [hh]
  exact if_pos (by simpa [or_assoc] using ho)

variable (hn : e.engine = none) (hcls : e.cls = cls) (hop : e.op = op)
include hn hcls hop

theorem engineRow_held (hd : (domArrive s (clusterOf cls) e.held).pwr.dom[clusterOf cls] ≠ .on) : engineRow cls op sq q s =
    .next (keepG s (setHead (domArrive s (clusterOf cls) e.held) sq q fun e => { e with held := true })) := by
  refine actGranary_eq h ?_
  simp only [hh]
  exact (if_neg (by simp [hn, hcls, hop])).trans (if_pos hd)

variable (hd : (domArrive s (clusterOf cls) e.held).pwr.dom[clusterOf cls] = .on)
include hd

theorem engineRow_waits (h1 : cls = 1) (h3 : op = 3) (hl : landingRoom (domArrive s (clusterOf cls) e.held) e = false) :
    engineRow cls op sq q s = .next (keepG s (domArrive s (clusterOf cls) e.held)) := by
  refine actGranary_eq h ?_
  simp only [hh]
  refine (if_neg (by simp [hn, hcls, hop])).trans ((if_neg (not_not_intro hd)).trans (if_pos ?_))
  have hrow : (decide (cls = 1) && decide (op = 3)) = true := by simp [h1, h3]
  exact (congrArg₂ and hrow (congrArg not hl)).trans rfl

theorem engineRow_runs (hl : cls = 1 → op = 3 → landingRoom (domArrive s (clusterOf cls) e.held) e = true) :
    engineRow cls op sq q s = .next (keepG s (engineRun (dispatched (domArrive s (clusterOf cls) e.held) sq q cls) j sq q e)) := by
  refine actGranary_eq h ?_
  simp only [hh]
  refine (if_neg (by simp [hn, hcls, hop])).trans ((if_neg (not_not_intro hd)).trans (if_neg fun hw => ?_))
  simp only [Bool.and_eq_true, decide_eq_true_eq, Bool.not_eq_true'] at hw
  obtain ⟨⟨h1, h3⟩, hroom⟩ := hw
  exact Bool.false_ne_true (hroom.symm.trans (hl h1 h3))

end

/-! ### The end of a command (R565, R569, R580, R582, R584) -/

theorem thresh_meter (s : State) (c k n : Nat) : (meter s c k n).thresh = s.thresh := by
  have hacct (c : Nat) (f : Account → Account) : (setAcct s c f).thresh = s.thresh := by
    unfold setAcct
    split <;> rfl
  unfold meter
  split
  · split
    · dsimp only
      split
      · exact hacct ..
      · exact hacct ..
    · rfl
  · rfl

theorem seq_chargeEngine (s : State) (e c n : Nat) : (chargeEngine s e c n).thresh.seq = s.thresh.seq := by
  rw [chargeEngine, thresh_meter]
  rfl

/-- A queue's head is of the job that its sequencer holds. -/
theorem seq_of_headCmd {s : State} {sq q : Fin 4} {j : JobRun} {c : EngCmd} (hh : s.headCmd sq q = some (j, c)) :
    s.thresh.seq[sq] = some j := by
  unfold State.headCmd at hh
  split at hh
  · cases hh
  · next k hk =>
    obtain ⟨d, -, hd⟩ := Option.map_eq_some_iff.1 hh
    cases hd
    exact hk

/-- A block that a READ_NS waits for has neither come nor failed. -/
def blocksWait (s : State) (c : EngCmd) : Prop := ∃ r ∈ s.cache.jobReads, r.job = c.num ∧ r.data = none ∧ r.failed = false

theorem blocksWait_iff (s : State) (c : EngCmd) :
    (s.cache.jobReads.any fun r => r.job == c.num && r.data.isNone && !r.failed) = true ↔ blocksWait s c := by
  simp [blocksWait, and_assoc]

theorem not_blocksWait {s : State} {c : EngCmd}
    (h : ∀ r ∈ s.cache.jobReads, r.job ≠ c.num ∨ r.data.isSome = true ∨ r.failed = true) : ¬blocksWait s c := by
  rintro ⟨r, hr, hjob, hdata, hfailed⟩
  have hcome := h r hr
  simp [hjob, hdata, hfailed] at hcome

/-- A command that has ended leaves its queue. -/
def headLeaves (s : State) (sq q : Fin 4) : State :=
  match s.thresh.seq[sq] with
  | some j => setSeq s sq (some { j with queues := j.queues.set q (j.queues[q].drop 1) })
  | none => s

theorem headLeaves_some {s : State} {sq : Fin 4} {j : JobRun} (hj : s.thresh.seq[sq] = some j) (q : Fin 4) :
    headLeaves s sq q = setSeq s sq (some { j with queues := j.queues.set q (j.queues[q].drop 1) }) := by
  simp only [headLeaves, hj]

section
variable {s : State} {sq q : Fin 4} (h : Live s)
include h

theorem exec_engineCommandEnd_none (hg : GranaryOk s) (hn : s.headCmd sq q = none) : exec (.engineCommandEnd sq q) s = .next s := by
  rw [exec_engineCommandEnd, execEngineCommandEnd]
  exact actGranary_eq_self h hg (by simp only [hn])

variable {j : JobRun} {c : EngCmd} (hh : s.headCmd sq q = some (j, c))
include hh

theorem exec_engineCommandEnd_waiting (hg : GranaryOk s) (hn : c.engine = none) : exec (.engineCommandEnd sq q) s = .next s := by
  rw [exec_engineCommandEnd, execEngineCommandEnd]
  exact actGranary_eq_self h hg (by simp only [hh, hn])

variable {e : Nat} (he : c.engine = some e)
include he

theorem exec_engineCommandEnd_blocks (hg : GranaryOk s) (hb : blocksWait s c) : exec (.engineCommandEnd sq q) s = .next s := by
  rw [exec_engineCommandEnd, execEngineCommandEnd]
  refine actGranary_eq_self h hg ?_
  simp only [hh, he]
  exact if_pos ((blocksWait_iff s c).2 hb)

theorem exec_engineCommandEnd_ends (hb : ¬blocksWait s c) : exec (.engineCommandEnd sq q) s =
    .next (keepG s (jobSettle (headLeaves
      (if c.cls = 1 ∧ c.op = 3 then readNsEnd (chargeEngine s e j.crib (s.now - c.begun)) j sq c
        else chargeEngine s e j.crib (s.now - c.begun)) sq q) sq)) := by
  rw [exec_engineCommandEnd, execEngineCommandEnd]
  refine actGranary_eq h ?_
  simp only [hh, he]
  exact if_neg (mt (blocksWait_iff s c).1 hb)

end

/-! ### Host transfers that fail (R438, R570) -/

theorem matches_job (op : IoOp) : (op matches .job ..) = opJob op := by
  cases op <;> rfl

section
variable {s : State} (h : Live s)
include h

theorem exec_hostTransferError_conn (k cid : Nat) (th : Option (Fin 4)) : exec (.hostTransferError (.conn k) cid th) s = .next s := by
  rw [exec_hostTransferError, execHostTransferError]
  exact act_eq_self h rfl

variable {f : Crib} {qid cid : Nat}

theorem exec_hostTransferError_unknown (hx : (s.host.ctxs.find? fun x => x.queue == .sq f qid && x.cid == cid) = none)
    (th : Option (Fin 4)) : exec (.hostTransferError (.sq f qid) cid th) s = .next s := by
  rw [exec_hostTransferError, execHostTransferError]
  exact act_eq_self h (by simp only [hx])

variable {x : Ctx} (hx : (s.host.ctxs.find? fun x => x.queue == .sq f qid && x.cid == cid) = some x)
include hx

theorem exec_hostTransferError_ends (hj : opJob x.op = false ∨ x.started = false) :
    exec (.hostTransferError (.sq f qid) cid none) s =
      .next (keep s (endCtx (s.inc Od.HQ_VIOL_CNT (8 * x.crib + 6)) x .dataTransferError (some false))) := by
  rw [exec_hostTransferError, execHostTransferError]
  refine act_eq h ?_
  simp only [hx]
  refine if_neg fun hrun => ?_
  have hboth : (opJob x.op && x.started) = true := (congrArg (· && x.started) (matches_job x.op)).symm.trans hrun
  obtain hj | hj := hj <;> simp [hj] at hboth

variable {q sq : Fin 4} (hsq : ((List.finRange 4).find? fun sq => (s.thresh.seq[sq]).elim false fun j => j.id == x.id) = some sq)
  {j : JobRun} {c : EngCmd} (hh : s.headCmd sq q = some (j, c))
include hsq hh

theorem exec_hostTransferError_toHost (hc : c.cls = 1 ∧ c.op = 4 ∧ c.engine.isSome = true) :
    exec (.hostTransferError (.sq f qid) cid (some q)) s = .next (keep s (stopJob s sq (.cause 14 c.push))) := by
  rw [exec_hostTransferError, execHostTransferError]
  refine act_eq h ?_
  simp only [hx, hsq, hh]
  exact if_pos hc

theorem exec_hostTransferError_notToHost (hc : ¬(c.cls = 1 ∧ c.op = 4 ∧ c.engine.isSome = true)) :
    exec (.hostTransferError (.sq f qid) cid (some q)) s = .next s := by
  rw [exec_hostTransferError, execHostTransferError]
  refine act_eq_self h ?_
  simp only [hx, hsq, hh]
  exact if_neg hc

end

/-- Settles O56, in the order of its clauses: dispatch, the effect on memory without poison, the end of a command, and host transfers that
fail. What holds a command back, what poison leaves and when the time is charged are the model's choice (assumption logs 86, 88 and 95). -/
theorem engineCommands : Obligations.EngineCommands := by
  unfold Obligations.EngineCommands
  refine ⟨fun s c sq q cls op h hg hc => ?dispatch, fun s j sq q e hne hp => ?effect, fun s sq q h hg => ?ends,
    fun s f qid k cid th h => ?transfer⟩
  case dispatch =>
    rw [exec_engineOp hc]
    refine ⟨engineRow_none h hg, fun j e hh => ⟨engineRow_other h hh hg, fun hn hcls hop =>
      ⟨engineRow_held h hh hn hcls hop, fun hd => ⟨engineRow_waits h hh hn hcls hop hd, fun h1 h3 hl => ?_, fun hnot => ?_⟩⟩⟩⟩
    · rw [engineRow_runs h hh hn hcls hop hd fun _ _ => hl, engineRun_readNs j sq q ⟨hcls.trans h1, hop.trans h3⟩]
      rfl
    · exact engineRow_runs h hh hn hcls hop hd fun h1 h3 => absurd ⟨h1, h3⟩ hnot
  case effect =>
    refine ⟨fun hh => ?stores, fun h1 h4 x hx => ?sends⟩
    case stores =>
      rw [engineRun_stores j sq q hne hp hh]
      have honly := granaryOnly_storeAll s.useFree (runWrites s j e)
      refine ⟨fun b => gByte_storeAll_outside s.useFree, fun a bs hws i hi => ?_, honly.od_eq, honly.host_eq, honly.out_eq,
        honly.thresh_eq⟩
      rw [runWrites, hws]
      exact gByte_gStore_inside s.granary a hi
    case sends =>
      rw [engineRun_toHost j sq q hne hp ⟨h1, h4⟩, toHostSent, State.ctx?_useFree, hx]
      rfl
  case ends =>
    refine ⟨exec_engineCommandEnd_none h hg, fun j c hh => ⟨exec_engineCommandEnd_waiting h hh hg, fun hn hb => ?blocks,
      fun e he hb hnot => ?leaves, fun e he hb h1 h3 => ?readNs⟩⟩
    case blocks =>
      obtain ⟨e, he⟩ := Option.isSome_iff_exists.1 hn
      exact exec_engineCommandEnd_blocks h hh he hg hb
    case leaves =>
      have hseq : (chargeEngine s e j.crib (s.now - c.begun)).thresh.seq[sq] = some j := by
        rw [seq_chargeEngine, seq_of_headCmd hh]
      rw [exec_engineCommandEnd_ends h hh he (not_blocksWait hb), if_neg hnot, headLeaves_some hseq]
    case readNs =>
      rw [exec_engineCommandEnd_ends h hh he (not_blocksWait hb), if_pos ⟨h1, h3⟩]
      rfl
  case transfer =>
    refine ⟨exec_hostTransferError_conn h k cid th, fun hx => exec_hostTransferError_unknown h hx th, ?_, fun x q sq j c hx hth hsq hh => ?_⟩
    · rintro x hx rfl hj
      exact exec_hostTransferError_ends h hx hj
    · subst hth
      refine ⟨fun h1 h4 hn => exec_hostTransferError_toHost h hx hsq hh ⟨h1, h4, hn⟩, fun hnot => ?_⟩
      exact exec_hostTransferError_notToHost h hx hsq hh fun ⟨h1, h4, hn⟩ => by simp [h1, h4, Option.isSome_iff_ne_none.1 hn] at hnot

end Sys2Proof.Machine
end

section
/-! SUPPORT. One step of the block, and its test port: which commands go on while the controller's pins are taken over. -/

namespace Sys2Proof.Machine

/-! ### One step (R654) -/

/-- Settles O1: putting the command in front and taking it off again leaves the state as it was. -/
theorem stepRunsTheFrontCommand : Obligations.StepRunsTheFrontCommand := fun _ _ => rfl

theorem step_idle {s : State} (h : s.pending = []) : step s = .next (idle s) := by
  rw [step, h]

theorem idle_off {s : State} (h : s.dev = .off) : idle s = s := if_pos h
theorem idle_powered {s : State} (h : s.dev ≠ .off) : idle s = keep s (refCycle s) := if_neg h

/-- What stands in the frame of an ordinary command leaves the device state, the flash and the Granary. -/
theorem sameCore_keep (s t : State) : SameCore s (keep s t) := ⟨rfl, rfl, rfl⟩

/-- Settles O2: the cycle stands in the frame of an ordinary command. That an empty queue passes a cycle, and that a block without supply
stands still, is the model's choice (assumption log 2). -/
theorem idleStepPassesTime : Obligations.IdleStepPassesTime := by
  intro s hs
  refine ⟨fun hd => ?off, fun hd => ⟨keep s (refCycle s), ?powered, rfl, hs, sameCore_keep _ _⟩⟩
  case off => rw [step_idle hs, idle_off hd]
  case powered => rw [step_idle hs, idle_powered hd]

/-! ### What a frame answers (R738) -/

/-- With no part taken over, every frame answers a next state. -/
theorem framed_next {c : Instr} {s : State} {o : Out} (h : Framed c s o) (hs : s.scan.lost = 0) : ∃ t, o = .next t := by
  have hlost (p : Nat) : ¬s.scan.lost.getLsbD p = true := by simp [hs]
  have power {x : State} : ∃ t, (if s.dev = .off then Host.Outcome.next s else .next x : Out) = .next t := by
    split <;> exact ⟨_, rfl⟩
  cases h with
  | ordinary f _ => rw [act, if_neg (hlost 0)]; exact power
  | ofPart p f _ => rw [actPart, if_neg (hlost p), act, if_neg (hlost 0)]; exact power
  | whole f _ _ => rw [actAll, if_neg (hlost 0)]; exact power
  | identity p f _ _ => rw [if_neg (hlost p), actAll, if_neg (hlost 0)]; exact power
  | threshing f _ _ => rw [actGranary, if_neg (hlost 0)]; exact power
  | testPort p f _ => unfold actJtag; split <;> exact ⟨_, rfl⟩
  | power u _ _ => exact ⟨_, rfl⟩

/-- Settles O6: a command stops only where a part it involves has been taken over. -/
theorem everyCommandCompletes : Obligations.EveryCommandCompletes := fun c s => framed_next (exec_framed c s)

/-- The frames of the test port, of a start and of the loss of supply go on whatever has been taken over. -/
theorem framed_testPort_next {c : Instr} {s : State} {o : Out} (h : Framed c s o) (hc : ofTestPort c = true) : ∃ t, o = .next t := by
  cases h with
  | testPort p f _ => unfold actJtag; split <;> exact ⟨_, rfl⟩
  | power u _ _ => exact ⟨_, rfl⟩
  | ordinary _ hn | ofPart _ _ hn | whole _ _ hn | identity _ _ _ hn | threshing _ _ hn => rw [hn] at hc; contradiction

/-- Every other frame stops while the controller's pins are taken over. -/
theorem framed_takenOver {c : Instr} {s : State} {o : Out} (h : Framed c s o) (hc : ofTestPort c = false)
    (hl : s.scan.lost.getLsbD 0 = true) : ∃ part, o = .fault (.boundaryScan part) := by
  cases h with
  | ordinary f _ => exact ⟨0, if_pos hl⟩
  | ofPart p f _ =>
    unfold actPart
    split
    · exact ⟨p, rfl⟩
    · exact ⟨0, if_pos hl⟩
  | whole f _ _ => exact ⟨0, if_pos hl⟩
  | identity p f _ _ =>
    split
    · exact ⟨p, rfl⟩
    · exact ⟨0, if_pos hl⟩
  | threshing f _ _ => exact ⟨0, if_pos hl⟩
  | testPort _ _ hn | power _ _ hn => rw [hn] at hc; contradiction

/-- Settles O7, by the frame that the command's meaning stands in. The fault, and which commands go on, are the model's choice (assumption
log 5). -/
theorem testPortTakeoverStopsEveryCommand : Obligations.TestPortTakeoverStopsEveryCommand := fun c s hl =>
  ⟨framed_testPort_next (exec_framed c s), fun hc => framed_takenOver (exec_framed c s) hc hl⟩

/-! ### The test port's instructions (R737, R738) -/

section
variable {s : State} {part : Fin 22} (h : part ≠ 0 ∨ s.dev ≠ .off)
include h

/-- A part whose test port has its supply takes the instruction. -/
theorem actJtag_supplied {t : State} {f : State → State} (hf : f s = t) (ht : keep s t = t) : actJtag part s f = .next t := by
  rw [actJtag, if_neg fun hn => h.elim (fun hp => hp hn.1) fun hd => hd hn.2, hf, ht]

theorem exec_bypass_supplied : exec (.bypass part) s = .next ((jtagLoad s part .bypass).emit (.jtag part 0)) := by
  rw [exec_bypass, execBypass]
  exact actJtag_supplied h rfl (keep_eq rfl rfl rfl rfl rfl)

theorem exec_idcode_supplied : exec (.idcode part) s = .next ((jtagLoad s part .idcode).emit (.jtag part (idcodeOf part))) := by
  rw [exec_idcode, execIdcode]
  exact actJtag_supplied h rfl (keep_eq rfl rfl rfl rfl rfl)

theorem exec_samplePreload_supplied (pins preload : Nat) : exec (.samplePreload part pins preload) s =
    .next { s with
      scan := { s.scan with instr := s.scan.instr.set part .samplePreload, boundary := s.scan.boundary.set part preload }
      out := s.out ++ [.jtag part pins] } := by
  rw [exec_samplePreload, execSamplePreload]
  exact actJtag_supplied h rfl (keep_eq rfl rfl rfl rfl rfl)

theorem exec_extest_supplied : exec (.extest part) s = .next (jtagTakes s part .extest) := by
  rw [exec_extest, execExtest]
  exact actJtag_supplied h rfl (keep_eq rfl rfl rfl rfl rfl)

theorem exec_clamp_supplied : exec (.clamp part) s = .next (jtagTakes s part .clamp) := by
  rw [exec_clamp, execClamp]
  exact actJtag_supplied h rfl (keep_eq rfl rfl rfl rfl rfl)

end

/-- A taken part is marked, and its instruction register holds what took it. -/
theorem jtagTakes_effect (s : State) (part : Fin 22) (i : JtagInstr) :
    (jtagTakes s part i).scan.lost.getLsbD part = true ∧ (jtagTakes s part i).scan.instr[part] = i ∧ (jtagTakes s part i).out = s.out ∧
      (jtagTakes s part i).od = s.od := by
  refine ⟨?_, ?_, rfl, rfl⟩
  · simp [jtagTakes]
  · simp [jtagTakes, jtagLoad]

/-- Settles O17, instruction by instruction. That BYPASS captures 0 is the standard's, which the spec names (assumption log 6). -/
theorem testPortLoadsItsInstruction : Obligations.TestPortLoadsItsInstruction := by
  intro s part h
  refine ⟨exec_bypass_supplied h, exec_idcode_supplied h,
    fun pins preload => ⟨_, exec_samplePreload_supplied h pins preload, by simp, by simp, rfl, rfl, rfl, fun q hq => ?others⟩,
    ⟨_, exec_extest_supplied h, jtagTakes_effect s part .extest⟩, ⟨_, exec_clamp_supplied h, jtagTakes_effect s part .clamp⟩⟩
  have hne : part.val ≠ q.val := fun he => hq (Fin.ext he.symm)
  simp [hne]

end Sys2Proof.Machine
end

section
/-! SUPPORT. The sequencers of the Threshing Floor: what an instruction does when its sequencer fetches it. -/

namespace Sys2Proof.Machine

/-! ### Rows of instructions (R556, R558) -/

/-- A row of an instruction stands for its opcode. -/
theorem exec_seqOpcode {c : Instr} {sq : Fin 4} {op : Nat} (hc : seqOpcode c = some (sq, op)) :
    ∃ f, ∀ s, exec c s = actGranary s (seqOp sq op f) := by
  cases c <;> cases hc <;> exact ⟨_, fun _ => rfl⟩

section
variable {s : State} {sq : Fin 4} {op : Nat} {j : JobRun} {w : Nat}

theorem seqOp_idle (hj : s.issuing sq = none) (f : State → JobRun → Nat → State) : seqOp sq op f s = s := by
  simp only [seqOp, hj]

theorem seqOp_other (hj : s.issuing sq = some j) (hw : ∀ w, fetchAt s j = .word w → w >>> 26 ≠ op ∨ legalWord w = false)
    (f : State → JobRun → Nat → State) : seqOp sq op f s = s := by
  simp only [seqOp, hj]
  cases hf : fetchAt s j with
  | outside | poison => rfl
  | word w =>
    refine if_neg fun hlegal => ?_
    obtain hop | hl := hw w hf
    · exact hop hlegal.1
    · exact Bool.false_ne_true (hl.symm.trans hlegal.2)

theorem seqOp_fetches (hf : Fetches s sq op j w) (f : State → JobRun → Nat → State) : seqOp sq op f s = f s j w := by
  obtain ⟨hj, hw, hop, hl⟩ := hf
  simp only [seqOp, hj, hw]
  exact if_pos ⟨hop, hl⟩

end

/-- A sequencer's job is not of what the Threshing Floor's frame keeps. -/
theorem keepG_setSeq {s : State} (hg : GranaryOk s) (sq : Fin 4) (j : Option JobRun) : keepG s (setSeq s sq j) = setSeq s sq j :=
  congrArg (setSeq · sq j) (keepG_self hg)

section
variable {s : State} (h : Live s) (hg : GranaryOk s) {sq : Fin 4} {op : Nat} {j : JobRun} {w : Nat} (hf : Fetches s sq op j w) {n : Nat}
  (hop : op = n)
include h hf hop

/-- The instruction that its sequencer fetches takes effect in the frame of the Threshing Floor. -/
theorem fetched_runs {t : State} {f : State → JobRun → Nat → State} (ht : f s j w = t) :
    actGranary s (seqOp sq n f) = .next (keepG s t) := by
  subst hop
  exact actGranary_eq h ((seqOp_fetches hf f).trans ht)

include hg

theorem fetched_sets {k : JobRun} {f : State → JobRun → Nat → State} (ht : f s j w = setSeq s sq (some k)) :
    actGranary s (seqOp sq n f) = .next (setSeq s sq (some k)) := by
  rw [fetched_runs h hf hop ht, keepG_setSeq hg]

theorem seqSet_fetched (f : JobRun → Nat → Word32) : seqSet sq n f s = .next (seqDone s sq (j.setReg (fD w) (f j w))) :=
  fetched_sets h hg hf hop rfl

theorem seqBranch_fetched (f : Word32 → Word32 → Bool) : seqBranch sq n f s =
    .next (if f (j.reg (fD w)) (j.reg (fA w)) then setSeq s sq (some (j.goto (((j.pc : Int) + 4 * toInt 18 w) % 2 ^ 32).toNat))
      else seqDone s sq j) := by
  refine (fetched_runs h hf hop rfl).trans (congrArg _ ?_)
  split
  · exact keepG_setSeq hg ..
  · exact keepG_setSeq hg ..

end
/-! ### Sequencing (R561, R562) -/

theorem after_outside_loops {j : JobRun} (hl : j.loops = []) (next : Nat) : j.after next = { j with pc := next % 2 ^ 32 } := by
  rw [JobRun.after, hl]
  cases j
  cases hl
  rfl

theorem areg_setAreg (j : JobRun) {k i : Nat} (hk : k < 4) (hi : i < 4) (v : Word32) :
    (j.setAreg k v).areg i = if k = i then v else j.areg i := by
  simp only [JobRun.setAreg, dif_pos hk, JobRun.areg, dif_pos hi, Vector.getElem_set]

/-- The registers `a` of a job are all that `k` has changed of `j`. -/
def AddressOnly (j k : JobRun) : Prop := k = { j with a := k.a }

theorem addressOnly_setAreg (j : JobRun) (k : Nat) (v : Word32) : AddressOnly j (j.setAreg k v) := by
  unfold JobRun.setAreg
  split <;> rfl

theorem AddressOnly.trans {j k l : JobRun} (h : AddressOnly j k) (h' : AddressOnly k l) : AddressOnly j l := by
  unfold AddressOnly at *
  rw [h', h]

theorem AddressOnly.incAt {j k : JobRun} (h : AddressOnly j k) (l i : Nat) : k.incAt l i = j.incAt l i := by rw [h]; rfl

/-- The first `n` of the increments that the end of a body of level `l` adds (R561). -/
def JobRun.stepped (j : JobRun) (l n : Nat) : JobRun := (List.range n).foldl (fun j k => j.setAreg k (j.areg k + j.incAt l k)) j

theorem stepped_succ (j : JobRun) (l n : Nat) :
    j.stepped l (n + 1) = (j.stepped l n).setAreg n ((j.stepped l n).areg n + (j.stepped l n).incAt l n) := by
  rw [JobRun.stepped, List.range_succ, List.foldl_append]
  rfl

theorem addressOnly_stepped (j : JobRun) (l n : Nat) : AddressOnly j (j.stepped l n) := by
  induction n with
  | zero => rfl
  | succ n ih => rw [stepped_succ]; exact ih.trans (addressOnly_setAreg ..)

/-- An increment is added to its own register, once. -/
theorem areg_stepped (j : JobRun) (l : Nat) {n : Nat} (hn : n ≤ 4) {i : Nat} (hi : i < 4) :
    (j.stepped l n).areg i = if i < n then j.areg i + j.incAt l i else j.areg i := by
  induction n with
  | zero => rfl
  | succ n ih =>
    specialize ih (Nat.le_of_succ_le hn)
    rw [stepped_succ, areg_setAreg _ hn hi, (addressOnly_stepped j l n).incAt]
    obtain hlt | rfl | hgt := Nat.lt_trichotomy i n
    · rw [if_neg hlt.ne', ih, if_pos hlt, if_pos (by omega)]
    · rw [if_pos rfl, ih, if_neg (Nat.lt_irrefl i), if_pos (Nat.lt_succ_self i)]
    · rw [if_neg hgt.ne, ih, if_neg (by omega), if_neg (by omega)]

theorem after_restarts {j : JobRun} {l : LoopLvl} {rest : List LoopLvl} (hl : j.loops = l :: rest) (hs : l.stop = j.pc) (hc : 1 < l.count)
    (next : Nat) : j.after next = { j.stepped rest.length 4 with pc := l.start, loops := { l with count := l.count - 1 } :: rest } := by
  rw [JobRun.after, hl, List.length_cons, JobRun.endLoops]
  simp only [hl]
  exact (if_neg (not_not_intro hs)).trans (if_pos hc)

/-! ### What compares and what is least (R558) -/

theorem minu_eq (a b : Word32) : (if a.ult b then a else b) = BitVec.ofNat 32 (min a.toNat b.toNat) := by
  by_cases hlt : a.toNat < b.toNat
  · rw [if_pos (by simpa [BitVec.ult] using hlt), Nat.min_eq_left hlt.le, BitVec.ofNat_toNat, BitVec.setWidth_eq]
  · rw [if_neg (by simpa [BitVec.ult] using hlt), Nat.min_eq_right (Nat.le_of_not_lt hlt), BitVec.ofNat_toNat, BitVec.setWidth_eq]

theorem maxu_eq (a b : Word32) : (if a.ult b then b else a) = BitVec.ofNat 32 (max a.toNat b.toNat) := by
  by_cases hlt : a.toNat < b.toNat
  · rw [if_pos (by simpa [BitVec.ult] using hlt), Nat.max_eq_right hlt.le, BitVec.ofNat_toNat, BitVec.setWidth_eq]
  · rw [if_neg (by simpa [BitVec.ult] using hlt), Nat.max_eq_left (Nat.le_of_not_lt hlt), BitVec.ofNat_toNat, BitVec.setWidth_eq]

/-! ### LOOP (R560) -/

/-- The innermost open level ends before the end of the body. -/
def JobRun.crosses (j : JobRun) (stop : Nat) : Bool := j.loops.head?.elim false fun l => decide (l.stop < stop)

section
variable {s : State} (h : Live s) (hg : GranaryOk s) {sq : Fin 4} {op : Nat} {j : JobRun} {w : Nat} (hf : Fetches s sq op j w)
  (hop : op = 0x28)
include h hf hop

theorem exec_loop_no_body (h0 : w % 4096 = 0) : exec (.loop sq) s = .next (keepG s (trap s sq 1)) := by
  rw [exec_loop, execLoop]
  exact fetched_runs h hf hop (if_pos h0)

variable (h0 : w % 4096 ≠ 0)
include h0

include hg in
theorem exec_loop_no_pass (hn : (j.reg (fieldOf w 23 20)).toNat = 0) :
    exec (.loop sq) s = .next (setSeq s sq (some (j.after (j.pc + 4 * (w % 4096) + 4)))) := by
  rw [exec_loop, execLoop]
  exact fetched_sets h hg hf hop ((if_neg h0).trans (if_pos hn))

variable (hn : (j.reg (fieldOf w 23 20)).toNat ≠ 0)
include hn

theorem exec_loop_fault (hl : fieldOf w 25 24 ≠ j.loops.length ∨ j.crosses (j.pc + 4 * (w % 4096)) = true) :
    exec (.loop sq) s = .next (keepG s (trap s sq 5)) := by
  rw [exec_loop, execLoop]
  exact fetched_runs h hf hop ((if_neg h0).trans ((if_neg hn).trans (if_pos hl)))

include hg in
theorem exec_loop_opens (hl : fieldOf w 25 24 = j.loops.length) (hc : j.crosses (j.pc + 4 * (w % 4096)) = false) :
    exec (.loop sq) s = .next (setSeq s sq (some { j with
      pc := j.pc + 4, loops := ⟨j.pc + 4, j.pc + 4 * (w % 4096), (j.reg (fieldOf w 23 20)).toNat⟩ :: j.loops })) := by
  rw [exec_loop, execLoop]
  refine fetched_sets h hg hf hop ((if_neg h0).trans ((if_neg hn).trans (if_neg fun hbad => ?_)))
  obtain hlevel | hcross := hbad
  · exact hlevel hl
  · exact Bool.false_ne_true (hc.symm.trans hcross)

end

/-- Another sequencer's job stays. -/
theorem seq_setSeq_ne (s : State) {sq r : Fin 4} (hr : r ≠ sq) (k : Option JobRun) : (setSeq s sq k).thresh.seq[r] = s.thresh.seq[r] := by
  have hne : sq.val ≠ r.val := fun he => hr (Fin.ext he.symm)
  simp [setSeq, hne]

/-- Settles O54: rows that the sequencer does not fetch, the instructions on registers, branches and LOOP, and what follows an instruction
within a loop and outside one. That a LOOP of count 0 has only its length checked is the model's choice (assumption log 86). -/
theorem sequencerRegistersAndSequencing : Obligations.SequencerRegistersAndSequencing := by
  unfold Obligations.SequencerRegistersAndSequencing
  refine ⟨fun s c sq op h hg hc => ?rows, fun s sq op w j h hg hf => ?registers, fun s sq op w j h hg hf => ?branches,
    fun s sq j => ?sequencing⟩
  case rows =>
    obtain ⟨f, hrow⟩ := exec_seqOpcode hc
    rw [hrow]
    exact ⟨fun hj => actGranary_eq_self h hg (seqOp_idle hj f), fun j hj hw => actGranary_eq_self h hg (seqOp_other hj hw f)⟩
  case registers =>
    have sets {n : Nat} (hop : op = n) (f : JobRun → Nat → Word32) := seqSet_fetched h hg hf hop f
    refine ⟨fun hop => fetched_sets h hg hf hop rfl, fun hop => sets hop _, fun hop => sets hop _, fun hop => sets hop _,
      fun hop => sets hop _, fun hop => sets hop _, fun hop => sets hop _, fun hop => sets hop _, fun hop => sets hop _,
      fun hop => sets hop _, fun hop => sets hop _, fun hop => sets hop _, fun hop => ?minu, fun hop => ?maxu,
      fun hop => sets hop _, fun hop => sets hop _, fun hop => sets hop _, fun hop => sets hop _, fun hop => sets hop _,
      fun hop => sets hop _, fun hop => sets hop _, fun hop hlt => fetched_sets h hg hf hop ?setinc,
      fun hop => fetched_sets h hg hf hop rfl, fun hop => fetched_sets h hg hf hop rfl, fun hop => fetched_sets h hg hf hop rfl⟩
    case minu => rw [← minu_eq]; exact sets hop _
    case maxu => rw [← maxu_eq]; exact sets hop _
    case setinc => simp only [dif_pos hlt]; rfl
  case branches =>
    have branch {n : Nat} (hop : op = n) (f : Word32 → Word32 → Bool) := seqBranch_fetched h hg hf hop f
    refine ⟨fun hop => ?beq, fun hop => ?bne, fun hop => ?blt, fun hop => ?bge, fun hop => ?bltu, fun hop => ?bgeu,
      fun hop => fetched_sets h hg hf hop rfl, fun hop => ⟨exec_loop_no_body h hf hop, exec_loop_no_pass h hg hf hop,
        exec_loop_fault h hf hop, exec_loop_opens h hg hf hop⟩⟩
    case beq => rw [exec_beq, execBeq, branch hop]; simp only [beq_iff_eq]
    case bne => rw [exec_bne, execBne, branch hop]; simp only [bne_iff_ne, ite_not]
    case blt => rw [exec_blt, execBlt, branch hop]; simp only [BitVec.slt, decide_eq_true_eq]
    case bge => rw [exec_bge, execBge, branch hop]; simp only [BitVec.slt, Bool.not_eq_true', decide_eq_false_iff_not, ite_not]
    case bltu => rw [exec_bltu, execBltu, branch hop]; simp only [BitVec.ult, decide_eq_true_eq]
    case bgeu => rw [exec_bgeu, execBgeu, branch hop]; simp only [BitVec.ult, Bool.not_eq_true', decide_eq_false_iff_not, ite_not]
  case sequencing =>
    refine ⟨fun hl => ?outside, fun l rest hl hs hc => ?restarts, fun k => ⟨objectsKept_of_od rfl, rfl, fun r hr => seq_setSeq_ne s hr k⟩⟩
    case outside => rw [seqDone, after_outside_loops hl]
    case restarts =>
      rw [seqDone, after_restarts hl hs hc]
      refine ⟨_, rfl, rfl, rfl, ?_, fun i hi => ?_⟩
      · show (j.stepped rest.length 4).g = j.g
        rw [addressOnly_stepped]
      · exact (areg_stepped j rest.length (Nat.le_refl 4) hi).trans (if_pos hi)

/-! ### Bytes of a value (R50) -/

theorem length_leBytes (n v : Nat) : (leBytes n v).length = n := by
  induction n generalizing v with
  | zero => rfl
  | succ n ih => rw [leBytes, List.length_cons, ih]

/-- Byte `i` of a value. -/
theorem getElem_leBytes (n v : Nat) {i : Nat} (hi : i < (leBytes n v).length) : (leBytes n v)[i] = BitVec.ofNat 8 (v / 256 ^ i) := by
  induction n generalizing v i with
  | zero => cases hi
  | succ n ih =>
    cases i with
    | zero => rw [Nat.pow_zero, Nat.div_one]; rfl
    | succ i =>
      rw [Nat.pow_succ', ← Nat.div_div_eq_div_mul]
      exact ih (v / 256) (Nat.lt_of_succ_lt_succ hi)

/-! ### LD and ST (R558, R559, R581) -/

section
variable {s : State} {j : JobRun} {a : Nat} (sq : Fin 4) (f : State)

theorem seqAccess_outside (hw : inWindow s j.crib a 4 = false) : seqAccess s sq j a f = trap s sq 3 (some 3) := if_pos hw

variable (hw : inWindow s j.crib a 4 = true)
include hw

theorem seqAccess_unaligned (ha : a % 4 ≠ 0) : seqAccess s sq j a f = trap s sq 4 :=
  (if_neg (ne_false_of_eq_true hw)).trans (if_pos ha)

theorem seqAccess_sound (ha : a % 4 = 0) : seqAccess s sq j a f = f :=
  (if_neg (ne_false_of_eq_true hw)).trans (if_neg (not_not_intro ha))

end

/-- The Threshing Floor's frame of a state that differs in nothing it keeps but a canonical Granary. -/
theorem keepG_eq {s t : State} (h1 : t.pending = s.pending) (h2 : t.dev = s.dev) (h3 : t.flash = s.flash) (h4 : t.pins = s.pins)
    (hg : GranaryOk t) : keepG s t = t := by
  cases s; cases t; simp_all [keepG, keep, enablesFrom_same, tidy_of_canonical hg]

theorem granaryOk_granaryStore {s : State} (hg : GranaryOk s) (a : Nat) (bs : List Byte) : GranaryOk (granaryStore s a bs) :=
  Keyed.canonical_foldl _ _ _ _ hg

/-- The state in which the word of an ST is stored and the sequencer has gone on. -/
def stored (s : State) (sq : Fin 4) (j : JobRun) (a : Nat) (v : Word32) : State :=
  seqDone (granaryStore s a (leBytes 4 v.toNat)) sq j

/-- An ST that passes its checks stores its word. -/
theorem exec_st_stores {s : State} (h : Live s) (hg : GranaryOk s) {sq : Fin 4} {w : Nat} {j : JobRun} (hf : Fetches s sq 0x19 j w)
    (hw : inWindow s j.crib (memAddr j w) 4 = true) (ha : memAddr j w % 4 = 0) :
    exec (.st sq) s = .next (stored s sq j (memAddr j w) (j.reg (fD w))) := by
  rw [exec_st, execSt, fetched_runs h hf rfl (seqAccess_sound sq _ hw ha)]
  exact congrArg _ (keepG_eq rfl rfl rfl rfl (granaryOk_granaryStore hg ..))

/-! ### PUSH (R564) -/

/-- A command joins the queue that its PUSH names. -/
def pushed (s : State) (sq : Fin 4) (j : JobRun) (q : Fin 4) (c : EngCmd) : State :=
  seqDone { s with thresh := { s.thresh with nextCmd := s.thresh.nextCmd + 1 } } sq { j with queues := j.queues.set q (j.queues[q] ++ [c]) }

/-- The queue that a PUSH names. -/
def pushQueue (w : Nat) : Fin 4 := ⟨fieldOf w 25 24 % 4, Nat.mod_lt _ (by decide)⟩

theorem pushQueue_eq {q : Fin 4} {w : Nat} (hq : q.val = fieldOf w 25 24) : pushQueue w = q :=
  Fin.ext ((congrArg (· % 4) hq).symm.trans (Nat.mod_eq_of_lt q.isLt))

/-- What a PUSH with its template at `a` does. -/
def pushAt (s : State) (sq : Fin 4) (j : JobRun) (w a : Nat) : State :=
  if inWindow s j.crib a 32 = false then trap s sq 3 (some 3)
  else if a % 4 ≠ 0 then trap s sq 4
  else if s.poisoned a 32 then trap s sq 12
  else match pushCheck s j (pushBuild s j a (w % 16)) with
    | some (n, v) => trap s sq n v
    | none => if 16 ≤ j.queues[pushQueue w].length then s else pushed s sq j (pushQueue w) (pushBuild s j a (w % 16))

theorem exec_push_fetched {s : State} (h : Live s) {sq : Fin 4} {w : Nat} {j : JobRun} (hf : Fetches s sq 0x30 j w) {t : State}
    (ht : pushAt s sq j w (((j.reg (fA w)).toNat + 32 * fieldOf w 17 8) % 2 ^ 32) = t) : exec (.push sq) s = .next (keepG s t) :=
  fetched_runs h hf rfl ht

section
variable {s : State} {sq : Fin 4} {w : Nat} {j : JobRun} {a : Nat}

theorem pushAt_outside (hw : inWindow s j.crib a 32 = false) : pushAt s sq j w a = trap s sq 3 (some 3) := if_pos hw

variable (hw : inWindow s j.crib a 32 = true)
include hw

theorem pushAt_unaligned (h4 : a % 4 ≠ 0) : pushAt s sq j w a = trap s sq 4 := (if_neg (ne_false_of_eq_true hw)).trans (if_pos h4)

variable (h4 : a % 4 = 0)
include h4

theorem pushAt_poisoned (hp : s.poisoned a 32 = true) : pushAt s sq j w a = trap s sq 12 :=
  (if_neg (ne_false_of_eq_true hw)).trans ((if_neg (not_not_intro h4)).trans (if_pos hp))

variable (hp : s.poisoned a 32 = false)
include hp

theorem pushAt_checked : pushAt s sq j w a = match pushCheck s j (pushBuild s j a (w % 16)) with
    | some (n, v) => trap s sq n v
    | none => if 16 ≤ j.queues[pushQueue w].length then s else pushed s sq j (pushQueue w) (pushBuild s j a (w % 16)) :=
  (if_neg (ne_false_of_eq_true hw)).trans ((if_neg (not_not_intro h4)).trans (if_neg (ne_true_of_eq_false hp)))

theorem pushAt_refused {n : Nat} {v : Option Nat} (hc : pushCheck s j (pushBuild s j a (w % 16)) = some (n, v)) :
    pushAt s sq j w a = trap s sq n v := by
  rw [pushAt_checked hw h4 hp, hc]

variable (hc : pushCheck s j (pushBuild s j a (w % 16)) = none)
include hc

theorem pushAt_waits (hn : 16 ≤ j.queues[pushQueue w].length) : pushAt s sq j w a = s := by
  rw [pushAt_checked hw h4 hp, hc]
  exact if_pos hn

theorem pushAt_pushes (hn : j.queues[pushQueue w].length < 16) :
    pushAt s sq j w a = pushed s sq j (pushQueue w) (pushBuild s j a (w % 16)) := by
  rw [pushAt_checked hw h4 hp, hc]
  exact if_neg hn.not_ge

end

/-! ### FENCE and HALT (R558, R580) -/

theorem fenceQueues_iff (j : JobRun) (w : Nat) : ((List.finRange 4).all fun q => !w.testBit q || j.queues[q].isEmpty) = true ↔
    ∀ q : Fin 4, w.testBit q = true → j.queues[q] = [] := by
  simp [or_iff_not_imp_left]

section
variable {s : State} (h : Live s) (hg : GranaryOk s) {sq : Fin 4} {w : Nat} {j : JobRun}
include h hg

theorem exec_fence_waits (hf : Fetches s sq 0x31 j w) (hq : ∃ q : Fin 4, w.testBit q = true ∧ j.queues[q] ≠ []) :
    exec (.fence sq) s = .next s := by
  obtain ⟨q, hb, hne⟩ := hq
  rw [exec_fence, execFence]
  exact (fetched_runs h hf rfl (if_neg fun hall => hne ((fenceQueues_iff j w).1 hall q hb))).trans (congrArg _ (keepG_self hg))

theorem exec_fence_passes (hf : Fetches s sq 0x31 j w) (hq : ∀ q : Fin 4, w.testBit q = true → j.queues[q] = []) :
    exec (.fence sq) s = .next (seqDone s sq j) := by
  rw [exec_fence, execFence]
  exact fetched_sets h hg hf rfl (if_pos ((fenceQueues_iff j w).2 hq))

end

/-- A sequencer holds what it was given. -/
@[simp] theorem seq_setSeq (s : State) (sq : Fin 4) (k : Option JobRun) : (setSeq s sq k).thresh.seq[sq] = k := by
  simp [setSeq]

/-- A job with commands in its queues does not end yet. -/
theorem jobSettle_undrained (s : State) (sq : Fin 4) {j : JobRun} (hd : j.drained = false) :
    jobSettle (setSeq s sq (some j)) sq = setSeq s sq (some j) := by
  rw [jobSettle, seq_setSeq]
  exact if_neg (by simp [hd])

theorem exec_halt_halts {s : State} (h : Live s) {sq : Fin 4} {w : Nat} {j : JobRun} (hf : Fetches s sq 0x01 j w) :
    exec (.halt sq) s = .next (keepG s (jobSettle (setSeq s sq (some { j with halted := true })) sq)) :=
  fetched_runs h hf rfl rfl

/-! ### What cannot be fetched, and the time limit (R578, R581) -/

section
variable {s : State} (h : Live s) {sq : Fin 4}
include h

theorem exec_illegalInstruction_idle (hg : GranaryOk s) (hj : s.issuing sq = none) : exec (.illegalInstruction sq) s = .next s := by
  rw [exec_illegalInstruction, execIllegalInstruction]
  exact actGranary_eq_self h hg (by simp only [hj])

section
variable {j : JobRun} (hj : s.issuing sq = some j)
include hj

theorem exec_illegalInstruction_outside (hf : fetchAt s j = .outside) :
    exec (.illegalInstruction sq) s = .next (keepG s (trap s sq 2 (some 3))) := by
  rw [exec_illegalInstruction, execIllegalInstruction]
  exact actGranary_eq h (by simp only [hj, hf])

theorem exec_illegalInstruction_poison (hf : fetchAt s j = .poison) :
    exec (.illegalInstruction sq) s = .next (keepG s (trap s sq 12)) := by
  rw [exec_illegalInstruction, execIllegalInstruction]
  exact actGranary_eq h (by simp only [hj, hf])

variable {w : Nat} (hf : fetchAt s j = .word w)
include hf

theorem exec_illegalInstruction_illegal (hl : legalWord w = false) :
    exec (.illegalInstruction sq) s = .next (keepG s (trap s sq 1)) := by
  rw [exec_illegalInstruction, execIllegalInstruction]
  refine actGranary_eq h ?_
  simp only [hj, hf]
  exact if_neg (ne_true_of_eq_false hl)

theorem exec_illegalInstruction_legal (hg : GranaryOk s) (hl : legalWord w = true) : exec (.illegalInstruction sq) s = .next s := by
  rw [exec_illegalInstruction, execIllegalInstruction]
  refine actGranary_eq_self h hg ?_
  simp only [hj, hf]
  exact if_pos hl

end

theorem exec_jobTimeLimitExpiry_idle (hn : s.thresh.seq[sq] = none) : exec (.jobTimeLimitExpiry sq) s = .next s := by
  rw [exec_jobTimeLimitExpiry, execJobTimeLimitExpiry]
  exact act_eq_self h (by simp only [stopJob, hn])

theorem exec_jobTimeLimitExpiry_stops : exec (.jobTimeLimitExpiry sq) s = .next (keep s (stopJob s sq (.cause 15 0))) := by
  rw [exec_jobTimeLimitExpiry, execJobTimeLimitExpiry]
  exact act_eq h rfl

end

/-- The first reason to stop stands, and a job with commands in its queues goes on holding its sequencer. -/
theorem stopJob_undrained {s : State} {sq : Fin 4} {j : JobRun} (hj : s.thresh.seq[sq] = some j) (hs : j.stop = none)
    (hd : j.drained = false) (why : JobEnd) : stopJob s sq why = setSeq s sq (some { j with stop := some ⟨why, j.pc, s.now⟩ }) := by
  simp only [stopJob, hj, hs, stopMerge]
  exact jobSettle_undrained s sq hd

/-! ### Assignment (R552 to R555) -/

/-- The jobs that wait, of the cribs that may hold one more sequencer (R554). -/
def readyJobs (s : State) : List Ctx :=
  s.host.ctxs.filter fun x => x.jobWaits && x.wants == 0 && s.g Od.CRIB_STATE x.crib == 1 &&
    decide (((List.finRange 4).filter fun q => (s.thresh.seq[q]).elim false fun j => j.crib == x.crib).length < s.g Od.CRIB_SEQ_MAX x.crib)

theorem drrPick_nil (s : State) (d : Drr) : drrPick s d [] = (none, d) := by
  simp [drrPick]

/-- The data of a job as its checks and its load take it. -/
def jobData (cdw10 : Nat) (data : Option (List Byte)) : List Byte := padTo (max 128 (min cdw10 1048576)) (data.getD [])

/-- A job whose crib's turn it is, is judged; a sound one is loaded. -/
def assignJob (s : State) (sq : Fin 4) (bad : Bool) (x : Ctx) (cdw10 : Nat) (rest0 : Bool) (d : List Byte) : State :=
  match jobCheck s x cdw10 rest0 d bad with
  | some st => endCtx s x st
  | none => jobLoad (s.setCtx x.id fun y => { y with started := true }) sq x d

/-- What a free sequencer does with a pick among the jobs that are ready. -/
def assignPick (s : State) (sq : Fin 4) (bad : Bool) (ready : List Ctx) (pick : Option (Nat × Nat)) : State :=
  match pick.bind fun p => ready.find? fun x => x.crib == p.2 with
  | none => s
  | some x => match x.op with
    | .job cdw10 rest0 data => assignJob s sq bad x cdw10 rest0 (jobData cdw10 data)
    | _ => s

/-- The turn of classes and cribs moves on. -/
def turned (s : State) (turn : Drr) : State := { s with thresh := { s.thresh with turn := turn } }

section
variable {s : State} (h : Live s) {sq : Fin 4} (bad : Bool)
include h

theorem exec_sequencerAssign_busy (hg : GranaryOk s) (hn : s.thresh.seq[sq] ≠ none ∨ s.dev ≠ .serving ∨ s.admin.sanitize.state = 2) :
    exec (.sequencerAssign sq bad) s = .next s := by
  rw [exec_sequencerAssign, execSequencerAssign]
  exact actGranary_eq_self h hg (if_pos hn)

theorem exec_sequencerAssign_free {pick : Option (Nat × Nat)} {turn : Drr}
    (hn : ¬(s.thresh.seq[sq] ≠ none ∨ s.dev ≠ .serving ∨ s.admin.sanitize.state = 2))
    (hp : drrPick s s.thresh.turn ((readyJobs s).map fun x => (2, x.crib)) = (pick, turn)) :
    exec (.sequencerAssign sq bad) s = .next (keepG s (assignPick (turned s turn) sq bad (readyJobs s) pick)) := by
  rw [exec_sequencerAssign, execSequencerAssign]
  refine actGranary_eq h ((if_neg hn).trans ?_)
  obtain rfl : pick = _ := (congrArg Prod.fst hp).symm
  obtain rfl : turn = _ := (congrArg Prod.snd hp).symm
  rfl

theorem exec_sequencerAssign_none (hg : GranaryOk s) (hr : readyJobs s = []) : exec (.sequencerAssign sq bad) s = .next s := by
  by_cases hn : s.thresh.seq[sq] ≠ none ∨ s.dev ≠ .serving ∨ s.admin.sanitize.state = 2
  · exact exec_sequencerAssign_busy h bad hg hn
  · have hp : drrPick s s.thresh.turn ((readyJobs s).map fun x => (2, x.crib)) = (none, s.thresh.turn) := by rw [hr]; exact drrPick_nil s _
    exact (exec_sequencerAssign_free h bad hn hp).trans (congrArg _ (keepG_self hg))

end

/-- The job whose crib's turn it is, is judged. -/
theorem exec_sequencerAssign_picks {s : State} (h : Live s) {sq : Fin 4} (bad : Bool) (hn : s.thresh.seq[sq] = none) (hd : s.dev = .serving)
    (hz : s.admin.sanitize.state ≠ 2) {p : Nat × Nat} {turn : Drr} {x : Ctx} {cdw10 : Nat} {rest0 : Bool} {data : Option (List Byte)}
    (hp : drrPick s s.thresh.turn ((readyJobs s).map fun x => (2, x.crib)) = (some p, turn))
    (hx : ((readyJobs s).find? fun x => x.crib == p.2) = some x) (hop : x.op = .job cdw10 rest0 data) {t : State}
    (ht : assignJob (turned s turn) sq bad x cdw10 rest0 (jobData cdw10 data) = t) : exec (.sequencerAssign sq bad) s = .next (keepG s t) := by
  rw [exec_sequencerAssign_free h bad (by simp [hn, hd, hz]) hp, ← ht]
  simp only [assignPick, Option.bind_some, hx, hop]

theorem drained_of_empty {j : JobRun} (hq : j.queues = Vector.replicate 4 []) : j.drained = true := by
  rw [JobRun.drained, hq]
  rfl

theorem assignJob_refused {s : State} {x : Ctx} {cdw10 : Nat} {rest0 bad : Bool} {d : List Byte} {st : Status}
    (hc : jobCheck s x cdw10 rest0 d bad = some st) (sq : Fin 4) : assignJob s sq bad x cdw10 rest0 d = endCtx s x st := by
  simp only [assignJob, hc]

theorem assignJob_sound {s : State} {x : Ctx} {cdw10 : Nat} {rest0 bad : Bool} {d : List Byte}
    (hc : jobCheck s x cdw10 rest0 d bad = none) (sq : Fin 4) :
    assignJob s sq bad x cdw10 rest0 d = jobLoad (s.setCtx x.id fun y => { y with started := true }) sq x d := by
  simp only [assignJob, hc]

/-- Settles O55: LD, ST, PUSH, FENCE and HALT, what cannot be fetched and the time limit, and the assignment of a sequencer. That the
violation of a fetch, a word access or a template has code 3, and that a poisoned one is cause 12, is the model's choice (assumption log
86). -/
theorem sequencerMemoryAndJobs : Obligations.SequencerMemoryAndJobs := by
  unfold Obligations.SequencerMemoryAndJobs
  refine ⟨fun s sq w j h hg hf => ?ld, fun s sq w j h hg hf => ?st, fun s sq w j h hg hf => ?push, fun s sq w j h hg => ?waits,
    fun s sq h hg => ?exceptions, fun s sq bad h hg => ?assign⟩
  case ld =>
    refine ⟨fun hw => fetched_runs h hf rfl (seqAccess_outside sq _ hw), fun hw ha => fetched_runs h hf rfl (seqAccess_unaligned sq _ hw ha),
      fun hw ha hp => fetched_runs h hf rfl ((seqAccess_sound sq _ hw ha).trans (if_pos hp)),
      fun hw ha hp => fetched_sets h hg hf rfl ((seqAccess_sound sq _ hw ha).trans (if_neg (ne_true_of_eq_false hp)))⟩
  case st =>
    refine ⟨fun hw => fetched_runs h hf rfl (seqAccess_outside sq _ hw), fun hw ha => fetched_runs h hf rfl (seqAccess_unaligned sq _ hw ha),
      fun hw ha => ⟨_, exec_st_stores h hg hf hw ha, fun i hi => ?word, fun b hb => gByte_gStore_outside _ hb,
        granaryOk_granaryStore hg .., rfl, rfl, rfl, rfl⟩⟩
    exact (gByte_gStore_inside s.granary _ ((length_leBytes 4 _).symm ▸ hi)).trans (getElem_leBytes ..)
  case push =>
    have row {t : State} := exec_push_fetched h hf (t := t)
    refine ⟨fun hw => row (pushAt_outside hw), fun hw h4 => row (pushAt_unaligned hw h4), fun hw h4 hp => row (pushAt_poisoned hw h4 hp),
      fun hw h4 hp => ⟨fun n v hc => row (pushAt_refused hw h4 hp hc), fun hc q hq => ?_⟩⟩
    obtain rfl := pushQueue_eq hq
    exact ⟨fun hn => (row (pushAt_waits hw h4 hp hc hn)).trans (congrArg _ (keepG_self hg)),
      fun hn => (row (pushAt_pushes hw h4 hp hc hn)).trans (congrArg _ (keepG_eq rfl rfl rfl rfl hg))⟩
  case waits =>
    refine ⟨fun hf => ⟨exec_fence_waits h hg hf, exec_fence_passes h hg hf⟩, fun hf => ⟨fun hd => ?_, fun hd => exec_halt_halts h hf⟩⟩
    have hd' : JobRun.drained { j with halted := true } = false := hd
    rw [exec_halt_halts h hf, jobSettle_undrained s sq hd', keepG_setSeq hg]
  case exceptions =>
    refine ⟨exec_illegalInstruction_idle h hg, fun j hj => ⟨exec_illegalInstruction_outside h hj, exec_illegalInstruction_poison h hj,
      fun w hf => ⟨exec_illegalInstruction_illegal h hj hf, exec_illegalInstruction_legal h hj hf hg⟩⟩, exec_jobTimeLimitExpiry_idle h,
      fun j hj hs hd => ?_, fun j hj => exec_jobTimeLimitExpiry_stops h⟩
    rw [exec_jobTimeLimitExpiry_stops h, stopJob_undrained hj hs hd]
    exact congrArg _ (keep_eq rfl rfl rfl rfl rfl)
  case assign =>
    refine ⟨fun hn => ?idle, fun hn hd hz p turn x cdw10 rest0 data hp hx hop => ⟨fun st hc => ?refused, fun hc => ?loads⟩⟩
    case idle =>
      obtain hn | hn | hn | hn := hn
      · exact exec_sequencerAssign_busy h bad hg (.inl hn)
      · exact exec_sequencerAssign_busy h bad hg (.inr (.inl hn))
      · exact exec_sequencerAssign_busy h bad hg (.inr (.inr hn))
      · exact exec_sequencerAssign_none h bad hg hn
    case refused => exact exec_sequencerAssign_picks h bad hn hd hz hp hx hop (assignJob_refused hc sq)
    case loads =>
      refine ⟨_, _, exec_sequencerAssign_picks h bad hn hd hz hp hx hop (assignJob_sound hc sq), seq_setSeq .., rfl, rfl, rfl, rfl, rfl,
        rfl, ?_, fun b hb => ?_⟩
      · exact drained_of_empty rfl
      · exact (getD_tidy ..).trans (gByte_gStore_outside _ hb)
end Sys2Proof.Machine
end

section
/-! SUPPORT. What the engines compute: elements one after the other, the running state of SHA-256, the key stream of GCM, and lanes. -/

namespace Sys2Proof.Machine

/-! ### Elements in ascending order (R567) -/

@[simp] theorem length_gBytes (g : List Host.Cell) (a n : Nat) : (gBytes g a n).length = n := by simp [gBytes]

theorem getElem_gBytes (g : List Host.Cell) (a n : Nat) {i : Nat} (hi : i < (gBytes g a n).length) : (gBytes g a n)[i] = gByte g (a + i) := by
  simp [gBytes]

theorem gBytes_congr {g g' : List Host.Cell} {a n : Nat} (h : ∀ i < n, gByte g' (a + i) = gByte g (a + i)) : gBytes g' a n = gBytes g a n :=
  List.map_congr_left fun i hi => h i (List.mem_range.1 hi)

theorem gBytes_gStore_outside (g : List Host.Cell) {a b n : Nat} {bs : List Byte} (h : b + n ≤ a ∨ a + bs.length ≤ b) :
    gBytes (gStore g a bs) b n = gBytes g b n :=
  gBytes_congr fun i hi => gByte_gStore_outside g (by omega)

theorem gBytes_gStore_inside (g : List Host.Cell) (a : Nat) (bs : List Byte) : gBytes (gStore g a bs) a bs.length = bs := by
  refine List.ext_getElem (length_gBytes ..) fun i hi hb => ?_
  rw [getElem_gBytes, gByte_gStore_inside g a hb]

theorem gBytes_append (g : List Host.Cell) (a n m : Nat) : gBytes g a (n + m) = gBytes g a n ++ gBytes g (a + n) m := by
  simp only [gBytes, List.range_add, List.map_append, List.map_map, Function.comp_def, Nat.add_assoc]

/-- The Granary after the first `n` elements. -/
def elementsStored (g : List Host.Cell) (n w dst : Nat) (f : List Host.Cell → Nat → List Byte) : List Host.Cell :=
  (List.range n).foldl (fun g i => gStore g (dst + w * i) (f g i)) g

theorem elementsStored_succ (g : List Host.Cell) (n w dst : Nat) (f : List Host.Cell → Nat → List Byte) :
    elementsStored g (n + 1) w dst f =
      gStore (elementsStored g n w dst f) (dst + w * n) (f (elementsStored g n w dst f) n) := by
  rw [elementsStored, List.range_succ, List.foldl_append]
  rfl

/-- Element `i` comes out the same whatever the elements before it have written. -/
def Independent (g : List Host.Cell) (n w dst : Nat) (f : List Host.Cell → Nat → List Byte) : Prop :=
  ∀ i < n, ∀ g', (∀ b, (b < dst ∨ dst + w * i ≤ b) → gByte g' b = gByte g b) → f g' i = f g i

section
variable {g : List Host.Cell} {n w dst : Nat} {f : List Host.Cell → Nat → List Byte} (hf : Independent g n w dst f)
  (hl : ∀ i < n, (f g i).length = w)
include hf hl

/-- The first `m` elements write what they compute from the Granary as it was, and nothing else. -/
theorem elementsStored_independent {m : Nat} (hm : m ≤ n) :
    gBytes (elementsStored g m w dst f) dst (w * m) = (List.range m).flatMap (f g) ∧
      ∀ b, (b < dst ∨ dst + w * m ≤ b) → gByte (elementsStored g m w dst f) b = gByte g b := by
  induction m with
  | zero => exact ⟨rfl, fun b _ => rfl⟩
  | succ m ih =>
    obtain ⟨hin, hout⟩ := ih (Nat.le_of_succ_le hm)
    have hlen := hl m hm
    rw [elementsStored_succ, hf m hm _ hout]
    refine ⟨?_, fun b hb => ?_⟩
    · have hlast := gBytes_gStore_inside (elementsStored g m w dst f) (dst + w * m) (f g m)
      rw [hlen] at hlast
      rw [Nat.mul_succ, gBytes_append, gBytes_gStore_outside _ (.inl (Nat.le_refl _)), hin, hlast, List.range_succ, List.flatMap_append,
        List.flatMap_singleton]
    · rw [Nat.mul_succ] at hb
      rw [gByte_gStore_outside _ (by omega), hout b (by omega)]

theorem elements_independent : elements g n w dst f = (List.range n).flatMap (f g) := by
  rw [elements, Nat.mul_comm]
  exact (elementsStored_independent hf hl (Nat.le_refl n)).1

end

/-- Single bytes. -/
theorem elements_bytes {g : List Host.Cell} {n dst : Nat} {f : List Host.Cell → Nat → Byte} (hf : Independent g n 1 dst fun g i => [f g i]) :
    elements g n 1 dst (fun g i => [f g i]) = (List.range n).map (f g) := by
  rw [elements_independent hf fun _ _ => rfl]
  exact (List.map_eq_flatMap ..).symm

/-- A source of `n` bytes that does not overlap its destination, or is the destination itself, read byte for byte. -/
def Apart (n dst a : Nat) : Prop := a + n ≤ dst ∨ dst + n ≤ a ∨ a = dst

theorem Apart.outside {n dst a i : Nat} (h : Apart n dst a) (hi : i < n) : a + i < dst ∨ dst + 1 * i ≤ a + i := by
  obtain h | h | h := h <;> omega

theorem leBytes_eq_map (n v : Nat) : leBytes n v = (List.range n).map fun i => BitVec.ofNat 8 (v / 256 ^ i) :=
  List.ext_getElem (by rw [length_leBytes, List.length_map, List.length_range]) fun i hi _ => by
    rw [getElem_leBytes n v hi, List.getElem_map, List.getElem_range]

/-- A word repeated `n` times, byte by byte. -/
theorem repeated_word (v n : Nat) : ((List.range n).flatMap fun _ => leBytes 4 v) =
    (List.range (4 * n)).map fun i => BitVec.ofNat 8 (v / 256 ^ (i % 4)) := by
  induction n with
  | zero => rfl
  | succ n ih =>
    have hword : leBytes 4 v = (List.range 4).map fun i => BitVec.ofNat 8 (v / 256 ^ ((4 * n + i) % 4)) := by
      rw [leBytes_eq_map]
      refine List.map_congr_left fun i hi => ?_
      rw [Nat.mul_add_mod, Nat.mod_eq_of_lt (List.mem_range.1 hi)]
    rw [List.range_succ, List.flatMap_append, ih, List.flatMap_singleton, hword, Nat.mul_succ, List.range_add, List.map_append, List.map_map]
    rfl

theorem elements_fill (g : List Host.Cell) (n dst v : Nat) : elements g n 4 dst (fun _ _ => leBytes 4 v) =
    (List.range (4 * n)).map fun i => BitVec.ofNat 8 (v / 256 ^ (i % 4)) := by
  rw [elements_independent (f := fun _ _ => leBytes 4 v) (fun _ _ _ _ => rfl) fun _ _ => length_leBytes 4 v, repeated_word]

/-! ### The running state of SHA-256 (R572, R573) -/

theorem ofLe_leBytes (n v : Nat) : ofLe (leBytes n v) = v % 256 ^ n := by
  induction n generalizing v with
  | zero => rw [Nat.pow_zero, Nat.mod_one]; rfl
  | succ n ih => rw [leBytes, ofLe, ih, BitVec.toNat_ofNat]; exact Nat.mod_mul.symm.trans (congrArg (v % ·) (Nat.pow_succ' ..).symm)

section
variable {w : Nat} (rot : ShaRot) (ks : List (BitVec w))

theorem length_shaRounds {win st : List (BitVec w)} (h : st.length = 8) : (shaRounds rot ks win st).length = 8 := by
  induction ks generalizing win st with
  | nil => exact h
  | cons k ks ih =>
    unfold shaRounds
    split
    · exact ih rfl
    · exact h

theorem length_shaBlocks {st : List (BitVec w)} (h : st.length = 8) (n : Nat) (bs : List Byte) : (shaBlocks rot ks n st bs).length = 8 := by
  induction n generalizing st bs with
  | zero => exact h
  | succ n ih =>
    refine ih ?_ _
    rw [shaBlock, List.length_zipWith, h, length_shaRounds rot ks h, Nat.min_self]

/-- Blocks are absorbed one after the other. -/
theorem shaBlocks_add (m n : Nat) (st : List (BitVec w)) (bs : List Byte) :
    shaBlocks rot ks (m + n) st bs = shaBlocks rot ks n (shaBlocks rot ks m st bs) (bs.drop (2 * w * m)) := by
  induction m generalizing st bs with
  | zero => rw [Nat.zero_add, Nat.mul_zero, List.drop_zero]; rfl
  | succ m ih =>
    rw [Nat.succ_add, shaBlocks, ih, List.drop_drop, Nat.mul_succ, Nat.add_comm (2 * w * m)]
    rfl

/-- What follows the blocks absorbed does not matter. -/
theorem shaBlocks_append {n : Nat} {st : List (BitVec w)} {bs : List Byte} (h : 2 * w * n ≤ bs.length) (tail : List Byte) :
    shaBlocks rot ks n st (bs ++ tail) = shaBlocks rot ks n st bs := by
  induction n generalizing st bs with
  | zero => rfl
  | succ n ih =>
    rw [Nat.mul_succ] at h
    rw [shaBlocks, shaBlocks, List.take_append_of_le_length (by omega), List.drop_append_of_le_length (by omega), ih]
    rw [List.length_drop]
    omega

end

/-- The bytes between what comes before and what follows. -/
theorem slice_middle {lo n : Nat} {before bs : List Byte} (hb : before.length = lo) (hn : bs.length = n) (after : List Byte) :
    slice lo n (before ++ (bs ++ after)) = bs := by
  rw [slice, ← hb, List.drop_left, ← hn, List.take_left]

/-- The bytes of a state operand's hash words. -/
def hashBytes (h : List Word32) : List Byte := h.flatMap fun w => leBytes 4 w.toNat

theorem length_hashBytes (h : List Word32) : (hashBytes h).length = 4 * h.length := by
  rw [hashBytes, List.length_flatMap, List.map_congr_left fun w _ => length_leBytes 4 w.toNat, List.map_const', List.sum_replicate_nat,
    Nat.mul_comm]

theorem shaState_eq (h : List Word32) (count : Nat) (rest tail : List Byte) : shaState h count rest tail =
    hashBytes h ++ (leBytes 8 count ++ (leBytes 4 rest.length ++ (leBytes 4 0 ++ (rest ++ (padTo 64 tail).drop rest.length)))) := by
  simp only [shaState, hashBytes, List.append_assoc]

/-- What is read back from a state operand. -/
structure ShaParts (st : List Byte) (h : List Word32) (count : Nat) (rest : List Byte) : Prop where
  words : shaWords st = h
  count : ofLe (slice 32 8 st) = count
  buffered : ofLe (slice 40 4 st) = rest.length
  rest : slice 48 rest.length st = rest

theorem shaParts_shaState {h : List Word32} (hh : h.length = 8) {count : Nat} (hc : count < 2 ^ 64) {rest : List Byte}
    (hr : rest.length < 64) (tail : List Byte) : ShaParts (shaState h count rest tail) h count rest := by
  have hbytes : (hashBytes h).length = 32 := by rw [length_hashBytes, hh]
  rw [shaState_eq]
  constructor
  case words =>
    refine List.ext_getElem (by rw [shaWords, List.length_map, List.length_range, hh]) fun i hi hih => ?_
    have hsplit : hashBytes h = hashBytes (h.take i) ++ (leBytes 4 h[i].toNat ++ hashBytes (h.drop (i + 1))) := by
      conv_lhs => rw [← List.take_append_drop i h, List.drop_eq_getElem_cons hih, hashBytes, List.flatMap_append, List.flatMap_cons]
      rfl
    have hbefore : (hashBytes (h.take i)).length = 4 * i := by rw [length_hashBytes, List.length_take, Nat.min_eq_left hih.le]
    simp only [shaWords, List.getElem_map, List.getElem_range]
    rw [hsplit, List.append_assoc, List.append_assoc, slice_middle hbefore (length_leBytes ..), ofLe_leBytes,
      Nat.mod_eq_of_lt (show _ < 256 ^ 4 from h[i].isLt), BitVec.ofNat_toNat, BitVec.setWidth_eq]
  case count =>
    rw [slice_middle hbytes (length_leBytes ..), ofLe_leBytes]
    exact Nat.mod_eq_of_lt hc
  case buffered =>
    rw [← List.append_assoc, slice_middle (by rw [List.length_append, hbytes, length_leBytes]) (length_leBytes ..), ofLe_leBytes]
    exact Nat.mod_eq_of_lt (by omega)
  case rest =>
    rw [← List.append_assoc, ← List.append_assoc, ← List.append_assoc]
    exact slice_middle (by simp only [List.length_append, hbytes, length_leBytes]) rfl _

/-- The state operand after the bytes `m`. -/
def shaAfter (m tail : List Byte) : List Byte :=
  shaState (shaBlocks sha256Rot sha256K (m.length / 64) sha256Init m) (m.length % 2 ^ 64) (m.drop (64 * (m.length / 64))) tail

theorem shaParts_shaAfter (m tail : List Byte) : ShaParts (shaAfter m tail)
    (shaBlocks sha256Rot sha256K (m.length / 64) sha256Init m) (m.length % 2 ^ 64) (m.drop (64 * (m.length / 64))) := by
  refine shaParts_shaState (length_shaBlocks _ _ rfl _ _) (Nat.mod_lt _ (by decide)) ?_ tail
  rw [List.length_drop]
  omega

theorem shaAfter_nil (tail : List Byte) : shaState sha256Init 0 [] tail = shaAfter [] tail := rfl

theorem length_shaState_init (tail : List Byte) : (shaState sha256Init 0 [] tail).length = 112 := by
  simp only [shaState_eq, List.length_append, length_hashBytes, length_leBytes, List.length_drop, padTo, List.length_take,
    List.length_replicate, List.length_nil]
  rw [show sha256Init.length = 8 from rfl]
  omega

theorem take_shaState_init (tail : List Byte) :
    (shaState sha256Init 0 [] tail).take 48 = sha256Init.flatMap (fun w => leBytes 4 w.toNat) ++ List.replicate 16 0#8 := by
  have hbytes : (hashBytes sha256Init).length = 32 := length_hashBytes _
  have hzeros : leBytes 8 0 ++ leBytes 4 0 ++ leBytes 4 0 = List.replicate 16 0#8 := rfl
  rw [shaState_eq, List.length_nil, ← List.append_assoc, ← List.append_assoc, ← List.append_assoc, List.append_assoc (hashBytes _),
    List.append_assoc (hashBytes _), hzeros]
  exact List.take_left' (by rw [List.length_append, hbytes]; rfl)

/-- The blocks of the bytes so far, then those that the rest and what follows make. -/
theorem shaBlocks_rest (m d : List Byte) :
    shaBlocks sha256Rot sha256K ((m.drop (64 * (m.length / 64)) ++ d).length / 64)
      (shaBlocks sha256Rot sha256K (m.length / 64) sha256Init m) (m.drop (64 * (m.length / 64)) ++ d) =
    shaBlocks sha256Rot sha256K ((m ++ d).length / 64) sha256Init (m ++ d) := by
  have hle : 64 * (m.length / 64) ≤ m.length := Nat.mul_div_le _ _
  have hcount : (m ++ d).length / 64 = m.length / 64 + (m.drop (64 * (m.length / 64)) ++ d).length / 64 := by
    rw [List.length_append, List.length_append, List.length_drop]
    omega
  rw [hcount, shaBlocks_add, shaBlocks_append (bs := m) _ _ hle, List.drop_append_of_le_length hle]

theorem shaUpdate_shaAfter (m d tail : List Byte) : shaUpdate (shaAfter m tail) d tail = shaAfter (m ++ d) tail := by
  obtain ⟨hw, hc, hb, hr⟩ := shaParts_shaAfter m tail
  have hshort : (m.drop (64 * (m.length / 64))).length < 64 := by rw [List.length_drop]; omega
  have hle : 64 * (m.length / 64) ≤ m.length := Nat.mul_div_le _ _
  rw [shaUpdate]
  simp only [hb, if_neg hshort.not_ge, hr, hw, hc]
  rw [shaBlocks_rest, shaAfter]
  congr 1
  · rw [List.length_append]; omega
  · rw [← List.drop_append_of_le_length hle, List.drop_drop, List.length_drop]
    congr 1
    rw [List.length_append]
    omega

theorem shaFinal_shaAfter {m : List Byte} (hm : m.length < 2 ^ 61) (tail : List Byte) : shaFinal (shaAfter m tail) tail = sha256 m := by
  obtain ⟨hw, hc, hb, hr⟩ := shaParts_shaAfter m tail
  have hshort : (m.drop (64 * (m.length / 64))).length < 64 := by rw [List.length_drop]; omega
  rw [shaFinal]
  simp only [hb, if_neg hshort.not_ge, hr, hw, hc]
  rw [shaBlocks_rest, Nat.mod_eq_of_lt (by omega), sha256]

theorem shaFinal_updates {ms : List (List Byte)} (hm : ms.flatten.length < 2 ^ 61) (tail : List Byte) :
    shaFinal (ms.foldl (fun st m => shaUpdate st m tail) (shaState sha256Init 0 [] tail)) tail = sha256 ms.flatten := by
  have hfold (before : List Byte) : ms.foldl (fun st m => shaUpdate st m tail) (shaAfter before tail) = shaAfter (before ++ ms.flatten) tail := by
    clear hm
    induction ms generalizing before with
    | nil => rw [List.flatten_nil, List.append_nil]; rfl
    | cons m ms ih => rw [List.foldl_cons, shaUpdate_shaAfter, ih, List.append_assoc, List.flatten_cons]
  rw [shaAfter_nil, hfold, List.nil_append, shaFinal_shaAfter hm]

/-! ### The key stream of GCM (R574) -/

@[simp] theorem length_xorBytes (a b : List Byte) : (xorBytes a b).length = min a.length b.length := List.length_zipWith

/-- Adding the same bytes twice gives back what there was. -/
theorem xorBytes_xorBytes {a b : List Byte} (h : a.length ≤ b.length) : xorBytes (xorBytes a b) b = a := by
  refine List.ext_getElem (by simp only [length_xorBytes]; omega) fun i _ _ => ?_
  simp only [xorBytes, List.getElem_zipWith, BitVec.xor_assoc, BitVec.xor_self, BitVec.xor_zero]

theorem xorBytes_append {a b : List Byte} (h : a.length = b.length) (c d : List Byte) :
    xorBytes (a ++ c) (b ++ d) = xorBytes a b ++ xorBytes c d := List.zipWith_append h

theorem xorBytes_append_right {a b : List Byte} (h : a.length ≤ b.length) (c : List Byte) : xorBytes a (b ++ c) = xorBytes a b := by
  refine List.ext_getElem (by simp only [length_xorBytes, List.length_append]; omega) fun i _ hi => ?_
  rw [length_xorBytes] at hi
  simp only [xorBytes, List.getElem_zipWith, List.getElem_append_left (show i < b.length by omega)]

theorem xorBytes_zeros (n : Nat) (b : List Byte) : xorBytes (List.replicate n 0#8) b = b.take n := by
  refine List.ext_getElem (by simp only [length_xorBytes, List.length_replicate, List.length_take]) fun i _ _ => ?_
  simp only [xorBytes, List.getElem_zipWith, List.getElem_replicate, List.getElem_take, BitVec.zero_xor]

theorem length_flatten_const {n : Nat} {ls : List (List Byte)} (h : ∀ x ∈ ls, x.length = n) : ls.flatten.length = n * ls.length := by
  rw [List.length_flatten, List.map_congr_left h, List.map_const', List.sum_replicate_nat, Nat.mul_comm]

/-- What the key schedule makes of the word before. -/
def aesTurned (i : Nat) (prev : List Byte) : List Byte :=
  if i % 8 = 0 then
    match (prev.drop 1 ++ prev.take 1).map aesSub with
    | a :: r => (a ^^^ aesPow 2#8 (i / 8 - 1)) :: r
    | [] => []
  else if i % 8 = 4 then prev.map aesSub else prev

theorem length_aesTurned (i : Nat) (prev : List Byte) : (aesTurned i prev).length = prev.length := by
  have hrot : ((prev.drop 1 ++ prev.take 1).map aesSub).length = prev.length := by
    rw [List.length_map, List.length_append, List.length_drop, List.length_take]
    omega
  unfold aesTurned
  split
  · split
    next heq => rw [heq] at hrot; exact hrot
    next heq => rw [heq] at hrot; exact hrot
  · split
    · exact List.length_map _
    · rfl

/-- Every word of the key schedule has 4 bytes. -/
theorem aesExpand_words (n i : Nat) {ws : List (List Byte)} (h8 : 8 ≤ i) (hi : i = ws.length) (h : ∀ x ∈ ws, x.length = 4) :
    (∀ x ∈ aesExpand n i ws, x.length = 4) ∧ (aesExpand n i ws).length = ws.length + n := by
  induction n generalizing i ws with
  | zero => exact ⟨h, rfl⟩
  | succ n ih =>
    have hne : ws ≠ [] := by rintro rfl; simp at hi; omega
    have hprev : (ws.getLastD []).length = 4 := by
      rw [List.getLastD_eq_getLast?, List.getLast?_eq_some_getLast hne]
      exact h _ (List.getLast_mem hne)
    have hold : (ws.getD (i - 8) []).length = 4 := by
      rw [List.getD_eq_getElem _ _ (by omega)]
      exact h _ (List.getElem_mem _)
    have hnew : ∀ x ∈ ws ++ [xorBytes (ws.getD (i - 8) []) (aesTurned i (ws.getLastD []))], x.length = 4 := by
      intro x hx
      obtain hx | hx := List.mem_append.1 hx
      · exact h x hx
      · rw [List.mem_singleton.1 hx, length_xorBytes, hold, length_aesTurned, hprev, Nat.min_self]
    obtain ⟨hw, hl⟩ := ih (i + 1) (by omega) (by rw [List.length_append, hi]; rfl) hnew
    refine ⟨hw, hl.trans ?_⟩
    rw [List.length_append, List.length_singleton, Nat.add_assoc, Nat.add_comm 1]

/-- The round keys of a key of 32 bytes: fifteen of 16 bytes. -/
theorem aesKeys_lengths {key : List Byte} (hk : key.length = 32) : (aesKeys key).length = 15 ∧ ∀ k ∈ aesKeys key, k.length = 16 := by
  obtain ⟨hw, hl⟩ := aesExpand_words 52 8 (ws := (List.range 8).map fun i => slice (4 * i) 4 key) (Nat.le_refl 8) rfl fun x hx => by
    obtain ⟨i, hi, rfl⟩ := List.mem_map.1 hx
    have hi8 := List.mem_range.1 hi
    rw [slice, List.length_take, List.length_drop]
    omega
  refine ⟨by rw [aesKeys, List.length_map, List.length_range], fun k hm => ?_⟩
  obtain ⟨r, hr, rfl⟩ := List.mem_map.1 hm
  have hr15 := List.mem_range.1 hr
  rw [length_flatten_const fun x hx => hw x (List.mem_of_mem_drop (List.mem_of_mem_take hx)), List.length_take, List.length_drop, hl]
  simp
  omega

theorem length_aesEncRounds {ks : List (List Byte)} (hks : ks ≠ []) (h : ∀ k ∈ ks, k.length = 16) (st : List Byte) :
    (aesEncRounds ks st).length = 16 := by
  induction ks generalizing st with
  | nil => exact absurd rfl hks
  | cons k ks ih =>
    cases ks with
    | nil =>
      rw [aesEncRounds, length_xorBytes, h k (by simp)]
      simp [aesShift]
    | cons k' ks => exact ih (by simp) (fun x hx => h x (by simp [hx])) _

theorem length_aesEnc {key : List Byte} (hk : key.length = 32) (block : List Byte) : (aesEnc key block).length = 16 := by
  obtain ⟨hn, h16⟩ := aesKeys_lengths hk
  unfold aesEnc
  split
  next k ks heq =>
    rw [heq] at hn h16
    exact length_aesEncRounds (by rintro rfl; simp at hn) (fun x hx => h16 x (by simp [hx])) _
  next heq => rw [heq] at hn; cases hn

/-- `n` blocks of the key stream, the counter at `c`. -/
def keyStream (key iv : List Byte) : Nat → Nat → List Byte
  | 0, _ => []
  | n + 1, c => aesEnc key (iv ++ beBytes 4 c) ++ keyStream key iv n (c + 1)

section
variable {key : List Byte} (hk : key.length = 32) (iv : List Byte)
include hk

theorem length_keyStream (n c : Nat) : (keyStream key iv n c).length = 16 * n := by
  induction n generalizing c with
  | zero => rfl
  | succ n ih => rw [keyStream, List.length_append, length_aesEnc hk, ih, Nat.mul_succ, Nat.add_comm]

/-- Counter mode adds the key stream. -/
theorem gctr_eq_xor (n c : Nat) {bs : List Byte} (h : bs.length ≤ 16 * n) : gctr key iv n c bs = xorBytes bs (keyStream key iv n c) := by
  induction n generalizing c bs with
  | zero => rw [List.length_eq_zero_iff.1 (Nat.le_zero.1 h)]; rfl
  | succ n ih =>
    rw [gctr, keyStream, ih (c + 1) (by rw [List.length_drop]; omega)]
    have h16 : (aesEnc key (iv ++ beBytes 4 c)).length = 16 := length_aesEnc hk _
    by_cases hb : bs.length ≤ 16
    · rw [List.take_of_length_le hb, List.drop_eq_nil_of_le hb, xorBytes_append_right (by omega)]
      exact List.append_nil _
    · rw [← xorBytes_append (by rw [List.length_take]; omega), List.take_append_drop]

/-- The key stream that a message of `n` bytes takes. -/
def gcmStream (key iv : List Byte) (n : Nat) : List Byte := keyStream key iv ((n + 15) / 16) 2

theorem le_length_gcmStream (n : Nat) : n ≤ (gcmStream key iv n).length := by
  rw [gcmStream, length_keyStream hk]
  omega

theorem gcmCrypt_eq_xor (bs : List Byte) : gcmCrypt key iv bs = xorBytes bs (gcmStream key iv bs.length) :=
  gctr_eq_xor hk iv _ _ (by omega)

theorem length_gcmCrypt (bs : List Byte) : (gcmCrypt key iv bs).length = bs.length := by
  rw [gcmCrypt_eq_xor hk, length_xorBytes, Nat.min_eq_left (le_length_gcmStream hk iv _)]

/-- The key stream applied twice gives back the message. -/
theorem gcmCrypt_gcmCrypt (bs : List Byte) : gcmCrypt key iv (gcmCrypt key iv bs) = bs := by
  rw [gcmCrypt_eq_xor hk iv (gcmCrypt key iv bs), length_gcmCrypt hk, gcmCrypt_eq_xor hk iv bs,
    xorBytes_xorBytes (le_length_gcmStream hk iv _)]

/-- The stream that a command computes once, from zeros. -/
theorem gcmCrypt_eq_xor_zeros (bs : List Byte) : gcmCrypt key iv bs = xorBytes bs (gcmCrypt key iv (List.replicate bs.length 0#8)) := by
  have hle := le_length_gcmStream hk iv bs.length
  rw [gcmCrypt_eq_xor hk iv bs, gcmCrypt_eq_xor hk iv (List.replicate _ _), List.length_replicate, xorBytes_zeros]
  conv_lhs => rw [← List.take_append_drop bs.length (gcmStream key iv bs.length)]
  exact xorBytes_append_right (by rw [List.length_take]; omega) _

end

/-! ### The commands of the copier, the field engine and the cipher (R568, R571, R574) -/

section
variable {g : List Host.Cell} {c : EngCmd}

/-- Bytes that each come from one byte of sources apart from the destination. -/
theorem independent_of_apart {n dst : Nat} {f : List Host.Cell → Nat → Byte} {srcs : List Nat} (hs : ∀ a ∈ srcs, Apart n dst a)
    (hf : ∀ g' i, (∀ a ∈ srcs, gByte g' (a + i) = gByte g (a + i)) → f g' i = f g i) : Independent g n 1 dst fun g i => [f g i] :=
  fun i hi g' hg' => congrArg (fun b => [b]) (hf g' i fun a ha => hg' _ ((hs a ha).outside hi))

theorem copyBytes {n dst a : Nat} (h : Apart n dst a) : elements g n 1 dst (fun g i => [gByte g (a + i)]) = gBytes g a n :=
  elements_bytes (independent_of_apart (srcs := [a]) (by simpa using h) fun g' i hg => hg a (List.mem_singleton_self a))

theorem mulBytes {n dst a b : Nat} (ha : Apart n dst a) (hb : Apart n dst b) :
    elements g n 1 dst (fun g i => [gfMul (gByte g (a + i)) (gByte g (b + i))]) =
      (List.range n).map fun i => gfMul (gByte g (a + i)) (gByte g (b + i)) :=
  elements_bytes (independent_of_apart (srcs := [a, b]) (by simpa using ⟨ha, hb⟩) fun g' i hg => by
    rw [hg a (by simp), hg b (by simp)])

theorem lincombBytes (h3 : Apart (c.w 1) (c.w 2) (c.w 3)) (h4 : Apart (c.w 1) (c.w 2) (c.w 4)) (h5 : Apart (c.w 1) (c.w 2) (c.w 5)) :
    elements g (c.w 1) 1 (c.w 2) (fun g i => [lincomb g c i]) = (List.range (c.w 1)).map (lincomb g c) := by
  have h2 : Apart (c.w 1) (c.w 2) (c.w 2) := .inr (.inr rfl)
  refine elements_bytes (independent_of_apart (srcs := [c.w 2, c.w 3, c.w 4, c.w 5]) (by simpa using ⟨h2, h3, h4, h5⟩) fun g' i hg => ?_)
  simp only [lincomb]
  rw [hg (c.w 2) (by simp), hg (c.w 3) (by simp), hg (c.w 4) (by simp), hg (c.w 5) (by simp)]

variable {key : List Byte} (hk : key.length = 32)
include hk

/-- What a GCM command writes to its destination. -/
theorem gcmBytes {n dst a : Nat} (iv : List Byte) (h : Apart n dst a) :
    elements g n 1 dst (fun g i => [gByte g (a + i) ^^^ (gcmCrypt key iv (List.replicate n 0#8)).getD i 0#8]) =
      gcmCrypt key iv (gBytes g a n) := by
  have hlen : (gcmCrypt key iv (List.replicate n 0#8)).length = n := by rw [length_gcmCrypt hk, List.length_replicate]
  rw [elements_bytes (independent_of_apart (srcs := [a]) (by simpa using h) fun g' i hg => by rw [hg a (List.mem_singleton_self a)]),
    gcmCrypt_eq_xor_zeros hk iv (gBytes g a n), length_gBytes]
  refine List.ext_getElem (by simp [hlen]) fun i hi _ => ?_
  have hin : i < n := by simpa using hi
  simp only [List.getElem_map, List.getElem_range, xorBytes, List.getElem_zipWith, getElem_gBytes]
  rw [List.getD_eq_getElem _ _ (by rw [hlen]; exact hin)]

/-- GCM_ENC and GCM_DEC write the message under the key stream, then the tag, or whether it agrees. -/
theorem gcmWrites_encrypts (h : Apart (c.w 1) (c.w 2) (c.w 3)) (h1 : c.op = 1) : gcmWrites g key c =
    [(c.w 2, gcmCrypt key (gBytes g (c.w 4) 12) (gBytes g (c.w 3) (c.w 1))),
      (c.w 5, gcmTag key (gBytes g (c.w 4) 12) (gBytes g (c.w 6) (c.w 7)) (gcmCrypt key (gBytes g (c.w 4) 12) (gBytes g (c.w 3) (c.w 1))))] := by
  rw [gcmWrites]
  simp only [gcmBytes hk _ h, if_pos h1]

theorem gcmWrites_decrypts (h : Apart (c.w 1) (c.w 2) (c.w 3)) (h2 : c.op = 2) (ht : c.w 5 + 16 ≤ c.w 2 ∨ c.w 2 + c.w 1 ≤ c.w 5) :
    gcmWrites g key c = [(c.w 2, gcmCrypt key (gBytes g (c.w 4) 12) (gBytes g (c.w 3) (c.w 1))),
      (c.w 5 + 16, leBytes 4 (if gcmTag key (gBytes g (c.w 4) 12) (gBytes g (c.w 6) (c.w 7)) (gBytes g (c.w 3) (c.w 1)) = gBytes g (c.w 5) 16
        then 1 else 0))] := by
  have hout : (gcmCrypt key (gBytes g (c.w 4) 12) (gBytes g (c.w 3) (c.w 1))).length = c.w 1 := by rw [length_gcmCrypt hk, length_gBytes]
  have hback := gcmCrypt_eq_xor_zeros hk (gBytes g (c.w 4) 12) (gcmCrypt key (gBytes g (c.w 4) 12) (gBytes g (c.w 3) (c.w 1)))
  rw [gcmCrypt_gcmCrypt hk, hout] at hback
  rw [gcmWrites]
  simp only [gcmBytes hk _ h, if_neg (show ¬c.op = 1 by omega), ← hback, b2n, beq_iff_eq]
  rw [gBytes_gStore_outside g (by rw [hout]; exact ht)]

end

/-! ### Lanes (R575) -/

section
variable {g : List Host.Cell} {c : EngCmd}

/-- A lane of a source that the destination does not overlap. -/
theorem laneAt_congr {g' : List Host.Cell} {a i : Nat} (hi : i < c.w 1) (hs : c.lane ≤ c.stride)
    (ha : a + c.w 1 * c.stride ≤ c.w 2 ∨ c.w 2 + c.w 1 * c.lane ≤ a)
    (hg : ∀ b, (b < c.w 2 ∨ c.w 2 + c.lane * i ≤ b) → gByte g' b = gByte g b) : laneAt g' c a i = laneAt g c a i := by
  have hfar : i * c.stride + c.stride ≤ c.w 1 * c.stride := by rw [← Nat.succ_mul]; exact Nat.mul_le_mul_right _ hi
  have hnear : c.lane * i ≤ c.w 1 * c.lane := by rw [Nat.mul_comm]; exact Nat.mul_le_mul_right _ hi.le
  exact congrArg ofLe (gBytes_congr fun k hk => hg _ (by omega))

theorem vectorBytes (hs : c.lane ≤ c.stride) (ha : c.w 3 + c.w 1 * c.stride ≤ c.w 2 ∨ c.w 2 + c.w 1 * c.lane ≤ c.w 3)
    (hb : c.scalar = true ∨ c.w 4 + c.w 1 * c.stride ≤ c.w 2 ∨ c.w 2 + c.w 1 * c.lane ≤ c.w 4) :
    elements g (c.w 1) c.lane (c.w 2) (fun g i => leBytes c.lane (laneOp c (laneAt g c (c.w 3) i) (laneB g c i))) =
      (List.range (c.w 1)).flatMap fun i => leBytes c.lane (laneOp c (laneAt g c (c.w 3) i) (laneB g c i)) := by
  refine elements_independent (fun i hi g' hg => ?_) fun i _ => length_leBytes ..
  have hlaneB : laneB g' c i = laneB g c i := by
    unfold laneB
    split
    · rfl
    · next hn => exact laneAt_congr hi hs (hb.resolve_left hn) hg
  simp only [laneAt_congr hi hs ha hg, hlaneB]

theorem vectorWrites_elementwise (h1 : 1 ≤ c.op) (h9 : c.op ≤ 9) : vectorWrites g c =
    [(c.w 2, elements g (c.w 1) c.lane (c.w 2) fun g i => leBytes c.lane (laneOp c (laneAt g c (c.w 3) i) (laneB g c i)))] := by
  unfold vectorWrites
  dsimp only
  split
  next heq => omega
  next heq => omega
  next heq => omega
  · rfl

end

/-! ### Values of lanes (R575) -/

section
variable (c : EngCmd)

theorem two_pow_lane : 2 ^ (8 * c.lane) = 256 ^ c.lane := Nat.pow_mul 2 8 c.lane

theorem two_pow_lane_pred : 256 ^ c.lane = 2 * 2 ^ (8 * c.lane - 1) := by
  have hpos : 0 < c.lane := Nat.two_pow_pos _
  rw [← two_pow_lane, ← Nat.pow_succ']
  congr 1
  omega

variable {c} {x y : Nat} (hx : x < 256 ^ c.lane)
include hx

theorem laneVal_eq : laneVal c x = if c.signed = true ∧ 256 ^ c.lane ≤ 2 * x then (x : Int) - (256 ^ c.lane : Nat) else x := by
  have hhalf := two_pow_lane_pred c
  unfold laneVal
  cases c.signed with
  | false => rfl
  | true =>
    simp only [toInt, two_pow_lane, Nat.mod_eq_of_lt hx, true_and, if_true]
    by_cases h : x < 2 ^ (8 * c.lane - 1)
    · rw [if_pos h, if_neg (by omega)]
    · rw [if_neg h, if_pos (by omega)]

omit hx in
theorem laneOp_sub (hy : y < 256 ^ c.lane) (h : c.op = 2) : (laneOp c x y : Int) = ((x : Int) - y) % (256 ^ c.lane : Nat) := by
  simp only [laneOp, h]
  rw [Int.natCast_mod, Nat.cast_sub (by omega), Nat.cast_add, add_sub_right_comm, Int.add_emod_right]

omit hx in
theorem laneVal_min (h : c.op = 6) : laneVal c (laneOp c x y) = min (laneVal c x) (laneVal c y) := by
  simp only [laneOp, h]
  by_cases hlt : laneVal c y < laneVal c x
  · rw [if_pos hlt, min_eq_right hlt.le]
  · rw [if_neg hlt, min_eq_left (not_lt.1 hlt)]

omit hx in
theorem laneVal_max (h : c.op = 7) : laneVal c (laneOp c x y) = max (laneVal c x) (laneVal c y) := by
  simp only [laneOp, h]
  by_cases hlt : laneVal c x < laneVal c y
  · rw [if_pos hlt, max_eq_right hlt.le]
  · rw [if_neg hlt, max_eq_left (not_lt.1 hlt)]

end

theorem natCast_ofInt (w : Nat) (i : Int) : (ofInt w i : Int) = i % (2 ^ w : Nat) :=
  Int.toNat_of_nonneg (Int.emod_nonneg _ (by positivity))

theorem ofInt_lt (w : Nat) (i : Int) : ofInt w i < 2 ^ w := by
  have h : (ofInt w i : Int) < (2 ^ w : Nat) := by rw [natCast_ofInt]; exact Int.emod_lt_of_pos _ (by positivity)
  exact_mod_cast h

/-- Settles O57, engine by engine: copies and products, SHA-256 and CRC, GCM, and vectors, by what is independent of what a command writes.
That operand A0 of LINCOMB may be its destination, the order of a state operand's bytes, and the bytes beyond those buffered, are the
model's choice (assumption log 87). -/
theorem whatTheEnginesCompute : Obligations.WhatTheEnginesCompute := by
  unfold Obligations.WhatTheEnginesCompute
  intro g key op c
  refine ⟨fun hc ho h3 => ?copy, fun hc ho hn => ?fill, fun hc ho => ?none, fun hc ho h3 h4 => ?mul, fun hc ho h3 h4 h5 => ?lincomb,
    fun hc ho => ?shaInit, fun hc ho => ?shaDigest, fun hc ho => ?crcUpdate, fun hc ho => ?crcDigest, fun hc ho => ?shaUpdate,
    fun hc ho => ?shaFinal, fun ms hm => shaFinal_updates hm op, fun hc hk h3 => ?gcm, fun hc ho => ?sum, fun hc ho => ?countEq,
    fun hc ho hno => ?noMatch, fun hc ho i hi heq hfirst => ?firstMatch, fun hc h1 h9 hs ha hb => ?elementwise, fun x y hx hy => ?lanes⟩
  case copy => simp only [cmdWrites, hc, ho, copyBytes h3]
  case fill =>
    simp only [cmdWrites, hc, ho, elements_fill]
    refine ⟨_, rfl, ?_, fun i hi => ?_⟩
    · rw [List.length_map, List.length_range]; omega
    · rw [List.getElem_map, List.getElem_range]
  case none => obtain ho | ho := ho <;> simp only [cmdWrites, hc, ho]
  case mul => simp only [cmdWrites, hc, ho, mulBytes h3 h4]
  case lincomb => simp only [cmdWrites, hc, ho, lincombBytes h3 h4 h5]; rfl
  case shaInit =>
    simp only [cmdWrites, hc, ho]
    exact ⟨_, rfl, length_shaState_init op, take_shaState_init op⟩
  case shaDigest => simp only [cmdWrites, hc, ho]
  case crcUpdate => simp only [cmdWrites, hc, ho]
  case crcDigest => simp only [cmdWrites, hc, ho]
  case shaUpdate => simp only [cmdWrites, hc, ho]
  case shaFinal => simp only [cmdWrites, hc, ho]
  case gcm =>
    have hrow : cmdWrites g key op c = gcmWrites g key c := by simp only [cmdWrites, hc]
    refine ⟨(length_gcmCrypt hk _ _).trans (length_gBytes ..), gcmCrypt_gcmCrypt hk _ _,
      fun h1 => hrow.trans (gcmWrites_encrypts hk h3 h1), fun h2 ht => hrow.trans (gcmWrites_decrypts hk h3 h2 ht)⟩
  case sum =>
    simp only [cmdWrites, vectorWrites, hc, ho]
    exact ⟨_, ofInt_lt 64 _, rfl, natCast_ofInt 64 _⟩
  case countEq => simp only [cmdWrites, vectorWrites, hc, ho]
  case noMatch =>
    simp only [cmdWrites, vectorWrites, hc, ho]
    rw [List.filter_eq_nil_iff.2 fun i hi => by simpa using hno i (List.mem_range.1 hi)]
    rfl
  case firstMatch =>
    have hfind : ((List.range (c.w 1)).find? fun k => laneAt g c (c.w 3) k == laneB g c k) = some i :=
      List.find?_range_eq_some.2 ⟨by simpa using heq, List.mem_range.2 hi, fun k hk => by simpa using hfirst k hk⟩
    simp only [cmdWrites, vectorWrites, hc, ho]
    rw [List.headD_eq_head?_getD, List.head?_filter, hfind]
    rfl
  case elementwise =>
    have hrow : cmdWrites g key op c = vectorWrites g c := by simp only [cmdWrites, hc]
    rw [hrow, vectorWrites_elementwise h1 h9, vectorBytes hs ha hb]
  case lanes =>
    refine ⟨laneVal_eq hx, fun ho => ?_, laneOp_sub hy, fun ho => ?_, fun ho => ?_, fun ho => ?_, laneVal_min, laneVal_max,
      fun ho => ?_, fun ho => ?_⟩
    all_goals simp only [laneOp, ho]

end Sys2Proof.Machine
end

section
/-! SUPPORT. The event unit and the mailboxes: which bits and counts a clear or a mask write reaches, source by source, and O9. -/

namespace Sys2Proof.Machine

/-! ### One bit of the pending and the mask word -/

theorem pendBit_setPend (s : State) {e : Nat} (he : e < 1024) (b : Bool) (x : Nat) :
    (s.setPend e b).pendBit x = if x = e then b else s.pendBit x := by
  unfold State.setPend State.pendBit
  rcases eq_or_ne x e with rfl | hx
  · cases b <;> simp [he]
  · cases b
    · simpa [hx, Ne.symm hx] using BitVec.lt_of_getLsbD
    · simp [hx, Ne.symm hx]

/-- The mask of one source, and nothing else. -/
def State.setMask (s : State) (e : Nat) (m : Bool) : State :=
  { s with evt := { s.evt with mask := if m then s.evt.mask ||| BitVec.twoPow 1024 e else s.evt.mask &&& ~~~ BitVec.twoPow 1024 e } }

theorem maskBit_setMask (s : State) {e : Nat} (he : e < 1024) (m : Bool) (x : Nat) :
    (s.setMask e m).maskBit x = if x = e then m else s.maskBit x := by
  unfold State.setMask State.maskBit
  rcases eq_or_ne x e with rfl | hx
  · cases m <;> simp [he]
  · cases m
    · simpa [hx, Ne.symm hx] using BitVec.lt_of_getLsbD
    · simp [hx, Ne.symm hx]

/-! ### Clearing a set of sources (R607) -/

/-- The sources in `p` that were pending are cleared with their counts; nothing else differs. -/
structure Clears (p : Nat → Bool) (s t : State) : Prop where
  only : t = { s with od := t.od, evt := { s.evt with pend := t.evt.pend } }
  pend : ∀ x < 1024, t.pendBit x = (s.pendBit x && !p x)
  count : ∀ x < 1024, t.g Od.EVT_COUNT x = if p x = true ∧ s.pendBit x = true then 0 else s.g Od.EVT_COUNT x
  kept : ∀ a, (∀ x < 1024, p x = true → Od.EVT_COUNT.el x ≠ a) → Keyed.getD t.od a 0 = Keyed.getD s.od a 0

theorem Clears.trans {p q : Nat → Bool} {s t u : State} (h : Clears p s t) (k : Clears q t u) : Clears (fun x => p x || q x) s u where
  only := by rw [k.only, h.only]
  pend x hx := by rw [k.pend x hx, h.pend x hx, Bool.not_or, Bool.and_assoc]
  count x hx := by
    rw [k.count x hx, h.count x hx, h.pend x hx]
    cases p x <;> cases q x <;> simp
  kept a ha := (k.kept a fun x hx hq => ha x hx (by simp [hq])).trans (h.kept a fun x hx hp => ha x hx (by simp [hp]))

theorem clears_none (s : State) : Clears (fun _ => false) s s := ⟨rfl, by simp, by simp, fun _ _ => rfl⟩

theorem el_count_inj {x y : Nat} (h : Od.EVT_COUNT.el x = Od.EVT_COUNT.el y) : x = y := by
  simp only [Ob.el] at h; omega

theorem clears_evtClear (s : State) {e : Nat} (he : e < 1024) : Clears (fun x => decide (x = e)) s (evtClear s e) := by
  unfold evtClear
  by_cases hp : s.pendBit e = true
  · rw [if_pos hp]
    refine ⟨rfl, fun x _ => ?_, fun x _ => ?_, fun a ha => ?_⟩
    · show (s.setPend e false).pendBit x = _
      rw [pendBit_setPend s he]
      split <;> simp [*]
    · rw [State.g_p]
      rcases eq_or_ne x e with rfl | hx
      · simp [hp]
      · rw [if_neg fun h => hx (el_count_inj h).symm, if_neg (by simp [hx])]; rfl
    · exact objectsKept_p (s.setPend e false) Od.EVT_COUNT e 0 a (by simpa using (ha e he (by simp)).symm)
  · rw [if_neg hp]
    refine ⟨rfl, fun x _ => ?_, fun x _ => ?_, fun a _ => rfl⟩
    · rcases eq_or_ne x e with rfl | hx
      · simp [hp]
      · simp [hx]
    · rw [if_neg]
      rintro ⟨hx, hpx⟩
      exact hp (of_decide_eq_true hx ▸ hpx)

theorem clears_each (l : List Nat) (hl : ∀ e ∈ l, e < 1024) (s : State) : Clears (fun x => decide (x ∈ l)) s (s.each l evtClear) := by
  induction l generalizing s with
  | nil => exact clears_none s
  | cons e t ih =>
    have h := (clears_evtClear s (hl e (by simp))).trans (ih (fun y hy => hl y (by simp [hy])) (evtClear s e))
    simpa only [each_cons, List.mem_cons, Bool.decide_or] using h

/-- The sources that word `w` of a register names for the bits set in `bits`. -/
def wordSources (w bits : Nat) : List Nat := (below 32 bits.testBit).map (32 * w + ·)

theorem mem_wordSources {w bits x : Nat} : x ∈ wordSources w bits ↔ x / 32 = w ∧ bits.testBit (x % 32) = true := by
  simp only [wordSources, below, List.mem_map, List.mem_filter, List.mem_range]
  constructor
  · rintro ⟨b, ⟨hb, ht⟩, rfl⟩
    rw [show (32 * w + b) % 32 = b by omega]
    exact ⟨by omega, ht⟩
  · rintro ⟨hw, ht⟩
    exact ⟨x % 32, ⟨by omega, ht⟩, by omega⟩

/-- The sources of crib `c` for the bits set in `bits`. -/
def cribSources (c bits : Nat) : List Nat := (below 16 bits.testBit).map (Src.ofCrib c)

theorem mem_cribSources {c bits x : Nat} (hc : 1 ≤ c) :
    x ∈ cribSources c bits ↔ (512 ≤ x ∧ srcOwner x = c) ∧ bits.testBit (x % 16) = true := by
  simp only [cribSources, below, List.mem_map, List.mem_filter, List.mem_range, Src.ofCrib, srcOwner]
  constructor
  · rintro ⟨i, ⟨hi, ht⟩, rfl⟩
    rw [show (512 + 16 * (c - 1) + i) % 16 = i by omega, if_neg (by omega)]
    exact ⟨⟨by omega, by omega⟩, ht⟩
  · rintro ⟨⟨hx, ho⟩, ht⟩
    rw [if_neg (by omega)] at ho
    exact ⟨x % 16, ⟨by omega, ht⟩, by omega⟩

theorem cribSources_lt {c : Crib} {bits : Nat} (hc : 1 ≤ c.val) : ∀ e ∈ cribSources c bits, e < 1024 := by
  intro e he
  obtain ⟨⟨hlow, ho⟩, -⟩ := (mem_cribSources hc).1 he
  have := c.isLt
  rw [srcOwner, if_neg (by omega)] at ho
  omega

theorem keep_clears {p : Nat → Bool} {s t : State} (h : Clears p s t) : keep s t = t := by
  rw [h.only]; exact keep_eq rfl rfl rfl rfl rfl

theorem exec_evtPendClear_clears {s : State} (h : Live s) (w : Fin 16) (bits : Nat) :
    ∃ t, exec (.evtPendClear w bits) s = .next t ∧ Clears (fun x => decide (x ∈ wordSources w bits)) s t := by
  have hc := clears_each (wordSources w bits) (fun e he => by have := (mem_wordSources.1 he).1; omega) s
  exact ⟨_, (exec_evtPendClear ..).trans (act_eq_of_keep h (List.foldl_map (f := (32 * w.val + ·))).symm (keep_clears hc)), hc⟩

theorem exec_evtCribClear_clears {s : State} (h : Live s) {c : Crib} (hw : s.writeCodeOf c Od.EVT_CRIB_CLEAR c = 0) (hc : 1 ≤ c.val)
    {bits : Nat} (hb : bits < 2 ^ 16) :
    ∃ t, exec (.evtCribClear c bits) s = .next (t.answer c 0) ∧ Clears (fun x => decide (x ∈ cribSources c bits)) s t := by
  have hcl := clears_each (cribSources c bits) (cribSources_lt hc) s
  refine ⟨_, ?_, hcl⟩
  rw [exec_evtCribClear, execEvtCribClear, actWrite_live h hw, if_neg (by omega), ← keep_answer (keep_clears hcl)]
  exact congrArg (fun u : State => (.next (keep s (u.answer c 0)) : Out)) (List.foldl_map (f := Src.ofCrib c)).symm

/-! ### Masks of a set of sources (R606) -/

/-- The sources of `l` have the masks `v`, every other its own; beside that, only what an occurrence reaches. -/
structure Masks (l : List Nat) (v : Nat → Bool) (s t : State) : Prop where
  only : EventsOnly s t
  kept : ObjectsKeptEv [] s t
  mask : ∀ x < 1024, t.maskBit x = if x ∈ l then v x else s.maskBit x

/-- After the mask itself, a mask write does no more than an occurrence. -/
theorem evtReach_evtSetMask (s : State) {e : Nat} (he : e < 1024) (m : Bool) : EvtReach (s.setMask e m) (evtSetMask s e m) := by
  show EvtReach (s.setMask e m) (if s.maskBit e && !m && s.pendBit e then
      if fieldOf (s.g Od.EVT_ROUTE e) 1 0 = 1 then (s.setMask e m).msix (srcOwner e) (fieldOf (s.g Od.EVT_ROUTE e) 9 4)
      else if fieldOf (s.g Od.EVT_ROUTE e) 1 0 = 2 then
        if ringReady (s.setMask e m) (fieldOf (s.g Od.EVT_ROUTE e) 14 12) then
          ringWrite (s.setMask e m) (fieldOf (s.g Od.EVT_ROUTE e) 14 12) e true else s.setMask e m
      else s.setMask e m else s.setMask e m)
  split_ifs
  · exact evtReach_msix ..
  · exact evtReach_ringWrite _ _ (fieldOf_lt _ 14 12) (by omega)
  all_goals exact .refl _

theorem masks_evtSetMask (s : State) {e : Nat} (he : e < 1024) (v : Nat → Bool) : Masks [e] v s (evtSetMask s e (v e)) := by
  have hr := evtReach_evtSetMask s he (v e)
  refine ⟨EventsOnly.trans (t := s.setMask e (v e)) rfl hr.only, ?_, fun x _ => ?_⟩
  · exact (objectsKeptEv_of_od (t := s.setMask e (v e)) rfl).trans hr.kept
  · obtain ⟨-, -, -, -, hmask⟩ := hr.boxes
    rw [State.maskBit, hmask]
    refine (maskBit_setMask s he (v e) x).trans ?_
    rcases eq_or_ne x e with rfl | hx
    · simp
    · simp [hx]

theorem masks_each (l : List Nat) (hl : ∀ e ∈ l, e < 1024) (v : Nat → Bool) (s : State) :
    Masks l v s (s.each l fun s e => evtSetMask s e (v e)) := by
  induction l generalizing s with
  | nil => exact ⟨rfl, .refl _ _, by simp⟩
  | cons e t ih =>
    have h1 := masks_evtSetMask s (hl e (by simp)) v
    have h2 := ih (fun y hy => hl y (by simp [hy])) (evtSetMask s e (v e))
    refine ⟨h1.only.trans h2.only, h1.kept.trans h2.kept, fun x hx => ?_⟩
    rw [each_cons, h2.mask x hx, h1.mask x hx]
    by_cases ht : x ∈ t <;> by_cases hxe : x = e <;> simp [ht, hxe]

theorem mem_wordSources_all {w x : Nat} : x ∈ (List.range 32).map (32 * w + ·) ↔ x / 32 = w := by
  simp only [List.mem_map, List.mem_range]
  exact ⟨by rintro ⟨b, hb, rfl⟩; omega, fun hw => ⟨x % 32, by omega, by omega⟩⟩

theorem mem_cribSources_all {c x : Nat} (hc : 1 ≤ c) : x ∈ (List.range 16).map (Src.ofCrib c) ↔ 512 ≤ x ∧ srcOwner x = c := by
  simp only [List.mem_map, List.mem_range, Src.ofCrib, srcOwner]
  constructor
  · rintro ⟨i, hi, rfl⟩
    rw [if_neg (by omega)]
    omega
  · rintro ⟨hx, ho⟩
    rw [if_neg (by omega)] at ho
    exact ⟨x % 16, by omega, by omega⟩

theorem exec_evtMask_masks {s : State} (h : Live s) (w : Fin 16) (bits : Nat) :
    ∃ t, exec (.evtMask w bits) s = .next t ∧ Masks ((List.range 32).map (32 * w.val + ·)) (fun x => bits.testBit (x % 32)) s t := by
  have hm := masks_each ((List.range 32).map (32 * w.val + ·)) (fun e he => by have := mem_wordSources_all.1 he; omega)
    (fun x => bits.testBit (x % 32)) s
  refine ⟨_, (exec_evtMask ..).trans (act_eq_of_keep h ?_ (keep_only hm.only)), hm⟩
  refine (List.foldl_ext _ _ s fun u b hb => ?_).trans (List.foldl_map (f := (32 * w.val + ·))).symm
  rw [show (32 * w.val + b) % 32 = b by have := List.mem_range.1 hb; omega]

theorem exec_evtCribMask_masks {s : State} (h : Live s) {c : Crib} (hw : s.writeCodeOf c Od.EVT_CRIB_MASK c = 0) (hc : 1 ≤ c.val)
    {bits : Nat} (hb : bits < 2 ^ 16) :
    ∃ t, exec (.evtCribMask c bits) s = .next (t.answer c 0) ∧
      Masks ((List.range 16).map (Src.ofCrib c)) (fun x => bits.testBit (x % 16)) s t := by
  have hlt : ∀ e ∈ (List.range 16).map (Src.ofCrib c), e < 1024 := by
    intro e he
    obtain ⟨i, hi, rfl⟩ := List.mem_map.1 he
    have := List.mem_range.1 hi
    have := c.isLt
    rw [Src.ofCrib]
    omega
  have hm := masks_each _ hlt (fun x => bits.testBit (x % 16)) s
  refine ⟨_, ?_, hm⟩
  rw [exec_evtCribMask, execEvtCribMask, actWrite_live h hw, if_neg (by omega), ← keep_answer (keep_only hm.only)]
  refine congrArg (fun u : State => (.next (keep s (u.answer c 0)) : Out)) ?_
  refine (List.foldl_ext _ _ s fun u i hi => ?_).trans (List.foldl_map (f := Src.ofCrib c)).symm
  rw [show Src.ofCrib c i % 16 = i by have := List.mem_range.1 hi; rw [Src.ofCrib]; omega]

/-- Settles O9: a clear and a mask write go through a list of sources, and each round reaches its own source alone; the lists are those
that the words of EVT_PEND and EVT_MASK and the bits of a crib's registers name. -/
theorem eventBitsFollowTheirWrites : Obligations.EventBitsFollowTheirWrites := by
  unfold Obligations.EventBitsFollowTheirWrites
  refine ⟨fun s w bits h => ?pend, fun s w bits h => ?mask, fun s c bits h hw hc hb => ?cribClear, fun s c bits h hw hc hb => ?cribMask⟩
  case pend =>
    obtain ⟨t, ht, hcl⟩ := exec_evtPendClear_clears h w bits
    refine ⟨t, ht, fun x hx => ?_, fun x hx => ?_, hcl.only, fun a ha => hcl.kept a fun x _ hp hxa => ha ?_⟩
    · simp only [hcl.pend x hx, mem_wordSources, Bool.decide_and, Bool.decide_eq_true]
    · simp only [hcl.count x hx, mem_wordSources, decide_eq_true_eq, and_assoc]
    · obtain ⟨hxw, -⟩ := mem_wordSources.1 (of_decide_eq_true hp)
      exact List.mem_map.2 ⟨x % 32, List.mem_range.2 (by omega), by rw [← hxa]; congr 1; omega⟩
  case mask =>
    obtain ⟨t, ht, hm⟩ := exec_evtMask_masks h w bits
    exact ⟨t, ht, fun x hx => by simp only [hm.mask x hx, mem_wordSources_all], hm.only, hm.kept⟩
  case cribClear =>
    obtain ⟨t, ht, hcl⟩ := exec_evtCribClear_clears h hw hc hb
    refine ⟨_, ht, fun x hx => ?_, fun x hx => ?_, ?_⟩
    · refine (hcl.pend x hx).trans ?_
      simp only [mem_cribSources hc, Bool.decide_and, Bool.decide_eq_true]
    · refine (hcl.count x hx).trans ?_
      simp only [mem_cribSources hc, decide_eq_true_eq, and_assoc]
    · rw [hcl.only]; rfl
  case cribMask =>
    obtain ⟨t, ht, hm⟩ := exec_evtCribMask_masks h hw hc hb
    refine ⟨_, ht, fun x hx => ?_, ?_, fun a ha => hm.kept a ha, getLast?_out_answer s t c 0⟩
    · refine (hm.mask x hx).trans ?_
      simp only [mem_cribSources_all hc]
    · exact EventsOnly.trans hm.only (t := t) rfl

/-! ### The raise of an owner's source -/

/-- The source an owner is told by: the device source of crib 0, its own source `i` of any other (R591, R597). -/
def ownerSrc (owner src i : Nat) : Nat := if owner = 0 then src else Src.ofCrib owner i

theorem raise_ownerSrc (s : State) (owner src i d0 : Nat) :
    (if owner = 0 then raise s src d0 else raiseCrib s owner i d0) = raise s (ownerSrc owner src i) d0 := by
  unfold ownerSrc raiseCrib
  split <;> rfl

theorem ownerSrc_lt {owner src i : Nat} (ho : owner ≤ 32) (hs : src < 4096) (hi : i < 16) : ownerSrc owner src i < 4096 := by
  unfold ownerSrc Src.ofCrib
  split <;> omega

/-! ### Mailbox posts (R588 to R591) -/

/-- The slot after an accepted post (R588, R589). -/
def postedSlot (s : State) (f : Nat) (ch : Fin 32) (w : Nat) : MbxSlot where
  bytes := mbxMessage s f ch w
  full := true
  collided := s.evt.slots[ch].collided || s.evt.slots[ch].full
  collisions := if s.evt.slots[ch].full then min 255 (s.evt.slots[ch].collisions + 1) else s.evt.slots[ch].collisions
  seq := (s.evt.slots[ch].seq + 1) % 256

/-- The slot filled and the post counted, before the owner is told. -/
def mbxFilled (s : State) (f : Nat) (ch : Fin 32) (w : Nat) : State :=
  ({ s with evt := { s.evt with
      slots := s.evt.slots.set ch (postedSlot s f ch w)
      lastPost := Keyed.insert s.evt.lastPost (32 * f + ch) ((s.evt.slots[ch].seq + 1) % 256, s.evt.slots[ch].full) } }).inc
    Od.MBX_POST_CNT ch

/-- The owner told of the post. -/
def mbxTold (s : State) (f : Nat) (ch : Fin 32) (w : Nat) : State :=
  raise (mbxFilled s f ch w) (ownerSrc (s.g Od.MBX_OWNER ch) Src.mailbox 0) ch

theorem mbxPost_eq (s : State) (f : Nat) (ch : Fin 32) (w : Nat) :
    mbxPost s f ch w = if s.evt.slots[ch].full then
      raise ((mbxTold s f ch w).inc Od.MBX_COLLIDE_CNT ch) (ownerSrc (s.g Od.MBX_OWNER ch) Src.mailboxCollide 1) (ch + 256 * f)
    else mbxTold s f ch w := by
  unfold mbxTold
  simp only [← raise_ownerSrc]
  rfl

/-- The channel's two counts. -/
def mbxCounts (ch : Fin 32) : List Nat := [Od.MBX_POST_CNT.el ch, Od.MBX_COLLIDE_CNT.el ch]

section
variable (s : State) (f : Nat) (ch : Fin 32) (w : Nat)

theorem mbxFilled_kept : ObjectsKept (mbxCounts ch) s (mbxFilled s f ch w) := by
  refine ObjectsKept.inc (t := { s with evt := _ }) (objectsKept_of_od rfl) ?_
  simp [mbxCounts]

section
variable (ho : s.g Od.MBX_OWNER ch ≤ 32)
include ho

theorem mbxTold_reach : EvtReach (mbxFilled s f ch w) (mbxTold s f ch w) :=
  evtReach_raise _ _ (he := ownerSrc_lt ho (by decide) (by decide))

/-- What an accepted post leaves of the filled state: only what an event reaches, and the count of collisions. -/
theorem mbxPost_reach : EventsOnly (mbxFilled s f ch w) (mbxPost s f ch w) ∧
    ObjectsKeptEv [Od.MBX_COLLIDE_CNT.el ch] (mbxFilled s f ch w) (mbxPost s f ch w) ∧
    SameBoxes (mbxFilled s f ch w) (mbxPost s f ch w) := by
  have hk : ObjectsKeptEv [Od.MBX_COLLIDE_CNT.el ch] (mbxFilled s f ch w) (mbxTold s f ch w) :=
    (mbxTold_reach s f ch w ho).kept.mono (by simp)
  rw [mbxPost_eq]
  split
  · have hr : EvtReach ((mbxTold s f ch w).inc Od.MBX_COLLIDE_CNT ch) (raise ((mbxTold s f ch w).inc Od.MBX_COLLIDE_CNT ch)
        (ownerSrc (s.g Od.MBX_OWNER ch) Src.mailboxCollide 1) (ch + 256 * f)) :=
      evtReach_raise _ _ (he := ownerSrc_lt ho (by decide) (by decide))
    refine ⟨((mbxTold_reach s f ch w ho).only.trans (u := (mbxTold s f ch w).inc Od.MBX_COLLIDE_CNT ch) rfl).trans hr.only,
      (hk.trans ?_).trans (hr.kept.mono (by simp)), ?_⟩
    · exact (objectsKept_p _ _ _ _).ev
    · obtain ⟨a1, a2, a3, a4, a5⟩ := (mbxTold_reach s f ch w ho).boxes
      obtain ⟨b1, b2, b3, b4, b5⟩ := hr.boxes
      exact ⟨b1.trans a1, b2.trans a2, b3.trans a3, b4.trans a4, b5.trans a5⟩
  · exact ⟨(mbxTold_reach s f ch w ho).only, hk, (mbxTold_reach s f ch w ho).boxes⟩

theorem mbxPost_kept : EventsOnly s (mbxPost s f ch w) ∧ ObjectsKeptEv (mbxCounts ch) s (mbxPost s f ch w) := by
  obtain ⟨honly, hkept, -⟩ := mbxPost_reach s f ch w ho
  exact ⟨EventsOnly.trans (t := mbxFilled s f ch w) rfl honly,
    (mbxFilled_kept s f ch w).ev.trans (hkept.mono (by simp [mbxCounts]))⟩

theorem mbxPost_boxes : (mbxPost s f ch w).evt.slots = s.evt.slots.set ch (postedSlot s f ch w) ∧
    (mbxPost s f ch w).evt.staging = s.evt.staging := by
  obtain ⟨-, -, hslots, hstaging, -⟩ := mbxPost_reach s f ch w ho
  exact ⟨hslots, hstaging⟩

theorem mbxPost_count : (mbxPost s f ch w).g Od.MBX_POST_CNT ch = (s.g Od.MBX_POST_CNT ch + 1) % 2 ^ 32 := by
  obtain ⟨-, hkept, -⟩ := mbxPost_reach s f ch w ho
  refine (hkept.g ?_ ?_).trans (State.g_inc_self ..)
  · simpa using Ob.el_ne (o := Od.MBX_POST_CNT) (p := Od.MBX_COLLIDE_CNT) ch (by decide)
  · have := ch.isLt
    simp only [Ob.el, Od.MBX_POST_CNT]
    omega

theorem mbxPost_raised : Raised (ownerSrc (s.g Od.MBX_OWNER ch) Src.mailbox 0) s (mbxPost s f ch w) := by
  have hlt : ownerSrc (s.g Od.MBX_OWNER ch) Src.mailbox 0 < 4096 := ownerSrc_lt ho (by decide) (by decide)
  have hlt' : ownerSrc (s.g Od.MBX_OWNER ch) Src.mailboxCollide 1 < 4096 := ownerSrc_lt ho (by decide) (by decide)
  have hloss : ownerSrc (s.g Od.MBX_OWNER ch) Src.mailbox 0 ≠ Src.logLoss := by
    unfold ownerSrc; split
    · decide
    · simp only [Src.ofCrib, Src.logLoss]; omega
  have hne : ownerSrc (s.g Od.MBX_OWNER ch) Src.mailbox 0 ≠ ownerSrc (s.g Od.MBX_OWNER ch) Src.mailboxCollide 1 := by
    unfold ownerSrc; split
    · decide
    · simp only [Src.ofCrib]; omega
  have hfill : TotalsKept s (mbxFilled s f ch w) := totalsKept_p { s with evt := _ } Od.MBX_POST_CNT ch _ (by
    have := ch.isLt
    simp only [Ob.el, Od.MBX_POST_CNT]
    omega)
  have htold : Raised (ownerSrc (s.g Od.MBX_OWNER ch) Src.mailbox 0) s (mbxTold s f ch w) :=
    (raised_raise _ _ 0 hlt hloss).of_totalsKept hfill hlt
  rw [mbxPost_eq]
  split
  · rw [Raised, totals_raise _ _ 0 hlt' _ hlt hloss, if_neg hne]
    have hcoll : TotalsKept (mbxTold s f ch w) ((mbxTold s f ch w).inc Od.MBX_COLLIDE_CNT ch) := totalsKept_p _ _ _ _ (by
      have := ch.isLt
      simp only [Ob.el, Od.MBX_COLLIDE_CNT]
      omega)
    exact (hcoll _ hlt).trans htold
  · exact htold

end
end

theorem mbxAccepts_owner {s : State} {f ch w : Nat} (ha : mbxAccepts s f ch w = true) : s.g Od.MBX_OWNER ch ≤ 32 := by
  simp only [mbxAccepts, mbxAdmitted, Bool.and_eq_true, decide_eq_true_eq] at ha
  obtain ⟨⟨⟨howner, -⟩, -⟩, -⟩ := ha
  exact howner

/-- The state in which function `f` has staged `b` for channel `ch` (R587). -/
def mbxStaged (s : State) (f : Crib) (ch : Fin 32) (b : List Byte) : State :=
  { s with evt := { s.evt with staging := Keyed.insert s.evt.staging (32 * f + ch) (padTo 64 b) } }

theorem mbxStaged_staging (s : State) (f : Crib) (ch : Fin 32) (b : List Byte) :
    Keyed.getD (mbxStaged s f ch b).evt.staging (32 * f + ch) [] = padTo 64 b := by
  simp [mbxStaged, Keyed.getD, Keyed.find?_insert]

/-- A post that is refused: counted and logged (R590). -/
def mbxRefused (s : State) (f : Crib) (w : Nat) : State := violation (s.inc Od.MBX_REFUSED_CNT f) 5 f f 0 0 (leBytes 4 w)

theorem mbxRefused_reach (s : State) (f : Crib) (w : Nat) : EvtReach (s.inc Od.MBX_REFUSED_CNT f) (mbxRefused s f w) :=
  evtReach_violation ..

theorem mbxRefused_kept (s : State) (f : Crib) (w : Nat) :
    EventsOnly s (mbxRefused s f w) ∧ ObjectsKeptEv [Od.MBX_REFUSED_CNT.el f] s (mbxRefused s f w) :=
  ⟨EventsOnly.trans (t := s.inc Od.MBX_REFUSED_CNT f) rfl (mbxRefused_reach s f w).only,
    (objectsKept_p _ _ _ _).ev.trans ((mbxRefused_reach s f w).kept.mono (by simp))⟩

theorem mbxRefused_count (s : State) (f : Crib) (w : Nat) :
    (mbxRefused s f w).g Od.MBX_REFUSED_CNT f = (s.g Od.MBX_REFUSED_CNT f + 1) % 2 ^ 32 := by
  refine ((mbxRefused_reach s f w).g ?_).trans (State.g_inc_self ..)
  have := f.isLt
  simp only [Ob.el, Od.MBX_REFUSED_CNT]
  omega

section
variable {s : State} {f : Crib} {ch : Fin 32} {w : Nat} (h : Live s) (he : s.cribEnabled f = true)
include h he

theorem exec_mailboxPost_accepted (b : List Byte) (ha : mbxAccepts s f ch w = true) :
    exec (.mailboxPost f ch w (some b)) s = .next (mbxPost (mbxStaged s f ch b) f ch w) := by
  have ho : (mbxStaged s f ch b).g Od.MBX_OWNER ch ≤ 32 := mbxAccepts_owner (f := f) (w := w) ha
  rw [exec_mailboxPost, execMailboxPost]
  refine act_eq_of_keep h ((if_neg (by simp [he])).trans (if_pos ha)) (keep_only ?_)
  exact EventsOnly.trans (t := mbxStaged s f ch b) rfl (mbxPost_kept _ f ch w ho).1

theorem exec_mailboxPost_refused (b : List Byte) (ha : mbxAccepts s f ch w = false) :
    exec (.mailboxPost f ch w (some b)) s = .next (mbxRefused (mbxStaged s f ch b) f w) := by
  rw [exec_mailboxPost, execMailboxPost]
  refine act_eq_of_keep h ((if_neg (by simp [he])).trans (if_neg (ne_true_of_eq_false ha))) (keep_only ?_)
  exact EventsOnly.trans (t := mbxStaged s f ch b) rfl (mbxRefused_kept _ f w).1

end

/-! ### Doorbells (R596, R597) -/

/-- A ring of doorbell `d` by function `f` sets it: it has an owner and admits the function. -/
def rings (s : State) (f d : Nat) : Bool := decide (s.g Od.DB_OWNER d ≤ 32) && s.gb Od.DB_WRITERS d f

theorem refused_eq_not_rings (s : State) (f d : Nat) :
    (decide (32 < s.g Od.DB_OWNER d) || !s.gb Od.DB_WRITERS d f) = !rings s f d := by
  simp only [rings, Bool.not_and, ← decide_not, Nat.not_le]

/-- The doorbells of `l` that `f` may ring are set; beside that, refusals are counted and events reached. -/
structure Rung (f : Crib) (l : List Nat) (s t : State) : Prop where
  only : EventsOnly s t
  kept : ObjectsKeptEv [Od.DB_REFUSED_CNT.el f] s t
  bells : ∀ d < 256, t.evt.doorbells.getLsbD d = (s.evt.doorbells.getLsbD d || (decide (d ∈ l) && rings s f d))

theorem rings_kept {f : Crib} {s t : State} (h : ObjectsKeptEv [Od.DB_REFUSED_CNT.el f] s t) {d : Nat} (hd : d < 256) :
    rings t f d = rings s f d := by
  have := f.isLt
  have howner : t.g Od.DB_OWNER d = s.g Od.DB_OWNER d :=
    h.g (by simp only [List.mem_singleton, Ob.el, Od.DB_OWNER, Od.DB_REFUSED_CNT]; omega) (by simp only [Ob.el, Od.DB_OWNER]; omega)
  have hwriters : t.g Od.DB_WRITERS d = s.g Od.DB_WRITERS d :=
    h.g (by simp only [List.mem_singleton, Ob.el, Od.DB_WRITERS, Od.DB_REFUSED_CNT]; omega)
      (by simp only [Ob.el, Od.DB_WRITERS]; omega)
  rw [rings, rings, State.gb, State.gb, howner, hwriters]

theorem getLsbD_or_twoPow (v : BitVec 256) {d : Nat} (hd : d < 256) (x : Nat) :
    (v ||| BitVec.twoPow 256 d).getLsbD x = (v.getLsbD x || decide (x = d)) := by
  rcases eq_or_ne x d with rfl | hx
  · simp [hd]
  · simp [hx, Ne.symm hx]

/-- What only reaches the event unit rings nothing. -/
theorem rung_of_reach {f : Crib} {d : Nat} {s u t : State} (h1 : EventsOnly s u) (h2 : ObjectsKeptEv [Od.DB_REFUSED_CNT.el f] s u)
    (h3 : ∀ x < 256, u.evt.doorbells.getLsbD x = (s.evt.doorbells.getLsbD x || (decide (x = d) && rings s f x)))
    (h : EvtReach u t) : Rung f [d] s t := by
  obtain ⟨-, -, -, hbells, -⟩ := h.boxes
  exact ⟨h1.trans h.only, h2.trans (h.kept.mono (by simp)), fun x hx => by rw [hbells, h3 x hx]; simp⟩

theorem rung_dbRing (s : State) (f : Crib) {d : Nat} (hd : d < 256) : Rung f [d] s (dbRing s f d) := by
  unfold dbRing
  dsimp only
  by_cases hr : rings s f d = true
  · have howner : s.g Od.DB_OWNER d ≤ 32 := by
      simp only [rings, Bool.and_eq_true, decide_eq_true_eq] at hr
      exact hr.1
    rw [refused_eq_not_rings, if_neg (by simp [hr])]
    by_cases hset : s.evt.doorbells.getLsbD d = true
    · rw [if_pos hset]
      refine rung_of_reach (.refl s) (.refl _ s) (fun x _ => ?_) (.refl s)
      rcases eq_or_ne x d with rfl | hx
      · simp [hset]
      · simp [hx]
    · rw [if_neg hset, raise_ownerSrc]
      refine rung_of_reach (u := { s with evt := { s.evt with doorbells := s.evt.doorbells ||| BitVec.twoPow 256 d } }) rfl
        (objectsKeptEv_of_od rfl) (fun x _ => ?_) (evtReach_raise _ _ (he := ownerSrc_lt howner (by decide) (by decide)))
      rw [getLsbD_or_twoPow _ hd]
      rcases eq_or_ne x d with rfl | hx
      · simp [hr]
      · simp [hx]
  · rw [refused_eq_not_rings, if_pos (by simp [hr])]
    refine rung_of_reach (u := s.inc Od.DB_REFUSED_CNT f) rfl (objectsKept_p _ _ _ _).ev (fun x _ => ?_) (evtReach_violation ..)
    show s.evt.doorbells.getLsbD x = _
    rcases eq_or_ne x d with rfl | hx
    · simp [hr]
    · simp [hx]

theorem rung_each (f : Crib) (l : List Nat) (hl : ∀ d ∈ l, d < 256) (s : State) : Rung f l s (s.each l fun s d => dbRing s f d) := by
  induction l generalizing s with
  | nil => exact ⟨rfl, .refl _ _, by simp⟩
  | cons d t ih =>
    have h1 := rung_dbRing s f (hl d (by simp))
    have h2 := ih (fun y hy => hl y (by simp [hy])) (dbRing s f d)
    refine ⟨h1.only.trans h2.only, h1.kept.trans h2.kept, fun x hx => ?_⟩
    rw [each_cons, h2.bells x hx, h1.bells x hx, rings_kept h1.kept hx]
    simp only [List.mem_cons, List.not_mem_nil, or_false, Bool.decide_or, Bool.and_or_distrib_right, Bool.or_assoc]

/-- Clearing a function's own doorbell (R596). -/
def dbClear (f : Crib) (s : State) (d : Nat) : State :=
  if s.g Od.DB_OWNER d = f.val then { s with evt := { s.evt with doorbells := s.evt.doorbells &&& ~~~ BitVec.twoPow 256 d } } else s

theorem dbClear_only (f : Crib) (s : State) (d : Nat) :
    dbClear f s d = { s with evt := { s.evt with doorbells := (dbClear f s d).evt.doorbells } } := by
  unfold dbClear
  split <;> rfl

theorem dbClear_bells (f : Crib) (s : State) {d : Nat} (hd : d < 256) (x : Nat) :
    (dbClear f s d).evt.doorbells.getLsbD x = (s.evt.doorbells.getLsbD x && !(decide (x = d) && decide (s.g Od.DB_OWNER x = f.val))) := by
  unfold dbClear
  split
  · next ho =>
    rcases eq_or_ne x d with rfl | hx
    · simp [ho]
    · simpa [hx, Ne.symm hx] using BitVec.lt_of_getLsbD
  · next ho =>
    rcases eq_or_ne x d with rfl | hx
    · simp [ho]
    · simp [hx]

/-- The own doorbells of `l` are cleared, and nothing else differs. -/
theorem dbClears (f : Crib) (l : List Nat) (hl : ∀ d ∈ l, d < 256) (s : State) :
    s.each l (dbClear f) = { s with evt := { s.evt with doorbells := (s.each l (dbClear f)).evt.doorbells } } ∧
    ∀ x, (s.each l (dbClear f)).evt.doorbells.getLsbD x =
      (s.evt.doorbells.getLsbD x && !(decide (x ∈ l) && decide (s.g Od.DB_OWNER x = f.val))) := by
  induction l generalizing s with
  | nil => exact ⟨rfl, by simp⟩
  | cons d t ih =>
    obtain ⟨honly, hbells⟩ := ih (fun y hy => hl y (by simp [hy])) (dbClear f s d)
    have howner (x : Nat) : (dbClear f s d).g Od.DB_OWNER x = s.g Od.DB_OWNER x := by rw [dbClear_only]; rfl
    refine ⟨?_, fun x => ?_⟩
    · rw [each_cons, honly, dbClear_only f s d]
    · rw [each_cons, hbells x, howner, dbClear_bells f s (hl d (by simp)) x]
      simp only [List.mem_cons, Bool.decide_or, Bool.and_or_distrib_right, Bool.not_or, Bool.and_assoc]

theorem wordSources_lt {w : Fin 8} {bits : Nat} : ∀ d ∈ wordSources w bits, d < 256 := by
  intro d hd
  have := (mem_wordSources.1 hd).1
  omega

theorem exec_dbRing_rings {s : State} (h : Live s) {f : Crib} (he : s.cribEnabled f = true) (w : Fin 8) (bits : Nat) :
    ∃ t, exec (.dbRing f w bits) s = .next t ∧ Rung f (wordSources w bits) s t := by
  have hr := rung_each f (wordSources w bits) wordSources_lt s
  refine ⟨_, (exec_dbRing ..).trans (act_eq_of_keep h ((if_neg (by simp [he])).trans ?_) (keep_only hr.only)), hr⟩
  exact (List.foldl_map (f := (32 * w.val + ·))).symm

theorem exec_dbPendClear_enabled {s : State} (h : Live s) {f : Crib} (he : s.cribEnabled f = true) (w : Fin 8) (bits : Nat) :
    exec (.dbPendClear f w bits) s = .next (s.each (wordSources w bits) (dbClear f)) := by
  rw [exec_dbPendClear, execDbPendClear]
  refine act_eq_of_keep h ((if_neg (by simp [he])).trans (List.foldl_map (f := (32 * w.val + ·)) (g := dbClear f)).symm) ?_
  rw [(dbClears f _ wordSources_lt s).1]
  exact keep_eq rfl rfl rfl rfl rfl

/-- Settles O11: an accepted post fills its slot before the owner is told, and what tells the owner reaches no slot; a release, a ring and
a clear each change their own slot or bits. -/
theorem mailboxesAndDoorbellsChangeTheirOwn : Obligations.MailboxesAndDoorbellsChangeTheirOwn := by
  unfold Obligations.MailboxesAndDoorbellsChangeTheirOwn
  refine ⟨fun s f ch w b h he => ?post, fun s f ch w h => ⟨fun hr => ?released, fun hr => ?kept⟩, fun s f w bits h he => ?ring,
    fun s f w bits h he => ?clear, fun s f ch w v b h hd => ?disabled⟩
  case post =>
    by_cases ha : mbxAccepts s f ch w = true
    · have ho : (mbxStaged s f ch b).g Od.MBX_OWNER ch ≤ 32 := mbxAccepts_owner (f := f) (w := w) ha
      obtain ⟨honly, hkept⟩ := mbxPost_kept (mbxStaged s f ch b) f ch w ho
      obtain ⟨hslots, hstaging⟩ := mbxPost_boxes (mbxStaged s f ch b) f ch w ho
      have hraised := mbxPost_raised (mbxStaged s f ch b) f ch w ho
      have hslot : (mbxPost (mbxStaged s f ch b) f ch w).evt.slots[ch] = postedSlot (mbxStaged s f ch b) f ch w := by
        simp [hslots]
      refine ⟨_, exec_mailboxPost_accepted h he b ha, ?_, fun x hx => ?_, fun _ => ⟨?_, ?_, ?_, ?_, mbxPost_count _ f ch w ho,
        fun h0 => ?_, fun h1 => ?_, EventsOnly.trans (t := mbxStaged s f ch b) rfl honly, hkept⟩, fun hn => ?_⟩
      · rw [hstaging, mbxStaged_staging]
      · have : ch.val ≠ x.val := fun k => hx (Fin.ext k.symm)
        simp only [Fin.getElem_fin, hslots, Vector.getElem_set, this, if_false]
        rfl
      · rw [hslot]; rfl
      · rw [hslot]; rfl
      · rw [hslot]; rfl
      · rw [hslot]; rfl
      · exact (if_pos h0 : ownerSrc (s.g Od.MBX_OWNER ch) Src.mailbox 0 = _) ▸ hraised
      · exact (if_neg (by omega) : ownerSrc (s.g Od.MBX_OWNER ch) Src.mailbox 0 = _) ▸ hraised
      · rw [ha] at hn; contradiction
    · have hn : mbxAccepts s f ch w = false := Bool.eq_false_iff.2 ha
      obtain ⟨honly, hkept⟩ := mbxRefused_kept (mbxStaged s f ch b) f w
      obtain ⟨hslots, hstaging, -⟩ := (mbxRefused_reach (mbxStaged s f ch b) f w).boxes
      refine ⟨_, exec_mailboxPost_refused h he b hn, ?_, fun x _ => ?_, fun hp => absurd hp ha, fun _ => ⟨hslots,
        mbxRefused_count _ f w, EventsOnly.trans (t := mbxStaged s f ch b) rfl honly, hkept⟩⟩
      · rw [hstaging]; exact mbxStaged_staging s f ch b
      · rw [hslots]; rfl
  case released =>
    rw [exec_mailboxRelease, execMailboxRelease]
    exact act_eq_of_keep h (if_pos hr) (keep_eq rfl rfl rfl rfl rfl)
  case kept =>
    rw [exec_mailboxRelease, execMailboxRelease]
    exact act_eq_self h (if_neg (ne_true_of_eq_false hr))
  case ring =>
    obtain ⟨t, ht, hr⟩ := exec_dbRing_rings h he w bits
    refine ⟨t, ht, fun d hd => ?_, hr.only, hr.kept⟩
    rw [hr.bells d hd, rings]
    simp only [mem_wordSources, Bool.decide_and, Bool.decide_eq_true]
    grind
  case clear =>
    obtain ⟨honly, hbells⟩ := dbClears f (wordSources w bits) wordSources_lt s
    refine ⟨_, exec_dbPendClear_enabled h he w bits, fun d _ => ?_, honly⟩
    rw [hbells d]
    simp only [mem_wordSources, Bool.decide_and, Bool.decide_eq_true]
    grind
  case disabled =>
    have hn : (!s.cribEnabled f) = true := by simp [hd]
    rw [exec_mailboxPost, execMailboxPost, exec_dbRing, execDbRing, exec_dbPendClear, execDbPendClear]
    exact ⟨act_eq_self h (if_pos hn), act_eq_self h (if_pos hn), act_eq_self h (if_pos hn)⟩

end Sys2Proof.Machine
end

section
/-! SUPPORT. Event rings, routes and the violation log: the objects an occurrence writes, and O10. -/

namespace Sys2Proof.Machine

/-! ### The objects an occurrence writes (R601, R604, R615, R617, R714) -/

/-- The address words of the objects that an occurrence, a delivery, a log record or a violation writes: the event unit's counts, details,
tails and log heads, and the Chest's counts. EVR_ENABLE, EVR_HEAD_SEEN, EVT_ROUTE and the rest of the group are not among them. -/
def occurObjects : List Nat :=
  [Od.EVT_COUNT, Od.EVT_TOTAL, Od.EVT_DETAIL, Od.EVR_TAIL, Od.EVR_DEFER_CNT, Od.EVT_LOG_HEAD, Od.EVT_LOG_LOST, Od.VIO_LOG_HEAD,
    Od.VIO_LOG_LOST, Od.CHEST_WRITES, Od.CHEST_WEAR_MAX].map fun o => o.addr / 4096

/-- No object differs but those an occurrence writes. -/
def OccurKept (s t : State) : Prop := ∀ a, a / 4096 ∉ occurObjects → Keyed.getD t.od a 0 = Keyed.getD s.od a 0

theorem OccurKept.refl (s : State) : OccurKept s s := fun _ _ => rfl

theorem OccurKept.trans {s t u : State} (h : OccurKept s t) (k : OccurKept t u) : OccurKept s u :=
  fun a ha => (k a ha).trans (h a ha)

theorem OccurKept.g {s t : State} (h : OccurKept s t) {o : Ob} {e : Nat} (ho : o.el e / 4096 ∉ occurObjects) : t.g o e = s.g o e :=
  h _ ho

theorem occurKept_of_od {s t : State} (h : t.od = s.od) : OccurKept s t := fun _ _ => by rw [h]

theorem occurKept_p (s : State) {o : Ob} {e : Nat} (v : Nat) (he : o.el e / 4096 ∈ occurObjects) : OccurKept s (s.p o e v) :=
  fun _ ha => Keyed.getD_put_ne _ _ _ fun h => ha (h ▸ he)

/-- An element of an object of the list, counted from its first. -/
theorem el_div {o : Ob} {e : Nat} (ho : o.addr % 4096 = 0) (he : e < 4096) : o.el e / 4096 = o.addr / 4096 := by
  rw [Ob.el]; omega

theorem occurKept_el (s : State) {o : Ob} {e : Nat} (v : Nat) (he : e < 4096) (ho : o.addr % 4096 = 0)
    (hm : o.addr / 4096 ∈ occurObjects) : OccurKept s (s.p o e v) := occurKept_p s v (el_div ho he ▸ hm)

theorem occurKept_msix (s : State) (f v : Nat) : OccurKept s (s.msix f v) := occurKept_of_od (od_msix s f v)

theorem occurKept_ringWrite (s : State) {r e : Nat} (d : Bool) (hr : r < 8) (he : e < 4096) : OccurKept s (ringWrite s r e d) := by
  have htail (u : State) (v : Nat) : OccurKept u (u.p Od.EVR_TAIL r v) := occurKept_el u v (by omega) (by decide) (by decide)
  have hcount (u : State) : OccurKept u ((u.p Od.EVT_COUNT e 0).setPend e false) :=
    (occurKept_el u 0 he (by decide) (by decide)).trans (occurKept_of_od rfl)
  have hphase (u : State) (c : Prop) [Decidable c] (b : Bool) :
      OccurKept u (if c then (if h : r < 8 then { u with evt := { u.evt with phase := u.evt.phase.set r b } } else u) else u) := by
    split_ifs <;> exact occurKept_of_od rfl
  unfold ringWrite
  dsimp only
  generalize hu : s.emit _ = u
  have hout : OccurKept s u := hu ▸ occurKept_of_od rfl
  refine hout.trans ?_
  split
  · exact (((htail _ _).trans (hphase _ _ _)).trans (hcount _)).trans (occurKept_msix _ _ _)
  · exact ((htail _ _).trans (hphase _ _ _)).trans (hcount _)

theorem occurKept_deliver (s : State) {e : Nat} (he : e < 4096) : OccurKept s (evtDeliver s e) := by
  have hr : fieldOf (s.g Od.EVT_ROUTE e) 14 12 < 8 := fieldOf_lt _ 14 12
  have hpend (b : Bool) : OccurKept s (s.setPend e b) := occurKept_of_od rfl
  unfold evtDeliver
  dsimp only
  split
  · split
    · exact hpend true
    · exact (hpend true).trans (occurKept_msix _ _ _)
  · split
    · split
      · exact occurKept_ringWrite s false hr he
      · exact (hpend true).trans (occurKept_el _ _ (by omega) (by decide) (by decide))
    · exact hpend true

theorem occurKept_occur (s : State) {e : Nat} (d0 d1 : Nat) (he : e < 4096) : OccurKept s (evtOccur s e d0 d1) := by
  have hel (u : State) (o : Ob) (v : Nat) (ho : o.addr % 4096 = 0 ∧ o.addr / 4096 ∈ occurObjects) : OccurKept u (u.p o e v) :=
    occurKept_el u v he ho.1 ho.2
  have hsat (u : State) : OccurKept u (u.incSat Od.EVT_COUNT e) := by
    unfold State.incSat
    split
    · exact hel u Od.EVT_COUNT _ (by decide)
    · exact .refl u
  have hwritten : OccurKept s (((s.inc Od.EVT_TOTAL e).incSat Od.EVT_COUNT e).p Od.EVT_DETAIL e d0) :=
    ((hel s Od.EVT_TOTAL _ (by decide)).trans (hsat _)).trans (hel _ Od.EVT_DETAIL d0 (by decide))
  unfold evtOccur
  dsimp only
  refine hwritten.trans (.trans ?_ (occurKept_deliver _ he))
  exact occurKept_of_od rfl

theorem occurKept_chestWrite (s : State) {region : Nat} (pos : Nat) (hr : region < 4096) : OccurKept s (s.chestWrite region pos) := by
  have hkeep : (s.chestKeep region pos).od = s.od := by
    unfold State.chestKeep
    split_ifs <;> rfl
  have hadd (u : State) (n : Nat) : OccurKept u (u.add Od.CHEST_WRITES region n) := occurKept_el u _ hr (by decide) (by decide)
  unfold State.chestWrite State.chestPut
  split
  · exact occurKept_of_od rfl
  · split
    · unfold State.chestMade
      dsimp only
      split
      · exact ((occurKept_of_od hkeep).trans (hadd { s.chestKeep region pos with chest := _ } 1)).trans
          (occurKept_el _ _ hr (by decide) (by decide))
      · exact (occurKept_of_od hkeep).trans (hadd { s.chestKeep region pos with chest := _ } 1)
    · exact occurKept_of_od rfl

theorem occurKept_log (s : State) (e d0 d1 : Nat) : OccurKept s (evtLog s e d0 d1).1 := by
  have hlost (u : State) {k : Nat} (hk : k < 4096) : OccurKept u (u.inc Od.EVT_LOG_LOST k) := occurKept_el u _ hk (by decide) (by decide)
  have hrecord (r : Rate) (l : List EvtLogRec) (v p : Nat) : OccurKept s
      (({ s with evt := { s.evt with logRate := r, log := l } }.p Od.EVT_LOG_HEAD 0 v).chestWrite Region.evtLog p) :=
    ((occurKept_of_od rfl).trans (occurKept_el { s with evt := { s.evt with logRate := r, log := l } } v (by decide) (by decide)
      (by decide))).trans (occurKept_chestWrite _ p (by decide))
  unfold evtLog
  dsimp only
  split
  · exact OccurKept.trans (t := { s with evt := { s.evt with logRate := (s.evt.logRate.tick s.second 1000).1 } }) (occurKept_of_od rfl)
      (hlost _ (by decide))
  · split
    · exact (hrecord _ _ _ _).trans (hlost _ (by decide))
    · exact hrecord _ _ _ _

theorem occurKept_raise (s : State) {e : Nat} (d0 d1 : Nat) (he : e < 4096) : OccurKept s (raise s e d0 d1) := by
  have hl (u : State) (x y : Nat) : OccurKept u (evtOccur u Src.logLoss x y) := occurKept_occur u x y (by decide)
  have h1 := (occurKept_occur s d0 d1 he).trans (occurKept_log (evtOccur s e d0 d1) e d0 d1)
  unfold raise
  dsimp only
  split_ifs
  · exact (h1.trans (hl _ _ _)).trans (occurKept_log _ _ _ _)
  · exact h1.trans (hl _ _ _)
  · exact h1
  · exact occurKept_occur s d0 d1 he

theorem occurKept_raiseCrib (s : State) {c i : Nat} (d0 : Nat) (hc : c ≤ 32) (hi : i < 16) : OccurKept s (raiseCrib s c i d0) := by
  unfold raiseCrib
  split
  · exact .refl s
  · exact occurKept_raise s d0 0 (by rw [Src.ofCrib]; omega)

theorem occurKept_violation (s : State) (partner crib wher node code : Nat) (detail : List Byte) :
    OccurKept s (violation s partner crib wher node code detail) := by
  have hlost (r : Rate) (x : Nat) : OccurKept s (raise ({ s with evt := { s.evt with vioRate := r } }.inc Od.VIO_LOG_LOST) Src.logLoss x) :=
    ((occurKept_of_od rfl).trans (occurKept_el { s with evt := { s.evt with vioRate := r } } _ (by decide) (by decide)
      (by decide))).trans (occurKept_raise _ x 0 (by decide))
  have hrecord (r : Rate) (l : List VioRec) (v p x : Nat) : OccurKept s (raise
      (({ s with evt := { s.evt with vioRate := r, vio := l } }.p Od.VIO_LOG_HEAD 0 v).chestWrite Region.vioLog p) Src.violation x) :=
    (((occurKept_of_od rfl).trans (occurKept_el { s with evt := { s.evt with vioRate := r, vio := l } } v (by decide) (by decide)
      (by decide))).trans (occurKept_chestWrite _ p (by decide))).trans (occurKept_raise _ x 0 (by decide))
  unfold violation
  dsimp only
  split
  · exact occurKept_of_od rfl
  · split
    · exact hlost _ _
    · split
      · exact (hrecord _ _ _ _ _).trans (occurKept_raiseCrib _ _ (by omega) (by decide))
      · exact hrecord _ _ _ _ _

theorem occurKept_ringDrain (s : State) {r : Nat} (hr : r < 8) : OccurKept s (ringDrain s r) := by
  unfold ringDrain
  refine each_rel (R := OccurKept) .refl .trans _ _ (fun u e he => ?_) s
  have he' : e < 1024 := by
    simp only [heldOn, List.mem_append, List.mem_filter, List.mem_range] at he
    omega
  split
  · exact occurKept_ringWrite u true hr (by omega)
  · exact .refl u

theorem enable_not_occur (r : Fin 8) : Od.EVR_ENABLE.el r / 4096 ∉ occurObjects := by
  have := r.isLt
  rw [el_div (by decide) (by omega)]; decide

theorem head_not_occur (r : Fin 8) : Od.EVR_HEAD_SEEN.el r / 4096 ∉ occurObjects := by
  have := r.isLt
  rw [el_div (by decide) (by omega)]; decide

theorem EventsOnly.answer {s t : State} (h : EventsOnly s t) (who code : Nat) : EventsOnly s (t.answer who code) := by
  rw [EventsOnly] at h
  rw [EventsOnly, h]
  rfl

theorem ObjectsKeptEv.answer {w : List Nat} {s t : State} (h : ObjectsKeptEv w s t) (who code : Nat) :
    ObjectsKeptEv w s (t.answer who code) := h

/-! ### Event rings (R609 to R613) -/

/-- A ring as a write of 1 to EVR_ENABLE starts it, before what is held on it is written (R609, R613). -/
def ringStarted (s : State) (r : Fin 8) : State :=
  let t := ((s.p Od.EVR_TAIL r 0).p Od.EVR_HEAD_SEEN r 0).p Od.EVR_ENABLE r 1
  { t with evt := { t.evt with phase := t.evt.phase.set r true } }

theorem evrEnableWrite_one (s : State) (r : Fin 8) : evrEnableWrite r 1 s = (ringDrain (ringStarted s r) r, 0) := by
  rw [evrEnableWrite, if_neg (by omega), if_pos rfl]
  dsimp only
  rw [dif_pos r.isLt]
  rfl

/-- An element of the event unit's group stands outside the frame of an event. -/
theorem objectsKeptEv_ring (s : State) (o : Ob) (r : Fin 8) (v : Nat) (ho : o.addr / 2 ^ 24 = 0x62 ∧ o.addr % 2 ^ 24 < 2 ^ 23) :
    ObjectsKeptEv [] s (s.p o r v) := by
  refine objectsKeptEv_p s [] o r v (.inr (.inl ?_))
  have := r.isLt
  rw [Ob.el]
  omega

theorem ringStarted_kept (s : State) (r : Fin 8) : ObjectsKeptEv [] s (ringStarted s r) :=
  ((objectsKeptEv_ring s Od.EVR_TAIL r 0 (by decide)).trans (objectsKeptEv_ring _ Od.EVR_HEAD_SEEN r 0 (by decide))).trans
    (objectsKeptEv_ring _ Od.EVR_ENABLE r 1 (by decide))

theorem ringStarted_drained (s : State) (r : Fin 8) : EventsOnly s (ringDrain (ringStarted s r) r) :=
  EventsOnly.trans (t := ringStarted s r) rfl (evtReach_ringDrain _ r.isLt).only

theorem ringStarted_tail (s : State) (r : Fin 8) : (ringStarted s r).g Od.EVR_TAIL r = 0 := by
  show (((s.p Od.EVR_TAIL r 0).p Od.EVR_HEAD_SEEN r 0).p Od.EVR_ENABLE r 1).g Od.EVR_TAIL r = 0
  rw [State.g_p_other _ _ _ (by decide), State.g_p_other _ _ _ (by decide), State.g_p_self]
  rfl

theorem ringStarted_head (s : State) (r : Fin 8) : (ringStarted s r).g Od.EVR_HEAD_SEEN r = 0 := by
  show (((s.p Od.EVR_TAIL r 0).p Od.EVR_HEAD_SEEN r 0).p Od.EVR_ENABLE r 1).g Od.EVR_HEAD_SEEN r = 0
  rw [State.g_p_other _ _ _ (by decide), State.g_p_self]
  rfl

theorem ringStarted_enable (s : State) (r : Fin 8) : (ringStarted s r).g Od.EVR_ENABLE r = 1 :=
  State.g_p_self ((s.p Od.EVR_TAIL r 0).p Od.EVR_HEAD_SEEN r 0) Od.EVR_ENABLE r 1

/-- What is held on a ring depends on the pending bits, the masks and the routes alone. -/
theorem heldOn_ringStarted (s : State) (r : Fin 8) : heldOn (ringStarted s r) r = heldOn s r := by
  have hroute (e : Nat) (he : e < 1024) : (ringStarted s r).g Od.EVT_ROUTE e = s.g Od.EVT_ROUTE e := by
    have := r.isLt
    show (((s.p Od.EVR_TAIL r 0).p Od.EVR_HEAD_SEEN r 0).p Od.EVR_ENABLE r 1).g Od.EVT_ROUTE e = _
    rw [State.g_p_ne, State.g_p_ne, State.g_p_ne]
    all_goals simp only [Ob.el, Od.EVR_ENABLE, Od.EVR_HEAD_SEEN, Od.EVR_TAIL, Od.EVT_ROUTE]; omega
  refine List.filter_congr fun e he => ?_
  rw [hroute e (List.mem_range.1 he)]
  rfl

theorem ringDrain_nothing {s : State} {r : Nat} (h : heldOn s r = []) : ringDrain s r = s := by
  rw [ringDrain, h]
  rfl

section
variable {s : State} {who : Crib} {r : Fin 8} (h : Live s) (hw : s.writeCodeOf who Od.EVR_ENABLE r = 0)
include h hw

theorem exec_evrEnable_stops : exec (.evrEnable who r 0) s = .next ((s.p Od.EVR_ENABLE r 0).answer who 0) := by
  rw [exec_evrEnable, execEvrEnable, actWrite_live h hw]
  exact congrArg _ (keep_eq rfl rfl rfl rfl rfl)

theorem exec_evrEnable_range {v : Nat} (hv : 1 < v) : exec (.evrEnable who r v) s = .next (s.answer who 0x07) := by
  rw [exec_evrEnable, execEvrEnable, actWrite_live h hw, evrEnableWrite, if_pos hv]
  exact congrArg _ (keep_eq rfl rfl rfl rfl rfl)

theorem exec_evrEnable_starts : exec (.evrEnable who r 1) s = .next ((ringDrain (ringStarted s r) r).answer who 0) := by
  rw [exec_evrEnable, execEvrEnable, actWrite_live h hw, evrEnableWrite_one]
  dsimp only
  rw [keep_answer (keep_only (ringStarted_drained s r))]

end

/-- The value of a head is inside the ring and not past the tail (R612). -/
def HeadOk (s : State) (r : Fin 8) (v : Nat) : Prop :=
  v < s.g Od.EVR_SIZE r ∧ (v + s.g Od.EVR_SIZE r - s.g Od.EVR_HEAD_SEEN r) % s.g Od.EVR_SIZE r ≤
    (s.g Od.EVR_TAIL r + s.g Od.EVR_SIZE r - s.g Od.EVR_HEAD_SEEN r) % s.g Od.EVR_SIZE r

section
variable {s : State} {f : Crib} {r : Fin 8} {v : Nat} (h : Live s)
include h

theorem exec_evrHead_other (hn : s.g Od.EVR_OWNER r ≠ f.val ∨ s.cribEnabled f = false) : exec (.evrHead f r v) s = .next s := by
  rw [exec_evrHead, execEvrHead]
  exact act_eq_self h (if_pos (by simpa using hn))

section
variable (ho : s.g Od.EVR_OWNER r = f.val) (he : s.cribEnabled f = true)
include ho he

theorem exec_evrHead_moves (hv : HeadOk s r v) : exec (.evrHead f r v) s = .next (ringDrain (s.p Od.EVR_HEAD_SEEN r v) r) := by
  obtain ⟨hsize, htail⟩ := hv
  rw [exec_evrHead, execEvrHead]
  refine act_eq_of_keep h ((if_neg (by simp [ho, he])).trans (if_neg ?_)) (keep_only ?_)
  · simpa using ⟨hsize, htail⟩
  · exact EventsOnly.trans (t := s.p Od.EVR_HEAD_SEEN r v) rfl (evtReach_ringDrain _ r.isLt).only

theorem exec_evrHead_logged (hv : ¬HeadOk s r v) : exec (.evrHead f r v) s = .next (violation s 5 f f 0 2 (leBytes 4 v)) := by
  rw [exec_evrHead, execEvrHead]
  refine act_eq_of_keep h ((if_neg (by simp [ho, he])).trans (if_pos ?_)) (keep_reach (evtReach_violation ..))
  simpa [HeadOk, Classical.or_iff_not_imp_left] using hv

end

/-! ### The violation log's REPEAT (R618) -/

theorem exec_vioLogRepeatFlush_writes (hd : s.evt.vioDirty = true) (hc : s.chestClosed = false) :
    exec .vioLogRepeatFlush s = .next
      (({ s with evt := { s.evt with vioDirty := false } }).chestWrite Region.vioLog (s.g Od.VIO_LOG_HEAD % 512)) := by
  rw [exec_vioLogRepeatFlush, execVioLogRepeatFlush]
  refine act_eq_of_keep h (if_pos (by simp [hd, hc])) (keep_only ?_)
  exact EventsOnly.trans (t := { s with evt := { s.evt with vioDirty := false } }) rfl (evtReach_chestWriteVio _ _).only

theorem exec_vioLogRepeatFlush_none (hn : s.evt.vioDirty = false ∨ s.chestClosed = true) : exec .vioLogRepeatFlush s = .next s := by
  rw [exec_vioLogRepeatFlush, execVioLogRepeatFlush]
  exact act_eq_self h (if_neg (by simpa [Classical.or_iff_not_imp_left] using hn))

end

theorem exec_evtRoute_admitted {s : State} (h : Live s) {who : Crib} {e : Fin 1024} (hw : s.writeCodeOf who Od.EVT_ROUTE e = 0) (v : Nat) :
    exec (.evtRoute who e v) s = .next (if routeOk s e v then (s.p Od.EVT_ROUTE e v).answer who 0 else s.answer who 0x07) := by
  rw [exec_evtRoute, execEvtRoute, actWrite_live h hw, evtRouteWrite]
  split
  · exact congrArg _ (keep_eq rfl rfl rfl rfl rfl)
  · exact congrArg _ (keep_eq rfl rfl rfl rfl rfl)

/-- Settles O10: what a ring writes when it is drained, and what a violation writes, leaves EVR_ENABLE and EVR_HEAD as they are, so the
values written to them stand. That the owner of a ring is checked only for a route of MODE 2 is the model's choice (assumption log 89). -/
theorem routesAndRingsFollowTheirWrites : Obligations.RoutesAndRingsFollowTheirWrites := by
  unfold Obligations.RoutesAndRingsFollowTheirWrites
  refine ⟨fun s who e v h hw => exec_evtRoute_admitted h hw v, fun s who r v h hw => ⟨?stops, exec_evrEnable_range h hw, ?starts⟩,
    fun s f r v h => ⟨exec_evrHead_other h, fun ho he hsize htail => ?moves, fun ho he hbad => ?logged⟩,
    fun s h => ⟨exec_vioLogRepeatFlush_writes h, exec_vioLogRepeatFlush_none h⟩⟩
  case stops =>
    rintro rfl
    exact exec_evrEnable_stops h hw
  case starts =>
    rintro rfl
    have hk := occurKept_ringDrain (ringStarted s r) r.isLt
    refine ⟨_, exec_evrEnable_starts h hw, ?_, ?_, ?_, ?_, fun hheld => ?_⟩
    · rw [State.g_answer, hk.g (enable_not_occur r), ringStarted_enable]
    · rw [State.g_answer, hk.g (head_not_occur r), ringStarted_head]
    · exact (ringStarted_drained s r).answer who 0
    · exact ((ringStarted_kept s r).trans (evtReach_ringDrain _ r.isLt).kept).answer who 0
    · rw [ringDrain_nothing ((heldOn_ringStarted s r).trans hheld)]
      refine ⟨ringStarted_tail s r, ?_, rfl⟩
      show (s.evt.phase.set r true)[r] = true
      simp
  case moves =>
    refine ⟨_, exec_evrHead_moves h ho he ⟨hsize, htail⟩, ?_, ?_, ?_⟩
    · exact ((occurKept_ringDrain _ r.isLt).g (head_not_occur r)).trans (State.g_p_self ..)
    · exact EventsOnly.trans (t := s.p Od.EVR_HEAD_SEEN r v) rfl (evtReach_ringDrain _ r.isLt).only
    · exact (objectsKeptEv_ring s Od.EVR_HEAD_SEEN r v (by decide)).trans (evtReach_ringDrain _ r.isLt).kept
  case logged =>
    exact ⟨_, exec_evrHead_logged h ho he (by unfold HeadOk; omega), rfl, (occurKept_violation _ _ _ _ _ _ _).g (head_not_occur r)⟩

end Sys2Proof.Machine
end

section
/-! SUPPORT. Temperature samples, the long-run checkpoint and delayed Chest writes, and O16. -/

namespace Sys2Proof.Machine

/-! ### What a Chest write leaves (R711, R714, R715) -/

theorem chest_chestKeep (s : State) (region pos : Nat) : (s.chestKeep region pos).chest = s.chest := by
  unfold State.chestKeep
  split_ifs <;> rfl

theorem od_chestKeep (s : State) (region pos : Nat) : (s.chestKeep region pos).od = s.od := by
  unfold State.chestKeep
  split_ifs <;> rfl

/-- A record write leaves the copies of the checkpoint. -/
theorem life_chestMade (s : State) (region pos : Nat) :
    (s.chestMade region pos).chest.life = s.chest.life ∧ (s.chestMade region pos).chest.lifeAt = s.chest.lifeAt := by
  have hk := chest_chestKeep s region pos
  unfold State.chestMade
  generalize s.chestKeep region pos = u at hk
  rw [← hk]
  dsimp only
  split <;> exact ⟨rfl, rfl⟩

theorem life_chestWrite (s : State) (region pos : Nat) :
    (s.chestWrite region pos).chest.life = s.chest.life ∧ (s.chestWrite region pos).chest.lifeAt = s.chest.lifeAt := by
  unfold State.chestWrite State.chestPut
  split
  · exact ⟨rfl, rfl⟩
  · split
    · exact life_chestMade s region pos
    · exact ⟨rfl, rfl⟩

/-- The only objects a record write changes are its two counts. -/
theorem chestMade_counts (s : State) {region : Nat} (pos : Nat) :
    ObjectsKept [Od.CHEST_WRITES.el region, Od.CHEST_WEAR_MAX.el region] s (s.chestMade region pos) := by
  have hcount (u : State) (hu : u.od = s.od) : ObjectsKept [Od.CHEST_WRITES.el region, Od.CHEST_WEAR_MAX.el region] s
      (u.add Od.CHEST_WRITES region 1) := (objectsKept_of_od hu).p (by simp) _
  unfold State.chestMade
  dsimp only
  split
  · exact (hcount { s.chestKeep region pos with chest := _ } (od_chestKeep ..)).p (by simp) _
  · exact hcount { s.chestKeep region pos with chest := _ } (od_chestKeep ..)

theorem chestPut_counts (s : State) {region : Nat} (pos : Nat) (w : List Waiter) :
    ObjectsKept [Od.CHEST_WRITES.el region, Od.CHEST_WEAR_MAX.el region] s (s.chestPut region pos w).1 := by
  unfold State.chestPut
  split
  · exact objectsKept_of_od rfl
  · split
    · exact chestMade_counts s pos
    · exact objectsKept_of_od rfl

/-! ### The checkpoint (R715) -/

/-- The copy that was not written last. -/
def otherCopy (k : Fin 2) : Fin 2 := if k = 0 then 1 else 0

theorem otherCopy_ne (k : Fin 2) : k ≠ otherCopy k := by
  revert k; decide

section
variable {s : State} (h : Live s)
include h

theorem exec_longRunCheckpoint_writes (hp : s.g Od.PF_STATE = 0) : exec .longRunCheckpoint s = .next (keep s (checkpoint s)) := by
  rw [exec_longRunCheckpoint, execLongRunCheckpoint]
  exact act_eq h (if_pos hp)

theorem exec_longRunCheckpoint_none (hp : s.g Od.PF_STATE ≠ 0) : exec .longRunCheckpoint s = .next s := by
  rw [exec_longRunCheckpoint, execLongRunCheckpoint]
  exact act_eq_self h (if_neg hp)

/-! ### Delayed writes (R711) -/

theorem exec_chestDelayedWrite_none {region pos : Nat}
    (hn : (s.chest.delayed.find? fun d => d.region == region && d.pos == pos) = none) : exec (.chestDelayedWrite region pos) s = .next s := by
  rw [exec_chestDelayedWrite, execChestDelayedWrite]
  refine act_eq_self h ?_
  rw [hn]

theorem exec_chestDelayedWrite_held {region pos : Nat} {d : DelayedWrite}
    (hd : (s.chest.delayed.find? fun d => d.region == region && d.pos == pos) = some d) (hf : s.chestFree region pos = false) :
    exec (.chestDelayedWrite region pos) s = .next s := by
  rw [exec_chestDelayedWrite, execChestDelayedWrite]
  refine act_eq_self h ?_
  rw [hd]
  exact if_neg (ne_true_of_eq_false hf)

theorem exec_chestDelayedWrite_made {region pos : Nat} {d : DelayedWrite}
    (hd : (s.chest.delayed.find? fun d => d.region == region && d.pos == pos) = some d) (hf : s.chestFree region pos = true) :
    exec (.chestDelayedWrite region pos) s = .next (keep s
      ((({ s with chest := { s.chest with delayed := s.chest.delayed.filter fun d => !(d.region == region && d.pos == pos) } } :
        State).chestMade region pos).each d.waiters release)) := by
  rw [exec_chestDelayedWrite, execChestDelayedWrite]
  refine act_eq h ?_
  rw [hd]
  exact if_pos hf

end

theorem checkpoint_life (s : State) : (checkpoint s).chest.lifeAt = otherCopy s.chest.lifeAt ∧
    (checkpoint s).chest.life = s.chest.life.set (otherCopy s.chest.lifeAt) (some (s.od.filter fun p => isLife p.1)) := by
  obtain ⟨hlife, hat⟩ := life_chestWrite { s with chest := { s.chest with
    life := s.chest.life.set (otherCopy s.chest.lifeAt) (some (s.od.filter fun p => isLife p.1))
    lifeAt := otherCopy s.chest.lifeAt } } Region.state (Pos.checkpoint (otherCopy s.chest.lifeAt))
  exact ⟨hat, hlife⟩

theorem checkpoint_counts (s : State) : ObjectsKept [Od.CHEST_WRITES.el Region.state, Od.CHEST_WEAR_MAX.el Region.state] s (checkpoint s) :=
  (objectsKept_of_od rfl).trans (chestPut_counts { s with chest := _ } _ [])

/-! ### Temperature samples (R702 to R704, R715, R716) -/

/-- The controller's four readings stored. -/
def ctrlSampled (s : State) (a b c d : Int) : State :=
  (((s.pi Od.TEMP_CTRL 0 a).pi Od.TEMP_CTRL 1 b).pi Od.TEMP_CTRL 2 c).pi Od.TEMP_CTRL 3 d

/-- The declared stages' readings stored. -/
def stagesSampled (s : State) (stage : List Int) : State :=
  s.each (List.finRange 5) fun s (i : Stage) =>
    if s.stageDeclared i then
      let t := stage.getD i (s.gi Od.TEMP_STAGE i)
      thermal (s.pi Od.TEMP_STAGE i t) (20 + i) 2 [t]
    else s

/-- The bands of the highest temperatures counted (R716). -/
def bandsCounted (s : State) : State :=
  let top (n : Nat) (o : Ob) : Nat := tempBand (highest ((List.range n).map fun i => s.gi o i))
  s.each [top 4 Od.TEMP_CTRL, top 16 Od.TEMP_FE, top 5 Od.TEMP_STAGE].zipIdx fun s (b, d) => s.inc Od.TEMP_HIST (4 * d + b)

/-- A sample before the counts of group 0x7E. -/
def sampled (s : State) (a b c d : Int) (stage : List Int) : State :=
  stagesSampled (thermal (ctrlSampled s a b c d) 0 0 [a, b, c, d]) stage

theorem exec_tempSample_live {s : State} (h : Live s) (a b c d : Int) (stage : List Int) :
    exec (.tempSample [a, b, c, d] stage) s = .next (keep s (lifeSecond (bandsCounted (sampled s a b c d stage)))) := by
  rw [exec_tempSample, execTempSample]
  exact act_eq h rfl

section
variable {x : Nat}

theorem at_thermal (s : State) (i kind : Nat) (temps : List Int) (hx : Quiet x) : At x s (thermal s i kind temps) := by
  unfold thermal
  dsimp only
  split
  · exact at_od rfl
  · split
    · exact .refl x s
    · exact (at_od rfl).trans (at_raise { s with pwr := { s.pwr with hot := s.pwr.hot ||| BitVec.twoPow 25 i } } _ 0 (by decide) hx)

theorem at_stagesSampled (s : State) (stage : List Int) (hx : Quiet x) (hs : x / 4096 ≠ 0x78032) : At x s (stagesSampled s stage) := by
  refine at_each _ _ (fun u i _ => ?_) s
  split
  · refine (at_pi u Od.TEMP_STAGE i _ ?_).trans (at_thermal _ _ _ _ hx)
    rintro rfl
    simp only [Ob.el, Od.TEMP_STAGE] at hs
    omega
  · exact .refl _ _

/-- The counts of the seconds and of the bands stand above every address word of the sample. -/
theorem at_bandsCounted (s : State) (hx : x < 0x7E010000) : At x s (bandsCounted s) := by
  refine at_each _ _ (fun u p _ => at_inc x u Od.TEMP_HIST _ ?_) s
  simp only [Ob.el, Od.TEMP_HIST]
  omega

theorem at_lifeSecond (s : State) (hx : x < 0x7E010000) : At x (s.inc Od.LIFE_POWER_S) (lifeSecond s) := by
  have hstate (u : State) (e : Nat) : At x u (u.inc Od.LIFE_DRV_STATE_S e) :=
    at_inc x u _ e (by simp only [Ob.el, Od.LIFE_DRV_STATE_S]; omega)
  have hlaser (u : State) (e : Nat) : At x u (u.inc Od.LIFE_LASER_S e) := at_inc x u _ e (by simp only [Ob.el, Od.LIFE_LASER_S]; omega)
  have hwrite (u : State) (e : Nat) : At x u (u.inc Od.LIFE_WRITE_S e) := at_inc x u _ e (by simp only [Ob.el, Od.LIFE_WRITE_S]; omega)
  refine at_each _ _ (fun u n _ => ?_) _
  split
  · exact ((hstate u _).trans (at_when (hlaser _ _))).trans (at_when (hwrite _ _))
  · exact .refl _ _

theorem at_sampled (s : State) (a b c d : Int) (stage : List Int) (hx : Quiet x) (hs : x / 4096 ≠ 0x78032) :
    At x (ctrlSampled s a b c d) (sampled s a b c d stage) :=
  (at_thermal _ _ _ _ hx).trans (at_stagesSampled _ _ hx hs)

theorem at_ctrlSampled (s : State) (a b c d : Int) (hx : x / 4096 ≠ 0x78030) : At x s (ctrlSampled s a b c d) := by
  have hne (k : Nat) (hk : k < 4) : Od.TEMP_CTRL.el k ≠ x := by
    rintro rfl
    simp only [Ob.el, Od.TEMP_CTRL] at hx
    omega
  exact (((at_pi s _ 0 a (hne 0 (by decide))).trans (at_pi _ _ 1 b (hne 1 (by decide)))).trans (at_pi _ _ 2 c (hne 2 (by decide)))).trans
    (at_pi _ _ 3 d (hne 3 (by decide)))

end

/-- What a reading of the controller's own reads after the whole sample. -/
theorem g_ctrl_after (s : State) (a b c d : Int) (stage : List Int) {k : Nat} (hk : k < 4) :
    (lifeSecond (bandsCounted (sampled s a b c d stage))).g Od.TEMP_CTRL k = (ctrlSampled s a b c d).g Od.TEMP_CTRL k := by
  have hx : Quiet (Od.TEMP_CTRL.el k) := by simp only [Quiet, Ob.el, Od.TEMP_CTRL]; omega
  have hlow : Od.TEMP_CTRL.el k < 0x7E010000 := by simp only [Ob.el, Od.TEMP_CTRL]; omega
  exact At.g ((((at_sampled s a b c d stage hx (by simp only [Ob.el, Od.TEMP_CTRL]; omega)).trans (at_bandsCounted _ hlow)).trans
    (at_inc _ _ Od.LIFE_POWER_S 0 (by simp only [Ob.el, Od.TEMP_CTRL, Od.LIFE_POWER_S]; omega))).trans (at_lifeSecond _ hlow))

theorem g_ctrlSampled (s : State) (a b c d : Int) : (ctrlSampled s a b c d).g Od.TEMP_CTRL 0 = ofInt 16 a ∧
    (ctrlSampled s a b c d).g Od.TEMP_CTRL 1 = ofInt 16 b ∧ (ctrlSampled s a b c d).g Od.TEMP_CTRL 2 = ofInt 16 c ∧
    (ctrlSampled s a b c d).g Od.TEMP_CTRL 3 = ofInt 16 d := by
  have hself (u : State) (k : Nat) (v : Int) : (u.pi Od.TEMP_CTRL k v).g Od.TEMP_CTRL k = ofInt 16 v :=
    (State.g_p_self ..).trans (Nat.mod_eq_of_lt (ofInt_lt ..))
  have hne (u : State) {k j : Nat} (v : Int) (hkj : k ≠ j) : (u.pi Od.TEMP_CTRL k v).g Od.TEMP_CTRL j = u.g Od.TEMP_CTRL j :=
    State.g_p_ne u _ (by simp only [Ob.el]; omega)
  unfold ctrlSampled
  refine ⟨?_, ?_, ?_, hself ..⟩
  · rw [hne _ _ (by decide), hne _ _ (by decide), hne _ _ (by decide), hself]
  · rw [hne _ _ (by decide), hne _ _ (by decide), hself]
  · rw [hne _ _ (by decide), hself]

theorem g_power_after (s : State) (a b c d : Int) (stage : List Int) :
    (lifeSecond (bandsCounted (sampled s a b c d stage))).g Od.LIFE_POWER_S = (s.g Od.LIFE_POWER_S + 1) % 2 ^ 32 := by
  have hkept : At (Od.LIFE_POWER_S.el 0) s (bandsCounted (sampled s a b c d stage)) :=
    ((at_ctrlSampled s a b c d (by decide)).trans (at_sampled s a b c d stage (by unfold Quiet; decide) (by decide))).trans
      (at_bandsCounted _ (by decide))
  rw [At.g (at_lifeSecond _ (by decide)), State.g_inc_self, At.g hkept]
  rfl

theorem at_sample (s : State) (a b c d : Int) (stage : List Int) {x : Nat} (hx : x < 0x78000000) (hg : x / 2 ^ 24 ≠ 0x62) :
    At x s (lifeSecond (bandsCounted (sampled s a b c d stage))) :=
  ((((at_ctrlSampled s a b c d (by omega)).trans (at_sampled s a b c d stage ⟨hg, by omega, by omega⟩ (by omega))).trans
    (at_bandsCounted _ (by omega))).trans
    (at_inc _ _ Od.LIFE_POWER_S 0 (by simp only [Ob.el, Od.LIFE_POWER_S]; omega))).trans (at_lifeSecond _ (by omega))

/-- Settles O16: a sample goes on after its readings are stored only to objects above them, a report is its frame, a checkpoint is written
into the copy that was not written last, and a delayed write is made with what waited on it. That the life counters count at
a temperature sample and THERMAL is raised for each part (assumption log 94), and that a checkpoint is one record write and none while
PF_STATE is not 0 (assumption log 96), are the model's choices. -/
theorem samplesReportsAndCheckpoints : Obligations.SamplesReportsAndCheckpoints := by
  unfold Obligations.SamplesReportsAndCheckpoints
  refine ⟨fun s a b c d stage h => ?sample, fun s n uj33 uj50 temp h => ?report, fun s h => ⟨fun hp => ?written, exec_longRunCheckpoint_none h⟩,
    fun s region pos h => ⟨exec_chestDelayedWrite_none h,
      fun d hd => ⟨exec_chestDelayedWrite_held h hd, exec_chestDelayedWrite_made h hd⟩⟩⟩
  case sample =>
    obtain ⟨h0, h1, h2, h3⟩ := g_ctrlSampled s a b c d
    refine ⟨_, exec_tempSample_live h a b c d stage, ?_, ?_, ?_, ?_, g_power_after s a b c d stage, fun x hx hg => at_sample s a b c d stage hx hg⟩
    · exact (g_ctrl_after s a b c d stage (by decide)).trans h0
    · exact (g_ctrl_after s a b c d stage (by decide)).trans h1
    · exact (g_ctrl_after s a b c d stage (by decide)).trans h2
    · exact (g_ctrl_after s a b c d stage (by decide)).trans h3
  case report =>
    obtain ⟨hlive, hport⟩ := h
    rw [exec_powerReport, execPowerReport]
    exact actPart_live hlive hport _
  case written =>
    obtain ⟨hat, hlife⟩ := checkpoint_life s
    refine ⟨_, exec_longRunCheckpoint_writes h hp, hat, ?_, ?_, fun x h0 h1 => checkpoint_counts s x ?_⟩
    · show (checkpoint s).chest.life[(checkpoint s).chest.lifeAt] = _
      simp [hlife, hat]
    · have hne : (otherCopy s.chest.lifeAt).val ≠ s.chest.lifeAt.val := fun k => otherCopy_ne _ (Fin.ext k.symm)
      show (checkpoint s).chest.life[s.chest.lifeAt] = _
      simp [hlife, hne]
    · rintro hm
      simp only [List.mem_cons, List.not_mem_nil, or_false, Ob.el, Od.CHEST_WRITES, Od.CHEST_WEAR_MAX, Region.state] at hm
      omega

end Sys2Proof.Machine
end

section
/-! SUPPORT. The serial receivers: the bits of a stored entry, what storing one reaches, and O18. -/

namespace Sys2Proof.Machine

/-! ### A port after its changes -/

theorem State.port_setSerial (s : State) (p : Fin 4) (f : SerialPort → SerialPort) :
    (s.setSerial p f).serial.ports[p] = f s.serial.ports[p] := vmod_get _ _ _

theorem State.port_setSerial_ne (s : State) {p q : Fin 4} (f : SerialPort → SerialPort) (h : q ≠ p) :
    (s.setSerial p f).serial.ports[q] = s.serial.ports[q] := vmod_get_ne _ _ h

@[simp] theorem spSize_setSerial (s : State) (p : Fin 4) (f : SerialPort → SerialPort) (q : Nat) :
    spSize (s.setSerial p f) q = spSize s q := rfl

theorem State.setSerial_setSerial (s : State) (p : Fin 4) (f g : SerialPort → SerialPort) :
    (s.setSerial p f).setSerial p g = s.setSerial p fun q => g (f q) := by
  simp only [State.setSerial, vmod_vmod]

/-! ### The bits of an entry (R630) -/

/-- A number by its bits, the lowest first. -/
def bitsVal (l : List Bool) : Nat := l.foldr Nat.bit 0

theorem testBit_bitsVal (l : List Bool) (i : Nat) : (bitsVal l).testBit i = l.getD i false := by
  induction l generalizing i with
  | nil => simp [bitsVal]
  | cons b t ih =>
    cases i with
    | zero => simp [bitsVal]
    | succ i => simpa [bitsVal, Nat.testBit_bit_succ] using ih i

theorem bitsVal_lt (l : List Bool) : bitsVal l < 2 ^ l.length := by
  induction l with
  | nil => simp [bitsVal]
  | cons b t ih =>
    have hval : bitsVal (b :: t) = 2 * bitsVal t + b.toNat := Nat.bit_val b (bitsVal t)
    rw [hval, List.length_cons, Nat.pow_succ]
    cases b <;> simp only [Bool.toNat_true, Bool.toNat_false] <;> omega

/-- Adding each bit at its place, from place `k` on, adds the number of the bits at that place. -/
theorem foldl_places (l : List Bool) (n k : Nat) :
    (l.zipIdx k).foldl (fun n (b, i) => n + b2n b * 2 ^ i) n = n + 2 ^ k * bitsVal l := by
  induction l generalizing n k with
  | nil => simp [bitsVal]
  | cons b t ih =>
    have hval : bitsVal (b :: t) = 2 * bitsVal t + b2n b := (Nat.bit_val b (bitsVal t)).trans (by cases b <;> rfl)
    rw [List.zipIdx_cons, List.foldl_cons, ih, hval]
    ring

/-- An entry from its byte and its tags: FRAMING, OVERRUN and NOISE. -/
def rxEntry (byte : Nat) (framing lost noise : Bool) : Nat := byte + 256 * b2n framing + 4096 * b2n noise + 2048 * b2n lost

theorem rxEntry_low {byte : Nat} (hb : byte < 2 ^ 8) (fr lost noise : Bool) (i : Fin 8) :
    (rxEntry byte fr lost noise).testBit i = byte.testBit i := by
  have h : rxEntry byte fr lost noise = 2 ^ 8 * (b2n fr + 8 * b2n lost + 16 * b2n noise) + byte := by rw [rxEntry]; ring
  rw [h, Nat.testBit_two_pow_mul_add _ hb, if_pos i.isLt]

theorem rxEntry_high {byte : Nat} (hb : byte < 2 ^ 8) (fr lost noise : Bool) (j : Nat) :
    (rxEntry byte fr lost noise).testBit (8 + j) = (b2n fr + 8 * b2n lost + 16 * b2n noise).testBit j := by
  have h : rxEntry byte fr lost noise = 2 ^ 8 * (b2n fr + 8 * b2n lost + 16 * b2n noise) + byte := by rw [rxEntry]; ring
  rw [h, Nat.testBit_two_pow_mul_add _ hb, if_neg (by omega), Nat.add_sub_cancel_left]

theorem rxEntry_tags {byte : Nat} (hb : byte < 2 ^ 8) (fr lost noise : Bool) :
    (rxEntry byte fr lost noise).testBit 8 = fr ∧ (rxEntry byte fr lost noise).testBit 9 = false ∧
    (rxEntry byte fr lost noise).testBit 10 = false ∧ (rxEntry byte fr lost noise).testBit 11 = lost ∧
    (rxEntry byte fr lost noise).testBit 12 = noise := by
  refine ⟨(rxEntry_high hb fr lost noise 0).trans ?_, (rxEntry_high hb fr lost noise 1).trans ?_, (rxEntry_high hb fr lost noise 2).trans ?_,
    (rxEntry_high hb fr lost noise 3).trans ?_, (rxEntry_high hb fr lost noise 4).trans ?_⟩ <;>
  revert fr lost noise <;> decide

/-! ### What storing an entry reaches (R630, R631, R635) -/

/-- The error counts of a port. -/
def spErrors (p : Fin 4) : List Nat := (List.range 8).map fun k => Od.SP_ERR_CNT.el (8 * p + k)

theorem mem_spErrors (p : Fin 4) {k : Nat} (hk : k < 8) : Od.SP_ERR_CNT.el (8 * p + k) ∈ spErrors p :=
  List.mem_map.2 ⟨k, List.mem_range.2 hk, rfl⟩

theorem totalsKept_errCnt (s : State) (p : Fin 4) {k : Nat} (hk : k < 8) : TotalsKept s (s.inc Od.SP_ERR_CNT (8 * p + k)) :=
  totalsKept_p _ _ _ _ (by
    have := p.isLt
    simp only [Ob.el, Od.SP_ERR_CNT]
    omega)

/-- The tags of an entry counted, before an error is raised. -/
def spCounted (s : State) (p : Fin 4) (e : Nat) : State :=
  s.each ([(8, 0), (9, 1), (10, 2), (12, 4)].filter fun t => e.testBit t.1) fun s t => s.inc Od.SP_ERR_CNT (8 * p + t.2)

theorem tag_count_lt {e : Nat} {t : Nat × Nat} (ht : t ∈ [(8, 0), (9, 1), (10, 2), (12, 4)].filter fun t => e.testBit t.1) : t.2 < 8 := by
  have hall : ∀ t ∈ [((8 : Nat), (0 : Nat)), (9, 1), (10, 2), (12, 4)], t.2 < 8 := by decide
  exact hall t (List.mem_of_mem_filter ht)

/-- What an error or an event after the tags reaches: events, and the port's error counts. -/
structure RxReach (p : Fin 4) (s t : State) : Prop where
  only : EventsOnly s t
  kept : ObjectsKeptEv (spErrors p) s t

theorem RxReach.refl (p : Fin 4) (s : State) : RxReach p s s := ⟨rfl, .refl _ _⟩

theorem RxReach.trans {p : Fin 4} {s t u : State} (h : RxReach p s t) (k : RxReach p t u) : RxReach p s u :=
  ⟨h.only.trans k.only, h.kept.trans k.kept⟩

theorem rxReach_of_reach {p : Fin 4} {s t : State} (h : EvtReach s t) : RxReach p s t := ⟨h.only, h.kept.mono (by simp)⟩

theorem rxReach_inc (s : State) (p : Fin 4) {k : Nat} (hk : k < 8) : RxReach p s (s.inc Od.SP_ERR_CNT (8 * p + k)) :=
  ⟨rfl, ((ObjectsKept.refl _ s).inc (mem_spErrors p hk)).ev⟩

theorem rxReach_spCounted (s : State) (p : Fin 4) (e : Nat) : RxReach p s (spCounted s p e) :=
  each_rel (R := RxReach p) (.refl p) .trans _ _ (fun u _ ht => rxReach_inc u p (tag_count_lt ht)) s

theorem totalsKept_spCounted (s : State) (p : Fin 4) (e : Nat) : TotalsKept s (spCounted s p e) :=
  each_rel (R := TotalsKept) .refl .trans _ _ (fun u _ ht => totalsKept_errCnt u p (tag_count_lt ht)) s

/-- After the count, a tagged entry raises the error once, and another none. -/
theorem spTags_cases (s : State) (p : Fin 4) (e : Nat) :
    (∃ d, spTags s p e = raise (spCounted s p e) Src.spError d) ∨ (e.testBit 10 = false ∧ spTags s p e = spCounted s p e) := by
  by_cases h10 : e.testBit 10 = true
  · exact .inl ⟨_, if_pos h10⟩
  · by_cases h8 : e.testBit 8 = true
    · exact .inl ⟨_, (if_neg h10).trans (if_pos h8)⟩
    · by_cases h9 : e.testBit 9 = true
      · exact .inl ⟨_, ((if_neg h10).trans (if_neg h8)).trans (if_pos h9)⟩
      · exact .inr ⟨Bool.eq_false_iff.2 h10, ((if_neg h10).trans (if_neg h8)).trans (if_neg h9)⟩

theorem rxReach_spTags (s : State) (p : Fin 4) (e : Nat) : RxReach p s (spTags s p e) := by
  obtain ⟨d, hd⟩ | ⟨-, hd⟩ := spTags_cases s p e
  · rw [hd]
    exact (rxReach_spCounted s p e).trans (rxReach_of_reach (evtReach_raise _ _ (he := by decide)))
  · rw [hd]
    exact rxReach_spCounted s p e

theorem raised_spTags (s : State) (p : Fin 4) {e : Nat} (h10 : e.testBit 10 = true) : Raised Src.spError s (spTags s p e) := by
  obtain ⟨d, hd⟩ | ⟨hn, -⟩ := spTags_cases s p e
  · rw [hd]
    exact (raised_raise _ d 0 (by decide) (by decide)).of_totalsKept (totalsKept_spCounted s p e) (by decide)
  · rw [h10] at hn; contradiction

/-- The entry in the queue, before its tags are counted. -/
def spQueued (s : State) (p : Fin 4) (e : Nat) : State :=
  (s.setSerial p fun q => { q with quiet := false, rx := q.rx ++ [e], lost := false }).p Od.SP_RX_LEVEL p (s.serial.ports[p].rx.length + 1)

theorem port_spQueued (s : State) (p : Fin 4) (e : Nat) :
    (spQueued s p e).serial.ports[p] = { s.serial.ports[p] with quiet := false, rx := s.serial.ports[p].rx ++ [e], lost := false } :=
  s.port_setSerial p _

/-- The entry stored and its error raised; SP_RX is raised at the trigger. -/
theorem spStore_room {s : State} {p : Fin 4} (hroom : s.serial.ports[p].rx.length < spSize s p) (e : Nat) :
    (∃ d, spStore s p e = raise (spTags (spQueued s p (e + 2048 * b2n s.serial.ports[p].lost)) p (e + 2048 * b2n s.serial.ports[p].lost))
      Src.spRx d) ∨
    spStore s p e = spTags (spQueued s p (e + 2048 * b2n s.serial.ports[p].lost)) p (e + 2048 * b2n s.serial.ports[p].lost) := by
  have hq : ((s.setSerial p fun q => { q with quiet := false }).setSerial p fun q =>
      { q with rx := q.rx ++ [e + 2048 * b2n s.serial.ports[p].lost], lost := false }).p Od.SP_RX_LEVEL p (s.serial.ports[p].rx.length + 1) =
      spQueued s p (e + 2048 * b2n s.serial.ports[p].lost) := by
    rw [State.setSerial_setSerial]; rfl
  unfold spStore
  dsimp only
  rw [spSize_setSerial, if_neg (Nat.not_le.2 hroom), hq]
  split
  · exact .inl ⟨_, rfl⟩
  · exact .inr rfl

theorem rxReach_spStore {s : State} {p : Fin 4} (hroom : s.serial.ports[p].rx.length < spSize s p) (e : Nat) :
    RxReach p (spQueued s p (e + 2048 * b2n s.serial.ports[p].lost)) (spStore s p e) := by
  obtain ⟨d, hd⟩ | hd := spStore_room hroom e
  · rw [hd]
    exact (rxReach_spTags _ p _).trans (rxReach_of_reach (evtReach_raise _ _ (he := by decide)))
  · rw [hd]
    exact rxReach_spTags _ p _

theorem raised_spStore {s : State} {p : Fin 4} (hroom : s.serial.ports[p].rx.length < spSize s p) {e : Nat}
    (h10 : (e + 2048 * b2n s.serial.ports[p].lost).testBit 10 = true) : Raised Src.spError s (spStore s p e) := by
  have hlevel : TotalsKept s (spQueued s p (e + 2048 * b2n s.serial.ports[p].lost)) :=
    totalsKept_p (s.setSerial p _) Od.SP_RX_LEVEL p _ (by
      have := p.isLt
      simp only [Ob.el, Od.SP_RX_LEVEL]
      omega)
  have htags := (raised_spTags (spQueued s p (e + 2048 * b2n s.serial.ports[p].lost)) p h10).of_totalsKept hlevel (by decide)
  obtain ⟨d, hd⟩ | hd := spStore_room hroom e
  · rw [hd, Raised, totals_raise _ d 0 (by decide) _ (by decide) (by decide), if_neg (by decide)]
    exact htags
  · rwa [hd]

theorem spStore_full {s : State} {p : Fin 4} (hfull : spSize s p ≤ s.serial.ports[p].rx.length) (e : Nat) :
    spStore s p e = (s.setSerial p fun q => { q with quiet := false, lost := true }).inc Od.SP_ERR_CNT (8 * p + 3) := by
  unfold spStore
  dsimp only
  rw [spSize_setSerial, if_pos hfull, State.setSerial_setSerial]

/-! ### Characters, breaks and reads (R626 to R630, R634) -/

/-- The entry of a character without parity, before OVERRUN: eight data bits and the stop bit by their majorities. -/
def charEntry (bits : List (Fin 8)) : Nat :=
  rxEntry (bitsVal ((bits.map majority).take 8)) (!majority (bits.getD 8 0)) false (bits.any disagrees)

section
variable {s : State} (h : Live s) {p : Fin 4}
include h

theorem exec_serialCharacter_stored {bits : List (Fin 8)} (hh : spHears s p = true) (hm : spMode s p = 1) (hpar : spParity s p = 0)
    (hl : bits.length = 9) (hv : ∃ b ∈ bits, majority b = true) :
    exec (.serialCharacter p bits) s = .next (keep s (spStore s p (charEntry bits))) := by
  have hbreak : ¬(bits.map majority).all (· == false) = true := by
    simpa using hv
  have hstop : (bits.map majority).getD (9 - 1) false = majority (bits.getD 8 0) := by
    rw [List.getD_eq_getElem _ _ (by simp [hl]), List.getD_eq_getElem _ _ (by simp [hl]), List.getElem_map]
  rw [exec_serialCharacter, execSerialCharacter]
  refine act_eq h ?_
  dsimp only
  rw [hpar, if_neg (by simp [hh, hl]), if_neg hbreak, spTake, if_neg (by omega), foldl_places]
  simp only [if_true, Nat.add_zero, hstop]
  congr 1
  simp [charEntry, rxEntry, b2n]

theorem exec_serialBreak_stored {noise : Bool} (hh : spHears s p = true) (hm : spMode s p = 1) (hf : s.serial.ports[p].frame = none) :
    exec (.serialBreak p noise) s =
      .next (keep s (spStore (s.setSerial p fun q => { q with breakWait := true }) p (1280 + 4096 * b2n noise))) := by
  have hmode : spMode (s.setSerial p fun q => { q with breakWait := true }) p = 1 := hm
  have hframe : (s.setSerial p fun q => { q with breakWait := true }).serial.ports[p].frame = none := by
    rw [s.port_setSerial]; exact hf
  rw [exec_serialBreak, execSerialBreak]
  refine act_eq h ((if_pos hh).trans ?_)
  unfold spBreak
  dsimp only
  rw [hframe]
  dsimp only
  rw [spTake, if_neg (by omega)]

theorem exec_serialBreakEnd_armed : exec (.serialBreakEnd p) s = .next (s.setSerial p fun q => { q with breakWait := false }) := by
  rw [exec_serialBreakEnd, execSerialBreakEnd]
  exact act_eq_of_keep h rfl (keep_eq rfl rfl rfl rfl rfl)

theorem exec_falseStart_counted :
    exec (.falseStart p) s = .next (if spHears s p = true then s.inc Od.SP_ERR_CNT (8 * p + 5) else s) := by
  rw [exec_falseStart, execFalseStart]
  refine act_eq_of_keep h rfl ?_
  split
  · exact keep_p ..
  · exact keep_self s

theorem exec_spRxTimeout_raises (hm : spMode s p = 1) (hr : s.serial.ports[p].rx ≠ []) (hq : s.serial.ports[p].quiet = false) :
    exec (.spRxTimeout p) s = .next (raise (s.setSerial p fun q => { q with quiet := true }) Src.spRx
      (p + 256 + 65536 * s.serial.ports[p].rx.length)) := by
  rw [exec_spRxTimeout, execSpRxTimeout]
  refine act_eq_of_keep h (if_neg (by rintro (hn | hn | hn) <;> simp_all)) ?_
  rw [(evtReach_raise (s.setSerial p fun q => { q with quiet := true }) _ (he := by decide)).only]
  exact keep_eq rfl rfl rfl rfl rfl

theorem exec_spRxTimeout_none (hn : spMode s p ≠ 1 ∨ s.serial.ports[p].rx = [] ∨ s.serial.ports[p].quiet = true) :
    exec (.spRxTimeout p) s = .next s := by
  rw [exec_spRxTimeout, execSpRxTimeout]
  exact act_eq_self h (if_pos hn)

variable {who : Crib} {window : Bool} {off : Nat}

theorem exec_spRxData_booting (hd : s.dev = .booting) : exec (.spRxData who p window off) s = .next (s.answer who 0x0D) := by
  rw [exec_spRxData, execSpRxData]
  exact act_eq_of_keep h (if_pos hd) (keep_answer (keep_self s) ..)

theorem exec_spRxData_crib (hd : s.dev ≠ .booting) (hw : who.val ≠ 0) : exec (.spRxData who p window off) s = .next (s.answer who 0x01) := by
  rw [exec_spRxData, execSpRxData]
  exact act_eq_of_keep h ((if_neg hd).trans (if_pos hw)) (keep_answer (keep_self s) ..)

theorem exec_spRxData_offset (hd : s.dev ≠ .booting) (hw : who.val = 0) (ho : off ≠ 0) :
    exec (.spRxData who p window off) s = .next (s.answer who 0x09) := by
  rw [exec_spRxData, execSpRxData]
  exact act_eq_of_keep h (((if_neg hd).trans (if_neg (not_not.2 hw))).trans (if_pos ho)) (keep_answer (keep_self s) ..)

theorem exec_spRxData_taken (hd : s.dev ≠ .booting) (hw : who.val = 0) (ho : off = 0) :
    exec (.spRxData who p window off) s = .next ((spRead s p window).1.emit
      (.answer who 0 (leBytes 2 (spRead s p window).2.length ++ (spRead s p window).2))) := by
  rw [exec_spRxData, execSpRxData]
  exact act_eq_of_keep h (((if_neg hd).trans (if_neg (not_not.2 hw))).trans (if_neg (not_not.2 ho))) (keep_eq rfl rfl rfl rfl rfl)

end

theorem spQueued_kept (s : State) (p : Fin 4) (e : Nat) : ObjectsKept [Od.SP_RX_LEVEL.el p] s (spQueued s p e) :=
  objectsKept_p (s.setSerial p _) Od.SP_RX_LEVEL p _

/-- What a port and its level read after an entry found room. -/
theorem spStore_room_effect {s : State} {p : Fin 4} (hroom : s.serial.ports[p].rx.length < spSize s p) (e : Nat) :
    (spStore s p e).serial = (spQueued s p (e + 2048 * b2n s.serial.ports[p].lost)).serial ∧
    (spStore s p e).g Od.SP_RX_LEVEL p = s.serial.ports[p].rx.length + 1 ∧
    ObjectsKeptEv (Od.SP_RX_LEVEL.el p :: spErrors p) s (spStore s p e) := by
  have hr := rxReach_spStore hroom e
  have hsize : spSize s p ≤ 128 := by unfold spSize; split <;> omega
  refine ⟨hr.only.serial_eq, ?_, (spQueued_kept s p _).ev.mono (by simp) |>.trans (hr.kept.mono (by simp +contextual))⟩
  have := p.isLt
  have hlevel : At (Od.SP_RX_LEVEL.el p) (spQueued s p (e + 2048 * b2n s.serial.ports[p].lost)) (spStore s p e) := by
    refine at_ev hr.kept ?_ (by simp only [Quiet, Ob.el, Od.SP_RX_LEVEL]; omega)
    simp only [spErrors, List.mem_map, List.mem_range, Ob.el, Od.SP_ERR_CNT, Od.SP_RX_LEVEL]
    omega
  refine (At.g hlevel).trans ((State.g_p_self ..).trans (Nat.mod_eq_of_lt ?_))
  simp only [Od.SP_RX_LEVEL]
  omega

/-- Settles O18: an entry with room is queued before its tags are counted and its events raised, and these reach no port; without room only
the loss is counted; a read takes what it returns. -/
theorem serialReceiversStoreAndHandOver : Obligations.SerialReceiversStoreAndHandOver := by
  unfold Obligations.SerialReceiversStoreAndHandOver
  refine ⟨fun s p bits h hh hm hpar hl hv => ?character, fun s p noise h hh hm hf hroom => ?lineBreak,
    fun s p h => ⟨exec_serialBreakEnd_armed h, exec_falseStart_counted h⟩, fun s p h => ⟨fun hm hr hq => ?quiet, exec_spRxTimeout_none h⟩,
    fun s who p window off h => ⟨exec_spRxData_booting h, exec_spRxData_crib h, exec_spRxData_offset h, exec_spRxData_taken h⟩⟩
  case character =>
    have hbyte : bitsVal ((bits.map majority).take 8) < 2 ^ 8 := by
      refine (bitsVal_lt _).trans_le ?_
      simp [hl]
    have hothers (q : Fin 4) (hq : q ≠ p) : (spStore s p (charEntry bits)).serial.ports[q] = s.serial.ports[q] := by
      by_cases hroom : s.serial.ports[p].rx.length < spSize s p
      · rw [(spStore_room_effect hroom _).1]
        exact s.port_setSerial_ne _ hq
      · rw [spStore_full (Nat.not_lt.1 hroom)]
        exact s.port_setSerial_ne _ hq
    refine ⟨_, exec_serialCharacter_stored h hh hm hpar hl hv, hothers, fun hroom => ?_, fun hfull => ?_⟩
    · obtain ⟨hserial, hlevel, hkept⟩ := spStore_room_effect hroom (charEntry bits)
      have hport := port_spQueued s p (charEntry bits + 2048 * b2n s.serial.ports[p].lost)
      rw [← hserial] at hport
      have hentry : charEntry bits + 2048 * b2n s.serial.ports[p].lost = rxEntry (bitsVal ((bits.map majority).take 8))
          (!majority (bits.getD 8 0)) s.serial.ports[p].lost (bits.any disagrees) := by
        simp [charEntry, rxEntry, b2n]
      obtain ⟨h8, h9, h10, h11, h12⟩ := rxEntry_tags hbyte (!majority (bits.getD 8 0)) s.serial.ports[p].lost (bits.any disagrees)
      rw [← hentry] at h8 h9 h10 h11 h12
      refine ⟨_, congrArg SerialPort.rx hport, fun i => ?_, h8, h9, h10, h11, h12, congrArg SerialPort.lost hport, hlevel, hkept⟩
      rw [hentry, rxEntry_low hbyte, testBit_bitsVal]
      have := i.isLt
      rw [List.getD_eq_getElem _ _ (by simp [hl]), List.getElem_take, List.getElem_map,
        List.getD_eq_getElem _ _ (by omega)]
    · rw [spStore_full hfull]
      refine ⟨?_, ?_, State.g_inc_self .., objectsKept_p _ _ _ _⟩
      · exact (congrArg SerialPort.rx (s.port_setSerial p fun q => { q with quiet := false, lost := true })).trans rfl
      · exact (congrArg SerialPort.lost (s.port_setSerial p fun q => { q with quiet := false, lost := true })).trans rfl
  case lineBreak =>
    have hport := s.port_setSerial p fun q => { q with breakWait := true }
    have hrx : (s.setSerial p fun q => { q with breakWait := true }).serial.ports[p].rx = s.serial.ports[p].rx := by rw [hport]
    have hlost : (s.setSerial p fun q => { q with breakWait := true }).serial.ports[p].lost = s.serial.ports[p].lost := by
      rw [hport]
    have hroom' : (s.setSerial p fun q => { q with breakWait := true }).serial.ports[p].rx.length <
        spSize (s.setSerial p fun q => { q with breakWait := true }) p := by rw [hrx]; exact hroom
    obtain ⟨hserial, -, -⟩ := spStore_room_effect hroom' (1280 + 4096 * b2n noise)
    have hqueued := port_spQueued (s.setSerial p fun q => { q with breakWait := true }) p
      (1280 + 4096 * b2n noise + 2048 * b2n (s.setSerial p fun q => { q with breakWait := true }).serial.ports[p].lost)
    rw [← hserial] at hqueued
    refine ⟨_, exec_serialBreak_stored h hh hm hf, ?_, ?_, ?_, fun q hq => ?_⟩
    · refine (congrArg SerialPort.breakWait hqueued).trans ?_
      rw [hport]
    · refine (congrArg SerialPort.rx hqueued).trans ?_
      rw [hlost, hrx]
      refine congrArg (fun e => s.serial.ports[p].rx ++ [e]) ?_
      ring
    · refine raised_spStore hroom' ?_
      rw [hlost]
      cases s.serial.ports[p].lost <;> cases noise <;> decide
    · refine Eq.trans ?_ (s.port_setSerial_ne (fun q => { q with breakWait := true }) hq)
      show (spStore _ p _).serial.ports[q] = _
      rw [hserial]
      exact State.port_setSerial_ne _ _ hq
  case quiet =>
    have hreach := evtReach_raise (s.setSerial p fun q => { q with quiet := true }) (p + 256 + 65536 * s.serial.ports[p].rx.length)
      (e := Src.spRx) (he := by decide)
    exact ⟨_, exec_spRxTimeout_raises h hm hr hq, hreach.only.serial_eq,
      (raised_raise _ _ 0 (by decide) (by decide)).of_totalsKept (totalsKept_of_od rfl) (by decide), (objectsKeptEv_of_od rfl).trans hreach.kept⟩

end Sys2Proof.Machine
end

section
/-! SUPPORT. The serial transmitters, the tray schedule and the pads, and O19. -/

namespace Sys2Proof.Machine

/-! ### The next byte of a port (R633, R636) -/

/-- Byte `b` in the transmit shifter, with `rest` left in the queue, and on the line. -/
def spShifted (s : State) (p : Fin 4) (b : Byte) (rest : List Byte) : State :=
  (s.setSerial p fun q => { q with shift := some b, tx := rest }).emit (.serial p [b])

section
variable {s : State} {p : Fin 4}

theorem spNext_silent (h : spSends s p = false) : spNext s p = s := if_pos h

theorem spNext_empty (hm : spMode s p = 1) (hf : s.serial.ports[p].frame = none) (ht : s.serial.ports[p].tx = []) : spNext s p = s := by
  unfold spNext
  dsimp only
  split
  · rfl
  · rw [hf]
    dsimp only
    rw [if_neg (by omega), ht]

/-- A port without a frame whose mode is not BYTE sends nothing. -/
theorem spNext_other (hm : spMode s p ≠ 1) (hf : s.serial.ports[p].frame = none) : spNext s p = s := by
  unfold spNext
  dsimp only
  split
  · rfl
  · rw [hf]

/-- A byte of the queue goes into the shifter; after it, only SP_TX may be raised. -/
theorem spNext_shifts (h : spSends s p = true) (hm : spMode s p = 1) (hf : s.serial.ports[p].frame = none) {b : Byte} {rest : List Byte}
    (ht : s.serial.ports[p].tx = b :: rest) : EvtReach (spShifted s p b rest) (spNext s p) := by
  unfold spNext
  dsimp only
  rw [if_neg (ne_false_of_eq_true h), hf]
  dsimp only
  rw [if_neg (by omega), ht]
  dsimp only
  split
  · exact evtReach_raise (spShifted s p b rest) _ (he := by decide)
  · exact .refl (spShifted s p b rest)

/-- A byte of a frame goes into the shifter. -/
theorem spNext_frame (h : spSends s p = true) {f : TrayFrame} (hf : s.serial.ports[p].frame = some f) {b : Byte} {rest : List Byte}
    (ht : f.toSend = b :: rest) : spNext s p =
      (s.setSerial p fun q => { q with shift := some b, frame := some { f with toSend := rest } }).emit (.serial p [b]) := by
  unfold spNext
  dsimp only
  rw [if_neg (ne_false_of_eq_true h), hf]
  dsimp only
  rw [ht]

theorem spSends_iff : spSends s p = true ↔
    spMode s p ≠ 0 ∧ (padOf s 1 p).isSome = true ∧ s.dev ≠ .held ∧ s.serial.ports[p].shift = none := by
  simp [spSends, and_assoc]

end

theorem port_spShifted (s : State) (p : Fin 4) (b : Byte) (rest : List Byte) :
    (spShifted s p b rest).serial.ports[p] = { s.serial.ports[p] with shift := some b, tx := rest } := s.port_setSerial p _

theorem port_spShifted_ne (s : State) {p q : Fin 4} (b : Byte) (rest : List Byte) (h : q ≠ p) :
    (spShifted s p b rest).serial.ports[q] = s.serial.ports[q] := s.port_setSerial_ne _ h

/-- The shifter and the queue together, in the order in which they are sent. -/
def SerialPort.waiting (q : SerialPort) : List Byte := q.shift.toList ++ q.tx

/-- What a port's next byte leaves: the bytes to be sent, in their order, every other port, and the objects. -/
structure TxKept (p : Fin 4) (s t : State) : Prop where
  waiting : t.serial.ports[p].waiting = s.serial.ports[p].waiting
  others : ∀ q : Fin 4, q ≠ p → t.serial.ports[q] = s.serial.ports[q]
  kept : ObjectsKeptEv [] s t

theorem txKept_spNext {s : State} {p : Fin 4} (hm : spMode s p = 1) (hf : s.serial.ports[p].frame = none) : TxKept p s (spNext s p) := by
  have idle {u : State} (hu : u = s) : TxKept p s u := hu ▸ ⟨rfl, fun _ _ => rfl, .refl _ _⟩
  by_cases hs : spSends s p = true
  · cases ht : s.serial.ports[p].tx with
    | nil => exact idle (spNext_empty hm hf ht)
    | cons b rest =>
      have hr := spNext_shifts hs hm hf ht
      obtain ⟨-, -, -, hshift⟩ := spSends_iff.1 hs
      refine ⟨?_, fun q hq => ?_, (objectsKeptEv_of_od rfl).trans hr.kept⟩
      · rw [hr.only.serial_eq, port_spShifted]
        simp only [SerialPort.waiting, ht, hshift, Option.toList_some, Option.toList_none, List.nil_append, List.singleton_append]
      · rw [hr.only.serial_eq]
        exact port_spShifted_ne s b rest hq
  · exact idle (spNext_silent (Bool.eq_false_iff.2 hs))

/-- A transmitter that may start has a byte in its shifter once there is one to send. -/
theorem shift_spNext {s : State} {p : Fin 4} (hs : spSends s p = true) (hm : spMode s p = 1) (hf : s.serial.ports[p].frame = none) :
    (spNext s p).serial.ports[p].shift = s.serial.ports[p].tx.head? ∧ (spNext s p).serial.ports[p].tx = s.serial.ports[p].tx.tail := by
  cases ht : s.serial.ports[p].tx with
  | nil =>
    obtain ⟨-, -, -, hshift⟩ := spSends_iff.1 hs
    rw [spNext_empty hm hf ht, hshift, ht]
    exact ⟨rfl, rfl⟩
  | cons b rest =>
    rw [(spNext_shifts hs hm hf ht).only.serial_eq, port_spShifted]
    exact ⟨rfl, rfl⟩

/-! ### Writes to the queue (R633) -/

/-- The bytes of a write appended to the queue. -/
def spQueueTx (s : State) (p : Fin 4) (d : List Byte) : State := s.setSerial p fun q => { q with tx := q.tx ++ d }

section
variable {s : State} (h : Live s) {who : Crib} {p : Fin 4} {d : List Byte} (hw : s.writeCodeOf who Od.SP_TX_DATA p = 0)
include h hw

theorem exec_spTxData_length (hd : d.length = 0 ∨ 128 < d.length) : exec (.spTxData who p d) s = .next (s.answer who 0x06) := by
  rw [exec_spTxData, execSpTxData, actWrite_live h hw, spWrite, if_pos hd]
  exact congrArg _ (keep_answer (keep_self s) who 0x06)

theorem exec_spTxData_range (h1 : d.length ≤ 128) (hfree : spFree s p < d.length) :
    exec (.spTxData who p d) s = .next (s.answer who 0x07) := by
  rw [exec_spTxData, execSpTxData, actWrite_live h hw, spWrite, if_neg (by omega), if_pos hfree]
  exact congrArg _ (keep_answer (keep_self s) who 0x07)

theorem exec_spTxData_queued (h0 : d.length ≠ 0) (h1 : d.length ≤ 128) (hfree : d.length ≤ spFree s p) :
    exec (.spTxData who p d) s = .next (keep s ((spNext (spQueueTx s p d) p).answer who 0)) := by
  rw [exec_spTxData, execSpTxData, actWrite_live h hw, spWrite, if_neg (by omega), if_neg (by omega)]
  rfl

end

/-- The shifter emptied: its byte has been sent. -/
def spSent (s : State) (p : Fin 4) : State := s.setSerial p fun q => { q with shift := none }

theorem exec_serialCharacterSent_idle {s : State} (h : Live s) {p : Fin 4} (hn : s.serial.ports[p].shift = none) :
    exec (.serialCharacterSent p) s = .next s := by
  rw [exec_serialCharacterSent, execSerialCharacterSent]
  exact act_eq_self h (if_pos (Option.isNone_iff_eq_none.2 hn))

theorem exec_serialCharacterSent_next {s : State} (h : Live s) {p : Fin 4} (hs : s.serial.ports[p].shift.isSome = true) :
    exec (.serialCharacterSent p) s = .next (keep s (spNext (spSent s p) p)) := by
  rw [exec_serialCharacterSent, execSerialCharacterSent]
  refine act_eq h (if_neg fun hn => ?_)
  rw [Option.isNone_iff_eq_none.1 hn] at hs
  contradiction

/-! ### Slots of the tray schedule (R638 to R640) -/

/-- The entry after the current one, and whether the table starts again. -/
def slotAfter (s : State) (p : Fin 4) : Nat × Bool :=
  match s.serial.ports[p].cur with
  | some c => if c + 1 < tableLength s p then (c + 1, false) else (0, true)
  | none => (0, false)

/-- A cycle counted when the table starts again. -/
def slotCounted (s : State) (p : Fin 4) : State := if (slotAfter s p).2 then s.inc Od.TRAY_CYCLE_CNT (p.val - 1) else s

/-- The element of the entry in TRAY_ENTRY. -/
def slotEntry (s : State) (p : Fin 4) : Nat := 64 * (p.val - 1) + (slotAfter s p).1

/-- The frame of an entry: its header, and with DIR = 0 its data and their checksum. -/
def slotFrame (s : State) (e : Nat) : TrayFrame :=
  let w := entryWord s e
  let data := leBytes (entryLen w) (s.g Od.TRAY_TX_DATA e)
  let bytes : List Byte := [0x55#8, BitVec.ofNat 8 (trayPid (w % 64))] ++ (if w.testBit 7 then [] else data ++ [entrySum w data])
  ⟨e, bytes, bytes, []⟩

/-- The slot begun: its entry current, its frame in progress. -/
def slotBegun (s : State) (p : Fin 4) : State :=
  (slotCounted s p).setSerial p fun q => { q with cur := some (slotAfter s p).1, frame := some (slotFrame (slotCounted s p) (slotEntry s p)) }

theorem slotCounted_kept (s : State) (p : Fin 4) : ObjectsKept [Od.TRAY_CYCLE_CNT.el (p.val - 1)] s (slotCounted s p) := by
  unfold slotCounted
  split
  · exact objectsKept_p _ _ _ _
  · exact .refl _ _

theorem slotCounted_serial (s : State) (p : Fin 4) : (slotCounted s p).serial = s.serial := by
  unfold slotCounted
  split <;> rfl

theorem slotCounted_dev (s : State) (p : Fin 4) : (slotCounted s p).dev = s.dev := by
  unfold slotCounted
  split <;> rfl

theorem slotCounted_boot (s : State) (p : Fin 4) : (slotCounted s p).boot = s.boot := by
  unfold slotCounted
  split <;> rfl

section
variable {s : State} {p : Fin 4} (h : Live s)
include h

theorem exec_traySlotStart_stopped (hr : trayRuns s p = false) : exec (.traySlotStart p) s = .next s := by
  rw [exec_traySlotStart, execTraySlotStart]
  exact act_eq_self h (if_pos hr)

section
variable (hf : s.serial.ports[p].frame = none)
include hf

theorem exec_traySlotStart_empty (hr : trayRuns s p = true) (hn : tableLength s p = 0) : exec (.traySlotStart p) s = .next s := by
  rw [exec_traySlotStart, execTraySlotStart]
  refine act_eq_self h ((if_neg (ne_false_of_eq_true hr)).trans ?_)
  dsimp only
  rw [hf]
  exact if_pos hn

theorem exec_traySlotStart_begins (hr : trayRuns s p = true) (hn : tableLength s p ≠ 0) (hp : (padOf (slotBegun s p) 1 p).isSome = true) :
    exec (.traySlotStart p) s = .next (keep s (spNext ((slotBegun s p).emit
      (.serialBreak p ((slotBegun s p).g Od.TRAY_BREAK_BITS) ((slotBegun s p).g Od.TRAY_DELIM_BITS))) p)) := by
  rw [exec_traySlotStart, execTraySlotStart]
  refine act_eq h ((if_neg (ne_false_of_eq_true hr)).trans ?_)
  dsimp only
  rw [hf]
  dsimp only
  exact (if_neg hn).trans (if_pos hp)

end
end

theorem trayRuns_iff {s : State} {p : Fin 4} : trayRuns s p = true ↔
    p.val ≠ 0 ∧ spMode s p = 2 ∧ (s.dev = .starting ∨ s.dev = .serving ∨ s.dev = .draining) := by
  simp [trayRuns, State.isDev, and_assoc, or_assoc]

/-- The pad of a function depends on the functions of the pads alone. -/
theorem padOf_congr {s t : State} (h : ∀ k : Fin 8, t.g Od.PAD_FUNC k = s.g Od.PAD_FUNC k) (fn p : Nat) : padOf t fn p = padOf s fn p := by
  simp only [padOf, h]

section
variable {s : State} {p : Fin 4}

theorem slotBegun_g {o : Ob} {e : Nat} (ho : o.el e / 4096 ≠ 0x63039) : (slotBegun s p).g o e = s.g o e := by
  have := p.isLt
  refine (slotCounted_kept s p).g ?_
  simp only [List.mem_singleton, Ob.el, Od.TRAY_CYCLE_CNT] at ho ⊢
  omega

theorem slotBegun_pad (fn q : Nat) : padOf (slotBegun s p) fn q = padOf s fn q := by
  refine padOf_congr (fun k => slotBegun_g ?_) fn q
  have := k.isLt
  simp only [Ob.el, Od.PAD_FUNC]
  omega

theorem slotBegun_mode : spMode (slotBegun s p) p = spMode s p := by
  have := p.isLt
  have hboot : (slotBegun s p).boot = s.boot := slotCounted_boot s p
  have hdev : (slotBegun s p).dev = s.dev := slotCounted_dev s p
  rw [spMode, spMode, hboot, hdev, slotBegun_g (by simp only [Ob.el, Od.SP_MODE]; omega)]

end

/-- The entry of the slot is one of the port's table. -/
theorem slotAfter_lt (s : State) (p : Fin 4) : (slotAfter s p).1 < 64 := by
  have htable : tableLength s p ≤ 64 := by
    rw [tableLength]
    exact (List.takeWhile_prefix _).length_le.trans_eq (List.length_range ..)
  unfold slotAfter
  split
  · split <;> dsimp only <;> omega
  · dsimp only; omega

theorem slotFrame_header (s : State) (e : Nat) : ∃ rest, (slotFrame s e).toSend = 0x55#8 :: BitVec.ofNat 8 (trayPid (entryWord s e % 64)) :: rest ∧
    ((entryWord s e).testBit 7 = true → rest = []) := by
  refine ⟨_, rfl, fun hw => ?_⟩
  rw [if_pos hw]
  rfl

theorem port_slotBegun (s : State) (p : Fin 4) : (slotBegun s p).serial.ports[p] =
    { s.serial.ports[p] with cur := some (slotAfter s p).1, frame := some (slotFrame (slotCounted s p) (slotEntry s p)) } := by
  refine ((slotCounted s p).port_setSerial p _).trans ?_
  rw [slotCounted_serial]

/-- A slot that has begun and sends the first byte of its header. -/
theorem slotBegun_sends {s : State} {p : Fin 4} (hr : trayRuns s p = true) (hs : s.serial.ports[p].shift = none)
    (hp : (padOf s 1 p).isSome = true) {rest : List Byte} (x : Output) (ht : (slotFrame (slotCounted s p) (slotEntry s p)).toSend = 0x55#8 :: rest) :
    spNext ((slotBegun s p).emit x) p = (((slotBegun s p).emit x).setSerial p fun q => { q with
      shift := some 0x55#8, frame := some { slotFrame (slotCounted s p) (slotEntry s p) with toSend := rest } }).emit (.serial p [0x55#8]) := by
  obtain ⟨-, hmode, hdev⟩ := trayRuns_iff.1 hr
  have hport := port_slotBegun s p
  refine spNext_frame (spSends_iff.2 ⟨?_, ?_, ?_, ?_⟩) ?_ ht
  · show spMode (slotBegun s p) p ≠ 0
    rw [slotBegun_mode]; omega
  · show (padOf (slotBegun s p) 1 p).isSome = true
    rw [slotBegun_pad]; exact hp
  · show (slotCounted s p).dev ≠ .held
    rw [slotCounted_dev]
    rintro hh
    rw [hh] at hdev
    simp at hdev
  · show (slotBegun s p).serial.ports[p].shift = none
    rw [hport]; exact hs
  · show (slotBegun s p).serial.ports[p].frame = _
    rw [hport]

/-- The port of a slot whose header goes out: the header's first byte is in the shifter, the rest of the frame is to be sent. -/
theorem port_slotStarted {s : State} {p : Fin 4} (hr : trayRuns s p = true) (hs : s.serial.ports[p].shift = none)
    (hp : (padOf s 1 p).isSome = true) {rest : List Byte} (x : Output) (ht : (slotFrame (slotCounted s p) (slotEntry s p)).toSend = 0x55#8 :: rest) :
    (spNext ((slotBegun s p).emit x) p).serial.ports[p] = { s.serial.ports[p] with
      cur := some (slotAfter s p).1, shift := some 0x55#8
      frame := some { slotFrame (slotCounted s p) (slotEntry s p) with toSend := rest } } ∧
    ObjectsKept [Od.TRAY_CYCLE_CNT.el (p.val - 1)] s (spNext ((slotBegun s p).emit x) p) := by
  rw [slotBegun_sends hr hs hp x ht]
  have hbegun : ((slotBegun s p).emit x).serial.ports[p] = _ := port_slotBegun s p
  have hod : ((slotBegun s p).emit x).od = (slotCounted s p).od := rfl
  refine ⟨(State.port_setSerial _ p _).trans ?_, (slotCounted_kept s p).trans (objectsKept_of_od hod)⟩
  rw [hbegun]

/-! ### The end of a frame that got no whole response (R640, R641) -/

/-- A frame ended with a status that is an error: the status stored and counted. -/
def frameFailed (s : State) (p : Fin 4) (f : TrayFrame) (st : Nat) : State :=
  ((s.setSerial p fun q => { q with frame := none }).p Od.TRAY_RX_STAT f.entry (s.g Od.TRAY_RX_STAT f.entry / 16 * 16 + st)).inc
    Od.TRAY_ERR_CNT (8 * (p.val - 1) + (st - 2))

/-- The violation of a failed frame logged. -/
def frameLogged (s : State) (p : Fin 4) (f : TrayFrame) (st : Nat) : State :=
  violation (frameFailed s p f st) 7 0xFF p (entryNode (entryWord s f.entry)) (st - 2) []

theorem frameEnd_failed {s : State} {p : Fin 4} {f : TrayFrame} (hf : s.serial.ports[p].frame = some f) {st : Nat} (h1 : st ≠ 1) (h6 : st ≠ 6) :
    frameEnd s p st = if (entryWord s f.entry).testBit 7 then nodeOutcome (frameLogged s p f st) p (entryNode (entryWord s f.entry)) st
      else frameLogged s p f st := by
  unfold frameEnd
  rw [hf]
  dsimp only
  rw [if_neg h1, if_neg h6]
  rfl

theorem frameEnd_none {s : State} {p : Fin 4} (hf : s.serial.ports[p].frame = none) (st : Nat) : frameEnd s p st = s := by
  unfold frameEnd
  rw [hf]

/-- A node's state and outcome change TRAY_NODE_STATE and what an event reaches, and no port. -/
structure NodeReach (s t : State) : Prop where
  ports : t.serial.ports = s.serial.ports
  kept : ∀ x, Quiet x → x / 4096 ≠ 0x63037 → At x s t

theorem nodeReach_nodeState (s : State) {p n : Nat} (v : Nat) (hp : p < 4) (hn : n < 16) : NodeReach s (nodeState s p n v) := by
  have hstate (x : Nat) (hx : x / 4096 ≠ 0x63037) : At x s (s.p Od.TRAY_NODE_STATE (16 * (p - 1) + n) v) := by
    refine at_p x s _ _ v ?_
    rintro rfl
    simp only [Ob.el, Od.TRAY_NODE_STATE] at hx
    omega
  unfold nodeState
  dsimp only
  split
  · have hr := evtReach_raise (s.p Od.TRAY_NODE_STATE (16 * (p - 1) + n) v) (p + 256 * n + 65536 * b2n (v == 2)) (e := Src.trayNode)
      (he := by decide)
    exact ⟨congrArg SerialSt.ports hr.only.serial_eq, fun x hq hx => (hstate x hx).trans (at_reach hr hq)⟩
  · exact ⟨rfl, fun x _ hx => hstate x hx⟩

theorem nodeReach_nodeOutcome (s : State) {p n : Nat} (st : Nat) (hp : p < 4) (hn : n < 16) : NodeReach s (nodeOutcome s p n st) := by
  have hmisses (m : Keyed Nat) : NodeReach s { s with serial := { s.serial with misses := m } } := ⟨rfl, fun x _ _ => at_od rfl⟩
  have hthen (m : Keyed Nat) (v : Nat) : NodeReach s (nodeState { s with serial := { s.serial with misses := m } } p n v) := by
    have hn' := nodeReach_nodeState { s with serial := { s.serial with misses := m } } v hp hn
    exact ⟨hn'.ports.trans rfl, fun x hq hx => ((hmisses m).kept x hq hx).trans (hn'.kept x hq hx)⟩
  unfold nodeOutcome
  dsimp only
  split
  · exact hthen _ _
  · split
    · split
      · exact hthen _ _
      · exact hmisses _
    · exact hmisses _

/-- After its status and its count, a failed frame reaches the log and its node alone. -/
theorem nodeReach_frameEnd {s : State} {p : Fin 4} {f : TrayFrame} (hf : s.serial.ports[p].frame = some f) {st : Nat} (h1 : st ≠ 1)
    (h6 : st ≠ 6) : NodeReach (frameFailed s p f st) (frameEnd s p st) := by
  have hlog : EvtReach (frameFailed s p f st) (frameLogged s p f st) := evtReach_violation ..
  have hlogged : NodeReach (frameFailed s p f st) (frameLogged s p f st) :=
    ⟨congrArg SerialSt.ports hlog.only.serial_eq, fun x hq _ => at_reach hlog hq⟩
  rw [frameEnd_failed hf h1 h6]
  split
  · have hnode := nodeReach_nodeOutcome (frameLogged s p f st) st p.isLt (n := entryNode (entryWord s f.entry)) (fieldOf_lt _ 19 16)
    exact ⟨hnode.ports.trans hlogged.ports, fun x hq hx => (hlogged.kept x hq hx).trans (hnode.kept x hq hx)⟩
  · exact hlogged

theorem exec_trayResponseTimeout_none {s : State} (h : Live s) {p : Fin 4} (hf : s.serial.ports[p].frame = none) :
    exec (.trayResponseTimeout p) s = .next s := by
  rw [exec_trayResponseTimeout, execTrayResponseTimeout]
  refine act_eq_self h ?_
  rw [hf]

theorem exec_trayResponseTimeout_sending {s : State} (h : Live s) {p : Fin 4} {f : TrayFrame} (hf : s.serial.ports[p].frame = some f)
    (hb : f.back ≠ []) : exec (.trayResponseTimeout p) s = .next s := by
  rw [exec_trayResponseTimeout, execTrayResponseTimeout]
  refine act_eq_self h ?_
  rw [hf]
  exact if_neg hb

theorem exec_trayResponseTimeout_ends {s : State} (h : Live s) {p : Fin 4} {f : TrayFrame} (hf : s.serial.ports[p].frame = some f)
    (hb : f.back = []) : exec (.trayResponseTimeout p) s = .next (keep s (frameEnd s p (if f.got = [] then 2 else 5))) := by
  rw [exec_trayResponseTimeout, execTrayResponseTimeout]
  refine act_eq h ?_
  rw [hf]
  exact if_pos hb

/-! ### Pads (R646, R647) -/

/-- What taking a pad from a port that has no frame reaches: error counts and events, and no frame. -/
structure AbortReach (s t : State) : Prop where
  frames : ∀ q : Fin 4, t.serial.ports[q].frame = s.serial.ports[q].frame
  kept : ∀ x, Quiet x → x / 4096 ≠ 0x63020 → At x s t

theorem AbortReach.refl (s : State) : AbortReach s s := ⟨fun _ => rfl, fun _ _ _ => rfl⟩

/-- The error count of an abort and its event. -/
theorem abortReach_error {s u : State} (hframes : ∀ q : Fin 4, u.serial.ports[q].frame = s.serial.ports[q].frame) (hod : u.od = s.od)
    (p : Fin 4) {k : Nat} (hk : k < 8) (d : Nat) : AbortReach s (raise (u.inc Od.SP_ERR_CNT (8 * p + k)) Src.spError d) := by
  have hr := evtReach_raise (u.inc Od.SP_ERR_CNT (8 * p + k)) d (e := Src.spError) (he := by decide)
  refine ⟨fun q => ?_, fun x hq hx => ((at_od hod).trans (at_inc x u _ _ ?_)).trans (at_reach hr hq)⟩
  · rw [hr.only.serial_eq]
    exact hframes q
  · rintro rfl
    have := p.isLt
    simp only [Ob.el, Od.SP_ERR_CNT] at hx
    omega

theorem abortReach_txAbort {s : State} {p : Fin 4} (hf : s.serial.ports[p].frame = none) : AbortReach s (txAbort s p) := by
  unfold txAbort
  rw [frameEnd_none hf]
  dsimp only
  split
  · refine abortReach_error (s := s) (u := s.setSerial p fun q => { q with shift := none }) (fun q => ?_) rfl p (k := 6) (by decide) _
    rcases eq_or_ne q p with rfl | hq
    · rw [s.port_setSerial]
    · rw [s.port_setSerial_ne _ hq]
  · exact .refl s

theorem abortReach_rxAbort {s : State} {p : Fin 4} (hf : s.serial.ports[p].frame = none) (busy : Bool) : AbortReach s (rxAbort s p busy) := by
  unfold rxAbort
  rw [frameEnd_none hf]
  dsimp only
  split
  · exact abortReach_error (fun _ => rfl) rfl p (k := 7) (by decide) _
  · exact .refl s

/-- The port of a pad's function given up, before PAD_FUNC is cleared. -/
def padAborted (s : State) (k : Fin 8) (busy : BitVec 4) : State :=
  let v := s.g Od.PAD_FUNC k
  let p : Fin 4 := ⟨fieldOf v 5 4 % 4, Nat.mod_lt _ (by decide)⟩
  if v % 8 = 1 then txAbort s p else if v % 8 = 2 then rxAbort s p (busy.getLsbD p) else s

theorem padLeave_eq (s : State) (k : Fin 8) (busy : BitVec 4) : padLeave s k busy = (padAborted s k busy).p Od.PAD_FUNC k 0 := rfl

theorem abortReach_padAborted {s : State} (hf : ∀ p : Fin 4, s.serial.ports[p].frame = none) (k : Fin 8) (busy : BitVec 4) :
    AbortReach s (padAborted s k busy) := by
  unfold padAborted
  dsimp only
  split
  · exact abortReach_txAbort (hf _)
  · split
    · exact abortReach_rxAbort (hf _) _
    · exact .refl s

theorem pad_quiet (j : Fin 8) : Quiet (Od.PAD_FUNC.el j) := by
  have := j.isLt
  simp only [Quiet, Ob.el, Od.PAD_FUNC]
  omega

theorem g_pad_padLeave {s : State} (hf : ∀ p : Fin 4, s.serial.ports[p].frame = none) (k j : Fin 8) (busy : BitVec 4) :
    (padLeave s k busy).g Od.PAD_FUNC j = if j = k then 0 else s.g Od.PAD_FUNC j := by
  have hkept : (padAborted s k busy).g Od.PAD_FUNC j = s.g Od.PAD_FUNC j := by
    refine At.g ((abortReach_padAborted hf k busy).kept _ (pad_quiet j) ?_)
    have := j.isLt
    simp only [Ob.el, Od.PAD_FUNC]
    omega
  rw [padLeave_eq]
  rcases eq_or_ne j k with rfl | hj
  · rw [State.g_p_self, if_pos rfl]; rfl
  · rw [State.g_p_ne _ _ (by simp only [Ob.el]; have := Fin.val_ne_of_ne hj; omega), hkept, if_neg hj]

theorem frames_padLeave {s : State} (hf : ∀ p : Fin 4, s.serial.ports[p].frame = none) (k : Fin 8) (busy : BitVec 4) (p : Fin 4) :
    (padLeave s k busy).serial.ports[p].frame = none := by
  rw [padLeave_eq]
  exact ((abortReach_padAborted hf k busy).frames p).trans (hf p)

/-- The pad that has the function written, if it is another than `k` (R647 step 2). -/
def padOwner (s : State) (k : Fin 8) (v : Nat) : Option (Fin 8) :=
  (if v % 8 = 1 ∨ v % 8 = 2 then padOf s (v % 8) (fieldOf v 5 4 % 4) else none).filter (· != k)

/-- The function taken from that pad. -/
def padFreed (s : State) (k : Fin 8) (v : Nat) (busy : BitVec 4) : State :=
  (padOwner s k v).elim s fun o => padLeave s o busy

/-- The function given to pad `k`. -/
def padGiven (s : State) (k : Fin 8) (v : Nat) (busy : BitVec 4) : State :=
  (padLeave (padFreed s k v busy) k busy).p Od.PAD_FUNC k v

theorem padOwner_eq_some {s : State} {k j : Fin 8} {v : Nat} : padOwner s k v = some j ↔
    (v % 8 = 1 ∨ v % 8 = 2) ∧ padOf s (v % 8) (fieldOf v 5 4) = some j ∧ j ≠ k := by
  have hport : fieldOf v 5 4 % 4 = fieldOf v 5 4 := Nat.mod_eq_of_lt (fieldOf_lt v 5 4)
  rw [padOwner, hport]
  split <;> simp [Option.filter_eq_some_iff, *]

theorem padWrite_range {s : State} {k : Fin 8} {v : Nat} (hv : 4 < v % 8 ∨ v ≠ v % 8 + 16 * fieldOf v 5 4) (busy : BitVec 4) :
    padWrite s k v busy = (s, 0x07) := if_pos hv

theorem padWrite_given {s : State} {k : Fin 8} {v : Nat} (hv : ¬(4 < v % 8 ∨ v ≠ v % 8 + 16 * fieldOf v 5 4)) (busy : BitVec 4) :
    padWrite s k v busy = (if v % 8 = 1 then spNext (padGiven s k v busy) ⟨fieldOf v 5 4 % 4, Nat.mod_lt _ (by decide)⟩
      else padGiven s k v busy, 0) := by
  unfold padWrite padGiven padFreed padOwner
  rw [if_neg hv]
  dsimp only
  generalize (if v % 8 = 1 ∨ v % 8 = 2 then padOf s (v % 8) (fieldOf v 5 4 % 4) else none) = owner
  cases owner with
  | none => rfl
  | some o =>
    by_cases ho : o = k
    · simp [Option.filter, ho]
    · simp [Option.filter, ho]

theorem g_pad_padGiven_self (s : State) (k : Fin 8) (v : Nat) (busy : BitVec 4) (hv : v < 2 ^ 8) :
    (padGiven s k v busy).g Od.PAD_FUNC k = v := (State.g_p_self ..).trans (Nat.mod_eq_of_lt hv)

section
variable {s : State} (hf : ∀ p : Fin 4, s.serial.ports[p].frame = none) (k : Fin 8) (v : Nat) (busy : BitVec 4)
include hf

theorem frames_padFreed (p : Fin 4) : (padFreed s k v busy).serial.ports[p].frame = none := by
  unfold padFreed
  cases padOwner s k v with
  | none => exact hf p
  | some o => exact frames_padLeave hf o busy p

theorem g_pad_padFreed (j : Fin 8) : (padFreed s k v busy).g Od.PAD_FUNC j = if padOwner s k v = some j then 0 else s.g Od.PAD_FUNC j := by
  unfold padFreed
  cases padOwner s k v with
  | none => simp
  | some o => simp only [Option.elim_some, g_pad_padLeave hf o j busy, Option.some.injEq, eq_comm]

theorem g_pad_padGiven_ne {j : Fin 8} (hj : j ≠ k) :
    (padGiven s k v busy).g Od.PAD_FUNC j = if padOwner s k v = some j then 0 else s.g Od.PAD_FUNC j := by
  rw [padGiven, State.g_p_ne _ _ (by simp only [Ob.el]; have := Fin.val_ne_of_ne hj; omega),
    g_pad_padLeave (frames_padFreed hf k v busy) k j busy, if_neg hj, g_pad_padFreed hf k v busy j]

end

/-- A byte of a port without a frame changes no object but what an event reaches. -/
theorem keptEv_spNext {s : State} {p : Fin 4} (hf : s.serial.ports[p].frame = none) : ObjectsKeptEv [] s (spNext s p) := by
  by_cases hm : spMode s p = 1
  · exact (txKept_spNext hm hf).kept
  · rw [spNext_other hm hf]
    exact .refl _ s

theorem frames_padGiven {s : State} (hf : ∀ p : Fin 4, s.serial.ports[p].frame = none) (k : Fin 8) (v : Nat) (busy : BitVec 4) (p : Fin 4) :
    (padGiven s k v busy).serial.ports[p].frame = none := frames_padLeave (frames_padFreed hf k v busy) k busy p

/-- A write of PAD_FUNC that is in range. -/
def padWritten (s : State) (k : Fin 8) (v : Nat) (busy : BitVec 4) : State :=
  if v % 8 = 1 then spNext (padGiven s k v busy) ⟨fieldOf v 5 4 % 4, Nat.mod_lt _ (by decide)⟩ else padGiven s k v busy

theorem g_pad_padWritten {s : State} (hf : ∀ p : Fin 4, s.serial.ports[p].frame = none) (k j : Fin 8) (v : Nat) (busy : BitVec 4) :
    (padWritten s k v busy).g Od.PAD_FUNC j = (padGiven s k v busy).g Od.PAD_FUNC j := by
  unfold padWritten
  split
  · exact At.g (at_ev (keptEv_spNext (frames_padGiven hf k v busy _)) (by simp) (pad_quiet j))
  · rfl

section
variable {s : State} (h : Live s) {who : Crib} {k : Fin 8} (hw : s.writeCodeOf who Od.PAD_FUNC k = 0) {v : Nat} (busy : BitVec 4)
include h hw

theorem exec_padFunc_range (hv : 4 < v % 8 ∨ v ≠ v % 8 + 16 * fieldOf v 5 4) :
    exec (.padFunc who k v busy) s = .next (s.answer who 0x07) := by
  rw [exec_padFunc, execPadFunc, actWrite_live h hw, padWrite_range hv]
  exact congrArg _ (keep_answer (keep_self s) who 0x07)

theorem exec_padFunc_written (hv : ¬(4 < v % 8 ∨ v ≠ v % 8 + 16 * fieldOf v 5 4)) :
    exec (.padFunc who k v busy) s = .next (keep s ((padWritten s k v busy).answer who 0)) := by
  rw [exec_padFunc, execPadFunc, actWrite_live h hw, padWrite_given hv]
  rfl

end

/-! ### What the commands leave, and O19 -/

theorem txData_effect {s : State} {p : Fin 4} (hm : spMode s p = 1) (hf : s.serial.ports[p].frame = none) {d : List Byte} (hd : d.length ≠ 0) :
    (spNext (spQueueTx s p d) p).serial.ports[p].waiting = s.serial.ports[p].waiting ++ d ∧
    (spSends s p = true → (spNext (spQueueTx s p d) p).serial.ports[p].shift.isSome = true) ∧
    (∀ q : Fin 4, q ≠ p → (spNext (spQueueTx s p d) p).serial.ports[q] = s.serial.ports[q]) ∧
    ObjectsKeptEv [] s (spNext (spQueueTx s p d) p) := by
  have hport : (spQueueTx s p d).serial.ports[p] = { s.serial.ports[p] with tx := s.serial.ports[p].tx ++ d } := s.port_setSerial p _
  have hframe : (spQueueTx s p d).serial.ports[p].frame = none := by rw [hport]; exact hf
  have hkept := txKept_spNext (s := spQueueTx s p d) (p := p) hm hframe
  refine ⟨?_, fun hs => ?_, fun q hq => (hkept.others q hq).trans (s.port_setSerial_ne _ hq), (objectsKeptEv_of_od rfl).trans hkept.kept⟩
  · rw [hkept.waiting, hport]
    exact (List.append_assoc ..).symm
  · have hs' : spSends (spQueueTx s p d) p = true := by
      obtain ⟨hmode, hpad, hdev, hshift⟩ := spSends_iff.1 hs
      exact spSends_iff.2 ⟨hmode, hpad, hdev, by rw [hport]; exact hshift⟩
    rw [(shift_spNext hs' hm hframe).1, hport]
    cases d with
    | nil => simp at hd
    | cons b t => simp

theorem sent_effect {s : State} {p : Fin 4} (hm : spMode s p = 1) (hf : s.serial.ports[p].frame = none)
    (hp : (padOf s 1 p).isSome = true) (hd : s.dev ≠ .held) :
    (spNext (spSent s p) p).serial.ports[p].shift = s.serial.ports[p].tx.head? ∧
    (spNext (spSent s p) p).serial.ports[p].tx = s.serial.ports[p].tx.tail ∧ ObjectsKeptEv [] s (spNext (spSent s p) p) := by
  have hport : (spSent s p).serial.ports[p] = { s.serial.ports[p] with shift := none } := s.port_setSerial p _
  have hframe : (spSent s p).serial.ports[p].frame = none := by rw [hport]; exact hf
  have hmode : spMode (spSent s p) p = 1 := hm
  have hs : spSends (spSent s p) p = true := spSends_iff.2 ⟨by omega, hp, hd, by rw [hport]⟩
  obtain ⟨hshift, htx⟩ := shift_spNext hs hmode hframe
  rw [hport] at hshift htx
  exact ⟨hshift, htx, (objectsKeptEv_of_od rfl).trans (txKept_spNext hmode hframe).kept⟩

/-- The word of the slot's entry is not touched by the count of the cycle. -/
theorem entryWord_slotCounted (s : State) (p : Fin 4) : entryWord (slotCounted s p) (slotEntry s p) = entryWord s (slotEntry s p) := by
  have := p.isLt
  have := slotAfter_lt s p
  refine (slotCounted_kept s p).g ?_
  simp only [List.mem_singleton, Ob.el, Od.TRAY_ENTRY, Od.TRAY_CYCLE_CNT, slotEntry]
  omega

/-- A slot that begins: its entry is current, its header goes out, and only the count of the cycle may differ. -/
theorem slot_effect {s : State} (h : Live s) {p : Fin 4} (hf : s.serial.ports[p].frame = none) (hr : trayRuns s p = true)
    (hn : tableLength s p ≠ 0) (hs : s.serial.ports[p].shift = none) (hp : (padOf s 1 p).isSome = true) {i : Nat}
    (hi : i = (slotAfter s p).1) :
    ∃ t, exec (.traySlotStart p) s = .next t ∧ t.serial.ports[p].cur = some i ∧ t.serial.ports[p].shift = some 0x55 ∧
      (t.serial.ports[p].frame.map TrayFrame.entry) = some (64 * (p - 1) + i) ∧
      ((entryWord s (64 * (p - 1) + i)).testBit 7 = true →
        t.serial.ports[p].frame.map TrayFrame.toSend = some [BitVec.ofNat 8 (trayPid (entryWord s (64 * (p - 1) + i) % 64))]) ∧
      ObjectsKept [Od.TRAY_CYCLE_CNT.el (p - 1)] s t := by
  obtain ⟨rest, hsend, hpid⟩ := slotFrame_header (slotCounted s p) (slotEntry s p)
  generalize hx : (Output.serialBreak p ((slotBegun s p).g Od.TRAY_BREAK_BITS) ((slotBegun s p).g Od.TRAY_DELIM_BITS)) = x at *
  obtain ⟨hport, hkept⟩ := port_slotStarted hr hs hp x hsend
  subst hi
  refine ⟨_, exec_traySlotStart_begins h hf hr hn (by rw [slotBegun_pad]; exact hp), ?_⟩
  rw [hx, keep_serial, hport]
  refine ⟨rfl, rfl, rfl, fun hw => ?_, hkept⟩
  rw [entryWord_slotCounted] at hpid
  rw [hpid hw, entryWord_slotCounted]
  rfl

/-- A failed frame's status, data and count. -/
theorem frameFailed_reads (s : State) (p : Fin 4) {f : TrayFrame} (he : f.entry < 192) {st : Nat} (h2 : 2 ≤ st) (h7 : st ≤ 7) :
    (frameFailed s p f st).g Od.TRAY_RX_STAT f.entry % 16 = st ∧
    (frameFailed s p f st).g Od.TRAY_RX_DATA f.entry = s.g Od.TRAY_RX_DATA f.entry ∧
    (frameFailed s p f st).g Od.TRAY_ERR_CNT (8 * (p.val - 1) + (st - 2)) = (s.g Od.TRAY_ERR_CNT (8 * (p.val - 1) + (st - 2)) + 1) % 2 ^ 32 := by
  have := p.isLt
  refine ⟨?_, ?_, ?_⟩
  · rw [frameFailed, State.inc, State.add, State.g_p_ne _ _ (by simp only [Ob.el, Od.TRAY_RX_STAT, Od.TRAY_ERR_CNT]; omega), State.g_p_self]
    simp only [Od.TRAY_RX_STAT]
    omega
  · rw [frameFailed, State.inc, State.add, State.g_p_ne _ _ (by simp only [Ob.el, Od.TRAY_RX_DATA, Od.TRAY_ERR_CNT]; omega),
      State.g_p_ne _ _ (by simp only [Ob.el, Od.TRAY_RX_DATA, Od.TRAY_RX_STAT]; omega)]
    rfl
  · rw [frameFailed, State.g_inc_self, State.g_p_ne _ _ (by simp only [Ob.el, Od.TRAY_RX_STAT, Od.TRAY_ERR_CNT]; omega)]
    rfl

theorem frameEnd_reads {s : State} {p : Fin 4} {f : TrayFrame} (hf : s.serial.ports[p].frame = some f) (he : f.entry < 192) {st : Nat}
    (h2 : 2 ≤ st) (h6 : st < 6) : (frameEnd s p st).serial.ports[p].frame = none ∧
    (frameEnd s p st).g Od.TRAY_RX_STAT f.entry % 16 = st ∧ (frameEnd s p st).g Od.TRAY_RX_DATA f.entry = s.g Od.TRAY_RX_DATA f.entry ∧
    (frameEnd s p st).g Od.TRAY_ERR_CNT (8 * (p.val - 1) + (st - 2)) = (s.g Od.TRAY_ERR_CNT (8 * (p.val - 1) + (st - 2)) + 1) % 2 ^ 32 := by
  have := p.isLt
  have hr := nodeReach_frameEnd hf (st := st) (by omega) (by omega)
  obtain ⟨hstat, hdata, hcount⟩ := frameFailed_reads s p he h2 (by omega)
  have hframe : (frameFailed s p f st).serial.ports[p].frame = none :=
    (congrArg SerialPort.frame (s.port_setSerial p fun q => { q with frame := none })).trans rfl
  have kept {o : Ob} {e : Nat} (hq : Quiet (o.el e)) (hn : o.el e / 4096 ≠ 0x63037) :
      (frameEnd s p st).g o e = (frameFailed s p f st).g o e := At.g (hr.kept _ hq hn)
  refine ⟨?_, ?_, ?_, ?_⟩
  · rw [hr.ports]; exact hframe
  · rw [kept (by simp only [Quiet, Ob.el, Od.TRAY_RX_STAT]; omega) (by simp only [Ob.el, Od.TRAY_RX_STAT]; omega), hstat]
  · rw [kept (by simp only [Quiet, Ob.el, Od.TRAY_RX_DATA]; omega) (by simp only [Ob.el, Od.TRAY_RX_DATA]; omega), hdata]
  · rw [kept (by simp only [Quiet, Ob.el, Od.TRAY_ERR_CNT]; omega) (by simp only [Ob.el, Od.TRAY_ERR_CNT]; omega), hcount]

/-- Settles O19: a byte goes from the queue to the shifter without leaving the order, a slot begins before its first byte is sent, a failed
frame reaches its status before the log and its node, and a pad is taken from its port before it is given. That a write of no byte or of
more than 128 answers LENGTH is the model's choice (assumption log 31). -/
theorem serialTransmittersSendInOrder : Obligations.SerialTransmittersSendInOrder := by
  unfold Obligations.SerialTransmittersSendInOrder
  refine ⟨fun s who p d h hw => ⟨exec_spTxData_length h hw, fun _ h1 hfree => exec_spTxData_range h hw h1 hfree,
      fun h0 h1 hfree hm hf => ?queued⟩,
    fun s p h => ⟨exec_serialCharacterSent_idle h, fun hs hm hf hp hd => ?sent⟩,
    fun s p h hf => ⟨exec_traySlotStart_stopped h, exec_traySlotStart_empty h hf, fun hr hn hs hp => ?slot⟩,
    fun s p h => ⟨exec_trayResponseTimeout_none h, fun f hf hb => exec_trayResponseTimeout_sending h hf hb, fun f hf hb he => ?ended⟩,
    fun s who k v busy h hw => ⟨exec_padFunc_range h hw busy, fun h4 hv hf => ?pad⟩⟩
  case queued =>
    obtain ⟨hwait, hshift, hothers, hkept⟩ := txData_effect hm hf h0
    exact ⟨_, exec_spTxData_queued h hw h0 h1 hfree, hwait, hshift, getLast?_out_answer .., hothers, hkept⟩
  case sent => exact ⟨_, exec_serialCharacterSent_next h hs, sent_effect hm hf hp hd⟩
  case slot =>
    refine slot_effect h hf hr hn hs hp ?_
    unfold slotAfter
    cases s.serial.ports[p].cur with
    | none => rfl
    | some c => dsimp only; split <;> rfl
  case ended =>
    refine ⟨_, exec_trayResponseTimeout_ends h hf hb, ?_⟩
    by_cases hg : f.got = []
    · simp only [hg, if_true]
      exact frameEnd_reads hf he (st := 2) (by decide) (by decide)
    · simp only [hg, if_false]
      exact frameEnd_reads hf he (st := 5) (by decide) (by decide)
  case pad =>
    have hfield := fieldOf_lt v 5 4
    have hreads (j : Fin 8) (hj : j ≠ k) := (g_pad_padWritten hf k j v busy).trans (g_pad_padGiven_ne hf k v busy hj)
    refine ⟨_, exec_padFunc_written h hw busy (by omega), ?_, getLast?_out_answer .., fun j hj hfn ho => ?_, fun j hj hno => ?_⟩
    · exact (g_pad_padWritten hf k k v busy).trans (g_pad_padGiven_self s k v busy (by omega))
    · exact (hreads j hj).trans (if_pos (padOwner_eq_some.2 ⟨hfn, ho, hj⟩))
    · refine (hreads j hj).trans (if_neg fun ho => hno ?_)
      obtain ⟨hfn, howner, -⟩ := padOwner_eq_some.1 ho
      exact ⟨hfn, howner⟩

end Sys2Proof.Machine
end

section
/-! SUPPORT. The minute ledger: what metering and the second leave, the timebase, the tariff's copy and the ring's acknowledgement, and
O20. -/

namespace Sys2Proof.Machine

/-! ### What the ledger's own changes leave (R649, R653) -/

/-- Nothing but the ledger differs. -/
def LedgerOnly (s t : State) : Prop := t = { s with ledger := t.ledger }

theorem LedgerOnly.refl (s : State) : LedgerOnly s s := rfl

theorem LedgerOnly.trans {s t u : State} (h : LedgerOnly s t) (k : LedgerOnly t u) : LedgerOnly s u := by
  unfold LedgerOnly at *
  rw [k, h]

theorem LedgerOnly.od_eq {s t : State} (h : LedgerOnly s t) : t.od = s.od := by rw [h]
theorem LedgerOnly.dev_eq {s t : State} (h : LedgerOnly s t) : t.dev = s.dev := by rw [h]
theorem LedgerOnly.g {s t : State} (h : LedgerOnly s t) (o : Ob) (e : Nat) : t.g o e = s.g o e := by rw [h]; rfl

theorem ledgerOnly_setLedger (s : State) (f : LedgerSt → LedgerSt) : LedgerOnly s (s.setLedger f) := rfl

theorem ledgerOnly_meter (s : State) (c k n : Nat) : LedgerOnly s (meter s c k n) := meter_eq ..

theorem ledgerOnly_chargeEnergy (s : State) (c n : Nat) : LedgerOnly s (chargeEnergy s c n) := ledgerOnly_meter ..

theorem ledgerOnly_each {α : Type} (l : List α) (f : State → α → State) (hf : ∀ u x, LedgerOnly u (f u x)) (s : State) :
    LedgerOnly s (s.each l f) := each_rel (R := LedgerOnly) .refl .trans l f (fun u x _ => hf u x) s

theorem ledgerOnly_divide (s : State) (e : Nat) (ws : List (Nat × Nat)) : LedgerOnly s (divide s e ws) := by
  unfold divide
  dsimp only
  split
  · exact ledgerOnly_chargeEnergy ..
  · refine LedgerOnly.trans ?_ (ledgerOnly_chargeEnergy _ _ _)
    exact ledgerOnly_each _ _ (fun u _ => ledgerOnly_chargeEnergy u _ _) s

theorem ledgerOnly_ctrlSecond (s : State) (e : Nat) : LedgerOnly s (ctrlSecond s e) :=
  (ledgerOnly_chargeEnergy s 0 _).trans (ledgerOnly_divide ..)

/-- What metering keeps of the accounts: which of them have an open minute. -/
structure Metered (s t : State) : Prop where
  only : LedgerOnly s t
  isOpen : ∀ c : Fin 33, t.ledger.accts[c].isOpen = s.ledger.accts[c].isOpen

theorem Metered.refl (s : State) : Metered s s := ⟨.refl s, fun _ => rfl⟩

theorem Metered.trans {s t u : State} (h : Metered s t) (k : Metered t u) : Metered s u :=
  ⟨h.only.trans k.only, fun c => (k.isOpen c).trans (h.isOpen c)⟩

theorem metered_setAcct (s : State) (c : Nat) {f : Account → Account} (hf : ∀ a, (f a).isOpen = a.isOpen) : Metered s (setAcct s c f) := by
  unfold setAcct
  split
  · next h =>
    refine ⟨rfl, fun j => ?_⟩
    rcases eq_or_ne c j.val with rfl | hj
    · simpa [State.setLedger] using hf _
    · simp [State.setLedger, hj]
  · exact .refl s

theorem metered_meter (s : State) (c k n : Nat) : Metered s (meter s c k n) := by
  have hacct := metered_setAcct s c (f := fun a => { a with fine := Keyed.put a.fine k (Keyed.getD a.fine k 0 + n) 0 }) fun _ => rfl
  unfold meter
  split
  · split
    · dsimp only
      split
      · exact hacct.trans ⟨rfl, fun _ => rfl⟩
      · exact hacct
    · exact .refl s
  · exact .refl s

theorem metered_ledgerTicks (s : State) (n : Nat) : Metered s (ledgerTicks s n) := by
  have hdrives : Metered s (s.each (List.finRange 16) fun s (d : Drive) =>
      if s.g Od.DRV_DISC d ≠ 0xFFFF ∧ s.g Od.DRV_STATE d ≤ 3 then meter s (s.ledger.holder[d]) (s.g Od.DRV_STATE d) n else s) := by
    refine each_rel (R := Metered) .refl .trans _ _ (fun u d _ => ?_) s
    split
    · exact metered_meter ..
    · exact .refl u
  have hms (u : State) : Metered u (u.each (openAccts u) fun s c => setAcct s c fun a => { a with ms := a.ms + n }) := by
    refine each_rel (R := Metered) .refl .trans _ _ (fun v c _ => ?_) u
    exact metered_setAcct v c fun _ => rfl
  unfold ledgerTicks
  split
  · exact .refl s
  · dsimp only
    split
    · exact (hdrives.trans (metered_meter ..)).trans (hms _)
    · exact hdrives.trans (hms _)

theorem acct_fin (s : State) (c : Fin 33) : s.acct c = s.ledger.accts[c] := dif_pos c.isLt

theorem openAccts_congr {s t : State} (h : ∀ c : Fin 33, t.ledger.accts[c].isOpen = s.ledger.accts[c].isOpen) :
    openAccts t = openAccts s := by
  unfold openAccts below
  refine List.filter_congr fun c hc => ?_
  have hc' : c < 33 := List.mem_range.1 hc
  rw [acct_fin t ⟨c, hc'⟩, acct_fin s ⟨c, hc'⟩, h]

/-! ### The second (R652, R653, R701) -/

/-- The readings of one rail stored. -/
def railStored (s : State) (r : Nat × Nat × Nat) (i : Nat) : State :=
  ((s.p Od.PWR_RAIL_MV i r.1).p Od.PWR_RAIL_MA i r.2.1).add Od.PWR_RAIL_UJ i r.2.2

/-- The readings of the rails of a list stored, from rail `k` on. -/
def railsStored (s : State) (l : List (Nat × Nat × Nat)) (k : Nat) : State := s.each (l.zipIdx k) fun s (r, i) => railStored s r i

theorem railsStored_cons (s : State) (r : Nat × Nat × Nat) (l : List (Nat × Nat × Nat)) (k : Nat) :
    railsStored s (r :: l) k = railsStored (railStored s r k) l (k + 1) := rfl

/-- The three elements of rail `i`. -/
def railPlaces (i : Nat) : List Nat := [Od.PWR_RAIL_MV.el i, Od.PWR_RAIL_MA.el i, Od.PWR_RAIL_UJ.el i]

theorem at_railStored {x i j : Nat} (s : State) (r : Nat × Nat × Nat) (hx : x ∈ railPlaces i) (hi : i < 7) (hj : j < 7) (hij : i ≠ j) :
    At x s (railStored s r j) := by
  simp only [railPlaces, List.mem_cons, List.not_mem_nil, or_false, Ob.el, Od.PWR_RAIL_MV, Od.PWR_RAIL_MA, Od.PWR_RAIL_UJ] at hx
  exact ((at_p x s Od.PWR_RAIL_MV j _ (by simp only [Ob.el, Od.PWR_RAIL_MV]; omega)).trans
    (at_p x _ Od.PWR_RAIL_MA j _ (by simp only [Ob.el, Od.PWR_RAIL_MA]; omega))).trans
    (at_add x _ Od.PWR_RAIL_UJ j _ (by simp only [Ob.el, Od.PWR_RAIL_UJ]; omega))

/-- Rails from `k` on leave those below `k`. -/
theorem at_railsStored {x i : Nat} (l : List (Nat × Nat × Nat)) {k : Nat} (s : State) (hx : x ∈ railPlaces i) (hi : i < k)
    (hk : k + l.length ≤ 7) : At x s (railsStored s l k) := by
  induction l generalizing s k with
  | nil => exact .refl x s
  | cons r t ih =>
    simp only [List.length_cons] at hk
    rw [railsStored_cons]
    exact (at_railStored s r hx (by omega) (by omega) (by omega)).trans (ih _ (by omega) (by omega))

/-- The readings of a rail, as they stand after the second. -/
def RailReads (s t : State) (r : Nat × Nat × Nat) (i : Nat) : Prop :=
  t.g Od.PWR_RAIL_MV i = r.1 % 2 ^ 16 ∧ t.g Od.PWR_RAIL_MA i = r.2.1 % 2 ^ 32 ∧ t.g Od.PWR_RAIL_UJ i = (s.g Od.PWR_RAIL_UJ i + r.2.2) % 2 ^ 64

theorem RailReads.kept {s t u : State} {r : Nat × Nat × Nat} {i : Nat} (h : RailReads s t r i) (hu : ∀ x ∈ railPlaces i, At x t u) :
    RailReads s u r i := by
  obtain ⟨hmv, hma, huj⟩ := h
  exact ⟨(At.g (hu _ (by simp [railPlaces]))).trans hmv, (At.g (hu _ (by simp [railPlaces]))).trans hma,
    (At.g (hu _ (by simp [railPlaces]))).trans huj⟩

theorem railReads_railStored (s : State) (r : Nat × Nat × Nat) (i : Nat) : RailReads s (railStored s r i) r i := by
  refine ⟨?_, ?_, ?_⟩
  · rw [railStored, State.add, State.g_p_ne _ _ (by simp only [Ob.el, Od.PWR_RAIL_MV, Od.PWR_RAIL_UJ]; omega),
      State.g_p_ne _ _ (by simp only [Ob.el, Od.PWR_RAIL_MV, Od.PWR_RAIL_MA]; omega), State.g_p_self]
    rfl
  · rw [railStored, State.add, State.g_p_ne _ _ (by simp only [Ob.el, Od.PWR_RAIL_MA, Od.PWR_RAIL_UJ]; omega), State.g_p_self]
    rfl
  · rw [railStored, State.g_add_self, State.g_p_ne _ _ (by simp only [Ob.el, Od.PWR_RAIL_UJ, Od.PWR_RAIL_MA]; omega),
      State.g_p_ne _ _ (by simp only [Ob.el, Od.PWR_RAIL_UJ, Od.PWR_RAIL_MV]; omega)]
    rfl

theorem railReads_railsStored (l : List (Nat × Nat × Nat)) {k i : Nat} {r : Nat × Nat × Nat} (s : State) (hi : l[i]? = some r)
    (hk : k + l.length ≤ 7) : RailReads s (railsStored s l k) r (k + i) := by
  induction l generalizing s k i with
  | nil => simp at hi
  | cons r0 t ih =>
    simp only [List.length_cons] at hk
    rw [railsStored_cons]
    cases i with
    | zero =>
      obtain rfl : r0 = r := by simpa using hi
      exact (railReads_railStored s r0 k).kept fun x hx => at_railsStored t _ hx (by omega) (by omega)
    | succ i =>
      have hi' : t[i]? = some r := by simpa using hi
      obtain ⟨hlt, -⟩ := List.getElem?_eq_some_iff.1 hi'
      obtain ⟨hmv, hma, huj⟩ := ih (railStored s r0 k) hi' (k := k + 1) (by omega)
      have hbefore : (railStored s r0 k).g Od.PWR_RAIL_UJ (k + (i + 1)) = s.g Od.PWR_RAIL_UJ (k + (i + 1)) :=
        At.g (at_railStored s r0 (i := k + (i + 1)) (by simp [railPlaces]) (by omega) (by omega) (by omega))
      rw [show k + 1 + i = k + (i + 1) by omega] at hmv hma huj
      exact ⟨hmv, hma, hbefore ▸ huj⟩

/-- A stage's energy of the second changes STAGE_BUS_UJ of that stage and the ledger. -/
theorem stageSecond_od (s : State) (i : Stage) : ObjectsKept [Od.STAGE_BUS_UJ.el i] s (stageSecond s i) ∧ (stageSecond s i).dev = s.dev := by
  unfold stageSecond
  dsimp only
  generalize hu : State.p (s.setLedger _) _ _ _ = u
  have hod : ObjectsKept [Od.STAGE_BUS_UJ.el i] s u := hu ▸ objectsKept_p (s.setLedger _) Od.STAGE_BUS_UJ i _
  have hdev : u.dev = s.dev := hu ▸ rfl
  have hledger {t : State} (h : LedgerOnly u t) : ObjectsKept [Od.STAGE_BUS_UJ.el i] s t ∧ t.dev = s.dev :=
    ⟨hod.trans (objectsKept_of_od h.od_eq), h.dev_eq.trans hdev⟩
  split
  · exact hledger (.refl u)
  · split
    · exact hledger (ledgerOnly_setLedger ..)
    · exact hledger ((ledgerOnly_setLedger ..).trans (ledgerOnly_divide ..))

/-- Without a running ledger no account is charged. -/
theorem accts_stageSecond {s : State} (h : s.ledgerRuns = false) (i : Stage) : (stageSecond s i).ledger.accts = s.ledger.accts := by
  unfold stageSecond
  exact (congrArg (fun u : State => u.ledger.accts) (if_pos h)).trans rfl

/-- The controller's energy and the caches' occupancy of the second. -/
def secondMetered (s : State) (e : Nat) : State :=
  let s := ctrlSecond s e
  let s := s.each (List.range 33) fun s c => meter (meter s c 11 (4 * s.g Od.SHELF_LINES c)) c 12 (64 * s.g Od.HAYLOFT_LINES c)
  meter s 0 12 (64 * s.g Od.HAYLOFT_LINES 33)

theorem ledgerOnly_secondMetered (s : State) (e : Nat) : LedgerOnly s (secondMetered s e) :=
  ((ledgerOnly_ctrlSecond s e).trans
    (ledgerOnly_each _ _ (fun u _ => (ledgerOnly_meter u _ _ _).trans (ledgerOnly_meter _ _ _ _)) _)).trans (ledgerOnly_meter _ _ _ _)

/-- The second before its counts start anew. -/
def secondTaken (s : State) (rails : List (Nat × Nat × Nat)) : State :=
  let t := (railsStored s (rails.take 7) 0).each (List.finRange 5) stageSecond
  if t.ledgerRuns then secondMetered t ((rails.take 7).map fun r => r.2.2).sum else t

/-- The counts of the second start anew. -/
def countsAnew (s : State) : State := s.setLedger fun l => { l with sec := [], weight := [] }

theorem countsAnew_reads (s : State) : (countsAnew s).ledger.sec = [] ∧ (countsAnew s).ledger.weight = [] ∧
    (countsAnew s).ledger.accts = s.ledger.accts ∧ (countsAnew s).od = s.od := ⟨rfl, rfl, rfl, rfl⟩

theorem exec_ledgerSecond_taken {s : State} (h : Live s) (rails : List (Nat × Nat × Nat)) :
    exec (.ledgerSecond rails) s = .next (keep s (countsAnew (secondTaken s rails))) := by
  rw [exec_ledgerSecond, execLedgerSecond]
  exact act_eq h rfl

theorem ledger_railsStored (l : List (Nat × Nat × Nat)) (k : Nat) (s : State) :
    (railsStored s l k).ledger = s.ledger ∧ (railsStored s l k).dev = s.dev := by
  refine each_inv (P := fun u => u.ledger = s.ledger ∧ u.dev = s.dev) _ _ (fun u x _ hu => ?_) ⟨rfl, rfl⟩
  obtain ⟨r, i⟩ := x
  exact hu

/-- The stages' part of the second leaves the rails and, without a running ledger, the accounts. -/
theorem stagesSecond_kept (s : State) {x i : Nat} (hx : x ∈ railPlaces i) (hi : i < 7) : At x s (s.each (List.finRange 5) stageSecond) := by
  refine at_each _ _ (fun u j _ => (stageSecond_od u j).1 x ?_) s
  simp only [railPlaces, List.mem_cons, List.not_mem_nil, or_false, Ob.el, Od.PWR_RAIL_MV, Od.PWR_RAIL_MA, Od.PWR_RAIL_UJ,
    Od.STAGE_BUS_UJ] at hx ⊢
  omega

theorem stagesSecond_stopped {s : State} (h : s.ledgerRuns = false) :
    (s.each (List.finRange 5) stageSecond).ledger.accts = s.ledger.accts ∧ (s.each (List.finRange 5) stageSecond).ledgerRuns = false := by
  refine each_inv (P := fun u => u.ledger.accts = s.ledger.accts ∧ u.ledgerRuns = false) _ _ (fun u i _ hu => ?_) ⟨rfl, h⟩
  refine ⟨(accts_stageSecond hu.2 i).trans hu.1, ?_⟩
  rw [State.ledgerRuns, State.isDev, State.isDev, State.isDev, (stageSecond_od u i).2]
  exact hu.2

theorem railReads_secondTaken (s : State) {rails : List (Nat × Nat × Nat)} {i : Nat} (hi : i < 7) {r : Nat × Nat × Nat}
    (hr : rails[i]? = some r) : RailReads s (secondTaken s rails) r i := by
  have hstored : RailReads s (railsStored s (rails.take 7) 0) r (0 + i) :=
    railReads_railsStored _ s (by rw [List.getElem?_take, if_pos hi, hr]) (by simp)
  rw [Nat.zero_add] at hstored
  refine hstored.kept fun x hx => (stagesSecond_kept _ hx hi).trans ?_
  unfold secondTaken
  dsimp only
  split
  · exact at_od (ledgerOnly_secondMetered _ _).od_eq
  · exact .refl x _

theorem accts_secondTaken {s : State} (h : s.ledgerRuns = false) (rails : List (Nat × Nat × Nat)) :
    (secondTaken s rails).ledger.accts = s.ledger.accts := by
  obtain ⟨hledger, hdev⟩ := ledger_railsStored (rails.take 7) 0 s
  have hruns : (railsStored s (rails.take 7) 0).ledgerRuns = false := by
    rw [State.ledgerRuns, State.isDev, State.isDev, State.isDev, hdev]
    exact h
  obtain ⟨haccts, hstopped⟩ := stagesSecond_stopped hruns
  unfold secondTaken
  dsimp only
  rw [if_neg (by rw [hstopped]; exact Bool.false_ne_true), haccts, hledger]

/-! ### The minute and the timebase (R655 to R659) -/

section
variable {s : State} (h : Live s)
include h

theorem exec_ledgerMinuteBoundary_stopped (hr : s.ledgerRuns = false) : exec .ledgerMinuteBoundary s = .next s := by
  rw [exec_ledgerMinuteBoundary, execLedgerMinuteBoundary]
  exact act_eq_self h (if_pos hr)

theorem exec_ledgerMinuteBoundary_none (hm : minuteEnd s = none) : exec .ledgerMinuteBoundary s = .next s := by
  rw [exec_ledgerMinuteBoundary, execLedgerMinuteBoundary]
  refine act_eq_self h ?_
  rw [hm]
  exact ite_self _

theorem exec_ledgerMinuteBoundary_open (hr : s.ledgerRuns = true) {e : Nat} (hm : minuteEnd s = some e) :
    exec .ledgerMinuteBoundary s = .next (keep s (if s.utc < e then passTime s (e - s.utc) (e - s.utc) else boundary s)) := by
  rw [exec_ledgerMinuteBoundary, execLedgerMinuteBoundary]
  refine act_eq h ((if_neg (ne_false_of_eq_true hr)).trans ?_)
  rw [hm]

theorem exec_utcSet_admitted {who : Crib} (hw : s.writeCodeOf who Od.UTC_SET 0 = 0) {v : Nat} (hv : v < 2 ^ 64) :
    exec (.utcSet who v) s = .next (keep s ((utcSet s v).answer who 0)) := by
  rw [exec_utcSet, execUtcSet, actWrite_live h hw, Nat.mod_eq_of_lt hv]

end

/-- The next ledger tick, at which a write of UTC_SET takes effect (R655). -/
def nextTick (s : State) : Nat := s.utc + (tickNs - s.utc % tickNs)

/-- A value of UTC_SET that is a step and not a slew (R656). -/
def IsStep (s : State) (v : Nat) : Prop := s.g Od.TIME_SYNC = 0 ∨ (s.g Od.LEDGER_SLEW_MAX * 1000000 : Int) < |(v : Int) - nextTick s|

theorem utcSet_slew {s : State} {v : Nat} (h : ¬IsStep s v) :
    utcSet s v = (toTick s).setLedger fun l => { l with slew := (v : Int) - nextTick s, slewPhase := 0 } := if_neg h

/-- The state at the tick at which the timebase steps. -/
def stepTick (s : State) : State :=
  ((ledgerTicks { s with now := s.now + (tickNs - s.utc % tickNs) } 1).p Od.UTC_NOW 0 (nextTick s)).setLedger fun l =>
    { l with slew := 0, slewPhase := 0 }

theorem utcSet_step {s : State} {v : Nat} (h : IsStep s v) : utcSet s v = timeStep (stepTick s) v := if_pos h

theorem stepTick_reads (s : State) : (stepTick s).ledger.slew = 0 ∧ openAccts (stepTick s) = openAccts s ∧ TotalsKept s (stepTick s) := by
  have hm := metered_ledgerTicks { s with now := s.now + (tickNs - s.utc % tickNs) } 1
  refine ⟨rfl, openAccts_congr hm.isOpen, ?_⟩
  · exact (totalsKept_of_od hm.only.od_eq).trans (totalsKept_p _ Od.UTC_NOW 0 _ (by decide))

/-- The timebase at its new value, synchronised, before the step is counted and told. -/
def timeSet (s : State) (v : Nat) : State := ((s.p Od.UTC_NOW 0 v).p Od.TIME_SYNC 0 1).inc Od.TIME_STEP_CNT

/-- With no open minute a step sets the timebase and tells of it. -/
theorem timeStep_closed {s : State} (h : openAccts s = []) (v : Nat) :
    timeStep s v = raise (timeSet s v) Src.timeStep (ofInt 64 ((v : Int) - s.utc)) := by
  have hclose : closeAll s 64 true = s := if_pos h
  unfold timeStep
  dsimp only
  rw [hclose, if_pos h, if_neg (by simp [h])]
  rfl

theorem timeSet_reads (s : State) {v : Nat} (hv : v < 2 ^ 64) : (timeSet s v).g Od.UTC_NOW = v ∧ (timeSet s v).g Od.TIME_SYNC = 1 ∧
    TotalsKept s (timeSet s v) := by
  refine ⟨?_, ?_, ?_⟩
  · exact (State.g_p_other _ 0 _ (by decide)).trans ((State.g_p_other _ 0 _ (by decide)).trans
      ((State.g_p_self ..).trans (Nat.mod_eq_of_lt hv)))
  · exact (State.g_p_other _ 0 _ (by decide)).trans (State.g_p_self ..)
  · exact ((totalsKept_p _ Od.UTC_NOW 0 _ (by decide)).trans (totalsKept_p _ Od.TIME_SYNC 0 _ (by decide))).trans
      (totalsKept_p _ Od.TIME_STEP_CNT 0 _ (by decide))

theorem quiet_of_ledger {x : Nat} (h : x / 2 ^ 24 = 0x70) : Quiet x := ⟨by omega, by omega, by omega⟩

/-- The timebase stepped to `v`, as it is read afterwards. -/
def Stepped (s : State) (v : Nat) (t : State) : Prop :=
  t.utc = v ∧ t.g Od.TIME_SYNC = 1 ∧ t.ledger.slew = 0 ∧ Raised Src.timeStep s t

theorem Stepped.answered {s t : State} {v : Nat} (h : Stepped s v t) (who : Nat) : Stepped s v (keep s (t.answer who 0)) := h

theorem stepped_utcSet {s : State} {v : Nat} (hs : IsStep s v) (hv : v < 2 ^ 64) (ho : openAccts s = []) : Stepped s v (utcSet s v) := by
  obtain ⟨hslew, hopen, htick⟩ := stepTick_reads s
  obtain ⟨hutc, hsync, hset⟩ := timeSet_reads (stepTick s) hv
  have hr := evtReach_raise (timeSet (stepTick s) v) (ofInt 64 ((v : Int) - (stepTick s).utc)) (e := Src.timeStep) (he := by decide)
  rw [utcSet_step hs, timeStep_closed (hopen.trans ho)]
  refine ⟨?_, ?_, ?_, ?_⟩
  · exact (At.g (at_reach hr (quiet_of_ledger (by decide)))).trans hutc
  · exact (At.g (at_reach hr (quiet_of_ledger (by decide)))).trans hsync
  · rw [hr.only.ledger_eq]
    exact hslew
  · exact (raised_raise _ _ 0 (by decide) (by decide)).of_totalsKept (htick.trans hset) (by decide)

/-! ### Tariffs (R662) -/

/-- The staged tariff, as ARM copies it. -/
def stagedTariff (s : State) : Tariff :=
  ⟨(List.range 128).map fun i => s.g Od.TARIFF_PEND_RATE i, (List.range 8).map fun i => s.g Od.TARIFF_PEND_FREE i,
    (List.range 33).map fun i => s.g Od.TARIFF_PEND_PLAN i, s.g Od.TARIFF_EFFECTIVE⟩

/-- The pending tariff set, and its copy asked of the Chest. -/
def tariffAsked (s : State) (arm : Bool) : State × Bool :=
  (s.setLedger fun l => { l with pend := if arm then some (stagedTariff s) else none }).chestPut Region.state Pos.tariff [.tariff arm]

/-- What TARIFF_ARM leaves: the answer and the state of the copy, once it is made. -/
def tariffAnswered (s : State) (who : Crib) (arm : Bool) : State :=
  if (tariffAsked s arm).2 then ((tariffAsked s arm).1.p Od.TARIFF_PEND_STATE 0 (b2n arm)).answer who 0 else (tariffAsked s arm).1

theorem exec_tariff_busy {s : State} (h : Live s) {who : Crib} (hw : s.writeCodeOf who Od.TARIFF_ARM 0 = 0) (hp : s.g Od.PF_STATE ≠ 0)
    (v : Nat) : armWrite who v s = .next (s.answer who 0x0A) := by
  have harm : tariffArm s v = (s, 0x0A) := if_pos hp
  refine act_eq_of_keep h ?_ (keep_answer (keep_self s) who 0x0A)
  dsimp only
  rw [if_neg (not_not.2 hw), harm]
  exact if_neg (by decide : (0x0A : Nat) ≠ 0x100)

theorem tariffArm_free {s : State} (hp : s.g Od.PF_STATE = 0) (arm : Bool) : tariffArm s (if arm then 1 else 2) =
    (if (tariffAsked s arm).2 then (tariffAsked s arm).1.p Od.TARIFF_PEND_STATE 0 (b2n arm) else (tariffAsked s arm).1,
      if (tariffAsked s arm).2 then 0 else 0x100) := by
  unfold tariffArm
  rw [if_neg (not_not.2 hp)]
  cases arm <;> rfl

theorem exec_tariff_free {s : State} (h : Live s) {who : Crib} (hw : s.writeCodeOf who Od.TARIFF_ARM 0 = 0) (hp : s.g Od.PF_STATE = 0)
    (arm : Bool) : exec (if arm then .arm who else .cancel who) s = .next (keep s (tariffAnswered s who arm)) := by
  have hexec : exec (if arm then .arm who else .cancel who) s = armWrite who (if arm then 1 else 2) s := by
    cases arm
    · exact exec_cancel ..
    · exact exec_arm ..
  rw [hexec]
  refine act_eq h ?_
  dsimp only
  rw [if_neg (not_not.2 hw), tariffArm_free hp, tariffAnswered]
  split <;> rfl

theorem tariffAsked_only (s : State) (arm : Bool) :
    (tariffAsked s arm).1.ledger = { s.ledger with pend := if arm then some (stagedTariff s) else none } ∧
    (tariffAsked s arm).1.out = s.out ∧
    ObjectsKept [Od.CHEST_WRITES.el Region.state, Od.CHEST_WEAR_MAX.el Region.state] s (tariffAsked s arm).1 := by
  have hc := chestOnly_chestPut (s.setLedger fun l => { l with pend := if arm then some (stagedTariff s) else none }) Region.state Pos.tariff
    [.tariff arm]
  refine ⟨?_, hc.out_eq, (objectsKept_of_od rfl).trans (chestPut_counts _ Pos.tariff [.tariff arm])⟩
  rw [tariffAsked, hc]
  rfl

theorem tariffAsked_made {s : State} (hw : s.chestWaiting Region.state Pos.tariff = false) (hf : s.chestFree Region.state Pos.tariff = true)
    (arm : Bool) : (tariffAsked s arm).2 = true := by
  unfold tariffAsked State.chestPut
  rw [if_neg (by exact ne_true_of_eq_false hw), if_pos (by exact hf)]

/-! ### The ring's acknowledgement (R672 to R675) -/

/-- LEDGER_FREE as R672 gives it. -/
def ringFree (s : State) : Nat := 65536 - (s.g Od.LEDGER_HEAD + 2 ^ 32 - s.g Od.LEDGER_ACK) % 2 ^ 32

/-- LEDGER_FREE written. -/
def freeWritten (s : State) : State := s.p Od.LEDGER_FREE 0 (ringFree s)

/-- What following the ring's room changes after LEDGER_FREE: what an event reaches, and of the ledger whether LEDGER_LOW is raised. -/
structure RoomReach (s t : State) : Prop where
  kept : ∀ x, Quiet x → At x s t
  ledger : t.ledger = { s.ledger with lowRaised := t.ledger.lowRaised }
  blobs : t.blobs = s.blobs

theorem roomReach_setLow (s : State) (b : Bool) : RoomReach s (s.setLedger fun l => { l with lowRaised := b }) :=
  ⟨fun _ _ => rfl, rfl, rfl⟩

theorem RoomReach.reach {s t u : State} (h : RoomReach s t) (k : EvtReach t u) : RoomReach s u := by
  refine ⟨fun x hx => (h.kept x hx).trans (at_reach k hx), ?_, k.only.blobs_eq.trans h.blobs⟩
  rw [k.only.ledger_eq]
  exact h.ledger

theorem roomReach_ledgerRoom (s : State) : RoomReach (freeWritten s) (ledgerRoom s) := by
  unfold ledgerRoom freeWritten ringFree
  generalize 65536 - (s.g Od.LEDGER_HEAD + 2 ^ 32 - s.g Od.LEDGER_ACK) % 2 ^ 32 = free
  dsimp only
  generalize s.p Od.LEDGER_FREE 0 free = u
  split
  · split
    · exact ⟨fun _ _ => rfl, rfl, rfl⟩
    · exact (roomReach_setLow u true).reach (evtReach_raise _ free (e := Src.ledgerLow) (he := by decide))
  · split
    · exact roomReach_setLow u false
    · exact ⟨fun _ _ => rfl, rfl, rfl⟩

/-- The acknowledgement written and kept in the Chest, at once or later. -/
def ackWritten (s : State) (seq : Nat) : State := (s.p Od.LEDGER_ACK 0 seq).ackPut false seq

theorem ackWritten_only (s : State) (seq : Nat) : ChestOnly s (ackWritten s seq) ∧
    ObjectsKept [Od.CHEST_WRITES.el Region.state, Od.CHEST_WEAR_MAX.el Region.state] (s.p Od.LEDGER_ACK 0 seq) (ackWritten s seq) := by
  have hc := chestOnly_chestPut (s.p Od.LEDGER_ACK 0 seq) Region.state Pos.ack [.ack false seq]
  have hk := chestPut_counts (s.p Od.LEDGER_ACK 0 seq) (region := Region.state) Pos.ack [.ack false seq]
  unfold ackWritten State.ackPut
  dsimp only
  rw [if_neg Bool.false_ne_true]
  generalize (s.p Od.LEDGER_ACK 0 seq).chestPut Region.state Pos.ack [.ack false seq] = u at hc hk
  split
  · refine ⟨?_, hk⟩
    unfold ChestOnly at hc ⊢
    rw [hc]
    rfl
  · exact ⟨hc.trans rfl, hk⟩

/-- With nothing accumulated there is nothing to write out (R674). -/
theorem spillFlush_nothing {s : State} (h : ∀ c : Fin 33, (s.ledger.accts[c]).spill = none) (hg : s.ledger.gap = none) : spillFlush s = s := by
  have hnone : (below 33 fun c => (s.acct c).spill.isSome) = [] := by
    refine List.filter_eq_nil_iff.2 fun c hc => ?_
    rw [acct_fin s ⟨c, List.mem_range.1 hc⟩, h]
    exact Bool.false_ne_true
  unfold spillFlush
  dsimp only
  exact if_pos (.inl ⟨hnone, hg⟩)

/-- An admitted write whose effect and code are known. -/
theorem actWrite_eq {s t : State} (h : Live s) {who e c : Nat} {o : Ob} (hw : s.writeCodeOf who o e = 0) {f : State → State × Nat}
    (hf : f s = (t, c)) : actWrite who o e f s = .next (keep s (t.answer who c)) := by
  rw [actWrite_live h hw, hf]

theorem exec_ledgerAck_range {s : State} (h : Live s) {who : Crib} (hw : s.writeCodeOf who Od.LEDGER_ACK 0 = 0) {seq : Nat}
    (hn : (newerSeq seq (s.g Od.LEDGER_HEAD) || newerSeq (s.g Od.LEDGER_ACK) seq) = true) :
    exec (.ledgerAck who seq) s = .next (s.answer who 0x07) := by
  have hack : ledgerAck s seq = (s, 0x07) := if_pos hn
  rw [exec_ledgerAck, execLedgerAck, actWrite_eq h hw hack, keep_answer (keep_self s)]

theorem exec_ledgerAck_taken {s : State} (h : Live s) {who : Crib} (hw : s.writeCodeOf who Od.LEDGER_ACK 0 = 0) {seq : Nat}
    (hn : (newerSeq seq (s.g Od.LEDGER_HEAD) || newerSeq (s.g Od.LEDGER_ACK) seq) = false) :
    exec (.ledgerAck who seq) s = .next (keep s ((spillFlush (ledgerRoom (ackWritten s seq))).answer who 0)) := by
  have hack : ledgerAck s seq = (spillFlush (ledgerRoom (ackWritten s seq)), 0) := if_neg (ne_true_of_eq_false hn)
  rw [exec_ledgerAck, execLedgerAck, actWrite_eq h hw hack]

/-- The objects of the ring after the acknowledgement. -/
theorem ackWritten_reads (s : State) {seq : Nat} (hs : seq < 2 ^ 32) : (ackWritten s seq).g Od.LEDGER_ACK = seq ∧
    (ackWritten s seq).g Od.LEDGER_HEAD = s.g Od.LEDGER_HEAD := by
  obtain ⟨-, hk⟩ := ackWritten_only s seq
  refine ⟨?_, ?_⟩
  · exact (hk.g (by decide)).trans ((State.g_p_self ..).trans (Nat.mod_eq_of_lt hs))
  · exact (hk.g (by decide)).trans (State.g_p_other _ 0 _ (by decide))

/-- The ring's room after the acknowledgement; no record and no account differs. -/
theorem ackRoom_effect (s : State) {seq : Nat} (hs : seq < 2 ^ 32) : (ledgerRoom (ackWritten s seq)).g Od.LEDGER_ACK = seq ∧
    (ledgerRoom (ackWritten s seq)).g Od.LEDGER_FREE = (65536 - (s.g Od.LEDGER_HEAD + 2 ^ 32 - seq) % 2 ^ 32) % 2 ^ 32 ∧
    (ledgerRoom (ackWritten s seq)).blobs = s.blobs ∧ (ledgerRoom (ackWritten s seq)).ledger.accts = s.ledger.accts ∧
    (ledgerRoom (ackWritten s seq)).ledger.gap = s.ledger.gap ∧ (ledgerRoom (ackWritten s seq)).g Od.LEDGER_HEAD = s.g Od.LEDGER_HEAD := by
  obtain ⟨honly, -⟩ := ackWritten_only s seq
  obtain ⟨hack, hhead⟩ := ackWritten_reads s hs
  obtain ⟨hkept, hledger, hblobs⟩ := roomReach_ledgerRoom (ackWritten s seq)
  have hsame : (ackWritten s seq).ledger = s.ledger := by rw [honly]
  have hwritten {o : Ob} (ho : Od.LEDGER_FREE.addr ≠ o.addr) : (freeWritten (ackWritten s seq)).g o = (ackWritten s seq).g o :=
    State.g_p_other _ 0 _ ho
  have hfreed : (freeWritten (ackWritten s seq)).ledger = s.ledger := (State.ledger_p ..).trans hsame
  refine ⟨?_, ?_, hblobs.trans ((State.blobs_p ..).trans honly.blobs_eq), ?_, ?_, ?_⟩
  · exact (At.g (hkept _ (quiet_of_ledger (by decide)))).trans ((hwritten (by decide)).trans hack)
  · rw [At.g (hkept _ (quiet_of_ledger (by decide))), freeWritten, State.g_p_self, ringFree, hack, hhead, Od.LEDGER_FREE]
  · rw [hledger, hfreed]
  · rw [hledger, hfreed]
  · exact (At.g (hkept _ (quiet_of_ledger (by decide)))).trans ((hwritten (by decide)).trans hhead)

/-- Settles O20: a boundary is the passing of time or the boundary itself; what a second meters reaches no rail; with no open minute a step
is the write of the timebase and its event; the copy of a tariff and the kept acknowledgement reach only the Chest's counts. That the
boundary and UTC_SET move the timebase to the tick they stand for, and that LEDGER_ACK is compared modulo 2^32, are the model's choices
(assumption log 92), as is the one function behind every way of writing these objects (assumption log 30). -/
theorem ledgerTimeTariffAndAcknowledgement : Obligations.LedgerTimeTariffAndAcknowledgement := by
  unfold Obligations.LedgerTimeTariffAndAcknowledgement
  refine ⟨fun s h => ⟨exec_ledgerMinuteBoundary_stopped h, exec_ledgerMinuteBoundary_none h, fun e hr hm hlt => ?before, fun e hr hm hle => ?at_⟩,
    fun s rails h => ?second, fun s who v h hw hv => ⟨fun hsync hd => ?slew, fun hstep => ?step⟩,
    fun s who arm h hw => ⟨fun hp => ?busy, fun hp => ?tariff⟩,
    fun s who seq h hw => ⟨exec_ledgerAck_range h hw, fun hn hs hspill hgap => ?ack⟩⟩
  case before => exact ⟨_, exec_ledgerMinuteBoundary_open h hr hm, by rw [if_pos hlt]⟩
  case at_ => exact ⟨_, exec_ledgerMinuteBoundary_open h hr hm, by rw [if_neg (by omega)]⟩
  case second =>
    obtain ⟨hsec, hweight, haccts, hod⟩ := countsAnew_reads (secondTaken s rails)
    refine ⟨_, exec_ledgerSecond_taken h rails, hsec, hweight, fun i hi r hr => ?_,
      fun hstopped => haccts.trans (accts_secondTaken hstopped rails)⟩
    exact (railReads_secondTaken s hi hr).kept (u := keep s (countsAnew (secondTaken s rails))) fun x _ => at_od ((keep_od ..).trans hod)
  case slew =>
    have hn : ¬IsStep s v := not_or.2 ⟨hsync, not_lt.2 hd⟩
    refine ⟨_, exec_utcSet_admitted h hw hv, ?_, ?_, getLast?_out_answer ..⟩
    · rw [utcSet_slew hn]; rfl
    · rw [utcSet_slew hn]; rfl
  case step => exact ⟨_, exec_utcSet_admitted h hw hv, fun ho => (stepped_utcSet hstep hv ho).answered who⟩
  case busy =>
    cases arm
    · exact (exec_cancel ..).trans (exec_tariff_busy h hw hp 2)
    · exact (exec_arm ..).trans (exec_tariff_busy h hw hp 1)
  case tariff =>
    obtain ⟨hledger, hout, hkept⟩ := tariffAsked_only s arm
    refine ⟨_, exec_tariff_free h hw hp arm, ?_, fun hwait hfree => ?_, ?_⟩
    · rw [keep_ledger, tariffAnswered]
      split
      · exact hledger
      · exact hledger
    · rw [tariffAnswered, if_pos (tariffAsked_made hwait hfree arm)]
      refine ⟨?_, congrArg (· ++ [Output.answer who 0 []]) hout⟩
      exact (State.g_p_self ..).trans (by cases arm <;> rfl)
    · have hkept' := hkept.mono (v := [Od.TARIFF_PEND_STATE.el 0, Od.CHEST_WRITES.el Region.state, Od.CHEST_WEAR_MAX.el Region.state])
        (fun _ hx => List.mem_cons_of_mem _ hx)
      intro x hx
      rw [keep_od, tariffAnswered]
      split
      · exact hkept'.p (by simp) (b2n arm) x hx
      · exact hkept' x hx
  case ack =>
    obtain ⟨hack, hfree, hblobs, haccts, hgap', hhead⟩ := ackRoom_effect s hs
    refine ⟨_, exec_ledgerAck_taken h hw hn, ?_⟩
    rw [spillFlush_nothing (by rw [haccts]; exact hspill) (hgap'.trans hgap)]
    refine ⟨?_, ?_, ?_, ?_, ?_⟩
    · rw [keep_g, State.g_answer, hack]
    · rw [keep_g, State.g_answer, hfree]
    · rw [keep_blobs, State.answer, State.blobs_emit, hblobs]
    · rw [keep_ledger, State.answer, State.ledger_emit, haccts]
    · rw [keep_g, State.g_answer, hhead]

end Sys2Proof.Machine
end
